-- ==== Sys2Proof/Word.lean ====
section
/-! DEFINITION. The word types of the model: bytes, and instants of device time. -/

namespace Sys2Proof

/-- One byte of a packet, a record or a register. -/
abbrev Byte := BitVec 8

/-- An instant of device time as a count of 1/65,536 ns since the PTP epoch (00_scope 0.4: seconds, nanoseconds and a
16-bit fraction of a nanosecond). -/
abbrev Time := Nat

/-- One nanosecond in units of `Time`. -/
def ns : Nat := 65536

/-- One microsecond in units of `Time`. -/
def us : Nat := 1000 * ns

/-- One millisecond in units of `Time`. -/
def ms : Nat := 1000000 * ns

/-- One second in units of `Time`. -/
def sec : Nat := 1000000000 * ns

end Sys2Proof
end

