-- ==== Sys2Proof/Syntax.lean ====
section
/-! DEFINITION. The commands of the block (spec/opcode_table.json) and their operands. A command that stands for something the
outside does at an instant of its own carries that instant `t` (device time); a command whose instant the block fixes itself
(a frame edge, a latch) carries none. -/

namespace Sys2Proof

/-- Where an Oxold request comes from (13 Table 13-1, 21 R476). A relayed request (MB3) carries the originating path, tenant,
role, session and RELAY_ID of its relay header (15 R356, Table 15-6). -/
inductive Path where
  | mb0
  | mb1
  | mb2 (session port : Nat)
  | mb3 (orig tenant role session relay : Nat)
  | console
  deriving DecidableEq, Repr

/-- An Oxold request as it stands in its packet (13 Table 13-5), less the OPCODE, which the command names. `body` is everything
after the 24-byte header: the payload and the packet's padding. -/
structure Req where
  path : Path
  t : Time
  flags : Byte
  tag : Byte
  epoch : Byte
  target : Byte
  status : Byte
  reserved : Byte
  zoneMask : BitVec 64
  index : BitVec 32
  length : BitVec 16
  txnId : BitVec 16
  body : List Byte
  deriving DecidableEq, Repr

/-- What the outside supplies when the dawn sequence ends (21 R469): the RTC ticks that have passed since the model last knew the
RTC, the failing step if the silicon fails one (step, code, detail), the fabric margin measured over D6 (U8.8), the lines that fail
their calibration at D6, the measured rails and the die temperature. -/
structure DawnIn where
  rtcTicks : Nat
  optimeMs : Nat
  fail : Option (Nat × Nat × Nat)
  margin : Nat
  badLines : List Nat
  rails : List Nat
  dieTemp : Int
  calCoef : List Nat
  deriving DecidableEq, Repr

/-- What the outside supplies at a frame edge: the fabric margin measured in the frame (22 R481) and the energy in microjoules that the
ledger booked to the frame now measured (17 R386): the eight work terms of 17 Table 17-1 in its order, the control domain, and then
the static term of each of the seven domains. -/
structure EdgeIn where
  margin : Nat
  energy : List Nat
  deriving DecidableEq, Repr

/-- An Ethernet frame as it arrives (11 R267): the bytes from the destination address on, FCS excluded, its size on the wire and
whether its FCS is good. `at_` is the receive timestamp of R75. -/
structure EthFrame where
  bytes : List Byte
  wireLen : Nat
  fcsGood : Bool
  deriving DecidableEq, Repr

/-- A radio frame as the RX_FETCH script delivers it (10 R230, Table 10-2): the PSDU as received, its FCS included, with RSSI and LQI. -/
structure RadioFrame where
  psdu : List Byte
  rssi : Nat
  lqi : Nat
  deriving DecidableEq, Repr

/-- A content entry: the fields of the 64-byte header of 04 Table 4-3 and the data that follow it, the host opacity map (one class
per tile) and the source code values as bytes. -/
structure EntryIn where
  header : List Byte
  map : List Nat
  data : List Byte
  deriving DecidableEq, Repr

/-- The CMD relay header of 15 Table 15-6. -/
structure RelayHdr where
  path : Nat
  tenant : Nat
  role : Nat
  session : Nat
  relayId : Nat
  txnId : Nat
  status : Nat
  node : Nat
  deriving DecidableEq, Repr

/-- What a master finds of a member at an enumeration (15 R354, 19 R447, R448): its index, whether it has been reset since the last one,
its UPD_STATE and the manifest hash that this state is about. The spec gives no message that carries them. -/
structure MemberIn where
  node : Nat
  wasReset : Bool
  updState : Nat
  hash : List Byte
  deriving DecidableEq, Repr

/-- A REPORT as it reaches a node (15 R342): the candidate index of the last node, and what a master then finds of its members. -/
structure ReportIn where
  index : Nat
  found : List MemberIn
  deriving DecidableEq, Repr

/-- The commands the block takes: one constructor per row of spec/opcode_table.json. -/
inductive Instr where
  /-- VBAT_RISE (R26): VBAT rises into range and the node passes from OFF to STANDBY. -/
  | vbatRise
  /-- VBAT_LOSS (R480): VBAT falls out of range with the main rails off; TIM_RTC_VALID is cleared and the node goes to OFF. -/
  | vbatLoss
  /-- MAIN_RAILS_IN_RANGE (R479): The main rails come into range with RESET_N high and the node leaves STANDBY for DAWN. -/
  | mainRailsInRange (bootSrc : Nat) (stackEn safeSel : Bool)
  /-- MAIN_RAIL_LOSS (R467): A main rail leaves its range; the node completes the MRAM word write in progress, starts no other, and goes to STANDBY. -/
  | mainRailLoss (t : Time)
  /-- RESET_N_ASSERT (R466): RESET_N is held low for 10 µs or more; outputs go high-impedance and the node restarts at DAWN on release. -/
  | resetNAssert (t : Time)
  /-- RESET_N_RELEASE (R468): RESET_N rises; the straps are sampled, outputs take the safe set, cascade IDLE transmission starts and the dawn sequence begins. -/
  | resetNRelease (bootSrc : Nat) (stackEn safeSel : Bool)
  /-- DAWN_END (R469): The dawn sequence D0 to D7 completes or fails, DAWN_RESULT is set, and the node enters READY or SAFE. -/
  | dawnEnd (i : DawnIn)
  /-- HOST_LOAD_TIMEOUT (R471): No IMAGE_BLOCK arrives within 60 s during PCIe host load and D3 fails with 0x0304. -/
  | hostLoadTimeout
  /-- DUSK_ENTRY (R477): An accepted dusk request takes effect at the next frame edge or at once in SAFE, and the node enters DUSK and runs its shutdown steps. -/
  | duskEntry
  /-- DUSK_COMPLETE (R477): Shutdown completes; READY goes low and SAFE_N high, and the node is in STANDBY. -/
  | duskComplete (t : Time)
  /-- WAKE_EVENT (R479): An enabled WAKE edge holds for its DEBOUNCE and is latched, or takes the node from STANDBY to DAWN. -/
  | wakeEvent (input : Nat) (rising : Bool) (heldMs rtcSec : Nat)
  /-- DIE_TEMP_SAMPLE (R513): DIA_DIE_TEMP is refreshed from the hottest die sensor every 1 ms. -/
  | dieTempSample (sensors : List Int)
  /-- OVERTEMP (R474): DIA_DIE_TEMP stays at or above 125 °C for 10 ms and the node enters SAFE with cause OVERTEMP. -/
  | overtemp
  /-- RAIL_MEASURE (R502): DIA_RAILS is refreshed with live rail measurements every 10 ms. -/
  | railMeasure (mv : List Nat)
  /-- TSNS_READ (R509): Each thermistor input is measured every 10 ms and converted by the Beta equation. -/
  | tsnsRead (ohms : List Nat)
  /-- FRAME_EDGE (R47): At E(k) every output performs its edge action, committed changes take effect and E(k+1) is fixed. -/
  | frameEdge (i : EdgeIn)
  /-- FRAME_LATCH (R52): At L(k) accepted transactions are latched into frame k's parameter set, the ingress deadline passes and W(k) opens. -/
  | frameLatch
  /-- COMPUTE_COMPLETE (R48): The last encoder of frame k hands over its data and frame k's compute is complete. -/
  | computeComplete (t : Time)
  /-- COMPUTE_DEADLINE (R49): E(k−1) − M passes with frame k incomplete, and its remaining work is abandoned. -/
  | computeDeadline
  /-- COMPOSER_BAND (R100): The composer builds the next 64-line band once a band buffer has been taken by all its consumers. -/
  | composerBand
  /-- GENLOCK_PULSE (R37): A GENLOCK reference pulse is used for acquisition, lock alignment or steering of the frame lock loop. -/
  | genlockPulse (t : Time)
  /-- GENLOCK_PULSE_MISSING (R37): An expected-pulse window ends without a pulse and a missing pulse is counted. -/
  | genlockPulseMissing
  /-- GENLOCK_LOST (R37): After 4 consecutive missing pulses the loop enters HOLDOVER and logs GENLOCK_LOST. -/
  | genlockLost
  /-- WCLK_PULSE (R37): Every FRM_WCLK_DIV-th WCLK rising edge serves as the frame lock reference pulse. -/
  | wclkPulse (t : Time)
  /-- LTC_WORD (R41): A valid LTC word is timestamped and decoded and labels the frames whose edges fall in its interval. -/
  | ltcWord (t : Time) (timecode : BitVec 32) (drop : Bool)
  /-- LTC_WORD_MISSING (R42): 8 LTC periods pass without a valid word and labels continue by counting. -/
  | ltcWordMissing (t : Time)
  /-- LTC_LOST (R42): After 25 counted LTC frames the FRM_TC valid bit is cleared and LTC_LOST is logged. -/
  | ltcLost
  /-- PTP_OFFSET_SAMPLE (R68): A valid offset sample from PTP, the cascade or the mirror link updates the servo and the discipline state. -/
  | ptpOffsetSample (t : Time) (o : Int) (source : Nat) (s : Nat)
  /-- SYNC_SAMPLE_TIMEOUT (R69): No valid sample arrives for 8 sync intervals and the discipline enters HOLDOVER. -/
  | syncSampleTimeout (t : Time)
  /-- HOLDOVER_EXPIRY (R69): TIM_HOLDOVER_MAX elapses in HOLDOVER and the state becomes FREE. -/
  | holdoverExpiry (t : Time)
  /-- RTC_UPDATE (R66): Once per second the RTC is written with the master-time estimate or with device time. -/
  | rtcUpdate (t : Time)
  /-- TIM_RTC_SET (R66): A write loads the RTC with the truncated value and sets TIM_RTC_VALID. -/
  | timRtcSet (r : Req)
  /-- TX_TIMESTAMP_CAPTURE (R76): A frame's transmit timestamp is captured and pushed to Q16 or Q17. -/
  | txTimestampCapture (port tag : Nat) (ptp : Bool) (t : Time)
  /-- TX_TIMESTAMP_POP (R76): Zhotex pops a timestamp entry, freeing it for a held PTP frame. -/
  | txTimestampPop (port : Nat)
  /-- TOUT_PULSE (R80): A scheduled TOUT pulse edge fires at its 62.5 ps step. -/
  | toutPulse (n : Nat)
  /-- TIM_ALARM_FIRE (R84): An enabled alarm time is reached and a TIM_ALARM notification is raised on Q28. -/
  | timAlarmFire (n : Nat)
  /-- TIN_CAPTURE (R83): A selected TIN transition is timestamped, stored and optionally queued to Q28. -/
  | tinCapture (n : Nat) (rising : Bool) (t : Time)
  /-- DMA_TAIL_WRITE (R301): A host write of DMA_TAIL posts descriptors or is ignored with DMA_ERR. -/
  | dmaTailWrite (v : BitVec 64)
  /-- DMA_DESCRIPTOR_READ (R301): The node reads a descriptor, applies the entry tests of R88 and advances DMA_HEAD. -/
  | dmaDescriptorRead (desc : List Byte)
  /-- DMA_ENTRY_WRITTEN (R301): A descriptor's entry is written into ring A and DMA_DONE is posted. -/
  | dmaEntryWritten (t : Time) (pcieError : Bool) (map : List Nat) (data : List Byte)
  /-- RING_SPACE_FREED (R91): C advances far enough for a stalled ring writer to complete its handshake. -/
  | ringSpaceFreed (ring : Nat)
  /-- SACN_CLOSE (R86): At Q(k) the sACN assembler closes frame k's values and writes one ring-B entry per mapped layer. -/
  | sacnClose
  /-- LAYER_SOURCE_LOST (R94): A layer goes LAY_LOSS_FRAMES frames without a new entry and is treated as transparent and LOST. -/
  | layerSourceLost (layer : Nat)
  /-- CONTENT_STREAM_RECEIVED (R359): A cascade CONTENT message is written into ring B for its bound layer or discarded. -/
  | contentStreamReceived (t : Time) (stream : Nat) (complete : Bool) (e : EntryIn)
  /-- BAR2_RING_WRITE (R302): A host write through BAR2 lands in ring A or is discarded and counted in PROTECT_VIOL. -/
  | bar2RingWrite (offset : Nat) (bytes : List Byte)
  /-- RING_A_WP_WRITE (R301): The ring A write-pointer doorbell publishes BAR2-written entries or is ignored with RING_A_ERR. -/
  | ringAWpWrite (v : BitVec 64)
  /-- RING_A_CTRL_WRITE (R301): A write changes ring A between DMA and BAR2 mode, or is ignored while entries wait. -/
  | ringACtrlWrite (v : BitVec 64)
  /-- CAPTURE_REL_WRITE (R105): The host releases a held canvas capture. -/
  | captureRelWrite (v : BitVec 64)
  /-- DRAM_GRANT (R18): The DRAM arbiter grants a request by class priority and round robin, fixing its class. -/
  | dramGrant (requests : List Nat)
  /-- SCHEDULE_FIRE (R123): A schedule entry's instant is reached and its recall, release or floor applies in that frame. -/
  | scheduleFire (entry : Nat)
  /-- SOLAR_COMPUTE (R122): Zhotex computes a local date's sunrise and sunset, or logs SOLAR_NONE. -/
  | solarCompute (date : Nat)
  /-- FIX_SCENE_RECALL (R121): A recall of a cue loads its items into the SCENE source of writable targets from the commit frame. -/
  | fixSceneRecall (r : Req)
  /-- FIX_SCENE_RELEASE (R120): A release of a cue removes the held SCENE value from writable targets. -/
  | fixSceneRelease (r : Req)
  /-- FIX_FAULT_CLEAR (R223): A fixture's FAULT bits are cleared and its diagnosis points return to UNKNOWN. -/
  | fixFaultClear (r : Req)
  /-- FIX_FLOOR_SET (R324): A zone-scope write sets FLOOR on every civic member fixture. -/
  | fixFloorSet (r : Req)
  /-- FIX_ENABLE_SET (R324): A zone-scope write sets ENABLE on every member fixture, validating each one it enables. -/
  | fixEnableSet (r : Req)
  /-- STRAND_TX_START (R166): A strand pin begins shifting frame k at E(k) − t_tx. -/
  | strandTxStart (pin : Nat)
  /-- DMX_PACKET_START (R168): A DMX port starts a packet timed to end at E(k). -/
  | dmxPacketStart (port : Nat)
  /-- RDM_TRANSACTION_START (R170): An RDM request or telemetry poll begins in a free interval whose budget fits. -/
  | rdmTransactionStart (port : Nat) (t : Time)
  /-- RDM_RESPONSE (R171): An RDM response is received, checked and completed with RDM_DONE. -/
  | rdmResponse (port : Nat) (t : Time) (respType : Nat) (checksumOk : Bool) (pd : List Byte)
  /-- RDM_RESPONSE_TIMEOUT (R171): No response starts within 2,800 µs; the request is resent or completes with TIMEOUT. -/
  | rdmResponseTimeout (port : Nat) (t : Time)
  /-- DMX_RDM_REQ (R171): A host submits an RDM request to a port queue, or is rejected with E_BUSY. -/
  | dmxRdmReq (r : Req)
  /-- DMX_RDM_DISC (R172): A write starts full RDM discovery on the ports of its mask. -/
  | dmxRdmDisc (r : Req)
  /-- RDM_DISC_DONE (R172): A discovery run ends and a Q28 notification reports the responders found. -/
  | rdmDiscDone (port : Nat) (t : Time) (uids : List Nat)
  /-- RDM_TELEMETRY_POLL (R173): Once per TEL_S a GET SENSOR_VALUE is queued for a telemetry record. -/
  | rdmTelemetryPoll (record : Nat)
  /-- DALI_FRAME_SEND (R176): The bus serves the next pending entry or command as forward frames. -/
  | daliFrameSend (bus : Nat)
  /-- DALI_COLLISION (R178): A forward frame meets a collision and is retried after back-off, up to 8 times. -/
  | daliCollision (bus : Nat)
  /-- DALI_BACKWARD_FRAME (R179): A backward frame answers a query or DAL_CMD and updates fault or telemetry. -/
  | daliBackwardFrame (bus value : Nat) (t : Time)
  /-- DALI_POLL (R179): Once per POLL_S each patched address is queried when bus idle time allows. -/
  | daliPoll (bus address : Nat)
  /-- DALI_REPLY_TIMEOUT (R179): A poll receives no backward frame. -/
  | daliReplyTimeout (bus : Nat) (t : Time)
  /-- DALI_BUS_DOWN (R180): The bus is held low for 45 ms; transmission stops and pending entries are discarded. -/
  | daliBusDown (bus : Nat)
  /-- DALI_BUS_RESTORED (R180): After 100 ms of idle high, current values of every patched address are queued. -/
  | daliBusRestored (bus : Nat)
  /-- DAL_CMD (R180): A host-built forward frame is sent ahead of level entries and its reply notified. -/
  | dalCmd (r : Req)
  /-- DAL_ADDRESS_RUN (R180): Random-address allocation starts on the buses of the mask. -/
  | dalAddressRun (r : Req)
  /-- DAL_ADDRESS_DONE (R180): An address allocation completes and is notified on Q28. -/
  | dalAddressDone (bus : Nat) (t : Time) (found : List (Nat × Nat))
  /-- SACN_DATA_PACKET (R183): A paced sACN data packet of a due universe is started on its port. -/
  | sacnDataPacket (port : Nat)
  /-- SACN_QUIET_START (R184): The quiet time begins; unsent data packets are discarded and counted in SAC_LATE. -/
  | sacnQuietStart (port : Nat)
  /-- SACN_SYNC_PACKET (R184): At E(k) − SAC_LEAD the synchronisation packet is launched through CMP1. -/
  | sacnSyncPacket (port : Nat)
  /-- RASTER_LINE_START (R192): A raster port begins the packet of line n in its slot. -/
  | rasterLineStart (port : Nat) (fetched : Option Nat)
  /-- RASTER_PHASE_STEP (R194): In the vertical idle interval the port moves its lane phase one 62.5 ps step. -/
  | rasterPhaseStep (port : Nat) (forward : Bool)
  /-- RASTER_FETCH_ADVANCE (R200): The fetcher moves to frame k once the last line is fetched and frame k's compute is complete. -/
  | rasterFetchAdvance (port : Nat)
  /-- PWM_PERIOD_START (R211): A PWM period begins with its on-time, or a forced-inactive or probed one. -/
  | pwmPeriodStart (channel : Nat)
  /-- PDM_SLOT (R212): A PDM slot is driven by the first-order modulator. -/
  | pdmSlot (channel : Nat)
  /-- MATRIX_ROW_SLOT (R217): The next matrix row slot begins with columns blanked, then driven to their on-times. -/
  | matrixRowSlot
  /-- MSYNC_EDGE (R218): An MSYNC rising edge swaps in an eligible matrix buffer and restarts the scan. -/
  | msyncEdge (t : Time)
  /-- MSYNC_LOST (R218): 4 frames pass without an accepted MSYNC edge and MSYNC_LOST is logged. -/
  | msyncLost
  /-- SNS_SAMPLE (R220): A sense comparator is sampled at the rising edge plus BLANK and the measurement classified. -/
  | snsSample (point : Nat) (t : Time) (tenMv : Nat) (probe : Bool)
  /-- DIAG_STALE_EXPIRY (R221): DRV_DIAG_STALE frames pass without measurement and the point becomes UNOBSERVED. -/
  | diagStaleExpiry (point : Nat)
  /-- GLINT_PROBE (R225): An UNOBSERVED point receives a minimum-width probe every DRV_GLINT_INTERVAL frames. -/
  | glintProbe (point : Nat)
  /-- RADIO_CELL_PREPARE (R230): 1,000 µs before a slot the port runs CHANNEL and TX_LOAD scripts, skipping the cell if late. -/
  | radioCellPrepare (port : Nat) (scriptUs : Nat)
  /-- RADIO_SLOT_START (R236): At a slot boundary the port chooses the one cell it runs. -/
  | radioSlotStart (port : Nat)
  /-- RADIO_TXTRIG (R231): RPn_TXTRIG is raised at the intended SFD instant minus TX_LEAD. -/
  | radioTxtrig (port : Nat)
  /-- RADIO_SFD_STAMP (R231): A rising edge of RPn_TSC is timestamped to give the SFD instant. -/
  | radioSfdStamp (port : Nat) (t : Time)
  /-- RADIO_RX_FETCH (R230): RPn_IRQ after a reception starts the RX_FETCH script. -/
  | radioRxFetch (port : Nat) (complete : Bool)
  /-- RADIO_FRAME_RECEIVED (R246): A fetched frame is judged by the reception verdicts, acknowledged and delivered to Q18 + n. -/
  | radioFrameReceived (port : Nat) (f : RadioFrame)
  /-- RADIO_ACK_RECEIVED (R238): An acknowledgement updates last contact and OFFSET_EST and completes the frame. -/
  | radioAckReceived (port : Nat) (sfd : Time) (correctionUs : Int)
  /-- RADIO_ACK_TIMEOUT (R256): No acknowledgement arrives; the frame is retried or completes NO_ACK. -/
  | radioAckTimeout (port : Nat)
  /-- RADIO_GUARD_EVAL (R240): A neighbour's guard is evaluated at its cells and at least once per second. -/
  | radioGuardEval (port neigh : Nat) (t : Time)
  /-- COMMAND_FRAME_BUILD (R253): 1,000 µs before a COMMAND cell the node builds a command frame from pending items. -/
  | commandFrameBuild (port : Nat)
  /-- RADIO_CIVIC_DEFERRED (R249): A civic command deferred for 60 s breaks G2 and is logged and notified. -/
  | radioCivicDeferred (port : Nat) (t : Time)
  /-- RAD_TX (R255): A host radio frame is queued for sending, or rejected with E_SIZE or E_BUSY. -/
  | radTx (r : Req)
  /-- ETH_RX_FRAME (R268): A received Ethernet frame is size-checked and classified to its consumer, queue or drop. -/
  | ethRxFrame (port : Nat) (t : Time) (f : EthFrame)
  /-- PAUSE_EXPIRY (R271): The remaining pause time expires and transmission, including a held sync packet, resumes. -/
  | pauseExpiry (port : Nat)
  /-- PAUSE_WATCHDOG (R272): A continuous pause reaches PAUSE_WD; it is ended and PAUSE frames ignored. -/
  | pauseWatchdog (port : Nat)
  /-- PAUSE_IGNORE_END (R272): PAUSE_IGNORE elapses and PAUSE frames are honoured again. -/
  | pauseIgnoreEnd (port : Nat)
  /-- PAUSE_REFRESH (R274): Half the sent quanta elapse with a queue above its low watermark and another PAUSE is sent. -/
  | pauseRefresh (port : Nat)
  /-- ETH_TX_FRAME_START (R264): At a frame boundary the port chooses and starts the next frame. -/
  | ethTxFrameStart (port : Nat) (t : Time)
  /-- ETH_TX_COMPLETE (R266): A descriptor completes and its completion is posted on Q28. -/
  | ethTxComplete (port : Nat) (t : Time)
  /-- ETH_LINK_CHANGE (R261): A port's link goes up or down, updating ETH_LINK and logging. -/
  | ethLinkChange (port : Nat) (up : Bool)
  /-- HEAD_WRITE (R289): A host HEAD write pops packets from a host-consumed queue or sets PTR_ERR. -/
  | headWrite (q : Nat) (v : BitVec 64)
  /-- QREG_FLUSH (R287): Setting FLUSH in a queue register requests a flush. -/
  | qregFlush (q : Nat) (v : BitVec 64)
  /-- QUE_FLUSH (R287): A QUE_FLUSH write requests flushes of the queues in its mask. -/
  | queFlush (r : Req)
  /-- QUEUE_FLUSH_DONE (R286): Once all parties stand at packet boundaries, the queue's packets are discarded and counters advance. -/
  | queueFlushDone (q : Nat)
  /-- PUSH_LEN_WRITE (R290): A PUSH_LEN write starts a blocking push of the slot, or is ignored with PTR_ERR. -/
  | pushLenWrite (q : Nat) (v : BitVec 64)
  /-- QUEUE_PUSH_RESUME (R281): A blocking push waiting for space finds room and writes and commits its packet. -/
  | queuePushResume (q : Nat)
  /-- QSPI_READ (R293): A QSPI READ command reads BAR0 bytes from an aligned offset. -/
  | qspiRead (offset len : Nat)
  /-- QSPI_WRITE (R293): A QSPI WRITE command writes BAR0 registers, each taking effect at its eighth byte. -/
  | qspiWrite (offset : Nat) (bytes : List Byte)
  /-- QSPI_STATUS (R293): Command 0x05 returns the interrupt-pending and DAWN/DUSK status byte. -/
  | qspiStatus
  /-- TIME_SEC_READ (R299): Reading TIME_SEC latches TIME_NSEC and FRAME_NUM for the path. -/
  | timeSecRead (qspi : Bool) (t : Time)
  /-- INT_STATUS_WRITE (R300): A W1C write clears interrupt source bits. -/
  | intStatusWrite (v : BitVec 64)
  /-- INT_MASK_WRITE (R300): A write of INT_MASK changes masking, and unmasking a set bit sends one MSI-X message. -/
  | intMaskWrite (v : BitVec 64)
  /-- DMA_BASE_WRITE (R301): A write of DMA_BASE takes effect, or is ignored with DMA_ERR while descriptors are pending. -/
  | dmaBaseWrite (v : BitVec 64)
  /-- DMA_SIZE_WRITE (R301): A write of DMA_SIZE takes effect, or is ignored with DMA_ERR. -/
  | dmaSizeWrite (v : BitVec 64)
  /-- REG_WRITE (R298): A write to any other register sets it, or is ignored with REG_ERR if short or misaligned. -/
  | regWrite (offset : Nat) (bytes : List Byte)
  /-- MB_MALFORMED (R304): A mailbox packet shorter than 24 bytes is discarded and counted. -/
  | mbMalformed (path : Path) (bytes : List Byte)
  /-- CONSOLE_FRAME_ERROR (R476): A console SLIP frame with a bad CRC is discarded and counted in MALFORMED. -/
  | consoleFrameError (bytes : List Byte)
  /-- GET (R308): GET returns the values of the named parameters. -/
  | get (r : Req)
  /-- SET (R309): SET applies IMMEDIATE parameters or forms a NEXT transaction of EDGE items. -/
  | set (r : Req)
  /-- SNAPSHOT_GET (R61): SNAPSHOT_GET returns values from one presented frame, stack-wide if asked. -/
  | snapshotGet (r : Req)
  /-- TABLE_WRITE (R325): TABLE_WRITE stages records of one table, alone or as a transaction item. -/
  | tableWrite (r : Req)
  /-- TABLE_READ (R325): TABLE_READ returns records of a table. -/
  | tableRead (r : Req)
  /-- TXN_OPEN (R310): TXN_OPEN opens a transaction and returns its ID. -/
  | txnOpen (r : Req)
  /-- TXN_COMMIT_AT (R311): TXN_COMMIT_AT validates a transaction and accepts it for an edge. -/
  | txnCommitAt (r : Req)
  /-- TXN_ABORT (R311): TXN_ABORT discards an open transaction. -/
  | txnAbort (r : Req)
  /-- STREAM_BIND (R314): STREAM_BIND binds or unbinds a content source to a ring-B layer. -/
  | streamBind (r : Req)
  /-- REWIND (R95): REWIND sets a ring's replay offset from its commit edge. -/
  | rewind (r : Req)
  /-- DEDUPE_EXPIRY (R306): A dedupe entry's DEV_DEDUPE_MS lifetime ends and the entry is dropped. -/
  | dedupeExpiry (t : Time)
  /-- TXN_IDLE_EXPIRY (R310): An open transaction idle for DEV_TXN_IDLE is aborted and TXN_EXPIRED posted. -/
  | txnIdleExpiry (t : Time)
  /-- CASCADE_LANE_LOCK (R338): A cascade lane locks after 64 valid sync headers. -/
  | cascadeLaneLock (port lane : Nat) (goodHeaders : Nat)
  /-- CASCADE_LOCK_LOSS (R338): A lane loses lock, LOCK_LOSS rises and the link goes DOWN. -/
  | cascadeLockLoss (port lane : Nat)
  /-- CASCADE_ALIGN_SLOT (R339): ALIGN slots are matched across lanes, bringing the link to ALIGNED or DOWN. -/
  | cascadeAlignSlot (port : Nat) (counts : List Nat)
  /-- CASCADE_LINK_SLOT (R339): LINK slots are exchanged and the link goes UP or stays ALIGNED with a logged refusal. -/
  | cascadeLinkSlot (port mode : Nat) (stackEn : Bool) (role devState : Nat)
  /-- STK_ROLE_DECIDE (R341): STK_ROLE_WAIT after reset the node decides whether it is member or master. -/
  | stkRoleDecide
  /-- ENUM_RECEIVED (R342): An ENUM message assigns a candidate index or, with FINAL, the adopted index. -/
  | enumReceived (index : Nat) (final : Bool) (nodes proto : Nat)
  /-- REPORT_RECEIVED (R342): The master receives REPORT and sends ENUM with FINAL and NODES. -/
  | reportReceived (candidate : ReportIn)
  /-- SYNC_SEND (R350): Every 1 ms a node sends SYNC on CDN. -/
  | syncSend (t : Time)
  /-- PROBE_SEND (R350): Every 16 ms a node sends PROBE on CDN. -/
  | probeSend (t : Time)
  /-- SYNC_RECEIVED (R350): A SYNC forms an offset sample for the servo and is forwarded. -/
  | syncReceived (tRx tSync : Time) (crcOk : Bool)
  /-- PROBE_RECEIVED (R350): A PROBE is answered with ECHO carrying the residence time. -/
  | probeReceived (t : Time) (seq : Nat) (residence : Nat) (crcOk : Bool)
  /-- ECHO_RECEIVED (R350): An ECHO updates the measured link delay. -/
  | echoReceived (port : Nat) (t1 t4 : Time) (seq : Nat) (residence : Nat) (crcOk : Bool)
  /-- EDGE_RECEIVED (R351): An EDGE message gives E(k) in master time for the member to place. -/
  | edgeReceived (k : Nat) (e : Time) (holdover crcOk : Bool)
  /-- EDGE_HOLDOVER (R351): After 4 consecutive missed EDGE messages the member enters holdover. -/
  | edgeHoldover
  /-- SLIP_RECEIVED (R51): A slip token makes the node repeat frame k−1 and count and log the slip. -/
  | slipReceived (port k node : Nat)
  /-- COMMIT_RECEIVED (R353): A COMMIT message confirms a staged transaction for frame j. -/
  | commitReceived (txnId node j : Nat)
  /-- CREDIT_RECEIVED (R348): A CREDIT block acknowledges packets and grants credit for a class. -/
  | creditReceived (port cls seq credits : Nat)
  /-- CMD_RETRANSMIT (R348): 32 µs without acknowledgement triggers retransmission from the first unacknowledged packet. -/
  | cmdRetransmit (port cls : Nat)
  /-- RELAY_REQUEST (R357): A member executes a relayed Oxold request and returns one RESPONSE. -/
  | relayRequest (h : RelayHdr) (opcode : Nat) (r : Req)
  /-- RELAY_RESPONSE (R354): The master posts a member's response on the originating path. -/
  | relayResponse (h : RelayHdr) (body : List Byte)
  /-- RELAY_STAGE (R312): A member validates a staged transaction and returns a VERDICT. -/
  | relayStage (h : RelayHdr) (frame mode : Nat) (items : List (Nat × Req))
  /-- RELAY_VERDICT (R312): The master collects a node's verdict and commits or rejects with E_TXN. -/
  | relayVerdict (h : RelayHdr) (frame : Nat) (detail : List Byte)
  /-- RELAY_DISCARD (R312): A member discards the staged items of a failed transaction. -/
  | relayDiscard (h : RelayHdr)
  /-- RELAY_ROLE (R366): A member schedules its role change for the named edge. -/
  | relayRole (h : RelayHdr) (role edge : Nat)
  /-- RELAY_NOTIFY (R357): The master pushes a member's notification onto its own Q28. -/
  | relayNotify (h : RelayHdr) (bytes : List Byte)
  /-- HEARTBEAT_RECEIVED (R374): A shadow receiving a HEARTBEAT before its deadline acknowledges it and extends D. -/
  | heartbeatReceived (t : Time) (k : Nat) (s : Time) (release : Bool)
  /-- MIRROR_ACK_RECEIVED (R373): An ACK renews the active's lease end and updates RED_PEER_STATUS. -/
  | mirrorAckReceived (k fit devState : Nat) (counters : List Nat)
  /-- LEASE_TAKE (R376): A fit shadow past D or released, with PEER_ACT low, takes the lease and raises ACT_OUT. -/
  | leaseTake (t : Time)
  /-- PEER_ACT_CHANGE (R365): PEER_ACT changes, enabling or blocking lease taking and zeroing held drive pins. -/
  | peerActChange (level : Bool) (t : Time)
  /-- HELLO_RECEIVED (R367): HELLO from the peer master sets pair identity and first-lease priority. -/
  | helloReceived (deviceId nodes : Nat) (active : Bool) (proto resultLevel : Nat)
  /-- SNAPSHOT_RECEIVED (R368): A SNAPSHOT part stages the mirrored configuration for commit. -/
  | snapshotReceived (part : Nat) (last : Bool) (j : Nat) (items : List (Nat × Req))
  /-- JOURNAL_RECEIVED (R369): A JOURNAL delivers an accepted transaction for latching at L(j). -/
  | journalReceived (t : Time) (j txnId : Nat) (items : List (Nat × Req))
  /-- INPUT_RECEIVED (R380): The frame input record arrives and the shadow may start COMPUTE of that frame. -/
  | inputReceived (k step h : Nat) (rings : List Nat) (tsns : List Int) (fixtures : List (Nat × Int × Nat))
  /-- RESULT_RECEIVED (R380): The active's per-strand CRC-32s for a frame arrive. -/
  | resultReceived (k : Nat) (crcs : List (Nat × Nat))
  /-- CONTINUITY_RECEIVED (R371): CONTINUITY updates mirrored sACN sequences, frame counters, neighbour state and command store. -/
  | continuityReceived (k : Nat) (sacn : List (Nat × Nat)) (counters : List (Nat × Nat)) (neighbours : List (Nat × Nat × Nat × Nat)) (commands : List (Nat × Nat × Nat × Nat × List Nat))
  /-- RED_SWITCH (R379): A committed RED_SWITCH makes the active release the lease at its edge. -/
  | redSwitch (r : Req)
  /-- RED_UNFIT_CLEAR (R380): A committed clear returns an UNFIT shadow to SYNCING. -/
  | redUnfitClear (r : Req)
  /-- RED_TEST_DUE (R381): RED_LAST_ACTIVE ages past RED_TEST_DAYS and RED_TEST_DUE is logged. -/
  | redTestDue (t : Time)
  /-- ENERGY_RETRIM (R387): Every CAL_INTERVAL the energy calibration is re-trimmed, rejecting large changes. -/
  | energyRetrim (domain cls value : Nat)
  /-- ENG_HISTORY_MINUTE (R404): At each minute a history record of mean and peak power is written. -/
  | engHistoryMinute (t : Time)
  /-- KEY_UPDATE_INSTALL (R418): An INSTALL envelope is checked and writes a key into a class B slot. -/
  | keyUpdateInstall (r : Req)
  /-- KEY_UPDATE_INVALIDATE (R414): An INVALIDATE envelope empties a slot and advances its generation. -/
  | keyUpdateInvalidate (r : Req)
  /-- KEY_UPDATE_PROVISION (R410): PROVISION generates the identity key and installs the Camlia image key. -/
  | keyUpdateProvision (r : Req)
  /-- KEY_UPDATE_TAKE_OWNERSHIP (R409): TAKE_OWNERSHIP installs the owner keys and moves the life cycle to DEPLOYED. -/
  | keyUpdateTakeOwnership (r : Req)
  /-- KEY_UPDATE_RETURN (R409): RETURN erases owner keys, settings and logs 0–5 and moves to RETURNED. -/
  | keyUpdateReturn (r : Req)
  /-- KEY_UPDATE_REPROVISION (R409): REPROVISION clears logs 6 and 7 and returns to PROVISIONED. -/
  | keyUpdateReprovision (r : Req)
  /-- KEY_UPDATE_RETIRE (R409): RETIRE erases every slot and settings and locks the fuse roots. -/
  | keyUpdateRetire (r : Req)
  /-- ATTEST (R424): ATTEST returns the MAC-protected attestation response for a challenge. -/
  | attest (r : Req)
  /-- TAMPER_EVENT (R421): A mesh break or an active TAMP input clears the KEK, sets TAMPERED and forces SAFE. -/
  | tamperEvent (input : Nat) (t : Time)
  /-- SELFTEST_FAILURE (R407): A continuous or consistency test fails; the island enters error and the node enters SAFE. -/
  | selftestFailure (test : Nat) (noise : Bool)
  /-- IMAGE_BLOCK_MANIFEST (R434): A manifest chunk starts or continues a download, checked when complete. -/
  | imageBlockManifest (r : Req)
  /-- IMAGE_BLOCK_DATA (R435): A data chunk is assembled and each complete segment hashed and written to flash. -/
  | imageBlockData (r : Req)
  /-- IMAGE_VERIFY (R436): The inactive set is reread and verified for integrity and compatibility. -/
  | imageVerify (r : Req)
  /-- IMAGE_ARM (R438): ARM schedules activation at a frame edge. -/
  | imageArm (r : Req)
  /-- IMAGE_DISARM (R438): DISARM cancels a scheduled activation. -/
  | imageDisarm (r : Req)
  /-- IMAGE_CONFIRM (R445): IMAGE_CONFIRM raises the SVN floor and makes the trial set permanent. -/
  | imageConfirm (r : Req)
  /-- SELECTOR_WRITE_RESET (R440): The boot selector naming the new set in TRIAL is written and the node resets. -/
  | selectorWriteReset
  /-- CONFIRM_WINDOW_EXPIRY (R444): UPD_CONFIRM_S passes unconfirmed; a fallback record is written and the node resets. -/
  | confirmWindowExpiry (t : Time)
  /-- LOG_TOKEN_ADD (R457): A code's bucket gains a token, writing LOG_SUPPRESSED first if events were suppressed. -/
  | logTokenAdd (code : Nat)
  /-- OPTIME_WRITE (R454): Operating time is written to MRAM every 1,000 ms. -/
  | optimeWrite
  /-- LOG_READ (R459): LOG_READ returns filtered records of logs 0–5. -/
  | logRead (r : Req)
  /-- LOG_CLEAR (R460): LOG_CLEAR is checked and starts clearing a log. -/
  | logClear (r : Req)
  /-- LOG_CLEAR_DONE (R461): The clear finishes, LOG_CLEARED is written and the request answered OK. -/
  | logClearDone (log : Nat) (t : Time)
  /-- CURSOR_SET (R462): CURSOR_SET sets the cursor for log 6 or 7. -/
  | cursorSet (r : Req)
  /-- WINDOW_READ (R462): WINDOW_READ returns records from the cursor or repeats the remembered window. -/
  | windowRead (r : Req)
  /-- DIAG_STATUS (R476): DIAG STATUS returns state, cause, failure code, temperature and dawn result. -/
  | diagStatus (r : Req)
  /-- DIAG_RESTART (R475): DIAG RESTART takes the node from SAFE to DAWN. -/
  | diagRestart (r : Req)
  /-- DIAG_DUSK (R477): DIAG DUSK requests an orderly shutdown into standby. -/
  | diagDusk (r : Req)
  /-- DIAG_REG_READ (R476): DIAG REG_READ returns an internal register value. -/
  | diagRegRead (r : Req)
  /-- CAL_PASS_START (R485): A delay-line calibration pass starts after CAL_INTERVAL or at CAL_START. -/
  | calPassStart
  /-- CAL_LINE_CALIBRATE (R486): In its frame a line is measured up to 4 times and passes or fails. -/
  | calLineCalibrate (line : Nat) (attempts : List Bool)
  /-- CAL_START (R490): A committed CAL_START starts a calibration pass at its edge. -/
  | calStart (r : Req)
  /-- THREAD_WAKE (R492): A thread becomes ready and may pre-empt the lowest-priority core. -/
  | threadWake (thread causeKind causeValue : Nat) (waker : Option Nat) (t : Time)
  /-- THREAD_BLOCK (R492): A running thread blocks and its core takes the next ready thread. -/
  | threadBlock (core : Nat) (t : Time)
  /-- THREAD_SLICE (R491): A thread that ran 1 ms with an equal-priority thread waiting is pre-empted. -/
  | threadSlice (core : Nat) (t : Time)
  /-- THREAD_EXIT (R492): A thread ends and its core is rescheduled. -/
  | threadExit (core : Nat) (t : Time)
  /-- PTP_MESSAGE_INTERVAL (R72): At each interval of its PTP port state, the node sends Sync and Announce as master, or Delay_Req or Pdelay_Req as slave. -/
  | ptpMessageInterval (port : Nat) (master : Bool) (t : Time)
  /-- PCIE_LINK_CHANGE (R476): The PCIe link comes up or goes down, which decides whether MB0 can answer and starts the host-load wait. -/
  | pcieLinkChange (up : Bool) (t : Time)
  /-- UNKNOWN_OPCODE_REQUEST (R303): A mailbox request whose OPCODE is reserved, or a NOTIFY sent by a host, is rejected with E_OPCODE. -/
  | unknownOpcodeRequest (opcode : Nat) (r : Req)
  /-- DALI_DEVICE_FRAME (R187): A 24-bit frame from a DALI control device is received on DALIn_RX, counted in DAL_DEVICE_FRAMES and ignored. -/
  | daliDeviceFrame (bus : Nat)
  deriving DecidableEq, Repr

end Sys2Proof
end

