-- ==== Sys2Proof/Decode.lean ====
section
/-! DEFINITION. The command that a word of the command table spells. The table gives no row any bits, so no word spells one. -/

namespace Sys2Proof

/-- The rows of the command table that give bits: (bits, word, command). There are none. -/
def tableRows : List (Nat × Nat × Instr) := []

/-- The command that an `nbits`-bit word spells by the table's bits. -/
def decodeTableWord (nbits w : Nat) : Option Instr :=
  (tableRows.find? fun r => r.1 == nbits && r.2.1 == w).map fun r => r.2.2

end Sys2Proof
end

