-- ==== Sys2Proof/Machine/Bits.lean ====
section
/-! DEFINITION. Bit fields, byte order, two's complement, saturating counters and the two cyclic redundancy checks of the spec. -/

namespace Sys2Proof.Machine

/-- The `w` bits of `v` from bit `lsb` on, as a number. -/
def bitsAt (v lsb w : Nat) : Nat := v / 2 ^ lsb % 2 ^ w

/-- `v` with its `w` bits from bit `lsb` on replaced by `x`. -/
def putBits (v lsb w x : Nat) : Nat := v - bitsAt v lsb w * 2 ^ lsb + x % 2 ^ w * 2 ^ lsb

/-- Bit `i` of `v`. -/
def bitAt (v i : Nat) : Bool := v / 2 ^ i % 2 == 1

/-- `v` with bit `i` set to `b`. -/
def putBit (v i : Nat) (b : Bool) : Nat := putBits v i 1 (if b then 1 else 0)

/-- 1 for true, 0 for false. -/
def b2n (b : Bool) : Nat := if b then 1 else 0

/-- The byte at offset `i` of a little-endian record. -/
def byteAt (v i : Nat) : Nat := bitsAt v (8 * i) 8

/-- The little-endian U16 at byte `i` of a record. -/
def u16At (v i : Nat) : Nat := bitsAt v (8 * i) 16

/-- The little-endian U32 at byte `i` of a record. -/
def u32At (v i : Nat) : Nat := bitsAt v (8 * i) 32

/-- The little-endian U64 at byte `i` of a record. -/
def u64At (v i : Nat) : Nat := bitsAt v (8 * i) 64

/-- A `w`-bit pattern read as two's complement. -/
def signedOf (w v : Nat) : Int := if v % 2 ^ w < 2 ^ (w - 1) then (v % 2 ^ w : Nat) else ((v % 2 ^ w : Nat) : Int) - 2 ^ w

/-- The `w`-bit two's complement pattern of an integer. -/
def patternOf (w : Nat) (i : Int) : Nat := (i % (2 ^ w : Int)).toNat

/-- The little-endian S16 at byte `i` of a record. -/
def s16At (v i : Nat) : Int := signedOf 16 (u16At v i)

/-- The little-endian S32 at byte `i` of a record. -/
def s32At (v i : Nat) : Int := signedOf 32 (u32At v i)

/-- `len` little-endian bytes of `v` (R9). -/
def leBytes : Nat → Nat → List Byte
  | 0, _ => []
  | len + 1, v => BitVec.ofNat 8 v :: leBytes len (v / 256)

/-- The number that little-endian bytes spell (R9). -/
def leNat : List Byte → Nat
  | [] => 0
  | b :: bs => b.toNat + 256 * leNat bs

/-- `len` most-significant-first bytes of `v` (fields of standard protocols). -/
def beBytes (len v : Nat) : List Byte := (leBytes len v).reverse

/-- The number that most-significant-first bytes spell. -/
def beNat (bs : List Byte) : Nat := leNat bs.reverse

/-- `len` bytes of `bs` from offset `off`, as a little-endian number. -/
def leAt (bs : List Byte) (off len : Nat) : Nat := leNat ((bs.drop off).take len)

/-- `len` bytes of `bs` from offset `off`, as a most-significant-first number. -/
def beAt (bs : List Byte) (off len : Nat) : Nat := beNat ((bs.drop off).take len)

/-- The byte of `bs` at offset `i`, 0 past the end. -/
def byteOf (bs : List Byte) (i : Nat) : Nat := (bs.getD i 0).toNat

/-- `bs` followed by zero bytes up to a multiple of 8 (R280, 13.5). -/
def pad8 (bs : List Byte) : List Byte := bs ++ List.replicate ((8 - bs.length % 8) % 8) 0

/-- `n` rounded up to a multiple of 8. -/
def up8 (n : Nat) : Nat := (n + 7) / 8 * 8

/-- Consecutive pieces of `len` bytes, at most `n` of them. -/
def chunks (len : Nat) : Nat → List Byte → List (List Byte)
  | 0, _ => []
  | n + 1, bs => bs.take len :: chunks len n (bs.drop len)

/-- The elements of a list, each with its place. -/
def numbered {α : Type} (l : List α) : List (Nat × α) := (List.range l.length).zip l

/-- `n` plus `k`, held at the greatest 32-bit value (a saturating U32 counter). -/
def sat32 (n k : Nat) : Nat := min (n + k) 0xFFFFFFFF

/-- One bit step of a reflected CRC-32 (polynomial 0x04C11DB7). -/
def crc32Bit (c : Nat) : Nat := if c % 2 = 1 then Nat.xor (c / 2) 0xEDB88320 else c / 2

/-- One byte of a CRC-32. -/
def crc32Byte (c : Nat) (b : Byte) : Nat :=
  crc32Bit (crc32Bit (crc32Bit (crc32Bit (crc32Bit (crc32Bit (crc32Bit (crc32Bit (Nat.xor c b.toNat))))))))

/-- The CRC-32 of IEEE 802.3 over bytes (13.4, R160). -/
def crc32 (bs : List Byte) : Nat := Nat.xor (bs.foldl crc32Byte 0xFFFFFFFF) 0xFFFFFFFF

/-- One bit step of CRC-16/0x1021. -/
def crc16Bit (c : Nat) : Nat := if 0x8000 ≤ c then Nat.xor (c * 2 % 0x10000) 0x1021 else c * 2

/-- One byte of CRC-16/0x1021. -/
def crc16Byte (c : Nat) (b : Byte) : Nat :=
  crc16Bit (crc16Bit (crc16Bit (crc16Bit (crc16Bit (crc16Bit (crc16Bit (crc16Bit (Nat.xor c (b.toNat * 256)))))))))

/-- CRC-16 with polynomial 0x1021, preset 0xFFFF, no reflection and no final inversion (R452). -/
def crc16 (bs : List Byte) : Nat := bs.foldl crc16Byte 0xFFFF

/-- The indexes of the set bits of a mask, lowest first, among the first `n`. -/
def bitsSet (n mask : Nat) : List Nat := (List.range n).filter (bitAt mask)

/-- The first element of a list that a partial function maps, mapped. -/
def firstSome {α β : Type} (f : α → Option β) : List α → Option β
  | [] => none
  | a :: as => match f a with
    | some b => some b
    | none => firstSome f as

/-- The list with the element at `i` replaced; unchanged where there is none. -/
def listSet {α : Type} : List α → Nat → α → List α
  | [], _, _ => []
  | _ :: as, 0, x => x :: as
  | a :: as, i + 1, x => a :: listSet as i x

end Sys2Proof.Machine
end

