-- ==== Sys2Proof/Machine/Crypto.lean ====
section
/-! DEFINITION. The cryptographic algorithms of Table 18-1, as the standards that it names define them: SHA-256 and SHA-384 (FIPS 180-4),
HMAC (RFC 2104), AES (FIPS 197) with GCM (SP 800-38D) and CCM* (IEEE 802.15.4), and ECDSA verification on P-256 and P-384 (FIPS 186).
Taken from outside the spec: PRESUMED, log entry 3. Unsafe. -/

namespace Sys2Proof.Machine

/-! ### SHA-2 -/

/-- A word of `w` bits rotated right by `n`. -/
def rotR (w n x : Nat) : Nat := Nat.lor (x >>> n) (x <<< (w - n) % 2 ^ w)

/-- The exclusive or of three numbers. -/
def xor3 (a b c : Nat) : Nat := Nat.xor a (Nat.xor b c)

/-- A variant of SHA-2 (FIPS 180-4): word width, the rotation counts of the four functions (the third of the small ones is a shift), the
round constants and the initial hash value. -/
structure Sha where
  w : Nat
  s0 : Nat × Nat × Nat
  s1 : Nat × Nat × Nat
  b0 : Nat × Nat × Nat
  b1 : Nat × Nat × Nat
  k : List Nat
  h : List Nat

/-- The round constants of SHA-256. -/
def sha256K : List Nat :=
  [0x428A2F98, 0x71374491, 0xB5C0FBCF, 0xE9B5DBA5, 0x3956C25B, 0x59F111F1, 0x923F82A4, 0xAB1C5ED5]
  ++ [0xD807AA98, 0x12835B01, 0x243185BE, 0x550C7DC3, 0x72BE5D74, 0x80DEB1FE, 0x9BDC06A7, 0xC19BF174]
  ++ [0xE49B69C1, 0xEFBE4786, 0x0FC19DC6, 0x240CA1CC, 0x2DE92C6F, 0x4A7484AA, 0x5CB0A9DC, 0x76F988DA]
  ++ [0x983E5152, 0xA831C66D, 0xB00327C8, 0xBF597FC7, 0xC6E00BF3, 0xD5A79147, 0x06CA6351, 0x14292967]
  ++ [0x27B70A85, 0x2E1B2138, 0x4D2C6DFC, 0x53380D13, 0x650A7354, 0x766A0ABB, 0x81C2C92E, 0x92722C85]
  ++ [0xA2BFE8A1, 0xA81A664B, 0xC24B8B70, 0xC76C51A3, 0xD192E819, 0xD6990624, 0xF40E3585, 0x106AA070]
  ++ [0x19A4C116, 0x1E376C08, 0x2748774C, 0x34B0BCB5, 0x391C0CB3, 0x4ED8AA4A, 0x5B9CCA4F, 0x682E6FF3]
  ++ [0x748F82EE, 0x78A5636F, 0x84C87814, 0x8CC70208, 0x90BEFFFA, 0xA4506CEB, 0xBEF9A3F7, 0xC67178F2]

/-- The round constants of SHA-384. -/
def sha512K : List Nat :=
  [0x428A2F98D728AE22, 0x7137449123EF65CD, 0xB5C0FBCFEC4D3B2F, 0xE9B5DBA58189DBBC]
  ++ [0x3956C25BF348B538, 0x59F111F1B605D019, 0x923F82A4AF194F9B, 0xAB1C5ED5DA6D8118]
  ++ [0xD807AA98A3030242, 0x12835B0145706FBE, 0x243185BE4EE4B28C, 0x550C7DC3D5FFB4E2]
  ++ [0x72BE5D74F27B896F, 0x80DEB1FE3B1696B1, 0x9BDC06A725C71235, 0xC19BF174CF692694]
  ++ [0xE49B69C19EF14AD2, 0xEFBE4786384F25E3, 0x0FC19DC68B8CD5B5, 0x240CA1CC77AC9C65]
  ++ [0x2DE92C6F592B0275, 0x4A7484AA6EA6E483, 0x5CB0A9DCBD41FBD4, 0x76F988DA831153B5]
  ++ [0x983E5152EE66DFAB, 0xA831C66D2DB43210, 0xB00327C898FB213F, 0xBF597FC7BEEF0EE4]
  ++ [0xC6E00BF33DA88FC2, 0xD5A79147930AA725, 0x06CA6351E003826F, 0x142929670A0E6E70]
  ++ [0x27B70A8546D22FFC, 0x2E1B21385C26C926, 0x4D2C6DFC5AC42AED, 0x53380D139D95B3DF]
  ++ [0x650A73548BAF63DE, 0x766A0ABB3C77B2A8, 0x81C2C92E47EDAEE6, 0x92722C851482353B]
  ++ [0xA2BFE8A14CF10364, 0xA81A664BBC423001, 0xC24B8B70D0F89791, 0xC76C51A30654BE30]
  ++ [0xD192E819D6EF5218, 0xD69906245565A910, 0xF40E35855771202A, 0x106AA07032BBD1B8]
  ++ [0x19A4C116B8D2D0C8, 0x1E376C085141AB53, 0x2748774CDF8EEB99, 0x34B0BCB5E19B48A8]
  ++ [0x391C0CB3C5C95A63, 0x4ED8AA4AE3418ACB, 0x5B9CCA4F7763E373, 0x682E6FF3D6B2B8A3]
  ++ [0x748F82EE5DEFB2FC, 0x78A5636F43172F60, 0x84C87814A1F0AB72, 0x8CC702081A6439EC]
  ++ [0x90BEFFFA23631E28, 0xA4506CEBDE82BDE9, 0xBEF9A3F7B2C67915, 0xC67178F2E372532B]
  ++ [0xCA273ECEEA26619C, 0xD186B8C721C0C207, 0xEADA7DD6CDE0EB1E, 0xF57D4F7FEE6ED178]
  ++ [0x06F067AA72176FBA, 0x0A637DC5A2C898A6, 0x113F9804BEF90DAE, 0x1B710B35131C471B]
  ++ [0x28DB77F523047D84, 0x32CAAB7B40C72493, 0x3C9EBE0A15C9BEBC, 0x431D67C49C100D4C]
  ++ [0x4CC5D4BECB3E42B6, 0x597F299CFC657E2A, 0x5FCB6FAB3AD6FAEC, 0x6C44198C4A475817]

/-- SHA-256. -/
def shaSmall : Sha := {
  w := 32, s0 := (7, 18, 3), s1 := (17, 19, 10), b0 := (2, 13, 22), b1 := (6, 11, 25), k := sha256K
  h := [0x6A09E667, 0xBB67AE85, 0x3C6EF372, 0xA54FF53A, 0x510E527F, 0x9B05688C, 0x1F83D9AB, 0x5BE0CD19] }

/-- SHA-384. -/
def shaLarge : Sha := {
  w := 64, s0 := (1, 8, 7), s1 := (19, 61, 6), b0 := (28, 34, 39), b1 := (14, 18, 41), k := sha512K
  h := [0xCBBB9D5DC1059ED8, 0x629A292A367CD507, 0x9159015A3070DD17, 0x152FECD8F70E5939]
    ++ [0x67332667FFC00B31, 0x8EB44A8768581511, 0xDB0C2E0D64F98FA7, 0x47B5481DBEFA4FA4] }

/-- A small sigma function: two rotations and a shift. -/
def Sha.small (v : Sha) (c : Nat × Nat × Nat) (x : Nat) : Nat := xor3 (rotR v.w c.1 x) (rotR v.w c.2.1 x) (x >>> c.2.2)

/-- A big sigma function: three rotations. -/
def Sha.big (v : Sha) (c : Nat × Nat × Nat) (x : Nat) : Nat := xor3 (rotR v.w c.1 x) (rotR v.w c.2.1 x) (rotR v.w c.2.2 x)

/-- One round: the eight working variables, a round constant and a message word. -/
def Sha.round (v : Sha) : List Nat → Nat → Nat → List Nat
  | [a, b, c, d, e, f, g, h], k, w =>
    let t1 := h + v.big v.b1 e + Nat.xor (Nat.land e f) (Nat.land (2 ^ v.w - 1 - e) g) + k + w
    let t2 := v.big v.b0 a + xor3 (Nat.land a b) (Nat.land a c) (Nat.land b c)
    [(t1 + t2) % 2 ^ v.w, a, b, c, (d + t1) % 2 ^ v.w, e, f, g]
  | l, _, _ => l

/-- The rounds of a block: the last sixteen message words, the first of them used next, are kept and extended as they are used. -/
def Sha.rounds (v : Sha) : List Nat → List Nat → List Nat → List Nat
  | [], _, x => x
  | k :: ks, w, x =>
    let next := (v.small v.s1 (w.getD 14 0) + w.getD 9 0 + v.small v.s0 (w.getD 1 0) + w.getD 0 0) % 2 ^ v.w
    v.rounds ks (w.drop 1 ++ [next]) (v.round x k (w.getD 0 0))

/-- A block of sixteen words put into the hash value. -/
def Sha.block (v : Sha) (h : List Nat) (bs : List Byte) : List Nat :=
  ((v.rounds v.k ((chunks (v.w / 8) 16 bs).map beNat) h).zip h).map fun x => (x.1 + x.2) % 2 ^ v.w

/-- The padded message (FIPS 180-4, 5.1). -/
def Sha.pad (v : Sha) (m : List Byte) : List Byte :=
  let n := 2 * v.w
  m ++ [0x80] ++ List.replicate ((2 * n - 1 - n / 8 - m.length % n) % n) 0 ++ beBytes (n / 8) (8 * m.length)

/-- The hash value of a message, of which the first `len` bytes are taken. -/
def Sha.hash (v : Sha) (len : Nat) (m : List Byte) : List Byte :=
  let p := v.pad m
  (((chunks (2 * v.w) (p.length / (2 * v.w)) p).foldl v.block v.h).flatMap (beBytes (v.w / 8))).take len

/-- SHA-256. -/
def sha256 (m : List Byte) : List Byte := shaSmall.hash 32 m

/-- SHA-384. -/
def sha384 (m : List Byte) : List Byte := shaLarge.hash 48 m

/-- HMAC-SHA-256. -/
def hmac (key m : List Byte) : List Byte :=
  let k0 := if 64 < key.length then sha256 key else key
  let k := k0 ++ List.replicate (64 - k0.length) 0
  sha256 (k.map (· ^^^ 0x5C#8) ++ sha256 (k.map (· ^^^ 0x36#8) ++ m))

/-! ### AES -/

/-- The AES S-box, 64 entries to a number, the lowest index in the lowest byte. -/
def aesBox : List Nat :=
  [0x75B227EBE28012079A059618C323C7041531D871F1E5A534CCF73F362693FDB7C072A49CAFA2D4ADF04759FA7DC982CA76ABD7FE2B670130C56F6BF27B777C63]
  ++ [0xD2F3FF1021DAB6BCF5389D928F40A351A89F3C507F02F94585334D43FBAAEFD0CF584C4A39BECB6A5BB1FC20ED00D153842FE329B3D63B52A05A6E1B1A2C8309]
  ++ [0x8AE7A65EAF4566CA94ED58D6D37C8E779E4959162ACD3C25C2406490A3A32E0DB0B5EDE14B8EE4688902A22DC4F816073195D643D7EA7C41744975FEC130CCD]
  ++ [0x16BB54B00F2D99416842E6BF0D89A18CDF2855CEE9871E9B948ED9691198F8E19E1DC186B95735610EF6034866B53E708A8BBD4B1F74DDE8C6B4A61C2E2578BA]

/-- A byte through the S-box. -/
def aesSub (b : Nat) : Nat := aesBox.getD (b / 64) 0 >>> (8 * (b % 64)) % 256

/-- Twice a byte in the field of AES. -/
def aesTwice (b : Nat) : Nat := if b < 128 then 2 * b else Nat.xor (2 * b % 256) 0x1B

/-- Words of the key schedule, the latest first, after those that the key gives: `nk` words to the key, the next index, the round constant
that comes next. -/
def aesExpand (nk : Nat) : Nat → Nat → Nat → List (List Nat) → List (List Nat)
  | 0, _, _, l => l
  | n + 1, i, rc, l =>
    let t := l.getD 0 []
    let old := l.getD (nk - 1) []
    let f : List Nat :=
      if i % nk = 0 then (t.drop 1 ++ t.take 1).zipIdx.map fun x => Nat.xor (aesSub x.1) (if x.2 = 0 then rc else 0)
      else if nk = 8 ∧ i % nk = 4 then t.map aesSub
      else t
    aesExpand nk n (i + 1) (if i % nk = 0 then aesTwice rc else rc) (List.zipWith Nat.xor old f :: l)

/-- The round keys: of AES-128 for a key of 16 bytes, otherwise of AES-256. -/
def aesKeys (key : List Byte) : List (List Nat) :=
  let nk := if key.length = 16 then 4 else 8
  let k := (key ++ List.replicate 32 0).take (4 * nk)
  let ws := (chunks 4 nk k).map fun w => w.map (·.toNat)
  let all := (aesExpand nk (4 * (nk + 7) - nk) nk 1 ws.reverse).reverse
  (List.range (nk + 7)).map fun r => ((all.drop (4 * r)).take 4).flatten

/-- A column mixed. -/
def aesMix : List Nat → List Nat
  | [a, b, c, d] =>
    let t := Nat.xor (Nat.xor a b) (Nat.xor c d)
    [xor3 a t (aesTwice (Nat.xor a b)), xor3 b t (aesTwice (Nat.xor b c)), xor3 c t (aesTwice (Nat.xor c d)),
      xor3 d t (aesTwice (Nat.xor d a))]
  | l => l

/-- The bytes substituted and the rows shifted. -/
def aesShift (s : List Nat) : List Nat := (List.range 16).map fun i => aesSub (s.getD ((5 * i) % 16) 0)

/-- The rounds after the first key; the last one mixes no columns. -/
def aesRounds : List (List Nat) → List Nat → List Nat
  | [], s => s
  | [k], s => List.zipWith Nat.xor (aesShift s) k
  | k :: ks, s =>
    let t := aesShift s
    aesRounds ks (List.zipWith Nat.xor ((List.range 4).flatMap fun c => aesMix ((t.drop (4 * c)).take 4)) k)

/-- A block of 16 bytes encrypted under round keys. -/
def aesBlock (keys : List (List Nat)) (b : List Byte) : List Byte :=
  match keys with
  | [] => b
  | k :: ks => (aesRounds ks (List.zipWith Nat.xor (b.map (·.toNat)) k)).map (BitVec.ofNat 8)

/-- Bytes under the key stream of a counter block: its fixed front and the counter's width and first value. -/
def aesCtr (keys : List (List Nat)) (front : List Byte) (w : Nat) : Nat → Nat → List Byte → List Byte
  | 0, _, _ => []
  | n + 1, c, b =>
    List.zipWith (· ^^^ ·) (b.take 16) (aesBlock keys (front ++ beBytes w c)) ++ aesCtr keys front w n (c + 1) (b.drop 16)

/-! ### GCM -/

/-- A product in the field of GHASH: the bits of `x` from the most significant on, each adding the halved `v`. -/
def gMul : Nat → Nat → Nat → Nat → Nat
  | 0, _, _, z => z
  | n + 1, x, v, z =>
    gMul n x (if v % 2 = 1 then Nat.xor (v / 2) (0xE1 * 2 ^ 120) else v / 2) (if x >>> n % 2 = 1 then Nat.xor z v else z)

/-- GHASH over blocks of 16 bytes. -/
def gHash (h : Nat) (bs : List Byte) : Nat := (chunks 16 (bs.length / 16) bs).foldl (fun a b => gMul 128 (Nat.xor a (beNat b)) h 0) 0

/-- Bytes followed by zeros up to a multiple of 16. -/
def pad16 (b : List Byte) : List Byte := b ++ List.replicate ((16 - b.length % 16) % 16) 0

/-- The tag of a ciphertext with its additional data. -/
def gcmTag (key nonce aad ct : List Byte) : List Byte :=
  let keys := aesKeys key
  let h := beNat (aesBlock keys (List.replicate 16 0))
  beBytes 16 (Nat.xor (gHash h (pad16 aad ++ pad16 ct ++ beBytes 8 (8 * aad.length) ++ beBytes 8 (8 * ct.length)))
    (beNat (aesBlock keys (nonce ++ beBytes 4 1))))

/-- A text under the key stream of GCM, which encrypts and decrypts. -/
def gcmText (key nonce b : List Byte) : List Byte := aesCtr (aesKeys key) nonce 4 ((b.length + 15) / 16) 2 b

/-- AES-256-GCM sealing: the ciphertext and its tag (R317). -/
def gcmSeal (key nonce aad m : List Byte) : List Byte :=
  let ct := gcmText key nonce m
  ct ++ gcmTag key nonce aad ct

/-- AES-256-GCM opening of a ciphertext with its tag: none where the tag fails (R317, R416). -/
def gcmOpen (key nonce aad b : List Byte) : Option (List Byte) :=
  let n := b.length - 16
  if 16 ≤ b.length ∧ gcmTag key nonce aad (b.take n) = b.drop n then some (gcmText key nonce (b.take n)) else none

/-! ### CCM* -/

/-- AES-128 CCM* sealing of a radio frame (IEEE 802.15.4) with a nonce of 13 bytes: the text under the key stream, then the tag of `m`
bytes (R243). -/
def ccmSeal (key nonce aad text : List Byte) (m : Nat) : List Byte :=
  let keys := aesKeys key
  let flags := (if aad = [] then 0 else 64) + (m - 2) / 2 * 8 + 1
  let b0 := leBytes 1 flags ++ nonce ++ beBytes 2 text.length
  let auth := if aad = [] then [] else pad16 (beBytes 2 aad.length ++ aad)
  let xs := b0 ++ auth ++ pad16 text
  let tag := (chunks 16 (xs.length / 16) xs).foldl (fun a b => aesBlock keys (List.zipWith (· ^^^ ·) a b)) (List.replicate 16 0)
  let front := leBytes 1 1 ++ nonce
  aesCtr keys front 2 ((text.length + 15) / 16) 1 text ++ (List.zipWith (· ^^^ ·) tag (aesBlock keys (front ++ beBytes 2 0))).take m

/-- CCM* opening of a ciphertext followed by its tag of `m` bytes: the text, none where the tag fails (R243, R246). -/
def ccmOpen (key nonce aad b : List Byte) (m : Nat) : Option (List Byte) :=
  let n := b.length - m
  let text := aesCtr (aesKeys key) (leBytes 1 1 ++ nonce) 2 ((n + 15) / 16) 1 (b.take n)
  if m ≤ b.length ∧ ccmSeal key nonce aad text m = b then some text else none

/-! ### ECDSA -/

/-- A curve y² = x³ − 3x + b over p, with the order and the base point; `len` is the length of a coordinate. -/
structure Curve where
  len : Nat
  p : Nat
  b : Nat
  n : Nat
  gx : Nat
  gy : Nat

/-- P-256. -/
def p256 : Curve := {
  len := 32
  p := 0xFFFFFFFF00000001000000000000000000000000FFFFFFFFFFFFFFFFFFFFFFFF
  b := 0x5AC635D8AA3A93E7B3EBBD55769886BC651D06B0CC53B0F63BCE3C3E27D2604B
  n := 0xFFFFFFFF00000000FFFFFFFFFFFFFFFFBCE6FAADA7179E84F3B9CAC2FC632551
  gx := 0x6B17D1F2E12C4247F8BCE6E563A440F277037D812DEB33A0F4A13945D898C296
  gy := 0x4FE342E2FE1A7F9B8EE7EB4A7C0F9E162BCE33576B315ECECBB6406837BF51F5 }

/-- P-384. -/
def p384 : Curve := {
  len := 48
  p := 0xFFFFFFFFFFFFFFFFFFFFFFFFFFFFFFFFFFFFFFFFFFFFFFFFFFFFFFFFFFFFFFFEFFFFFFFF0000000000000000FFFFFFFF
  b := 0xB3312FA7E23EE7E4988E056BE3F82D19181D9C6EFE8141120314088F5013875AC656398D8A2ED19D2A85C8EDD3EC2AEF
  n := 0xFFFFFFFFFFFFFFFFFFFFFFFFFFFFFFFFFFFFFFFFFFFFFFFFC7634D81F4372DDF581A0DB248B0A77AECEC196ACCC52973
  gx := 0xAA87CA22BE8B05378EB1C71EF320AD746E1D3B628BA79B9859F741E082542A385502F25DBF55296C3A545E3872760AB7
  gy := 0x3617DE4A96262C6F5D9E98BF9292DC29F8F41DBD289A147CE9DA3113B5F0B8C00A60B1CE1D7E819D7A431D7C90EA0E5F }

/-- A power in a prime field, by the bits of the exponent from bit `k` − 1 down. -/
def powMod (p x e : Nat) : Nat → Nat → Nat
  | 0, a => a
  | k + 1, a => powMod p x e k (if e >>> k % 2 = 1 then a * a % p * x % p else a * a % p)

/-- An inverse in a prime field of at most 384 bits. -/
def invMod (p x : Nat) : Nat := powMod p x (p - 2) 384 1

/-- A point in Jacobian coordinates; Z 0 is the point at infinity. -/
abbrev CurvePoint := Nat × Nat × Nat

/-- A point doubled. -/
def Curve.dbl (c : Curve) (a : CurvePoint) : CurvePoint :=
  let p := c.p
  let (x, y, z) := a
  let d := z * z % p
  let g := y * y % p
  let b := x * g % p
  let al := 3 * (x + p - d) * (x + d) % p
  let x3 := (al * al + 8 * (p - b)) % p
  let z3 := ((y + z) * (y + z) + (p - g) + (p - d)) % p
  (x3, (al * (4 * b + p - x3) + 8 * (p - g * g % p)) % p, z3)

/-- The sum of two points. -/
def Curve.add (c : Curve) (a b : CurvePoint) : CurvePoint :=
  let p := c.p
  if a.2.2 = 0 then b
  else if b.2.2 = 0 then a
  else
    let z1 := a.2.2 * a.2.2 % p
    let z2 := b.2.2 * b.2.2 % p
    let u1 := a.1 * z2 % p
    let u2 := b.1 * z1 % p
    let s1 := a.2.1 * (b.2.2 * z2 % p) % p
    let s2 := b.2.1 * (a.2.2 * z1 % p) % p
    let h := (u2 + p - u1) % p
    let r := (s2 + p - s1) % p
    if h = 0 then if r = 0 then c.dbl a else (1, 1, 0)
    else
      let hh := h * h % p
      let v := u1 * hh % p
      let h3 := h * hh % p
      let x3 := (r * r + (p - h3) + 2 * (p - v)) % p
      (x3, (r * (v + p - x3) + (p - s1) * h3) % p, h * (a.2.2 * b.2.2 % p) % p)

/-- The sum of two multiples, by the bits of both factors from bit `k` − 1 down. -/
def Curve.sum (c : Curve) (u v : Nat) (g q gq : CurvePoint) : Nat → CurvePoint → CurvePoint
  | 0, a => a
  | k + 1, a =>
    let d := c.dbl a
    let x := u >>> k % 2
    let y := v >>> k % 2
    c.sum u v g q gq k (if x = 1 then (if y = 1 then c.add d gq else c.add d g) else if y = 1 then c.add d q else d)

/-- A signature r ‖ s of a hash verifies under the public point. -/
def Curve.verify (c : Curve) (qx qy e r s : Nat) : Bool :=
  let w := invMod c.n s
  let g : CurvePoint := (c.gx, c.gy, 1)
  let q : CurvePoint := (qx, qy, 1)
  let a := c.sum (e * w % c.n) (r * w % c.n) g q (c.add g q) (8 * c.len) (1, 1, 0)
  let z := invMod c.p a.2.2
  decide (0 < r) && decide (r < c.n) && decide (0 < s) && decide (s < c.n) && decide (qx < c.p) && decide (qy < c.p)
    && qy * qy % c.p == (qx * qx % c.p * qx + 3 * (c.p - qx) + c.b) % c.p && a.2.2 != 0 && a.1 * (z * z % c.p) % c.p % c.n == r

/-- A signature of a message verifies under an uncompressed public key: one of 65 bytes is of P-256 with SHA-256, one of 97 bytes of P-384
with SHA-384 (Table 18-1). -/
def ecdsaVerify (key m sig : List Byte) : Bool :=
  let c := if key.length = 65 then p256 else p384
  let e := beNat (if key.length = 65 then sha256 m else sha384 m)
  (key.length == 65 || key.length == 97) && byteOf key 0 == 4 && sig.length == 2 * c.len
    && c.verify (beAt key 1 c.len) (beAt key (1 + c.len) c.len) e (beAt sig 0 c.len) (beAt sig c.len c.len)

end Sys2Proof.Machine
end

