-- ==== Sys2Proof/Machine/Params.lean ====
section
/-! DEFINITION. The form of the parameter space (14): status codes, the description of a parameter and of a table, the store of
committed values, and the checks on one written value (R11, R12, R15, R321, R516). -/

namespace Sys2Proof.Machine

/-- The status codes of Table 13-7. -/
inductive Status where
  | ok | accepted | duplicate
  | eOpcode | eParam | eRange | eState | eConflict | eCapacity | eAuth | eStale | eTxn | eLate | eGuarantee | eBusy | eSize
  | eVerify | eSettings | eInternal
  deriving DecidableEq, Repr

/-- The code of a status (Table 13-7). -/
def Status.code : Status → Nat
  | .ok => 0x00 | .accepted => 0x01 | .duplicate => 0x02
  | .eOpcode => 0x10 | .eParam => 0x11 | .eRange => 0x12 | .eState => 0x13 | .eConflict => 0x14 | .eCapacity => 0x15
  | .eAuth => 0x16 | .eStale => 0x17 | .eTxn => 0x18 | .eLate => 0x19 | .eGuarantee => 0x1A | .eBusy => 0x1B | .eSize => 0x1C
  | .eVerify => 0x1D | .eSettings => 0x1E | .eInternal => 0x1F

/-- The status that a code names; a code that is never sent reads as E_INTERNAL. -/
def Status.ofCode (c : Nat) : Status :=
  ([.ok, .accepted, .duplicate, .eOpcode, .eParam, .eRange, .eState, .eConflict, .eCapacity, .eAuth, .eStale, .eTxn, .eLate,
    .eGuarantee, .eBusy, .eSize, .eVerify, .eSettings] : List Status).find? (fun s => s.code == c) |>.getD .eInternal

/-- What an error response says beside its status (Table 13-8). -/
structure Err where
  status : Status
  item : Nat := 0xFFFF
  param : Nat := 0
  record : Nat := 0xFFFFFFFF
  ownerParam : Nat := 0
  ownerRecord : Nat := 0
  /-- The item's own status under E_TXN; otherwise the status itself. -/
  cause : Option Status := none
  /-- The node that failed; the answering node itself where it is none. -/
  node : Option Nat := none
  deriving DecidableEq, Repr

/-- The encodings of single values (Table 14-2): `n` unsigned bytes, `n` signed bytes, or a TIME. -/
inductive PTy where
  | u (bytes : Nat)
  | s (bytes : Nat)
  | time
  deriving DecidableEq, Repr

/-- The encoded size of a value. -/
def PTy.len : PTy → Nat
  | .u n => n
  | .s n => n
  | .time => 16

/-- A parameter as its chapter's table describes it. `inst` is its number of instances, 0 for a parameter without instances. -/
structure ParamRow where
  id : Nat
  ty : PTy
  lo : Int := 0
  hi : Int := 0
  /-- Where not empty, the only values allowed. -/
  only : List Nat := []
  reset : Nat := 0
  edge : Bool := true
  ro : Bool := false
  wo : Bool := false
  inst : Nat := 0
  all : Bool := true
  zone : Bool := false
  deriving DecidableEq, Repr

/-- A field of a record: its place and the values it takes. -/
structure Fld where
  lsb : Nat
  width : Nat
  lo : Int := 0
  hi : Int := 0
  signed : Bool := false
  only : List Nat := []
  deriving DecidableEq, Repr

/-- A field of whole bytes. -/
def fB (byte len : Nat) (lo hi : Int) : Fld := { lsb := 8 * byte, width := 8 * len, lo := lo, hi := hi }

/-- A signed field of whole bytes. -/
def fS (byte len : Nat) (lo hi : Int) : Fld := { lsb := 8 * byte, width := 8 * len, lo := lo, hi := hi, signed := true }

/-- A field of bits: `bit` counts from the low bit of byte `byte`. -/
def fb (byte bit width : Nat) (lo hi : Int) : Fld := { lsb := 8 * byte + bit, width := width, lo := lo, hi := hi }

/-- A field of bytes that takes listed values only. -/
def fE (byte len : Nat) (only : List Nat) : Fld := { lsb := 8 * byte, width := 8 * len, lo := 0, hi := 2 ^ (8 * len), only := only }

/-- A table as its chapter describes it: `size` bytes a record, `count` records. `extra` holds the checks between fields of one
record. -/
structure TableSpec where
  id : Nat
  size : Nat
  count : Nat
  edge : Bool := true
  ro : Bool := false
  flds : List Fld := []
  /-- Reserved bits: (byte, bit, width). -/
  resv : List (Nat × Nat × Nat) := []
  inUse : Nat → Bool := fun _ => true
  reset : Nat → Nat := fun _ => 0
  extra : Nat → Nat → Option Status := fun _ _ => none
  /-- What is wrong with a record that is not in use beyond `flds`: a field that is not 0 and lies outside the range that other fields of
  the record set for it (R516). -/
  idle : Nat → Option Status := fun _ => none
  /-- The bits of a record as written that the node maintains, so that the write does not change them (R325). -/
  kept : Nat → Nat := fun _ => 0

/-- The committed values: single values under `id * 1024 + instance`, records under `table * 2^32 + index` as little-endian numbers,
the scene store (R98) and the stream bindings of layers (R314). -/
structure Store where
  par : SMap Nat
  tab : SMap Nat
  scene : SMap (List Byte)
  binds : SMap (List Byte)
  deriving DecidableEq, Repr

/-- The store in which every parameter has its reset value. -/
def Store.empty : Store := { par := [], tab := [], scene := [], binds := [] }

/-- The key of a parameter instance. -/
def parKey (p : ParamRow) (i : Nat) : Nat := p.id * 1024 + i

/-- The key of a table record. -/
def tabKey (t : TableSpec) (i : Nat) : Nat := t.id * 4294967296 + i

/-- The raw value of a parameter instance. -/
def Store.val (c : Store) (p : ParamRow) (i : Nat) : Nat := SMap.get p.reset c.par (parKey p i)

/-- The value of a parameter without instances. -/
def Store.v (c : Store) (p : ParamRow) : Nat := c.val p 0

/-- The value of a signed parameter instance. -/
def Store.vs (c : Store) (p : ParamRow) (i : Nat) : Int := signedOf (8 * p.ty.len) (c.val p i)

/-- The store with a parameter instance written. -/
def Store.setVal (c : Store) (p : ParamRow) (i v : Nat) : Store := { c with par := SMap.put p.reset c.par (parKey p i) v }

/-- A record of a table. -/
def Store.row (c : Store) (t : TableSpec) (i : Nat) : Nat := SMap.get (t.reset i) c.tab (tabKey t i)

/-- The store with a record of a table written. -/
def Store.setRow (c : Store) (t : TableSpec) (i v : Nat) : Store := { c with tab := SMap.put (t.reset i) c.tab (tabKey t i) v }

/-- The listed indexes of a table: the records that differ from their reset contents. -/
def Store.listed (c : Store) (t : TableSpec) : List Nat :=
  c.tab.filterMap fun (k, _) => if k / 4294967296 = t.id then some (k % 4294967296) else none

/-- Every index of a small table. -/
def TableSpec.all (t : TableSpec) : List Nat := List.range t.count

/-- The value of a field, signed where the field is. -/
def Fld.get (f : Fld) (r : Nat) : Int :=
  if f.signed then signedOf f.width (bitsAt r f.lsb f.width) else (bitsAt r f.lsb f.width : Nat)

/-- A field's value is one it may take (R12, R15). -/
def Fld.ok (f : Fld) (r : Nat) : Bool :=
  if f.only = [] then decide (f.lo ≤ f.get r) && decide (f.get r ≤ f.hi)
  else f.only.elem (bitsAt r f.lsb f.width)

/-- The check of one record written (R11, R12, R15, R516): reserved bits are zero, then every field is in range, where a field
of a record that is not in use may also be zero, then the checks between fields of a record in use or of one not in use. -/
def TableSpec.check (t : TableSpec) (i r : Nat) : Option Status :=
  if t.resv.any (fun x => bitsAt r (8 * x.1 + x.2.1) x.2.2 ≠ 0) then some .eParam
  else if t.flds.any (fun f => !(f.ok r || (!t.inUse r && bitsAt r f.lsb f.width = 0))) then some .eRange
  else if t.inUse r then t.extra i r else t.idle r

/-- Some value of a field is neither 0 nor within its range: E_RANGE (R516). -/
def idleRanges (fs : List (Nat × Bool)) : Option Status := if fs.any (fun f => f.1 != 0 && !f.2) then some .eRange else none

/-- Seconds, nanoseconds and fraction of an instant, as a TIME value's number (Table 14-2). -/
def timeEnc (t : Time) : Nat := t / sec + t % sec / ns * 2 ^ 64 + t % ns * 2 ^ 96

/-- The instant that a TIME value's number spells. -/
def timeDec (v : Nat) : Time := u64At v 0 * sec + u32At v 8 * ns + u16At v 12

/-- The check of one value of a parameter (R11, R15, R321). -/
def ParamRow.check (p : ParamRow) (v : Nat) : Option Status :=
  match p.ty with
  | .time => if u16At v 14 ≠ 0 then some .eParam else if 1000000000 ≤ u32At v 8 then some .eRange else none
  | .u _ => if p.only = [] then if decide (p.lo ≤ (v : Int)) && decide ((v : Int) ≤ p.hi) then none else some .eRange
    else if p.only.elem v then none else some .eRange
  | .s n => if decide (p.lo ≤ signedOf (8 * n) v) && decide (signedOf (8 * n) v ≤ p.hi) then none else some .eRange

end Sys2Proof.Machine
end

