-- ==== Sys2Proof/Machine/CfgBase.lean ====
section
/-! DEFINITION. The parameters and tables of the state, frame, time, queue, host-interface, recorder and start-up chapters
(01 Table 1-10, 02 Table 2-6, 03 Table 3-7, 12 Table 12-6, 13 Table 13-14, 14 Table 14-5, 20 Table 20-6, 21 Table 21-7). -/

namespace Sys2Proof.Machine

/-! ### 01, 13: device -/

/-- DEV_STATE (Table 1-10). -/
def devStateP : ParamRow := { id := 0x0410, ty := .u 1, hi := 7, edge := false, ro := true }
/-- DEV_RUN (Table 1-10). -/
def devRun : ParamRow := { id := 0x0411, ty := .u 1, hi := 1 }
/-- DEV_DEDUPE_MS (Table 13-14). -/
def devDedupeMs : ParamRow := { id := 0x0430, ty := .u 2, lo := 100, hi := 60000, reset := 5000, edge := false }
/-- DEV_TXN_IDLE (Table 13-14). -/
def devTxnIdle : ParamRow := { id := 0x0431, ty := .u 2, lo := 1, hi := 600, reset := 10, edge := false }
/-- DEV_MB_COUNTERS (Table 13-14). -/
def devMbCounters : TableSpec := { id := 0x0432, size := 32, count := 5, edge := false, ro := true }

/-! ### 02: frame -/

/-- FRM_SOURCE (Table 2-6); CASCADE is reported only (R31). -/
def frmSource : ParamRow := { id := 0x0C00, ty := .u 1, hi := 2 }
/-- FRM_PEN_LEN (Table 2-6). -/
def frmPenLen : ParamRow := { id := 0x0C01, ty := .u 1, hi := 50, reset := 25 }
/-- FRM_MARGIN (Table 2-6). -/
def frmMargin : ParamRow := { id := 0x0C02, ty := .u 4, lo := 20, hi := 1000, reset := 50 }
/-- FRM_RATE_NUM (Table 2-6). -/
def frmRateNum : ParamRow := { id := 0x0C03, ty := .u 4, lo := 1, hi := 240000, reset := 60 }
/-- FRM_RATE_DEN (Table 2-6). -/
def frmRateDen : ParamRow := { id := 0x0C04, ty := .u 4, lo := 1, hi := 10010, reset := 1 }
/-- FRM_ANCHOR (Table 2-6). -/
def frmAnchor : ParamRow := { id := 0x0C05, ty := .time }
/-- FRM_GEN_DELAY (Table 2-6). -/
def frmGenDelay : ParamRow := { id := 0x0C06, ty := .s 4, lo := -10000000, hi := 10000000 }
/-- FRM_GEN_TOL (Table 2-6). -/
def frmGenTol : ParamRow := { id := 0x0C07, ty := .u 4, lo := 100, hi := 1000000, reset := 10000 }
/-- FRM_WCLK_DIV (Table 2-6). -/
def frmWclkDiv : ParamRow := { id := 0x0C08, ty := .u 2, lo := 1, hi := 65535, reset := 800 }
/-- FRM_LOCK_STATE (Table 2-6). -/
def frmLockState : ParamRow := { id := 0x0C09, ty := .u 1, hi := 3, edge := false, ro := true }
/-- FRM_NUMBER (Table 2-6). -/
def frmNumber : ParamRow := { id := 0x0C0A, ty := .u 8, hi := 18446744073709551615, edge := false, ro := true }
/-- FRM_SLIP_COUNT (Table 2-6). -/
def frmSlipCount : ParamRow := { id := 0x0C0B, ty := .u 4, hi := 4294967295, edge := false, ro := true }
/-- FRM_SLIP_SCOPE (Table 2-6). -/
def frmSlipScope : ParamRow := { id := 0x0C0C, ty := .u 1, hi := 1, reset := 1 }
/-- FRM_LTC_OFFSET (Table 2-6). -/
def frmLtcOffset : ParamRow := { id := 0x0C0D, ty := .s 4, lo := -86400, hi := 86400 }
/-- FRM_TC (Table 2-6). -/
def frmTc : ParamRow := { id := 0x0C0E, ty := .u 8, hi := 18446744073709551615, edge := false, ro := true }
/-- FRM_NUM_OFFSET (Table 2-6). -/
def frmNumOffset : ParamRow :=
  { id := 0x0C0F, ty := .s 8, lo := -9223372036854775808, hi := 9223372036854775807, edge := false, ro := true }

/-! ### 03: time -/

/-- TIM_SYNC_SOURCE (Table 3-7). -/
def timSyncSource : ParamRow := { id := 0x0800, ty := .u 1, hi := 4, edge := false, ro := true }
/-- TIM_SYNC_STATE (Table 3-7). -/
def timSyncState : ParamRow := { id := 0x0801, ty := .u 1, hi := 3, edge := false, ro := true }
/-- TIM_OFFSET (Table 3-7). -/
def timOffset : ParamRow :=
  { id := 0x0802, ty := .s 8, lo := -9223372036854775808, hi := 9223372036854775807, edge := false, ro := true }
/-- TIM_FREQ_ADJ (Table 3-7). -/
def timFreqAdj : ParamRow := { id := 0x0803, ty := .s 4, lo := -2147483648, hi := 2147483647, edge := false, ro := true }
/-- TIM_PTP_MODE (Table 3-7). -/
def timPtpMode : ParamRow := { id := 0x0804, ty := .u 1, hi := 3 }
/-- TIM_PTP_PROFILE (Table 3-7). -/
def timPtpProfile : ParamRow := { id := 0x0805, ty := .u 1, hi := 2 }
/-- TIM_PTP_DOMAIN (Table 3-7). -/
def timPtpDomain : ParamRow := { id := 0x0806, ty := .u 1, hi := 127 }
/-- TIM_PTP_STEP (Table 3-7). -/
def timPtpStep : ParamRow := { id := 0x0807, ty := .u 1, hi := 1 }
/-- TIM_PTP_TRANSPORT (Table 3-7). -/
def timPtpTransport : ParamRow := { id := 0x0808, ty := .u 1, hi := 2 }
/-- TIM_PTP_PRIO1 (Table 3-7). -/
def timPtpPrio1 : ParamRow := { id := 0x0809, ty := .u 1, hi := 255, reset := 128 }
/-- TIM_PTP_PRIO2 (Table 3-7). -/
def timPtpPrio2 : ParamRow := { id := 0x080A, ty := .u 1, hi := 255, reset := 128 }
/-- TIM_PTP_SLAVE_ONLY (Table 3-7). -/
def timPtpSlaveOnly : ParamRow := { id := 0x080B, ty := .u 1, hi := 1, reset := 1 }
/-- TIM_PTP_SYNC_LOG (Table 3-7). -/
def timPtpSyncLog : ParamRow := { id := 0x080C, ty := .s 1, lo := -7, hi := 4, reset := 0xFD }
/-- TIM_PTP_ASYM0 (Table 3-7). -/
def timPtpAsym0 : ParamRow := { id := 0x080D, ty := .s 4, lo := -1000000, hi := 1000000, all := false }
/-- TIM_PTP_ASYM1 (Table 3-7). -/
def timPtpAsym1 : ParamRow := { id := 0x080E, ty := .s 4, lo := -1000000, hi := 1000000, all := false }
/-- TIM_SERVO_KP (Table 3-7). -/
def timServoKp : ParamRow := { id := 0x080F, ty := .u 2, lo := 1, hi := 0x400, reset := 0xB3 }
/-- TIM_SERVO_KI (Table 3-7). -/
def timServoKi : ParamRow := { id := 0x0810, ty := .u 2, lo := 1, hi := 0x400, reset := 0x4D }
/-- TIM_LOCK_THRESH (Table 3-7). -/
def timLockThresh : ParamRow := { id := 0x0811, ty := .u 4, lo := 10, hi := 1000000, reset := 1000 }
/-- TIM_SLEW_THRESH (Table 3-7). -/
def timSlewThresh : ParamRow := { id := 0x0812, ty := .u 4, lo := 1000, hi := 10000000, reset := 20000 }
/-- TIM_SLEW_MAX (Table 3-7). -/
def timSlewMax : ParamRow := { id := 0x0813, ty := .u 4, lo := 1000, hi := 100000, reset := 100000 }
/-- TIM_HOLDOVER_MAX (Table 3-7). -/
def timHoldoverMax : ParamRow := { id := 0x0814, ty := .u 4, lo := 1, hi := 604800, reset := 3600 }
/-- TIM_RTC_SET (Table 3-7, R66): a write loads the RTC and a read returns it. -/
def timRtcSet : ParamRow := { id := 0x0815, ty := .time, edge := false }
/-- TIM_RTC_VALID (Table 3-7). -/
def timRtcValid : ParamRow := { id := 0x0816, ty := .u 1, hi := 1, edge := false, ro := true }
/-- TIM_TSQ_OVF0 (Table 3-7). -/
def timTsqOvf0 : ParamRow := { id := 0x0817, ty := .u 4, hi := 4294967295, edge := false, ro := true, all := false }
/-- TIM_TSQ_OVF1 (Table 3-7). -/
def timTsqOvf1 : ParamRow := { id := 0x0818, ty := .u 4, hi := 4294967295, edge := false, ro := true, all := false }
/-- TIM_TOUT (Table 3-5): in EDGE_LOCKED bytes 24 to 27 are a signed offset and EDGE_DIV counts; in the other modes they are a period
that WIDTH lies below, ONE_SHOT included (DEDUCED from R15 and R81, log entry 83). -/
def timTout : TableSpec where
  id := 0x0819
  size := 32
  count := 8
  flds := [fB 0 1 0 3, fB 4 4 8 4294967295, fB 16 4 0 999999999]
  resv := [(1, 1, 7), (22, 0, 16)]
  inUse := fun r => byteAt r 0 ≠ 0
  extra := fun _ r =>
    if byteAt r 0 = 3 then if u16At r 2 = 0 then some .eRange else none
    else if u32At r 24 < 100 ∨ u32At r 24 ≤ u32At r 4 then some .eRange
    else none
  idle := fun r => idleRanges [(u32At r 24, decide (100 ≤ u32At r 24)), (u32At r 4, decide (u32At r 4 < u32At r 24))]
/-- TIM_TIN (3.7). -/
def timTin : TableSpec where
  id := 0x081A
  size := 8
  count := 8
  flds := [fB 0 1 0 3, fB 2 2 0 10000]
  resv := [(1, 1, 7), (4, 0, 32)]
  inUse := fun r => byteAt r 0 ≠ 0
/-- TIM_TIN_LAST (Table 3-7). -/
def timTinLast : TableSpec := { id := 0x081B, size := 16, count := 8, edge := false, ro := true }
/-- TIM_TIN_OVF (Table 3-7). -/
def timTinOvf : ParamRow := { id := 0x081C, ty := .u 4, hi := 4294967295, edge := false, ro := true, all := false }
/-- TIM_ALARM (Table 3-7). -/
def timAlarm : TableSpec where
  id := 0x081D
  size := 24
  count := 4
  flds := [fB 8 4 0 999999999]
  resv := [(14, 0, 16), (16, 1, 7), (17, 0, 56)]
  inUse := fun r => bitAt r 128
/-- TIM_NOW (Table 3-7). -/
def timNow : ParamRow := { id := 0x081E, ty := .time, edge := false, ro := true, all := false }

/-! ### 12: queues -/

/-- SIZE at reset and its range in KiB (Table 12-1). -/
def queSize (q : Nat) : Nat × Nat × Nat :=
  if q < 8 then (64, 16, 512)
  else if q < 16 then (96, 16, 1024)
  else if q < 18 then (1, 1, 1)
  else if q < 22 then (64, 4, 512)
  else if q < 24 then (0, 0, 0)
  else if q < 28 then (128, 72, 512)
  else if q = 28 then (64, 4, 256)
  else if q = 29 then (32, 4, 256)
  else if q = 30 then (256, 4, 1024)
  else (128, 72, 512)

/-- QUE_CONFIG (Table 12-6). -/
def queConfig : TableSpec where
  id := 0x4C00
  size := 8
  count := 32
  flds := [fB 2 1 1 255]
  resv := [(4, 0, 32)]
  reset := fun q => (queSize q).1 + 192 * 65536 + 64 * 16777216
  extra := fun q r =>
    if u16At r 0 < (queSize q).2.1 ∨ (queSize q).2.2 < u16At r 0 ∨ byteAt r 2 ≤ byteAt r 3 then some .eRange else none
/-- QUE_FLOW (Table 12-3). -/
def queFlow : TableSpec where
  id := 0x4C01
  size := 8
  count := 4
  resv := [(4, 2, 6), (5, 0, 24)]
  inUse := fun r => bitAt r 32
/-- QUE_FLUSH (Table 12-6). -/
def queFlush : ParamRow := { id := 0x4C02, ty := .u 4, hi := 4294967295, edge := false, wo := true, all := false }
/-- QUE_STATUS (Table 12-6). -/
def queStatus : TableSpec := { id := 0x4C03, size := 16, count := 32, edge := false, ro := true }
/-- QUE_COUNTERS (Table 12-6). -/
def queCounters : TableSpec := { id := 0x4C04, size := 16, count := 32, edge := false, ro := true }
/-- QUE_POOL_FREE (Table 12-6). -/
def quePoolFree : ParamRow := { id := 0x4C05, ty := .u 4, hi := 3072, edge := false, ro := true, all := false }

/-! ### 13, 14: tenants, resources -/

/-- TEN_PATH (Table 13-14): tenant T0 and role OWNER at reset; the roles are those of Table 18-9 (R425). -/
def tenPath : TableSpec where
  id := 0x5C00
  size := 8
  count := 2
  edge := false
  flds := [fB 1 1 1 4]
  resv := [(0, 3, 5), (2, 0, 48)]
  reset := fun _ => 0x0100
/-- The class bits that TEN_RIGHTS may hold (R332). -/
def rightsMask : Nat := 0x3BFF0
/-- TEN_RIGHTS (R332); record 0 always grants every permitted bit. -/
def tenRights : TableSpec where
  id := 0x5C01
  size := 8
  count := 8
  resv := [(0, 0, 4), (1, 6, 1), (2, 2, 6), (3, 0, 8), (4, 0, 32)]
  reset := fun i => if i = 0 then rightsMask else 0
  extra := fun i _ => if i = 0 then some .eParam else none
/-- RES_OWNER (Table 14-7). -/
def resOwner : TableSpec := { id := 0x6C00, size := 8, count := 768, edge := false, ro := true }

/-! ### 20: recorder -/

/-- LOG_STATUS (Table 14-5). -/
def logStatus : TableSpec := { id := 0x6800, size := 8, count := 8, edge := false, ro := true }
/-- LOG_OPTIME (Table 20-6). -/
def logOptime : ParamRow := { id := 0x6802, ty := .u 8, hi := 1099511627775, edge := false, ro := true }
/-- LOG_CYCLES (Table 20-6). -/
def logCycles : ParamRow := { id := 0x6803, ty := .u 4, hi := 16777215, edge := false, ro := true }
/-- LOG_COUNTERS (Table 20-6). -/
def logCounters : TableSpec := { id := 0x6804, size := 16, count := 8, edge := false, ro := true }

/-! ### 21: start-up -/

/-- DIA_DIE_TEMP (Table 14-5). -/
def diaDieTemp : ParamRow := { id := 0x7000, ty := .s 2, lo := -640, hi := 3200, edge := false, ro := true, all := false }
/-- DIA_WAKE (Table 21-7). -/
def diaWake : TableSpec where
  id := 0x7001
  size := 4
  count := 4
  flds := [fB 0 1 0 3]
  resv := [(2, 0, 16)]
  inUse := fun r => byteAt r 0 ≠ 0
/-- DIA_WAKE_LATCH (Table 21-7). -/
def diaWakeLatch : TableSpec := { id := 0x7002, size := 16, count := 1, edge := false, ro := true }
/-- DIA_SAFE_CAUSE (Table 21-7). -/
def diaSafeCause : ParamRow := { id := 0x7003, ty := .u 1, hi := 5, edge := false, ro := true }
/-- DIA_RAILS (Table 21-7). -/
def diaRails : TableSpec := { id := 0x7004, size := 16, count := 1, edge := false, ro := true }

end Sys2Proof.Machine
end

