-- ==== Sys2Proof/Machine/Float64.lean ====
section
/-! DEFINITION. IEEE 754 binary64 as R131 requires it: round to nearest even, no fused operations, subnormals kept, correctly rounded
square roots. -/

namespace Sys2Proof.Machine

/-- A binary64 value: a finite `(-1)^neg × man × 2^exp`, an infinity or a NaN. Finite values are normalised by `F64.round`. -/
inductive F64 where
  | fin (neg : Bool) (man : Nat) (exp : Int)
  | inf (neg : Bool)
  | nan
  deriving DecidableEq, Repr, Inhabited

/-- Plus zero. -/
def f0 : F64 := .fin false 0 (-1074)

/-- The binary64 value nearest `num / den × 2^e`, ties to even. -/
def F64.round (neg : Bool) (num den : Nat) (e : Int) : F64 :=
  if num = 0 then .fin neg 0 (-1074)
  else
    let l : Int := (Nat.log2 num : Int) - Nat.log2 den + e
    let scaled (x : Int) : Nat × Nat := (num * 2 ^ (e - x).toNat, den * 2 ^ (x - e).toNat)
    let e0 := max (-1074) (l - 53)
    let q0 := (scaled e0).1 / (scaled e0).2
    let e1 := if q0 < 2 ^ 53 then e0 else e0 + 1
    let n := (scaled e1).1
    let d := (scaled e1).2
    let q := n / d
    let up := d < 2 * (n % d) ∨ (d = 2 * (n % d) ∧ q % 2 = 1)
    let q' := if up then q + 1 else q
    let m := if q' = 2 ^ 53 then 2 ^ 52 else q'
    let x := if q' = 2 ^ 53 then e1 + 1 else e1
    if 971 < x then .inf neg else .fin neg m x

/-- An exact signed integer as `(-1)^neg × n`. -/
def F64.signed (i : Int) (e : Int) : F64 := F64.round (decide (i < 0)) i.natAbs 1 e

/-- The value of an integer. -/
def F64.ofInt (i : Int) : F64 := F64.signed i 0

/-- The value of a ratio of natural numbers. -/
def F64.ratio (n d : Nat) : F64 := F64.round false n d 0

/-- The value with its sign changed. -/
def F64.neg : F64 → F64
  | .fin s m e => .fin (!s) m e
  | .inf s => .inf (!s)
  | .nan => .nan

/-- The magnitude. -/
def F64.abs : F64 → F64
  | .fin _ m e => .fin false m e
  | .inf _ => .inf false
  | .nan => .nan

/-- The signed integer `(-1)^s × m × 2^(e - b)` for `b ≤ e`. -/
def F64.aligned (s : Bool) (m : Nat) (e b : Int) : Int :=
  if s then -((m * 2 ^ (e - b).toNat : Nat) : Int) else ((m * 2 ^ (e - b).toNat : Nat) : Int)

/-- Addition. -/
def F64.add : F64 → F64 → F64
  | .nan, _ => .nan
  | _, .nan => .nan
  | .inf s, .inf t => if s = t then .inf s else .nan
  | .inf s, .fin _ _ _ => .inf s
  | .fin _ _ _, .inf s => .inf s
  | .fin s m e, .fin t n f =>
    let b := min e f
    let sum := F64.aligned s m e b + F64.aligned t n f b
    if sum = 0 then .fin (s && t) 0 (-1074) else F64.signed sum b

/-- Subtraction. -/
def F64.sub (a b : F64) : F64 := F64.add a b.neg

/-- Multiplication. -/
def F64.mul : F64 → F64 → F64
  | .nan, _ => .nan
  | _, .nan => .nan
  | .inf s, .inf t => .inf (xor s t)
  | .inf s, .fin t n _ => if n = 0 then .nan else .inf (xor s t)
  | .fin s m _, .inf t => if m = 0 then .nan else .inf (xor s t)
  | .fin s m e, .fin t n f => F64.round (xor s t) (m * n) 1 (e + f)

/-- Division. -/
def F64.div : F64 → F64 → F64
  | .nan, _ => .nan
  | _, .nan => .nan
  | .inf _, .inf _ => .nan
  | .inf s, .fin t _ _ => .inf (xor s t)
  | .fin s _ _, .inf t => .fin (xor s t) 0 (-1074)
  | .fin s m e, .fin t n f =>
    if n = 0 then (if m = 0 then .nan else .inf (xor s t)) else F64.round (xor s t) m n (e - f)

/-- Greatest `q` below `2^n` with `p q`, given that `p` holds of 0 and of everything below a value it holds of. -/
def bsearch : Nat → (Nat → Bool) → Nat → Nat
  | 0, _, acc => acc
  | n + 1, p, acc => bsearch n p (if p (acc + 2 ^ n) then acc + 2 ^ n else acc)

/-- The integer square root of a number below 2^128. -/
def isqrt (x : Nat) : Nat := bsearch 64 (fun q => q * q ≤ x) 0

/-- Correctly rounded square root. -/
def F64.sqrt : F64 → F64
  | .nan => .nan
  | .inf s => if s then .nan else .inf false
  | .fin s m e =>
    if m = 0 then .fin s 0 (-1074)
    else if s then .nan
    else
      let sh := 2 * ((126 - Nat.log2 m) / 2) + (e % 2).toNat
      let x := m * 2 ^ sh
      let r := isqrt x
      let sticky := if r * r = x then 0 else 1
      F64.round false (2 * r + sticky) 1 ((e - sh) / 2 - 1)

/-- Less than. -/
def F64.lt : F64 → F64 → Bool
  | .nan, _ => false
  | _, .nan => false
  | .inf s, .inf t => s && !t
  | .inf s, .fin _ _ _ => s
  | .fin _ _ _, .inf t => !t
  | .fin s m e, .fin t n f => decide (F64.aligned s m e (min e f) < F64.aligned t n f (min e f))

/-- Less than or equal. -/
def F64.le (a b : F64) : Bool := F64.lt a b || (a != .nan && b != .nan && !F64.lt b a)

/-- The lesser of two values. -/
def F64.min (a b : F64) : F64 := if F64.lt b a then b else a

/-- The greater of two values. -/
def F64.max (a b : F64) : F64 := if F64.lt a b then b else a

/-- The greatest integer not above a finite value; 0 for the others. -/
def F64.floor : F64 → Int
  | .fin s m e =>
    if 0 ≤ e then F64.aligned s m e 0
    else if s then -(((m + 2 ^ (-e).toNat - 1) / 2 ^ (-e).toNat : Nat) : Int)
    else ((m / 2 ^ (-e).toNat : Nat) : Int)
  | _ => 0

/-- `a × 2^k`, exact up to rounding at the ends of the range. -/
def F64.scale (a : F64) (k : Int) : F64 :=
  match a with
  | .fin s m e => F64.round s m 1 (e + k)
  | x => x

/-- One. -/
def f1 : F64 := F64.ofInt 1

/-- Sum of a list in order, from plus zero. -/
def fsum (l : List F64) : F64 := l.foldl F64.add f0

end Sys2Proof.Machine
end

