-- ==== Sys2Proof/Config.lean ====
section
/-! DEFINITION. What the spec leaves to the implementation, as constants without a body: nothing can be proved about their values. -/

namespace Sys2Proof.Config

open Sys2Proof.Machine

/-- The deviation from exact evaluation of a decoded component (R87: at most 1 in the U16 value): 0 for -1, 1 for 0, 2 for +1, as a
function of format, transfer, flags, PQ peak and the code values. -/
opaque decodeDev : Nat → Nat → Nat → Nat → List Nat → Fin 3

/-- The deviation of a raster transfer code from exact evaluation (R191), by transfer, bits and component. -/
opaque rasterDev : Nat → Nat → Nat → Fin 3

/-- The firmware table of the Planckian locus at a temperature in kelvin: u and v of CIE 1960 and the unit normal towards greater v, taken
where it is as accurate as R137 says. -/
opaque cctLocus : Nat → F64 × F64 × F64 × F64

/-- The deviation in seconds, plus 60, of sunrise or sunset on a date (days since 1970-01-01) at a latitude and longitude in µ° (R122: within
60 s). -/
opaque sunDev : Nat → Int → Int → Bool → Fin 121

/-- Sunrise or sunset in UTC seconds on a date at a latitude beyond 65°, for which R122 states no accuracy; none where it finds no event. -/
opaque sunFar : Nat → Int → Int → Bool → Option Nat

/-- A fresh value for each count, where the spec leaves a result undefined. -/
opaque freeNat : Nat → Nat

/-- Fresh bytes of a length for a count. -/
opaque freeBytes : Nat → Nat → List Byte

/-- The device ID of the part, 128 bits (R3). -/
opaque deviceId : BitVec 128

/-- The public key of Camlia and of the fuses that the part is made with (18, 19). -/
opaque fuseKeys : Nat → List Byte

/-- The 64-bit value of an internal register that DIAG REG_READ names, by the count of reads (21 Table 21-6). -/
opaque diagReg : Nat → Nat → Nat

/-- Whether an internal register address that DIAG REG_READ names lies in the island (21 Table 21-6, 18 R428). -/
opaque islandAddr : Nat → Bool

/-- Energy per event [µJ] × 2^16 of a work term, and the static power terms, of the calibrated part (17). -/
opaque workCoef : Nat → Nat

/-- Static power [µW] of a domain at a die temperature [1/16 °C], from the calibration table (17 R385). -/
opaque staticUw : Nat → Int → Nat

/-- The UID with which the node asks as an RDM controller; the spec refers to ANSI E1.20 and states none (07 7.3.1). -/
opaque rdmUid : Nat

/-- The bounds, lower and upper UID, of the branch that a discovery run asks next on a port, by its transaction number; the search is that of
ANSI E1.20 (07 R172). -/
opaque discBranch : Nat → Nat → Nat × Nat

/-- The CID that a node derives from its device ID (07 Table 7-8). -/
opaque sacCid : Nat

/-- The size of the fitted DRAM in MiB (04 R97). -/
opaque dramMib : Nat

/-- The station address of an Ethernet port, derived from the device ID (11 R262). -/
opaque macAddr : Nat → Nat

/-- The Ethernet address of an IPv4 neighbour, as ARP resolves it (07 7.5): the address as a number in record order. -/
opaque neighbourMac : Nat → Nat

/-- The host of an MB2 session on a port before any datagram of it was heard: Ethernet address, IPv4 address and UDP port, the first
highest (R276). -/
opaque mb2Host : Nat → Nat → BitVec 96

/-- The credits that a CREDIT block of a cascade port grants for a class with the SEQ it acknowledges; R348 names no number (15 15.1). -/
opaque creditGrant : Nat → Nat → Nat → Nat

/-- The extended address of a radio port, derived from the device ID (10 10.1). -/
opaque extAddr : Nat → Nat

/-- The priority, 0 to 31, and the FUNCTION code of a thread of the running image (22 R491). -/
opaque threadPrio : Nat → Fin 32

/-- The FUNCTION code of a thread. -/
opaque threadFunction : Nat → Fin 65536

/-- Settings migrated from one schema to another, none where migration fails (19 R443). -/
opaque migrate : Nat → Nat → Store → Option Store

end Sys2Proof.Config
end

