-- ==== Sys2Proof/Machine/CfgContent.lean ====
section
/-! DEFINITION. The parameters and tables of canvases, layers, fixtures, strands and level sources (04 Table 4-6, 05 Table 5-9). -/

namespace Sys2Proof.Machine

/-! ### 05: location -/

/-- DEV_LATITUDE (Table 5-9). -/
def devLatitude : ParamRow := { id := 0x0420, ty := .s 4, lo := -90000000, hi := 90000000 }
/-- DEV_LONGITUDE (Table 5-9). -/
def devLongitude : ParamRow := { id := 0x0421, ty := .s 4, lo := -180000000, hi := 180000000 }
/-- DEV_UTC_TAI (Table 5-9). -/
def devUtcTai : ParamRow := { id := 0x0422, ty := .u 1, hi := 255, reset := 37 }
/-- DEV_TZ_OFFSET (Table 5-9). -/
def devTzOffset : ParamRow := { id := 0x0423, ty := .s 2, lo := -720, hi := 840 }

/-! ### 04: canvases and layers -/

/-- CNV_ENABLE (Table 4-6). -/
def cnvEnable : ParamRow := { id := 0x1000, ty := .u 1, hi := 1, inst := 4 }
/-- CNV_WIDTH (Table 4-6). -/
def cnvWidth : ParamRow := { id := 0x1001, ty := .u 2, lo := 1, hi := 8192, reset := 1920, inst := 4 }
/-- CNV_HEIGHT (Table 4-6). -/
def cnvHeight : ParamRow := { id := 0x1002, ty := .u 2, lo := 1, hi := 8192, reset := 1080, inst := 4 }
/-- CNV_BG (Table 4-6): bits 63 to 48 are reserved, checked beside the range. -/
def cnvBg : ParamRow := { id := 0x1003, ty := .u 8, hi := 18446744073709551615, inst := 4 }
/-- CNV_CAPTURE (Table 4-6). -/
def cnvCapture : ParamRow := { id := 0x1004, ty := .u 1, hi := 1, inst := 4 }
/-- CNV_RING_A_MIB (Table 4-6). -/
def cnvRingAMib : ParamRow := { id := 0x1005, ty := .u 2, lo := 64, hi := 8192, reset := 512 }
/-- CNV_RING_B_MIB (Table 4-6). -/
def cnvRingBMib : ParamRow := { id := 0x1006, ty := .u 2, lo := 64, hi := 8192, reset := 512 }
/-- CNV_REWIND_DEPTH (Table 4-6). -/
def cnvRewindDepth : ParamRow := { id := 0x1007, ty := .u 1, hi := 255, reset := 8 }
/-- CNV_SCENE_MIB (Table 4-6). -/
def cnvSceneMib : ParamRow := { id := 0x1008, ty := .u 2, hi := 8192, reset := 256 }
/-- CNV_SCENE_STORE (Table 4-6): slots of varying length, held apart (R98). -/
def cnvSceneStore : TableSpec := { id := 0x1009, size := 64, count := 256 }
/-- CNV_SACN_MAP (Table 4-2). -/
def cnvSacnMap : TableSpec where
  id := 0x100A
  size := 16
  count := 4096
  flds := [fB 0 2 0 63999, fB 2 2 1 512, fB 4 2 1 512, fE 7 1 [1, 2, 3]]
  resv := [(6, 4, 2), (12, 0, 32)]
  inUse := fun r => u16At r 0 ≠ 0
  extra := fun _ r =>
    let n := if byteAt r 7 = 1 then 3 else if byteAt r 7 = 2 then 6 else 4
    if 513 < u16At r 2 + u16At r 4 * n then some .eRange else none
/-- CNV_RING_COUNTERS (Table 4-6). -/
def cnvRingCounters : TableSpec := { id := 0x100B, size := 24, count := 2, edge := false, ro := true }
/-- CNV_DRAM_PIX (Table 4-6). -/
def cnvDramPix : ParamRow := { id := 0x100C, ty := .u 8, hi := 18446744073709551615, edge := false, ro := true, all := false }
/-- CNV_DRAM_OVER (Table 4-6). -/
def cnvDramOver : ParamRow := { id := 0x100D, ty := .u 4, hi := 4294967295, edge := false, ro := true, all := false }
/-- CNV_CAPTURE_MISSED (Table 4-6). -/
def cnvCaptureMissed : ParamRow := { id := 0x100E, ty := .u 4, hi := 4294967295, edge := false, ro := true, all := false }

/-- LAY_ENABLE (Table 4-6). -/
def layEnable : ParamRow := { id := 0x1400, ty := .u 1, hi := 1, inst := 64 }
/-- LAY_SOURCE (Table 4-6). -/
def laySource : ParamRow := { id := 0x1401, ty := .u 1, hi := 3, inst := 64 }
/-- LAY_SCENE_SLOT (Table 4-6). -/
def laySceneSlot : ParamRow := { id := 0x1402, ty := .u 1, hi := 255, inst := 64 }
/-- LAY_X (Table 4-6). -/
def layX : ParamRow := { id := 0x1403, ty := .s 2, lo := -8191, hi := 8191, inst := 64 }
/-- LAY_Y (Table 4-6). -/
def layY : ParamRow := { id := 0x1404, ty := .s 2, lo := -8191, hi := 8191, inst := 64 }
/-- LAY_WIDTH (Table 4-6). -/
def layWidth : ParamRow := { id := 0x1405, ty := .u 2, lo := 1, hi := 8192, reset := 1920, inst := 64 }
/-- LAY_HEIGHT (Table 4-6). -/
def layHeight : ParamRow := { id := 0x1406, ty := .u 2, lo := 1, hi := 8192, reset := 1080, inst := 64 }
/-- LAY_BLEND (Table 4-6). -/
def layBlend : ParamRow := { id := 0x1407, ty := .u 1, hi := 2, inst := 64 }
/-- LAY_OPACITY (Table 4-6). -/
def layOpacity : ParamRow := { id := 0x1408, ty := .u 2, hi := 65535, reset := 65535, inst := 64 }
/-- LAY_PQ_PEAK (Table 4-6). -/
def layPqPeak : ParamRow := { id := 0x1409, ty := .u 2, lo := 100, hi := 10000, reset := 1000, inst := 64 }
/-- LAY_IN_TRANSFER (Table 4-6). -/
def layInTransfer : ParamRow := { id := 0x140A, ty := .u 1, hi := 3, inst := 64 }
/-- LAY_LOSS_FRAMES (Table 4-6). -/
def layLossFrames : ParamRow := { id := 0x140B, ty := .u 2, hi := 65535, reset := 120, inst := 64 }
/-- LAY_STATE (Table 4-6). -/
def layState : ParamRow := { id := 0x140C, ty := .u 1, hi := 3, edge := false, ro := true, inst := 64 }

/-! ### 05: fixtures and strands -/

/-- FIX_TABLE (Table 5-1); FAULT is node-maintained, and TEMP unless TSRC is 0b11 (R107). -/
def fixTable : TableSpec where
  id := 0x1800
  size := 32
  count := 131072
  flds := [fB 13 1 0 200, fB 14 1 0 200, fB 15 1 0 200, fb 16 0 16 0 4095]
  resv := [(1, 5, 3), (3, 5, 1), (4, 7, 1), (5, 3, 1), (5, 7, 1), (7, 4, 4), (12, 4, 4), (19, 4, 4), (22, 1, 7), (24, 5, 3),
    (30, 0, 16)]
  extra := fun _ r =>
    if bitsAt r 192 2 = 3 ∧ (s16At r 26 < -640 ∨ 3200 < s16At r 26) then some .eRange else none
  kept := fun r => 0xFFFF * 2 ^ 224 + if bitsAt r 192 2 = 3 then 0 else 0xFFFF * 2 ^ 208
/-- FIX_ZONESET (Table 5-9); set 0 is fixed at 0. -/
def fixZoneset : TableSpec :=
  { id := 0x1801, size := 8, count := 256, extra := fun i _ => if i = 0 then some .eParam else none }
/-- FIX_ZONE (Table 5-9). -/
def fixZone : TableSpec := { id := 0x1802, size := 4, count := 64, resv := [(0, 7, 1), (1, 0, 24)] }
/-- FIX_SACN_SET (Table 5-6). -/
def fixSacnSet : TableSpec where
  id := 0x1803
  size := 8
  count := 4096
  flds := [fB 0 2 0 63999, fB 2 2 1 512, fE 4 1 [1, 2, 3, 4]]
  resv := [(5, 0, 24)]
  inUse := fun r => u16At r 0 ≠ 0
  extra := fun _ r =>
    let n := if byteAt r 4 = 1 then 1 else if byteAt r 4 = 2 then 2 else if byteAt r 4 = 3 then 3 else 6
    if 513 < u16At r 2 + n then some .eRange else none
/-- FIX_CUE (Table 5-7). -/
def fixCue : TableSpec where
  id := 0x1804
  size := 32
  count := 8192
  flds := [fB 0 2 0 1023, fE 2 1 [0, 1, 2], fE 3 1 [1, 2], fB 4 4 0 131071, fB 8 4 0 131072]
  resv := [(20, 3, 5), (21, 0, 88)]
  inUse := fun r => byteAt r 2 ≠ 0
  extra := fun _ r =>
    if byteAt r 2 = 2 ∧ (u16At r 14 ≠ 0 ∨ u16At r 16 ≠ 0) then some .eRange
    else if byteAt r 3 = 1 then if u32At r 8 = 0 ∨ 131072 < u32At r 4 + u32At r 8 then some .eRange else none
    else if 63 < u32At r 4 ∨ u32At r 8 ≠ 0 then some .eRange else none
  idle := fun r => idleRanges [
    (u32At r 4, decide (byteAt r 3 ≠ 2) || decide (u32At r 4 ≤ 63)),
    (u32At r 8, decide (byteAt r 3 ≠ 2) && decide (u32At r 4 + u32At r 8 ≤ 131072))]
/-- FIX_SCHEDULE (Table 5-8). -/
def fixSchedule : TableSpec where
  id := 0x1805
  size := 32
  count := 1024
  flds := [fB 0 1 0 4, fE 1 1 [1, 2, 3], fB 2 2 0 1023, fB 16 4 0 999999999]
  resv := [(4, 7, 1), (5, 3, 5), (6, 0, 16), (20, 0, 96)]
  inUse := fun r => byteAt r 0 ≠ 0
  extra := fun _ r =>
    if byteAt r 0 = 1 then none
    else if u32At r 16 ≠ 0 then some .eRange
    else if byteAt r 0 = 2 then if 86400 ≤ u64At r 8 then some .eRange else none
    else if signedOf 64 (u64At r 8) < -43200 ∨ 43200 < signedOf 64 (u64At r 8) then some .eRange else none
/-- FIX_SCENE_RECALL (Table 5-9): the values with reserved bits are checked beside the range. -/
def fixSceneRecall : ParamRow := { id := 0x1806, ty := .u 2, hi := 0x83FF, wo := true }
/-- FIX_FAULT_CLEAR (Table 5-9). -/
def fixFaultClear : ParamRow := { id := 0x1807, ty := .u 4, hi := 131071, wo := true, all := false }
/-- FIX_SCHED_STATE (Table 5-9). -/
def fixSchedState : ParamRow := { id := 0x1808, ty := .u 1, hi := 1, reset := 1, edge := false, ro := true }
/-- FIX_SOLAR (Table 5-9). -/
def fixSolar : TableSpec := { id := 0x1809, size := 16, count := 2, edge := false, ro := true }
/-- FIX_CUE_SKIPPED (Table 5-9). -/
def fixCueSkipped : ParamRow := { id := 0x180A, ty := .u 4, hi := 4294967295, edge := false, ro := true, all := false }
/-- FIX_FLOOR_SET (Table 14-3). -/
def fixFloorSet : ParamRow := { id := 0x180E, ty := .u 2, hi := 65535, wo := true, all := false, zone := true }
/-- FIX_ENABLE_SET (Table 14-3). -/
def fixEnableSet : ParamRow := { id := 0x180F, ty := .u 1, hi := 1, wo := true, all := false, zone := true }
/-- STD_TABLE (Table 5-2, R111): a record of TYPE NONE holds nothing but KIND; COUNT, CANVAS, ROW_LEN, PIXPATH and MODEL belong to a
PIXEL strand of TYPE 0x1 to 0x3, X0 and Y0 to a PIXEL strand of any TYPE. -/
def stdTable : TableSpec where
  id := 0x1C00
  size := 16
  count := 65536
  flds := [fb 0 0 4 0 7]
  resv := [(5, 7, 1), (7, 5, 3), (9, 5, 3), (11, 5, 3), (15, 4, 4)]
  inUse := fun _ => true
  extra := fun _ r =>
    let ty := bitsAt r 0 4
    let pixel := bitAt r 4
    let endpoint := u16At r 2
    let start := bitsAt r 48 13 + bitsAt r 64 13
    let wire := bitsAt r 32 13 + bitsAt r 45 2 + bitsAt r 80 13 + byteAt r 13 + bitsAt r 112 12
    if ty = 0 then if r / 32 ≠ 0 then some .eParam else none
    else if pixel ∧ (ty = 4 ∨ ty = 5 ∨ ty = 7) ∨ !pixel ∧ ty = 6 then some .eParam
    else if ty = 5 ∧ bitsAt r 28 2 ≠ 0 ∨ ty = 6 ∧ bitsAt r 20 11 ≠ 0 then some .eParam
    else if !(pixel ∧ ty < 4) ∧ wire ≠ 0 ∨ !pixel ∧ start ≠ 0 then some .eParam
    else if pixel ∧ ty < 4 ∧ (bitsAt r 32 13 = 0 ∨ 4096 < bitsAt r 32 13 ∨ bitsAt r 80 13 = 0 ∨ 4096 < bitsAt r 80 13) then some .eRange
    else if ty = 1 ∧ 63 < endpoint ∨ ty = 2 ∧ 15 < endpoint ∨ ty = 3 ∧ (endpoint = 0 ∨ 63999 < endpoint) ∨ ty = 4 ∧ 7 < endpoint ∨
      ty = 7 ∧ 47 < endpoint then some .eRange
    else none

/-! ### Field readers -/

/-- FIX_TABLE ENABLE (Table 5-1). -/
def fxEnable (r : Nat) : Bool := bitAt r 40
/-- FIX_TABLE CIVIC. -/
def fxCivic (r : Nat) : Bool := bitAt r 41
/-- FIX_TABLE OWNER. -/
def fxOwner (r : Nat) : Nat := bitsAt r 44 3
/-- FIX_TABLE CANVAS. -/
def fxCanvas (r : Nat) : Nat := bitsAt r 30 2
/-- FIX_TABLE POS_X. -/
def fxX (r : Nat) : Nat := bitsAt r 0 13
/-- FIX_TABLE POS_Y. -/
def fxY (r : Nat) : Nat := bitsAt r 16 13
/-- Footprint width in pixels. -/
def fxW (r : Nat) : Nat := bitsAt r 32 3 + 1
/-- Footprint height in pixels. -/
def fxH (r : Nat) : Nat := bitsAt r 35 3 + 1
/-- FIX_TABLE MODEL. -/
def fxModel (r : Nat) : Nat := bitsAt r 48 12
/-- FIX_TABLE STRAND. -/
def fxStrand (r : Nat) : Nat := u16At r 8
/-- FIX_TABLE SLOT. -/
def fxSlot (r : Nat) : Nat := u16At r 10
/-- FIX_TABLE SACN_SET. -/
def fxSacnSet (r : Nat) : Nat := u16At r 16
/-- FIX_TABLE ZONESET. -/
def fxZoneset (r : Nat) : Nat := byteAt r 18
/-- FIX_TABLE FLOOR. -/
def fxFloor (r : Nat) : Nat := u16At r 20
/-- FIX_TABLE CURVE. -/
def fxCurve (r : Nat) : Nat := byteAt r 23
/-- FIX_TABLE TSRC. -/
def fxTsrc (r : Nat) : Nat := bitsAt r 192 2
/-- FIX_TABLE TSNS. -/
def fxTsns (r : Nat) : Nat := bitsAt r 194 3
/-- FIX_TABLE TMODEL. -/
def fxTmodel (r : Nat) : Nat := byteAt r 25
/-- FIX_TABLE FAULT. -/
def fxFault (r : Nat) : Nat := u16At r 28
/-- STD_TABLE TYPE (Table 5-2). -/
def stType (r : Nat) : Nat := bitsAt r 0 4
/-- STD_TABLE KIND is PIXEL. -/
def stPixel (r : Nat) : Bool := bitAt r 4
/-- STD_TABLE ENDPOINT. -/
def stEnd (r : Nat) : Nat := u16At r 2
/-- STD_TABLE COUNT. -/
def stCount (r : Nat) : Nat := bitsAt r 32 13
/-- STD_TABLE CANVAS. -/
def stCanvas (r : Nat) : Nat := bitsAt r 45 2
/-- STD_TABLE X0. -/
def stX0 (r : Nat) : Nat := bitsAt r 48 13
/-- STD_TABLE Y0. -/
def stY0 (r : Nat) : Nat := bitsAt r 64 13
/-- STD_TABLE ROW_LEN. -/
def stRowLen (r : Nat) : Nat := bitsAt r 80 13
/-- STD_TABLE ZONESET. -/
def stZoneset (r : Nat) : Nat := byteAt r 12
/-- STD_TABLE PIXPATH. -/
def stPixpath (r : Nat) : Nat := byteAt r 13
/-- STD_TABLE MODEL. -/
def stModel (r : Nat) : Nat := bitsAt r 112 12
/-- STD_TABLE OWNER. -/
def stOwner (r : Nat) : Nat := bitsAt r 8 3

/-- The enabled fixtures of a store, in ascending index. -/
def Store.fixtures (c : Store) : List (Nat × Nat) :=
  (c.listed fixTable).filterMap fun i => if fxEnable (c.row fixTable i) then some (i, c.row fixTable i) else none

/-- The strands of a store whose TYPE is not NONE, in ascending index. -/
def Store.strands (c : Store) : List (Nat × Nat) :=
  (c.listed stdTable).filterMap fun i => if stType (c.row stdTable i) ≠ 0 then some (i, c.row stdTable i) else none

/-- The strand that names an endpoint, if any (R111). -/
def Store.strandOf (c : Store) (ty endpoint : Nat) : Option (Nat × Nat) :=
  c.strands.find? fun x => stType x.2 = ty ∧ stEnd x.2 = endpoint

/-- The pixel position of pixel `i` of a PIXEL strand (R114). -/
def pixelPos (r i : Nat) : Int × Int :=
  let row := i / stRowLen r
  let c0 := i % stRowLen r
  let c := if bitAt r 7 ∧ row % 2 = 1 then stRowLen r - 1 - c0 else c0
  let dir := bitsAt r 5 2
  let major : Int := if dir % 2 = 0 then c else -(c : Int)
  let minor : Int := if bitAt r 15 then -(row : Int) else row
  if dir < 2 then (stX0 r + major, stY0 r + minor) else (stX0 r + minor, stY0 r + major)

end Sys2Proof.Machine
end

