-- ==== Sys2Proof/Machine/CfgFoade.lean ====
section
/-! DEFINITION. The parameters and tables of the Foade colour engine (06 Table 6-12) and the fill of response curves (R154). -/

namespace Sys2Proof.Machine

/-- CNV_COLOUR_SPACE (Table 6-2). -/
def cnvColourSpace : ParamRow := { id := 0x100F, ty := .u 1, hi := 4, inst := 4 }
/-- The reset record of CNV_PRIMARIES: the BT.709 values (Table 6-12). -/
def primaries709 : Nat :=
  41943 + 21627 * 2 ^ 16 + 19661 * 2 ^ 32 + 39322 * 2 ^ 48 + 9830 * 2 ^ 64 + 3932 * 2 ^ 80 + 20493 * 2 ^ 96 + 21561 * 2 ^ 112
/-- CNV_PRIMARIES (R135). -/
def cnvPrimaries : TableSpec where
  id := 0x1010
  size := 16
  count := 4
  reset := fun _ => primaries709
  extra := fun _ r =>
    let x (i : Nat) : Int := u16At r (4 * i)
    let y (i : Nat) : Int := u16At r (4 * i + 2)
    if (List.range 4).any (fun i => y i = 0 ∨ 65536 ≤ x i + y i) then some .eRange
    else if (x 1 - x 0) * (y 2 - y 0) - (x 2 - x 0) * (y 1 - y 0) = 0 then some .eRange else none
/-- CNV_LUMA (Table 6-12). -/
def cnvLuma : TableSpec := { id := 0x1011, size := 12, count := 4, edge := false, ro := true }
/-- FIX_SOLVE_UNCONV (Table 6-12). -/
def fixSolveUnconv : ParamRow := { id := 0x180B, ty := .u 4, hi := 131072, edge := false, ro := true, all := false }
/-- FIX_GAMUT_CLIPPED (Table 6-12). -/
def fixGamutClipped : ParamRow := { id := 0x180C, ty := .u 4, hi := 131072, edge := false, ro := true, all := false }
/-- FIX_DARK (Table 6-12). -/
def fixDark : ParamRow := { id := 0x180D, ty := .u 4, hi := 131072, edge := false, ro := true, all := false }
/-- STD_PIXPATH (Table 6-8): identity rows and TS_BASE 32,768 at reset. -/
def stdPixpath : TableSpec where
  id := 0x1C01
  size := 32
  count := 256
  flds := [fB 30 2 0 32768]
  reset := fun _ => 0x4000 + 0x4000 * 2 ^ 64 + 0x4000 * 2 ^ 128 + 32768 * 2 ^ 240

/-- Emitter entry `n` of a model record (Table 6-6). -/
def emitter (r n : Nat) : Nat := bitsAt r (8 * (32 + 14 * n)) 112
/-- EMITTERS of a model record (Table 6-5). -/
def mdEmitters (r : Nat) : Nat := bitsAt r 0 5
/-- An emitter's chromaticity at a coefficient point in 1/65,536, from its shifts (Table 6-6: 1/8,192 is 8/65,536). -/
def shiftedXY (e : Nat) (hi : Bool) : Int × Int :=
  let dx := signedOf 8 (byteAt e (if hi then 11 else 10))
  let dy := signedOf 8 (byteAt e (if hi then 13 else 12))
  ((u16At e 0 : Int) + 8 * dx, (u16At e 2 : Int) + 8 * dy)
/-- MOD_TABLE (Tables 6-5, 6-6, R141). -/
def modTable : TableSpec where
  id := 0x2000
  size := 256
  count := 4096
  flds := [fb 0 0 5 1 16, fB 6 2 1 65535, fB 8 2 1 65535, fS 10 2 (-640) 399, fS 12 2 401 3200, fS 14 2 (-640) 3200]
  resv := [(0, 5, 3), (1, 0, 8), (20, 0, 96)]
  inUse := fun r => mdEmitters r ≠ 0
  extra := fun _ r =>
    if (List.range 16).any (fun n => mdEmitters r ≤ n ∧ emitter r n ≠ 0) then some .eParam
    else if u16At r 4 = 0 ∨ 65536 ≤ u16At r 2 + u16At r 4 then some .eRange
    else if (List.range (mdEmitters r)).any (fun n =>
      u16At (emitter r n) 4 = 0 ∨ u16At (emitter r n) 2 = 0 ∨
      [false, true].any (fun h => (shiftedXY (emitter r n) h).2 ≤ 0 ∨
        65536 ≤ (shiftedXY (emitter r n) h).1 + (shiftedXY (emitter r n) h).2)) then some .eRange
    else none
/-- CUR_DEF (Table 6-11): POWER with γ 1.0 at reset. -/
def curDef : TableSpec where
  id := 0x2400
  size := 8
  count := 256
  flds := [fB 0 1 0 3]
  resv := [(1, 0, 8), (4, 0, 32)]
  reset := fun _ => 1 + 0x0100 * 65536
  extra := fun _ r =>
    if byteAt r 0 = 1 then if u16At r 2 < 0x100 ∨ 0x300 < u16At r 2 then some .eRange else none
    else if u16At r 2 ≠ 0 then some .eRange else none
/-- CUR_DATA (Table 6-12), entry curve × 4,096 + i; the identity at reset. -/
def curData : TableSpec := { id := 0x2401, size := 2, count := 1048576, reset := fun i => 16 * (i % 4096) }
/-- DER_THERMAL (Table 6-10). -/
def derThermal : TableSpec where
  id := 0x2800
  size := 16
  count := 256
  flds := [fB 0 4 100 3600000, fB 4 2 1 65535, fS 8 2 (-640) 3200]
  resv := [(6, 4, 4), (7, 0, 8), (10, 0, 48)]
  inUse := fun r => u32At r 0 ≠ 0
/-- DER_TSNS (6.7). -/
def derTsns : TableSpec where
  id := 0x2801
  size := 8
  count := 8
  flds := [fB 0 2 1000 10000, fB 2 2 100 65535]
  resv := [(4, 0, 32)]
  inUse := fun r => u16At r 0 ≠ 0
/-- DER_TSNS_TEMP (Table 6-12). -/
def derTsnsTemp : TableSpec := { id := 0x2802, size := 2, count := 8, edge := false, ro := true }
/-- DER_TEL_STALE (Table 6-12). -/
def derTelStale : ParamRow := { id := 0x2803, ty := .u 2, lo := 10, hi := 3600, reset := 600 }
/-- DER_FALLBACK_TEMP (Table 6-12). -/
def derFallbackTemp : ParamRow := { id := 0x2804, ty := .s 2, lo := -640, hi := 3200, reset := 960 }
/-- DER_DITHER (Table 6-12). -/
def derDither : ParamRow := { id := 0x2805, ty := .u 1, hi := 1, reset := 1 }

/-- Entry `i` of a POWER curve of γ = g/256: the greatest q with (q - 1/2)/65,536 ≤ (i/4,096)^(256/g), at most 65,535 (R154). -/
def powerEntry (g i : Nat) : Nat :=
  if g = 256 then 16 * i
  else bsearchC 16 (fun q => (2 * q - 1) ^ g * 4096 ^ 256 ≤ i ^ 256 * 131072 ^ g)
where
  /-- Greatest q below 2^n for which the test holds, 0 where it holds of none above 0. -/
  bsearchC (n : Nat) (p : Nat → Bool) : Nat := go n p 0
  go : Nat → (Nat → Bool) → Nat → Nat
    | 0, _, acc => acc
    | n + 1, p, acc => go n p (if p (acc + 2 ^ n) then acc + 2 ^ n else acc)

/-- Entry `i` of a DALI_LOG curve (R154): 257 n, where n is the arc level whose half-step bounds hold x. -/
def daliEntry (i : Nat) : Nat :=
  if i ≤ 2 then 0
  else 257 * max 1 (min 254 (powerEntry.bsearchC 8 (fun m =>
    if m < 2 then true else 10 ^ (3 * (2 * m - 3)) * 4096 ^ 506 ≤ (1000 * i) ^ 506)))

/-- Entry `i` of a CIE_LSTAR curve (R154). -/
def lstarEntry (i : Nat) : Nat :=
  if 216 * 4096 < 24389 * i then
    powerEntry.bsearchC 16 (fun q =>
      -- x^(1/3) ≥ ((q - 1/2) × 100/65,536 + 16)/116
      ((2 * q - 1) * 100 + 16 * 131072) ^ 3 * 4096 ≤ i * (116 * 131072) ^ 3)
  else min 65535 ((65536 * 24389 * i * 2 + 2700 * 4096) / (2 * 2700 * 4096))

/-- Entry `i` of the curve that a CUR_DEF record defines (R154). -/
def curveEntry (def_ i : Nat) : Nat :=
  if byteAt def_ 0 = 1 then powerEntry (u16At def_ 2) i
  else if byteAt def_ 0 = 2 then daliEntry i
  else lstarEntry i

/-- Entry `i` of curve `n` as the store holds it. -/
def Store.curve (c : Store) (n i : Nat) : Nat := c.row curData (n * 4096 + i)

/-- The store with curve `n` filled by its definition, where that is not CUSTOM (R154). -/
def Store.fillCurve (c : Store) (n : Nat) : Store :=
  if byteAt (c.row curDef n) 0 = 0 then c
  else (List.range 4096).foldl (fun c' i => c'.setRow curData (n * 4096 + i) (curveEntry (c.row curDef n) i)) c

end Sys2Proof.Machine
end

