-- ==== Sys2Proof/Machine/CfgOutputs.lean ====
section
/-! DEFINITION. The parameters and tables of strand pins, DMX, DALI, sACN and raster ports, and the sums their rules check (07
Table 7-8, 08 Table 8-7). -/

namespace Sys2Proof.Machine

/-! ### 07: strand pins -/

/-- MODE of a record whose byte 0 is MODE. -/
def modeOf (r : Nat) : Nat := byteAt r 0
/-- NFIELD of SPN_PIN (Table 7-2). -/
def spNfield (r : Nat) : Nat := bitsAt r 96 4
/-- SRC, width and CONST of field `i` of SPN_PIN. -/
def spField (r i : Nat) : Nat × Nat × Nat :=
  (bitsAt r (128 + 16 * i) 4, bitsAt r (132 + 16 * i) 4 + 1, bitsAt r (136 + 16 * i) 8)
/-- The fields of a pin record in order of transmission. -/
def spFields (r : Nat) : List (Nat × Nat × Nat) := (List.range (spNfield r)).map (spField r)
/-- F_e, the emitter fields of a pin record (R163). -/
def spEmitters (r : Nat) : Nat := ((spFields r).filter fun f => f.1 < 4).length
/-- BPP, bits per wire pixel (R163). -/
def spBpp (r : Nat) : Nat := ((spFields r).map fun f => f.2.1).foldl (· + ·) 0
/-- A field descriptor whose SRC is reserved, whose width its SRC does not take, or whose CONST is not one of its width (Table 7-2). -/
def spFieldOff (f : Nat × Nat × Nat) : Bool :=
  decide (4 < f.1) || (f.1 != 4 && (decide (f.2.1 < 8) || f.2.2 != 0)) || (f.1 == 4 && (decide (8 < f.2.1) || decide (2 ^ f.2.1 ≤ f.2.2)))
/-- A field descriptor at or beyond NFIELD is not 0 (Table 7-2). -/
def spBeyond (r : Nat) : Bool := (List.range 8).any fun k => decide (spNfield r ≤ k) && bitsAt r (128 + 16 * k) 16 != 0
/-- SPN_PIN (Table 7-2, R163). While a record is OFF, TBIT, T0H and T1H that are not 0 lie in the range that some MODE gives them. -/
def spnPin : TableSpec where
  id := 0x2C00
  size := 32
  count := 64
  flds := [fB 0 1 0 2, fB 8 4 1000 1000000, fb 12 0 4 1 8, fB 13 1 0 128, fB 14 2 0 4096]
  resv := [(1, 4, 4), (12, 4, 4)]
  inUse := fun r => modeOf r ≠ 0
  extra := fun i r =>
    let t := u16At r 2
    if modeOf r = 2 ∧ i % 2 = 1 ∨ spBeyond r then some .eParam
    else if modeOf r = 1 ∧ (t < 400 ∨ 2500 < t ∨ u16At r 4 < 100 ∨ u16At r 6 ≤ u16At r 4 ∨ t < u16At r 6 + 100) then some .eRange
    else if modeOf r = 2 ∧ (t < 20 ∨ 5000 < t ∨ u16At r 4 ≠ 0 ∨ u16At r 6 ≠ 0) then some .eRange
    else if (spFields r).any spFieldOff ∨ 64 < spBpp r then some .eRange
    else if (List.range (spEmitters r)).any (fun e => ((spFields r).filter fun f => f.1 = e).length ≠ 1) then some .eParam
    else none
  idle := fun r =>
    let t := u16At r 2
    if spBeyond r then some .eParam
    else idleRanges [
      (t, decide (20 ≤ t) && decide (t ≤ 5000)),
      (u16At r 4, decide (100 ≤ u16At r 4) && decide (u16At r 4 < u16At r 6)),
      (u16At r 6, decide (u16At r 4 < u16At r 6) && decide (u16At r 6 + 100 ≤ t)),
      (1, (List.range 8).all fun k => bitsAt r (128 + 16 * k) 16 == 0 || !spFieldOff (spField r k))]
/-- SPN_TX_TIME (Table 7-8). -/
def spnTxTime : TableSpec := { id := 0x2C01, size := 4, count := 64, edge := false, ro := true }
/-- t_tx in ns of a pin record that sends `n` wire pixels (R165). -/
def spTtx (r n : Nat) : Nat :=
  (byteAt r 13 + n * spBpp r + u16At r 14) * (if modeOf r = 2 then 2 * u16At r 2 else u16At r 2) + u32At r 8

/-! ### 07: DMX -/

/-- DMX_PORT (Table 7-3). -/
def dmxPort : TableSpec where
  id := 0x3000
  size := 16
  count := 16
  flds := [fB 0 1 0 2, fB 2 2 1 513, fB 4 2 92 1000, fB 6 2 12 1000, fB 8 2 0 100, fB 10 1 1 8, fB 12 2 1 3600]
  resv := [(1, 1, 7), (11, 0, 8), (14, 0, 16)]
  inUse := fun r => modeOf r ≠ 0
/-- t_dmx in ns (R168). -/
def dmxTime (r : Nat) : Nat := 1000 * (u16At r 4 + u16At r 6 + u16At r 2 * 44 + (u16At r 2 - 1) * u16At r 8)
/-- DMX_RDM_REQ (Table 7-8, Table 7-4). -/
def dmxRdmReq : ParamRow := { id := 0x3001, ty := .u 48, hi := 2 ^ 384 - 1, edge := false, wo := true, all := false }
/-- DMX_RDM_RESP (Table 7-8). -/
def dmxRdmResp : TableSpec := { id := 0x3002, size := 236, count := 256, edge := false, ro := true }
/-- DMX_RDM_DISC (Table 7-8). -/
def dmxRdmDisc : ParamRow := { id := 0x3003, ty := .u 2, lo := 1, hi := 65535, edge := false, wo := true, all := false }
/-- DMX_RDM_UID (Table 7-8). -/
def dmxRdmUid : TableSpec := { id := 0x3004, size := 8, count := 8192, edge := false, ro := true }
/-- DMX_RDM_TEL (R173). -/
def dmxRdmTel : TableSpec where
  id := 0x3005
  size := 16
  count := 1024
  flds := [fB 0 4 0 131071]
  resv := [(14, 0, 16)]
  inUse := fun r => r ≠ 0
/-- DMX_COUNTERS (Table 7-8). -/
def dmxCounters : TableSpec := { id := 0x3006, size := 16, count := 16, edge := false, ro := true }

/-! ### 07: DALI -/

/-- DAL_BUS (Table 7-5). -/
def dalBus : TableSpec where
  id := 0x3400
  size := 8
  count := 8
  flds := [fB 0 1 0 1, fb 1 0 3 1 5, fB 2 2 1 3600]
  resv := [(1, 4, 4), (4, 0, 32)]
  inUse := fun r => modeOf r ≠ 0
/-- DAL_ADDR (Table 7-6): CHANNELS 1 at reset. -/
def dalAddr : TableSpec where
  id := 0x3401
  size := 4
  count := 512
  flds := [fb 0 0 3 1 6]
  resv := [(0, 6, 2), (3, 0, 8)]
  reset := fun _ => 1
/-- DAL_CMD (Table 7-8). -/
def dalCmd : ParamRow := { id := 0x3402, ty := .u 4, hi := 4294967295, edge := false, wo := true, all := false }
/-- DAL_ADDRESS_RUN (Table 7-8). -/
def dalAddressRun : ParamRow := { id := 0x3403, ty := .u 2, hi := 65535, edge := false, wo := true, all := false }
/-- DAL_FOUND (Table 7-8). -/
def dalFound : TableSpec := { id := 0x3404, size := 4, count := 512, edge := false, ro := true }
/-- DAL_COUNTERS (Table 7-8). -/
def dalCounters : TableSpec := { id := 0x3405, size := 12, count := 8, edge := false, ro := true }

/-! ### 07: sACN -/

/-- SAC_UNIV (Table 7-7). -/
def sacUniv : TableSpec where
  id := 0x3C00
  size := 16
  count := 32768
  flds := [fB 0 2 0 63999, fb 2 0 2 1 3, fB 3 1 0 200, fB 4 2 1 512, fB 7 1 1 255]
  resv := [(2, 2, 6), (6, 2, 6), (12, 0, 32)]
  inUse := fun r => u16At r 0 ≠ 0
/-- SAC_CID (Table 7-8): derived from the device ID at reset. -/
def sacCid : TableSpec := { id := 0x3C01, size := 16, count := 1, reset := fun _ => Config.sacCid }
/-- SAC_NAME (Table 7-8): "ITS-7200" at reset. -/
def sacName : TableSpec := { id := 0x3C02, size := 64, count := 1, reset := fun _ => 0x303032372D535449 }
/-- SAC_LEAD (Table 7-8). -/
def sacLead : ParamRow := { id := 0x3C03, ty := .u 2, hi := 5000, reset := 500 }
/-- SAC_SYNC_UNIV (Table 7-8). -/
def sacSyncUniv : ParamRow := { id := 0x3C04, ty := .u 2, hi := 63999 }
/-- SAC_REV (Table 7-8). -/
def sacRev : ParamRow := { id := 0x3C05, ty := .u 1, hi := 1 }
/-- SAC_IP (Table 7-8). -/
def sacIp : ParamRow := { id := 0x3C06, ty := .u 1, hi := 1 }
/-- SAC_TTL (Table 7-8). -/
def sacTtl : ParamRow := { id := 0x3C07, ty := .u 1, lo := 1, hi := 255, reset := 16 }
/-- SAC_DSCP (Table 7-8). -/
def sacDscp : ParamRow := { id := 0x3C08, ty := .u 1, hi := 63 }
/-- SAC_LATE (Table 7-8). -/
def sacLate : ParamRow := { id := 0x3C09, ty := .u 4, hi := 4294967295, edge := false, ro := true, all := false }

/-! ### 08: raster ports -/

/-- RAS_PORT (Table 8-1): LWM 3 and PQ_PEAK 1,000 at reset. -/
def rasPort : TableSpec where
  id := 0x4000
  size := 32
  count := 2
  flds := [fB 0 1 0 2, fE 1 1 [1, 2, 3, 4, 5], fb 2 0 4 0 3, fB 3 1 1 7, fB 4 2 1 8192, fB 6 2 1 8192, fB 8 4 22 10000000,
    fB 12 2 100 10000]
  resv := [(2, 4, 4), (14, 0, 16), (22, 0, 16), (24, 0, 64)]
  inUse := fun r => modeOf r ≠ 0
  reset := fun _ => 3 * 2 ^ 24 + 1000 * 2 ^ 96
/-- RAS_REGION (Table 8-2): whether a record is in use is the strands' matter (R516), checked in validation. -/
def rasRegion : TableSpec where
  id := 0x4001
  size := 16
  count := 32
  flds := [fB 2 2 0 8191, fB 4 2 0 8191, fB 6 2 1 8192, fB 8 2 1 8192]
  resv := [(0, 2, 6), (1, 0, 8), (10, 0, 48)]
  inUse := fun _ => false
/-- RAS_COUNTERS (Table 8-7). -/
def rasCounters : TableSpec := { id := 0x4002, size := 20, count := 2, edge := false, ro := true }
/-- RAS_PKT_TIME (Table 8-7). -/
def rasPktTime : TableSpec := { id := 0x4003, size := 4, count := 2, edge := false, ro := true }

/-- ACTIVE_W of a port record. -/
def rsW (r : Nat) : Nat := u16At r 4
/-- ACTIVE_H of a port record. -/
def rsH (r : Nat) : Nat := u16At r 6
/-- LINE_TIME of a port record [ns]. -/
def rsLine (r : Nat) : Nat := u32At r 8
/-- Code bits and bytes per pixel of a FORMAT (Table 8-4). -/
def rsFormat (f : Nat) : Nat × Nat :=
  if f = 1 then (8, 3) else if f = 2 then (10, 4) else if f = 3 then (12, 6) else if f = 4 then (16, 6) else (16, 8)
/-- P_b, payload blocks of a line packet (8.2). -/
def rsPb (r : Nat) : Nat := (rsW r * (rsFormat (byteAt r 1)).2 + 7) / 8
/-- N_slot of a line packet (8.2). -/
def rsSlots (r : Nat) : Nat := (7 + rsPb r + 3) / 4 + 1
/-- t_pkt in units of 10 ps: N_slot × 5.28 ns. -/
def rsPkt (r : Nat) : Nat := rsSlots r * 528

/-- The regions of a port in use: strand, its record and the region record (8.1). -/
def Store.regions (c : Store) (port : Nat) : List (Nat × Nat × Nat) :=
  c.strands.filterMap fun x =>
    if stType x.2 = 6 ∧ stEnd x.2 / 32768 = port then some (x.1, x.2, c.row rasRegion (port * 16 + stEnd x.2 % 16)) else none

/-! ### Emitter packing -/

/-- Data slots that one emitter takes on a DMX port or sACN universe. -/
def slotWidth (slot16 : Bool) : Nat := if slot16 then 2 else 1

/-- The SAC_UNIV record of a universe, with its index. -/
def Store.univ (c : Store) (u : Nat) : Option (Nat × Nat) :=
  ((c.listed sacUniv).find? fun i => u16At (c.row sacUniv i) 0 = u).map fun i => (i, c.row sacUniv i)

/-- b of emitter `n` of an endpoint (R132): the width of the field into which the encoder packs it. `pos` is the channel or slot. -/
def Store.fieldBits (c : Store) (ty endpoint pos : Nat) : Nat :=
  if ty = 1 then
    let r := c.row spnPin endpoint
    match (spFields r).find? fun f => f.1 = pos % max 1 (spEmitters r) with
    | some f => f.2.1
    | none => 16
  else if ty = 2 then 8 * slotWidth (bitAt (c.row dmxPort endpoint) 8)
  else if ty = 3 then
    match c.univ endpoint with
    | some x => 8 * slotWidth (bitAt x.2 48)
    | none => 8
  else 16

/-- Dithering applies to an endpoint (R156). -/
def ditherable (ty : Nat) : Bool := ty = 1 || ty = 2 || ty = 3 || ty = 7

/-- N, the wire pixels of a strand pin (R164). -/
def Store.wirePixels (c : Store) (pin : Nat) : Nat :=
  match c.strandOf 1 pin with
  | none => 0
  | some (i, r) =>
    if stPixel r then stCount r
    else
      let fe := max 1 (spEmitters (c.row spnPin pin))
      (c.fixtures.foldl (fun m x =>
        if fxStrand x.2 = i then max m ((fxSlot x.2 + mdEmitters (c.row modTable (fxModel x.2)) + fe - 1) / fe) else m) 0)

end Sys2Proof.Machine
end

