-- ==== Sys2Proof/Machine/CfgDrive.lean ====
section
/-! DEFINITION. The parameters and tables of direct drive, the matrix and lamp diagnosis (09 Table 9-5). -/

namespace Sys2Proof.Machine

/-- DRV_CHAN (Table 9-1, R210). -/
def drvChan : TableSpec where
  id := 0x4400
  size := 16
  count := 48
  flds := [fB 0 1 0 2, fB 2 2 0 1000, fB 8 1 0 250, fB 9 1 0 250, fb 10 0 2 0 2, fb 10 2 2 0 2, fB 12 2 100 900]
  resv := [(1, 4, 4), (10, 4, 4), (11, 0, 8), (14, 0, 16)]
  inUse := fun r => modeOf r ≠ 0
  extra := fun _ r =>
    let p := u32At r 4
    if byteAt r 9 < byteAt r 8 then some .eRange
    else if modeOf r = 1 ∧ (p < 31250 ∨ 10000000 < p ∨ p ≤ u16At r 2) then some .eRange
    else if modeOf r = 2 ∧ (p < 16 ∨ 10000 < p) then some .eRange else none
  idle := fun r =>
    let p := u32At r 4
    idleRanges [(p, (decide (16 ≤ p) && decide (p ≤ 10000)) || (decide (31250 ≤ p) && decide (p ≤ 10000000))),
      (byteAt r 9, decide (byteAt r 8 ≤ byteAt r 9))]
/-- DRV_MATRIX (Table 9-2, R216). -/
def drvMatrix : TableSpec where
  id := 0x4401
  size := 32
  count := 1
  flds := [fB 0 1 0 2, fB 1 1 1 16, fB 2 1 1 32, fB 4 4 2000 1000000, fB 8 2 100 50000, fB 10 1 0 250, fB 11 1 0 250,
    fb 12 0 2 0 2, fb 12 2 2 0 2, fB 14 2 100 900]
  resv := [(3, 5, 3), (12, 4, 4), (13, 0, 8), (16, 0, 128)]
  inUse := fun r => modeOf r ≠ 0
  extra := fun _ r =>
    if byteAt r 11 < byteAt r 10 then some .eRange
    else if byteAt r 1 * u32At r 4 < 31250 ∨ u32At r 4 ≤ 2 * u16At r 8 then some .eRange else none
  idle := fun r => idleRanges [(byteAt r 11, decide (byteAt r 10 ≤ byteAt r 11))]
/-- DRV_DIAG_STALE (Table 9-5). -/
def drvDiagStale : ParamRow := { id := 0x4402, ty := .u 2, lo := 1, hi := 65535, reset := 240 }
/-- DRV_GLINT_INTERVAL (Table 9-5). -/
def drvGlintInterval : ParamRow := { id := 0x4403, ty := .u 2, lo := 1, hi := 65535, reset := 120 }
/-- DRV_DIAG_CONFIRM (Table 9-5). -/
def drvDiagConfirm : ParamRow := { id := 0x4404, ty := .u 1, lo := 1, hi := 16, reset := 3 }
/-- DRV_STATUS (Table 9-5). -/
def drvStatus : TableSpec := { id := 0x4405, size := 16, count := 560, edge := false, ro := true }
/-- DRV_COUNTERS (Table 9-5). -/
def drvCounters : TableSpec := { id := 0x4406, size := 16, count := 1, edge := false, ro := true }
/-- DRV_LEVEL (Table 9-5). -/
def drvLevel : TableSpec := { id := 0x4407, size := 2, count := 48 }

/-- ROWS and COLS of the matrix, 0 while it is off. -/
def Store.matrixSize (c : Store) : Nat × Nat :=
  let r := c.row drvMatrix 0
  if modeOf r = 0 then (0, 0) else (byteAt r 1, byteAt r 2)

/-- The matrix claims a channel (R208). -/
def Store.matrixClaims (c : Store) (ch : Nat) : Bool :=
  decide (ch < c.matrixSize.2) || (decide (32 ≤ ch) && decide (ch < 32 + c.matrixSize.1))

/-- Whether an endpoint of a TYPE 0x7 strand is a matrix row (R208). -/
def Store.matrixRow (c : Store) (endpoint : Nat) : Bool := decide (32 ≤ endpoint) && decide (endpoint < 32 + c.matrixSize.1)

/-- The measured point of emitter `n` of a fixture on a TYPE 0x7 strand: a channel, or 48 + row × 32 + column (Table 9-5). -/
def Store.pointOf (c : Store) (fx n : Nat) : Nat :=
  let e := stEnd (c.row stdTable (fxStrand fx))
  if c.matrixRow e then 48 + (e - 32) * 32 + fxSlot fx + n else fxSlot fx + n

/-- The fixtures on direct drive with the points they take: (point, fixture, emitter) (R214, R221). -/
def Store.points (c : Store) : List (Nat × Nat × Nat) :=
  c.fixtures.flatMap fun x =>
    if stType (c.row stdTable (fxStrand x.2)) = 7 then
      (List.range (mdEmitters (c.row modTable (fxModel x.2)))).map fun n => (c.pointOf x.2 n, x.1, n)
    else []

/-- The fixture emitter that takes a point. -/
def Store.taker (c : Store) (p : Nat) : Option (Nat × Nat) := (c.points.find? fun x => x.1 = p).map (·.2)

/-- The sense parameters of a point: (SENSE, GLINT, GLINT_AT_ZERO, TH_LO, TH_HI, BANDS, BLANK ns). -/
def Store.sense (c : Store) (p : Nat) : Bool × Bool × Bool × Nat × Nat × Nat × Nat :=
  if p < 48 then
    let r := c.row drvChan p
    (modeOf r ≠ 0 && bitAt r 9, bitAt r 10, bitAt r 11, byteAt r 8, byteAt r 9, byteAt r 10, u16At r 12)
  else
    let r := c.row drvMatrix 0
    (modeOf r ≠ 0 && bitAt r 26, bitAt r 27, bitAt r 28, byteAt r 10, byteAt r 11, byteAt r 12, u16At r 14)

/-- n_on of a period in steps of 62.5 ps (R211); `minOn` in ns. -/
def pwmOn (out periodNs minOn : Nat) : Nat :=
  let p16 := periodNs * 16
  let n := if out = 65535 then p16 else (out * p16 + 32768) / 65536
  let n := if n < minOn * 16 then 0 else n
  if p16 - n < minOn * 16 then p16 else n

/-- One slot of the PDM modulator (R212): the new accumulator and whether the slot is on. -/
def pdmSlot (acc out : Nat) : Nat × Bool := ((acc + out) % 65536, decide (65535 < acc + out))

/-- The class of a sample in units of 10 mV: 0 OK, 1 OPEN, 2 SHORT (Table 9-1). -/
def sampleClass (thLo thHi bands code : Nat) : Nat :=
  if code < thLo then bitsAt bands 0 2 else if thHi < code then bitsAt bands 2 2 else 0

end Sys2Proof.Machine
end

