-- ==== Sys2Proof/Machine/CfgRadio.lean ====
section
/-! DEFINITION. The parameters and tables of the radio ports and their sums (10 Table 10-9). -/

namespace Sys2Proof.Machine

/-- The reset record of RAD_PORT (Table 10-9). -/
def radPortReset : Nat :=
  2200 * 2 ^ 64 + 4400 * 2 ^ 80 + 1000 * 2 ^ 96 + 400 * 2 ^ 112 + 100 * 2 ^ 160 + 20 * 2 ^ 176 + 40 * 2 ^ 192 + 5 * 2 ^ 240 +
    2 * 2 ^ 248
/-- RAD_PORT (Table 10-1). -/
def radPort : TableSpec where
  id := 0x4800
  size := 32
  count := 4
  flds := [fB 0 1 0 1, fE 1 1 [1, 2, 3], fB 2 2 50 400, fB 4 1 4 64, fB 5 1 10 127, fB 6 2 1000 25000, fB 8 2 500 20000,
    fB 10 2 200 40000, fB 12 2 100 5000, fB 14 2 100 5000, fB 20 2 10 10000, fB 22 1 1 100, fB 23 1 1 128, fB 24 2 1 65535,
    fB 26 2 0 0xFFFE, fB 28 2 16 511, fb 30 0 3 1 7, fB 31 1 0 3]
  resv := [(30, 3, 5)]
  inUse := fun r => modeOf r ≠ 0
  reset := fun _ => radPortReset
  extra := fun _ r =>
    if 2 * u16At r 8 < u16At r 10 then some .eRange
    else if byteAt r 1 = 3 ∧ u16At r 2 ≠ 250 then some .eRange else none
  idle := fun r => idleRanges [(u16At r 10, decide (u16At r 10 ≤ 2 * u16At r 8)), (u16At r 2, byteAt r 1 != 3 || u16At r 2 == 250)]
/-- RAD_TIMESLOT (Table 10-9). -/
def radTimeslot : ParamRow := { id := 0x4801, ty := .u 2, lo := 5000, hi := 40000, reset := 10000 }
/-- RAD_ASN_EPOCH (Table 10-9). -/
def radAsnEpoch : ParamRow := { id := 0x4802, ty := .time }
/-- RAD_HOP (R233). -/
def radHop : TableSpec := { id := 0x4803, size := 2, count := 512, resv := [(1, 3, 5)] }
/-- RAD_SLOTFRAME (10.3). -/
def radSlotframe : TableSpec :=
  { id := 0x4804, size := 8, count := 32, resv := [(2, 0, 48)], inUse := fun r => u16At r 0 ≠ 0 }
/-- A cell record is in use: anything beyond GEN is set. -/
def cellUsed (r : Nat) : Bool := r / 65536 ≠ 0
/-- RAD_CELL (Table 10-3, R235); GEN is node-maintained. -/
def radCell : TableSpec where
  id := 0x4805
  size := 16
  count := 65536
  flds := [fB 6 1 0 127, fB 7 1 0 2]
  resv := [(2, 3, 5), (3, 6, 2), (10, 0, 48)]
  inUse := cellUsed
  extra := fun _ r =>
    if bitsAt r 24 2 = 0 then some .eParam
    else if bitAt r 29 ∧ !(bitAt r 26 ∧ bitAt r 25) then some .eParam
    else if byteAt r 7 = 1 ∧ !bitAt r 24 then some .eParam
    else if 4095 < u16At r 8 ∧ u16At r 8 ≠ 0xFFFF then some .eRange else none
/-- The node-maintained bits of a neighbour record: STATE, KEY_GEN, LAST_DSN, LAST_FC and OFFSET_EST (R237). -/
def neighKept : Nat := 0xFF * 2 ^ 8 + 0xFFFF * 2 ^ 128 + 0xFF * 2 ^ 144 + 0xFFFFFFFFFFFFFFFF * 2 ^ 160
/-- RAD_NEIGH (Table 10-4): not a table of Table 0-7, so its ranges bind a record with ADMIT 0 as well. -/
def radNeigh : TableSpec where
  id := 0x4806
  size := 32
  count := 16384
  flds := [fB 12 2 1 0xFFFD, fB 14 2 16 511]
  resv := [(0, 2, 6), (2, 3, 5), (3, 0, 8), (19, 0, 8), (28, 0, 32)]
  kept := fun _ => neighKept
/-- RAD_NEIGH_STATUS (Table 10-9). -/
def radNeighStatus : TableSpec := { id := 0x4807, size := 16, count := 16384, edge := false, ro := true }
/-- RAD_BAND (Table 10-6). -/
def radBand : TableSpec where
  id := 0x4808
  size := 8
  count := 8
  flds := [fB 0 2 1 10000]
  resv := [(2, 1, 7), (3, 0, 40)]
  reset := fun i => [10, 100, 100, 10, 1000, 100, 10000, 10000].getD i 0 + (if i < 6 then 65536 else 0)
/-- RAD_BAND_USE (Table 10-9). -/
def radBandUse : TableSpec := { id := 0x4809, size := 4, count := 8, edge := false, ro := true }
/-- RAD_ACT_DELAY (Table 10-9). -/
def radActDelay : ParamRow := { id := 0x480A, ty := .u 4, hi := 60000, reset := 500 }
/-- RAD_MAX_RETRIES (Table 10-9). -/
def radMaxRetries : ParamRow := { id := 0x480B, ty := .u 1, hi := 7, reset := 3 }
/-- RAD_TX (Table 10-9): a record whose size its payload sets. -/
def radTx : ParamRow := { id := 0x480C, ty := .u 8, edge := false, wo := true, all := false }
/-- RAD_XCVR (Table 10-2). -/
def radXcvr : TableSpec where
  id := 0x480D
  size := 8
  count := 256
  flds := [fB 0 1 0 5, fb 2 0 2 0 2]
  resv := [(2, 2, 6), (3, 0, 8)]
/-- RAD_COUNTERS (Table 10-9). -/
def radCounters : TableSpec := { id := 0x480E, size := 56, count := 4, edge := false, ro := true }
/-- RAD_EXT_ADDR (Table 10-9). -/
def radExtAddr : TableSpec := { id := 0x480F, size := 8, count := 4, edge := false, ro := true }
/-- RAD_ASN (Table 10-9). -/
def radAsn : ParamRow := { id := 0x4810, ty := .u 8, hi := 1099511627775, edge := false, ro := true }

/-- Airtime of a PSDU in µs, rounded up as in Example 10-1 down (R248): (OVERHEAD + PSDU) × 8 / RATE ms. -/
def airtime (port psdu : Nat) : Nat := (byteAt port 4 + psdu) * 8 * 1000 / max 1 (u16At port 2)
/-- A frame fits a slot (R255): PSDU bytes and whether it asks for an acknowledgement; times in µs. -/
def fitsSlot (port slot psdu : Nat) (ack : Bool) : Bool :=
  if ack then decide (u16At port 8 + airtime port psdu + u16At port 12 + u16At port 14 + airtime port (byteAt port 5) ≤ slot)
  else decide (u16At port 8 + airtime port psdu ≤ slot)
/-- Bytes of the MIC at a security level: 8 at levels 5 and 6 as Example 10-1 shows for level 5, the rest those of IEEE 802.15.4.
PRESUMED, log entry 40. Unsafe. -/
def micBytes (level : Nat) : Nat :=
  if level = 0 ∨ level = 4 then 0 else if level = 1 then 4 else if level = 2 ∨ level = 5 ∨ level = 6 then 8 else 16
/-- PSDU bytes of a command frame with a payload (10.7 Example 10-1: 15 + 6 header bytes, the MIC and 4 of FCS). -/
def commandPsdu (port payload : Nat) : Nat := 15 + 6 + payload + micBytes (bitsAt port 240 3) + 4
/-- The greatest PSDU of a PHY (R255). -/
def maxPsdu (port : Nat) : Nat := if byteAt port 1 = 3 then 127 else 2047

end Sys2Proof.Machine
end

