-- ==== Sys2Proof/Machine/CfgEth.lean ====
section
/-! DEFINITION. The parameters and tables of the Ethernet MACs and their sums (11 Table 11-6). -/

namespace Sys2Proof.Machine

/-- The reset record of ETH_PORT: 10GBASE_R, PAUSE_RX, MAX_FRAME 1,522, PAUSE_WD 2,000, PAUSE_QUANTA 65,535, PAUSE_IGNORE 1,000 (Table
11-6). -/
def ethPortReset : Nat := 2 + 0x02 * 2 ^ 8 + 1522 * 2 ^ 16 + 2000 * 2 ^ 32 + 65535 * 2 ^ 48 + 1000 * 2 ^ 64
/-- ETH_PORT (Table 11-1). -/
def ethPort : TableSpec where
  id := 0x3800
  size := 16
  count := 2
  flds := [fB 0 1 0 2, fB 2 2 1518 9600, fB 4 2 100 60000, fB 6 2 1 65535, fB 8 2 1 60000, fb 10 0 12 0 4094, fb 12 0 12 0 4094]
  resv := [(1, 5, 3), (11, 4, 4), (13, 4, 4), (14, 3, 5), (15, 0, 8)]
  inUse := fun r => modeOf r ≠ 0
  reset := fun i => ethPortReset + (if i = 0 then 2 ^ 96 else 0)
  extra := fun _ r =>
    if bitsAt r 80 12 ≠ 0 ∧ bitsAt r 96 12 = bitsAt r 80 12 then some .eConflict
    else if modeOf r = 2 ∧ bitAt r 8 then some .eParam else none
/-- ETH_IP (R275). -/
def ethIp : TableSpec where
  id := 0x3801
  size := 32
  count := 4
  flds := [fB 4 1 0 32, fB 5 1 0 128]
  resv := [(6, 0, 16), (12, 0, 32)]
/-- ETH_FILTER (Table 11-4). -/
def ethFilter : TableSpec where
  id := 0x3802
  size := 16
  count := 128
  flds := [fB 0 1 0 2, fb 4 0 12 0 4094, fB 8 2 0x600 65535]
  resv := [(1, 3, 5), (2, 6, 2), (3, 0, 8), (5, 4, 4), (6, 3, 5), (12, 0, 32)]
  inUse := fun r => byteAt r 0 ≠ 0
  extra := fun _ r =>
    if bitAt r 21 ∧ (bitAt r 16 ∨ bitAt r 17) then some .eParam
    else if bitAt r 20 ∧ !(bitAt r 19 ∧ byteAt r 7 = 17) then some .eParam else none
/-- ETH_MCAST (Table 11-6). -/
def ethMcast : TableSpec := { id := 0x3803, size := 6, count := 64 }
/-- ETH_MAC_ADDR (Table 11-6). -/
def ethMacAddr : TableSpec := { id := 0x3804, size := 6, count := 2, edge := false, ro := true }
/-- ETH_LINK (Table 11-6). -/
def ethLink : TableSpec := { id := 0x3805, size := 1, count := 2, edge := false, ro := true }
/-- ETH_COUNTERS (Table 11-6): nineteen U32. -/
def ethCounters : TableSpec := { id := 0x3806, size := 76, count := 2, edge := false, ro := true }

/-- MAX_FRAME of a port record. -/
def epMax (r : Nat) : Nat := u16At r 2
/-- DATA_VID of a port record. -/
def epData (r : Nat) : Nat := bitsAt r 80 12
/-- MGMT_VID of a port record. -/
def epMgmt (r : Nat) : Nat := bitsAt r 96 12
/-- Time of one byte on the wire in units of 1/65,536 ns: 8 ns at 1000BASE-X, 0.8 ns at 10GBASE-R. -/
def byteTimeNum (r : Nat) : Nat := if modeOf r = 1 then 8 * ns else 8 * ns / 10
/-- Wire time of `n` bytes: n × 8 bits over the line rate, in units of 1/65,536 ns, rounded up. -/
def wireTime (r n : Nat) : Nat := if modeOf r = 1 then n * 8 * ns else (n * 8 * ns + 9) / 10
/-- Time of `q` pause quanta: 512 bit times each (R271). -/
def quantaTime (r q : Nat) : Nat := wireTime r (q * 64)
/-- t_quiet of a port (R182). -/
def quietTime (r : Nat) : Nat := wireTime r (epMax r + 20)

end Sys2Proof.Machine
end

