-- ==== Sys2Proof/Machine/CfgSys.lean ====
section
/-! DEFINITION. The parameters and tables of the stack, redundancy, energy, security, update, recorder rate, fabric and calibration
chapters (14 Table 14-5, 15 Table 15-5, 16 Table 16-4, 17 Table 17-5, 18 Table 18-11, 19 Table 19-7, 20 Table 20-6, 22 Table 22-3),
and the event codes of 20 Table 20-5. -/

namespace Sys2Proof.Machine

/-! ### 15: stack -/

/-- STK_INDEX (Table 14-5). -/
def stkIndex : ParamRow := { id := 0x5000, ty := .u 1, hi := 31, edge := false, ro := true, all := false }
/-- STK_NODES (Table 14-5). -/
def stkNodes : ParamRow := { id := 0x5001, ty := .u 1, lo := 1, hi := 32, reset := 1, edge := false, ro := true }
/-- STK_PROTO (Table 14-5). -/
def stkProto : ParamRow := { id := 0x5002, ty := .u 2, hi := 65535, edge := false, ro := true }
/-- STK_PORT (Table 15-5). -/
def stkPort : TableSpec where
  id := 0x5003
  size := 8
  count := 2
  flds := [fS 0 4 (-100000) 100000]
  resv := [(4, 0, 32)]
/-- STK_LINK (Table 15-5). -/
def stkLink : TableSpec := { id := 0x5004, size := 8, count := 2, edge := false, ro := true }
/-- STK_REACH (Table 15-5). -/
def stkReach : ParamRow := { id := 0x5005, ty := .u 4, hi := 4294967295, reset := 1, edge := false, ro := true }
/-- STK_CONTENT (Table 15-4). -/
def stkContent : TableSpec where
  id := 0x5006
  size := 16
  count := 8
  resv := [(0, 1, 7), (1, 4, 2), (2, 0, 16), (8, 0, 64)]
  inUse := fun r => bitAt r 0
/-- STK_ROLE_WAIT (Table 15-5). -/
def stkRoleWait : ParamRow := { id := 0x5007, ty := .u 2, lo := 500, hi := 10000, reset := 2000, all := false }
/-- STK_EDGE_OFFSET (Table 15-5). -/
def stkEdgeOffset : ParamRow :=
  { id := 0x5008, ty := .s 8, lo := -9223372036854775808, hi := 9223372036854775807, edge := false, ro := true, all := false }
/-- STK_COUNTERS (Table 15-5). -/
def stkCounters : TableSpec := { id := 0x5009, size := 24, count := 2, edge := false, ro := true }

/-! ### 16: redundancy -/

/-- RED_MODE (Table 14-5). -/
def redMode : ParamRow := { id := 0x5400, ty := .u 1, hi := 1 }
/-- RED_LEASE_LEN (Table 14-5); 0 means three declared periods. -/
def redLeaseLen : ParamRow := { id := 0x5401, ty := .u 4, hi := 1000000 }
/-- RED_LEASE_GUARD (Table 14-5). -/
def redLeaseGuard : ParamRow := { id := 0x5402, ty := .u 4, hi := 100000, reset := 1000 }
/-- RED_ROLE (Table 14-5). -/
def redRole : ParamRow := { id := 0x5403, ty := .u 1, hi := 2, edge := false, ro := true }
/-- RED_SWITCH (Table 16-4). -/
def redSwitchP : ParamRow := { id := 0x5404, ty := .u 1, lo := 1, hi := 1, wo := true, all := false }
/-- RED_FIT (Table 16-4). -/
def redFit : ParamRow := { id := 0x5405, ty := .u 1, hi := 3, reset := 3, edge := false, ro := true }
/-- RED_UNFIT_TAKE (Table 16-4). -/
def redUnfitTake : ParamRow := { id := 0x5406, ty := .u 1, hi := 1, reset := 1 }
/-- RED_UNFIT_CLEAR (Table 16-4). -/
def redUnfitClearP : ParamRow := { id := 0x5407, ty := .u 1, lo := 1, hi := 1, wo := true, all := false }
/-- RED_PEER_STATUS (Table 16-4): 48 bytes as the table gives them. -/
def redPeerStatus : TableSpec := { id := 0x5408, size := 48, count := 1, edge := false, ro := true }
/-- RED_LAST_ACTIVE (Table 16-4). -/
def redLastActive : ParamRow := { id := 0x5409, ty := .time, edge := false, ro := true, all := false }
/-- RED_TEST_DAYS (Table 16-4). -/
def redTestDays : ParamRow := { id := 0x540A, ty := .u 2, lo := 1, hi := 365, reset := 30 }
/-- RED_COUNTERS (Table 16-4). -/
def redCounters : TableSpec := { id := 0x540B, size := 20, count := 1, edge := false, ro := true }

/-! ### 17: energy and reservations -/

/-- ENG_BUDGET_MW (Table 14-5); its upper bound is ENG_CAP_MW as well. -/
def engBudget : ParamRow := { id := 0x5800, ty := .u 4, lo := 1000, hi := 24000, reset := 24000 }
/-- ENG_WINDOW (Table 14-5). -/
def engWindow : ParamRow := { id := 0x5801, ty := .u 4, lo := 1, hi := 86400, reset := 60 }
/-- ENG_CAP_MW (Table 14-5). -/
def engCap : ParamRow := { id := 0x5802, ty := .u 4, lo := 1000, hi := 24000, reset := 24000 }
/-- ENG_LEDGER (Table 17-5). -/
def engLedger : TableSpec := { id := 0x5803, size := 48, count := 1, edge := false, ro := true }
/-- ENG_HISTORY (Table 17-5). -/
def engHistory : TableSpec := { id := 0x5804, size := 16, count := 10080, edge := false, ro := true }
/-- ENG_PLAN (Table 17-5). -/
def engPlan : TableSpec := { id := 0x5805, size := 32, count := 1, edge := false, ro := true }
/-- ENG_SHED_STEP (Table 17-5). -/
def engShedStep : ParamRow := { id := 0x5806, ty := .u 1, hi := 12, edge := false, ro := true }
/-- ENG_RATE_DIV (Table 17-5). -/
def engRateDiv : ParamRow := { id := 0x5807, ty := .u 1, lo := 1, hi := 8, reset := 1, edge := false, ro := true }
/-- ENG_COUNTERS (Table 17-5). -/
def engCounters : TableSpec := { id := 0x5808, size := 16, count := 1, edge := false, ro := true }
/-- TEN_RESERVE (Table 17-4, R402). -/
def tenReserve : TableSpec where
  id := 0x5C02
  size := 16
  count := 8
  flds := [fE 1 1 [0, 1, 2, 4, 8], fB 4 4 0 1006632960, fB 8 4 0 1966080]
  resv := [(0, 4, 4), (2, 0, 16), (12, 0, 32)]
/-- TEN_RESERVE_USE (Table 17-5). -/
def tenReserveUse : TableSpec := { id := 0x5C03, size := 8, count := 8, edge := false, ro := true }

/-! ### 18: security -/

/-- SEC_LIFECYCLE (Table 14-5). -/
def secLifecycle : ParamRow := { id := 0x6000, ty := .u 1, hi := 4, edge := false, ro := true }
/-- SEC_COUNTER (Table 14-5). -/
def secCounter : ParamRow := { id := 0x6001, ty := .u 8, hi := 18446744073709551615, edge := false, ro := true, all := false }
/-- SEC_TAMPERED (Table 14-5). -/
def secTampered : ParamRow := { id := 0x6002, ty := .u 1, hi := 1, edge := false, ro := true }
/-- SEC_SLOT (Table 18-5). -/
def secSlot : TableSpec := { id := 0x6003, size := 16, count := 512, edge := false, ro := true }
/-- SEC_IDENTITY (Table 18-11). -/
def secIdentity : TableSpec := { id := 0x6004, size := 104, count := 1, edge := false, ro := true }
/-- SEC_SESSION (Table 18-10, R426): not a table of Table 0-7, so its ranges bind a record with ENABLE 0 as well. -/
def secSession : TableSpec where
  id := 0x6005
  size := 16
  count := 64
  edge := false
  flds := [fB 0 4 1 4294967295, fB 5 1 1 4, fB 6 2 16 511, fB 8 2 16 511]
  resv := [(4, 3, 5), (10, 4, 4), (11, 0, 40)]
  extra := fun _ r => if u16At r 6 = u16At r 8 then some .eParam else none
/-- SEC_TAMPER (R420). -/
def secTamper : TableSpec where
  id := 0x6006
  size := 4
  count := 4
  edge := false
  flds := [fB 0 1 0 3, fB 1 1 0 100]
  resv := [(2, 0, 16)]
  inUse := fun r => byteAt r 0 ≠ 0
/-- SEC_TAMPER_SAMPLE (Table 18-11). -/
def secTamperSample : ParamRow := { id := 0x6007, ty := .u 2, lo := 1, hi := 1000, reset := 32, edge := false, all := false }
/-- SEC_EVAL (Table 18-11). -/
def secEval : ParamRow := { id := 0x6008, ty := .u 1, hi := 1, edge := false, all := false }
/-- SEC_STATUS (Table 18-11). -/
def secStatus : ParamRow := { id := 0x6009, ty := .u 1, hi := 2, edge := false, ro := true }
/-- SEC_COUNTERS (Table 18-11). -/
def secCounters : TableSpec := { id := 0x600A, size := 16, count := 1, edge := false, ro := true }

/-! ### 19: update -/

/-- UPD_STATE (Table 14-5). -/
def updState : ParamRow := { id := 0x6400, ty := .u 1, hi := 8, edge := false, ro := true }
/-- UPD_CONFIRM_S (Table 14-5). -/
def updConfirmS : ParamRow := { id := 0x6401, ty := .u 2, lo := 30, hi := 3600, reset := 300 }
/-- UPD_MANIFEST (Table 19-7). -/
def updManifest : TableSpec := { id := 0x6402, size := 96, count := 2, edge := false, ro := true }
/-- UPD_ACTIVE_SET (Table 19-7). -/
def updActiveSet : ParamRow := { id := 0x6403, ty := .u 1, hi := 1, edge := false, ro := true }
/-- UPD_PROGRESS (Table 19-7). -/
def updProgress : TableSpec := { id := 0x6404, size := 40, count := 1, edge := false, ro := true }
/-- UPD_ACT_FRAME (Table 19-7). -/
def updActFrame : ParamRow := { id := 0x6405, ty := .u 8, hi := 18446744073709551615, edge := false, ro := true }
/-- UPD_TRIAL (Table 19-7). -/
def updTrial : TableSpec := { id := 0x6406, size := 8, count := 1, edge := false, ro := true }
/-- UPD_SVN_FLOOR (Table 19-7). -/
def updSvnFloor : ParamRow := { id := 0x6407, ty := .u 2, hi := 65535, edge := false, ro := true }
/-- UPD_COUNTERS (Table 19-7). -/
def updCounters : TableSpec := { id := 0x6408, size := 16, count := 1, edge := false, ro := true }

/-! ### 20: events -/

/-- The events of Table 20-5 that are written, each with its log and severity; the codes of the recorder itself and those that are
only causes are left out. -/
def eventRows : List (Nat × Nat × Nat) :=
  [(0x0101, 0, 1), (0x0102, 0, 1), (0x0103, 0, 1), (0x0104, 0, 1), (0x0105, 0, 1), (0x0106, 0, 1), (0x0107, 3, 1), (0x0108, 3, 1),
   (0x0201, 0, 1), (0x0202, 0, 1), (0x0203, 5, 1), (0x0301, 0, 0), (0x0302, 0, 1), (0x0303, 1, 2), (0x0304, 1, 1), (0x0305, 1, 2),
   (0x0401, 1, 1), (0x0402, 1, 2), (0x0403, 3, 1), (0x0501, 1, 1), (0x0601, 1, 2), (0x0602, 1, 2), (0x0603, 1, 1), (0x0604, 1, 1),
   (0x0701, 2, 1), (0x0702, 2, 0), (0x0703, 2, 2), (0x0704, 2, 2), (0x0801, 3, 1), (0x0802, 3, 0), (0x0803, 3, 1)]
  ++ [(0x0901, 3, 1), (0x0902, 3, 2), (0x0903, 3, 2), (0x0904, 3, 2), (0x0905, 3, 2), (0x0906, 3, 2), (0x0907, 3, 2), (0x0908, 3, 1),
   (0x0A01, 0, 2), (0x0A02, 0, 1), (0x0A03, 0, 1), (0x0A04, 0, 1), (0x0A05, 0, 0), (0x0A06, 0, 2), (0x0B01, 5, 1), (0x0B02, 5, 0),
   (0x0B03, 5, 1), (0x0B04, 5, 1), (0x0C01, 4, 0), (0x0C02, 4, 2), (0x0C03, 4, 2), (0x0D01, 6, 3), (0x0D02, 6, 3), (0x0D03, 6, 1),
   (0x0D04, 6, 0), (0x0D05, 6, 0), (0x0D06, 6, 0), (0x0D07, 6, 0), (0x0E01, 7, 3), (0x0E02, 7, 0), (0x0F01, 0, 2)]

/-- The log and severity of an event code (R463). -/
def eventRow (code : Nat) : Option (Nat × Nat) :=
  firstSome (fun x => if x.1 = code then some (x.2.1, x.2.2) else none) eventRows

/-- LOG_RATE (Table 20-3). -/
def logRate : TableSpec where
  id := 0x6801
  size := 8
  count := 64
  flds := [fB 2 1 1 255, fB 4 2 1 3600]
  resv := [(3, 0, 8), (6, 0, 16)]
  inUse := fun r => u16At r 0 ≠ 0
  extra := fun _ r =>
    let c := u16At r 0
    if c = 1 ∨ c = 2 ∨ c = 3 ∨ (0x0B10 ≤ c ∧ c ≤ 0x0B17) then some .eParam
    else match eventRow c with
      | none => some .eRange
      | some (l, _) => if 6 ≤ l then some .eParam else none

/-! ### 22: fabric, calibration, scheduler -/

/-- DIA_FABRIC (Table 22-3). -/
def diaFabric : TableSpec := { id := 0x7005, size := 8, count := 1, edge := false, ro := true }
/-- DIA_TRACE (Table 22-3). -/
def diaTrace : TableSpec where
  id := 0x7006
  size := 8
  count := 1
  edge := false
  flds := [fB 0 1 0 1, fB 3 1 0 31]
  resv := [(1, 0, 1), (1, 7, 1), (2, 4, 4), (4, 0, 32)]
  reset := fun _ => 0x7E * 2 ^ 8 + 0x0F * 2 ^ 16
/-- DIA_THREADS (Table 22-3). -/
def diaThreads : TableSpec := { id := 0x7007, size := 16, count := 256, edge := false, ro := true }
/-- CAL_INTERVAL (Table 14-5). -/
def calInterval : ParamRow := { id := 0x7400, ty := .u 4, lo := 10, hi := 86400, reset := 600 }
/-- CAL_LINES (Table 22-3). -/
def calLines : TableSpec := { id := 0x7401, size := 8, count := 81, edge := false, ro := true }
/-- CAL_COUNTERS (Table 22-3). -/
def calCounters : TableSpec := { id := 0x7402, size := 20, count := 1, edge := false, ro := true }
/-- CAL_START (Table 22-3). -/
def calStartP : ParamRow := { id := 0x7403, ty := .u 1, lo := 1, hi := 1, wo := true }

end Sys2Proof.Machine
end

