-- ==== Sys2Proof/Machine/Pq.lean ====
section
/-! DEFINITION. The transfer of SMPTE ST 2084 (04 Table 4-5, 08 R191) in fixed point, in units of 2^-128. Its constants are those of ST 2084,
to which the spec refers (PRESUMED, log entry 88). The deviation that R87 and R191 allow is added where it is used. -/

namespace Sys2Proof.Machine

/-- One, in fixed point. -/
def fixOne : Nat := 2 ^ 128

/-- Newton's iteration for a square root, from above. -/
def newtonSqrt (n : Nat) : Nat → Nat → Nat
  | 0, x => x
  | k + 1, x => let y := (x + n / x) / 2; if x ≤ y then x else newtonSqrt n k y

/-- The square root of a fixed-point number. -/
def fixSqrt (x : Nat) : Nat := if x = 0 then 0 else newtonSqrt (x * fixOne) 200 (2 ^ (Nat.log2 (x * fixOne) / 2 + 1))

/-- The 2^k-th root of a fixed-point number. -/
def fixRoot : Nat → Nat → Nat
  | 0, x => x
  | k + 1, x => fixRoot k (fixSqrt x)

/-- A power below 2^k of a fixed-point number. -/
def fixPow : Nat → Nat → Nat → Nat
  | 0, _, _ => fixOne
  | k + 1, x, n => let h := fixPow k (x * x / fixOne) (n / 2); if n % 2 = 1 then h * x / fixOne else h

/-- The ST 2084 inverse EOTF of a luminance as a fixed-point fraction of 10,000 cd/m². -/
def pqInverse (y : Nat) : Nat :=
  let t := fixPow 11 (fixRoot 13 y) 1305
  fixPow 12 (fixRoot 5 ((107 * fixOne + 2413 * t) * fixOne / (128 * fixOne + 2392 * t))) 2523

end Sys2Proof.Machine
end

