-- ==== Sys2Proof/Machine/Locus.lean ====
section
/-! DEFINITION. The Planckian locus (06 R137): the exact point and normal at a temperature, in fixed point, from the CIE 1931 2° colour matching
functions at 5 nm and Planck's law with c2 = 1.4388 × 10^7 nm·K (PRESUMED, log entry 93), and the firmware table that lies near it. -/

namespace Sys2Proof.Machine

/-- The colour matching functions in millionths at 380 to 510 nm in steps of 5 nm. -/
def cmfBlue : List (Nat × Nat × Nat) :=
  [(1368, 39, 6450), (2236, 64, 10550), (4243, 120, 20050), (7650, 217, 36210), (14310, 396, 67850), (23190, 640, 110200),
   (43510, 1210, 207400), (77630, 2180, 371300), (134380, 4000, 645600), (214770, 7300, 1039050), (283900, 11600, 1385600),
   (328500, 16840, 1622960), (348280, 23000, 1747060), (348060, 29800, 1782600), (336200, 38000, 1772110),
   (318700, 48000, 1744100), (290800, 60000, 1669200), (251100, 73900, 1528100), (195360, 90980, 1287640),
   (142100, 112600, 1041900), (95640, 139020, 812950), (57950, 169300, 616200), (32010, 208020, 465180),
   (14700, 258600, 353300), (4900, 323000, 272000), (2400, 407300, 212300), (9300, 503000, 158200)]

/-- The colour matching functions at 515 to 645 nm. -/
def cmfGreen : List (Nat × Nat × Nat) :=
  [(29100, 608200, 111700), (63270, 710000, 78250), (109600, 793200, 57250), (165500, 862000, 42160),
   (225750, 914850, 29840), (290400, 954000, 20300), (359700, 980300, 13400), (433450, 994950, 8750),
   (512050, 1000000, 5750), (594500, 995000, 3900), (678400, 978600, 2750), (762100, 952000, 2100), (842500, 915400, 1800),
   (916300, 870000, 1650), (978600, 816300, 1400), (1026300, 757000, 1100), (1056700, 694900, 1000), (1062200, 631000, 800),
   (1045600, 566800, 600), (1002600, 503000, 340), (938400, 441200, 240), (854450, 381000, 190), (751400, 321000, 100),
   (642400, 265000, 50), (541900, 217000, 30), (447900, 175000, 20), (360800, 138200, 10)]

/-- The colour matching functions at 650 to 780 nm. -/
def cmfRed : List (Nat × Nat × Nat) :=
  [(283500, 107000, 0), (218700, 81600, 0), (164900, 61000, 0), (121200, 44580, 0), (87400, 32000, 0), (63600, 23200, 0),
   (46770, 17000, 0), (32900, 11920, 0), (22700, 8210, 0), (15840, 5723, 0), (11359, 4102, 0), (8111, 2929, 0),
   (5790, 2091, 0), (4109, 1484, 0), (2899, 1047, 0), (2049, 740, 0), (1440, 520, 0), (1000, 361, 0), (690, 249, 0),
   (476, 172, 0), (332, 120, 0), (235, 85, 0), (166, 60, 0), (117, 42, 0), (83, 30, 0), (59, 21, 0), (42, 15, 0)]

/-- The Taylor terms of the exponential from `term` on, `n` more, at a fixed-point argument. -/
def expTerms (x : Nat) : Nat → Nat → Nat → Nat
  | 0, _, _ => 0
  | n + 1, k, term => term + expTerms x n (k + 1) (term * x / (k * fixOne))

/-- A fixed-point number squared `n` times. -/
def fixSquares : Nat → Nat → Nat
  | 0, x => x
  | n + 1, x => fixSquares n (x * x / fixOne)

/-- e to the power `n / d` in fixed point. -/
def fixExp (n d : Nat) : Nat := fixSquares 6 (expTerms (n * fixOne / (d * 64)) 40 1 fixOne)

/-- The spectral radiance of a black body at a wavelength [nm] and a temperature [K], in arbitrary units. -/
def planck (nm t : Nat) : Nat := fixOne * 2 ^ 128 / (nm ^ 5 * (fixExp 14388000 (nm * t) - fixOne) / 2 ^ 64)

/-- The tristimulus values of a black body, in arbitrary units. -/
def planckXyz (t : Nat) : Nat × Nat × Nat :=
  let tab := cmfBlue ++ cmfGreen ++ cmfRed
  (List.zip (List.range tab.length) tab).foldl (fun a r =>
    let m := planck (380 + 5 * r.1) t
    (a.1 + m * r.2.1, a.2.1 + m * r.2.2.1, a.2.2 + m * r.2.2.2)) (0, 0, 0)

/-- The point (u, v) of CIE 1960 of the locus as ratios over a common denominator. -/
def locusPoint (t : Nat) : Nat × Nat × Nat :=
  let a := planckXyz t
  (4 * a.1, 6 * a.2.1, a.1 + 15 * a.2.1 + 3 * a.2.2)

/-- The exact point and the unit normal towards greater v: at right angles to the chord from 1 K below to 1 K above. -/
def locusExact (t : Nat) : F64 × F64 × F64 × F64 :=
  let p := locusPoint t
  let a := locusPoint (t - 1)
  let b := locusPoint (t + 1)
  let du : Int := (a.1 * b.2.2 : Nat) - (b.1 * a.2.2 : Nat)
  let dv : Int := (b.2.1 * a.2.2 : Nat) - (a.2.1 * b.2.2 : Nat)
  let cu := F64.signed du 0
  let cv := F64.signed dv 0
  let len := F64.sqrt (F64.add (F64.mul cu cu) (F64.mul cv cv))
  (F64.ratio p.1 p.2.2, F64.ratio p.2.1 p.2.2, F64.div cv len, F64.div cu len)

/-- A row (u, v, normal) of the firmware table may stand for an exact one: the point within 0.0001 in u′v′, the normal of unit length and
positive towards greater v (R137). -/
def locusNear (x e : F64 × F64 × F64 × F64) : Bool :=
  let du := F64.sub x.1 e.1
  let dv := F64.mul (F64.ratio 3 2) (F64.sub x.2.1 e.2.1)
  let n2 := F64.add (F64.mul x.2.2.1 x.2.2.1) (F64.mul x.2.2.2 x.2.2.2)
  F64.le (F64.add (F64.mul du du) (F64.mul dv dv)) (F64.ratio 1 100000000)
    && F64.lt f0 x.2.2.2 && F64.le (F64.sub n2 f1).abs (F64.round false 1 1 (-20))

/-- The row of the firmware table at a temperature in kelvin (R137). -/
def locusRow (t : Nat) : F64 × F64 × F64 × F64 := if locusNear (Config.cctLocus t) (locusExact t) then Config.cctLocus t else locusExact t

end Sys2Proof.Machine
end

