-- ==== Sys2Proof/Machine/Foade.lean ====
section
/-! DEFINITION. The Foade colour engine (06): canvas spaces, targets, the fixture solve, the pixel path and the tail. -/

namespace Sys2Proof.Machine

/-- A point or a column of three binary64 values. -/
structure Xyz where
  x : F64
  y : F64
  z : F64
  deriving DecidableEq, Repr

/-- A chromaticity. -/
structure Uv where
  u : F64
  v : F64
  deriving DecidableEq, Repr

/-- A binary64 value from millionths. -/
def micro (n : Int) : F64 := F64.round (decide (n < 0)) n.natAbs 1000000 0

/-- A small integer in binary64. -/
def fi (i : Int) : F64 := F64.ofInt i

/-! ### Canvas spaces -/

/-- 3 × 3 determinant of integer columns. -/
def det3 (a b c : Int × Int × Int) : Int :=
  a.1 * (b.2.1 * c.2.2 - b.2.2 * c.2.1) - b.1 * (a.2.1 * c.2.2 - a.2.2 * c.2.1) + c.1 * (a.2.1 * b.2.2 - a.2.2 * b.2.1)

/-- Chromaticity `i` of a CNV_PRIMARIES record as integers (x, y, 65,536 - x - y). -/
def primary (r i : Nat) : Int × Int × Int :=
  let x : Int := u16At r (4 * i)
  let y : Int := u16At r (4 * i + 2)
  (x, y, 65536 - x - y)

/-- The CUSTOM matrix as exact ratios (numerator by row and column, common denominator), by the normalised primary matrix method:
the columns are scaled so that R = G = B = 1 is the white at Y = 1 (R135). -/
def customMatrix (r : Nat) : List (List Int) × Int :=
  let p := primary r 0
  let q := primary r 1
  let s := primary r 2
  let w := primary r 3
  let d := det3 p q s * w.2.1
  let k := [det3 w q s, det3 p w s, det3 p q w]
  let row (f : Int × Int × Int → Int) := List.zipWith (fun a b => a * f b) k [p, q, s]
  ([row (·.1), row (·.2.1), row (·.2.2)], d)

/-- The matrix of a canvas space as exact ratios (Table 6-3, R135). -/
def spaceMatrix (space prim : Nat) : List (List Int) × Int :=
  if space = 0 then
    ([[412391, 357584, 180481], [212639, 715169, 72192], [19331, 119195, 950532]], 1000000)
  else if space = 1 then
    ([[636958, 144617, 168881], [262700, 677998, 59302], [0, 28073, 1060985]], 1000000)
  else if space = 2 then customMatrix prim
  else ([[1, 0, 0], [0, 1, 0], [0, 0, 1]], 1)

/-- A ratio of integers in binary64. -/
def fratio (n d : Int) : F64 := F64.round (decide (n < 0) != decide (d < 0)) n.natAbs d.natAbs 0

/-- Index of the greatest element, the lowest index on a tie. -/
def argmax (l : List Int) : Nat :=
  ((List.range l.length).foldl (fun b i => if l.getD b 0 < l.getD i 0 then i else b) 0)

/-- The luminance row of a canvas space (Table 6-2, R135). -/
def lumaRow (space prim : Nat) : List Nat :=
  if space = 3 then [0, 65536, 0]
  else if space = 4 then [0, 0, 65536]
  else
    let m := spaceMatrix space prim
    let d := if m.2 < 0 then -m.2 else m.2
    let prods := (m.1.getD 1 []).map fun n => (if m.2 < 0 then -n else n) * 65536
    let rounded := prods.map fun n => (2 * n + d) / (2 * d)
    let diff := 65536 - rounded.foldl (· + ·) 0
    let errs := List.zipWith (fun n q => n - q * d) prods rounded
    let i := if 0 < diff then argmax errs else argmax (errs.map fun e => -e)
    (if diff = 0 then rounded else listSet rounded i (rounded.getD i 0 + diff)).map Int.toNat

/-- The merge level of a COLOUR value (05 5.5). -/
def colourLevel (luma ch : List Nat) : Nat :=
  ((List.zipWith (· * ·) luma ch).foldl (· + ·) 0 + 32768) / 65536

/-! ### Chromaticities -/

/-- u′v′ of a target (R138). -/
def uvOf (t : Xyz) : Uv :=
  let d := F64.add (F64.add t.x (F64.mul (fi 15) t.y)) (F64.mul (fi 3) t.z)
  { u := F64.div (F64.mul (fi 4) t.x) d, v := F64.div (F64.mul (fi 9) t.y) d }

/-- u′v′ of an xy chromaticity. -/
def uvOfXy (x y : F64) : Uv :=
  let d := F64.add (F64.sub (fi 3) (F64.mul (fi 2) x)) (F64.mul (fi 12) y)
  { u := F64.div (F64.mul (fi 4) x) d, v := F64.div (F64.mul (fi 9) y) d }

/-- The XYZ of luminance `y` at a chromaticity, in the order of Table 6-4 (R137). -/
def xyzAt (c : Uv) (y : F64) : Xyz :=
  let d := F64.mul (fi 4) c.v
  { x := F64.div (F64.mul (F64.mul (fi 9) c.u) y) d, y := y,
    z := F64.div (F64.mul (F64.sub (F64.sub (fi 12) (F64.mul (fi 3) c.u)) (F64.mul (fi 20) c.v)) y) d }

/-- The target re-formed at a clipped chromaticity, in the order that R143 writes. -/
def reform (c : Uv) (y : F64) : Xyz :=
  let d := F64.mul (fi 4) c.v
  { x := F64.div (F64.mul (F64.mul y c.u) (fi 9)) d, y := y,
    z := F64.div (F64.mul y (F64.sub (F64.sub (fi 12) (F64.mul (fi 3) c.u)) (F64.mul (fi 20) c.v))) d }

/-- A U24 channel as a fraction of 2^24. -/
def frac24 (n : Nat) : F64 := F64.round false n 1 (-24)

/-- The target of a value in XYZ before the black test (R137): COLOUR channels are U24, a LEVEL is a U16. -/
def targetXyz (space prim model form : Nat) (ch : List Nat) : Xyz :=
  if form = 2 then
    let x := F64.round false (u16At model 2) 1 (-16)
    let y := F64.round false (u16At model 4) 1 (-16)
    xyzAt (uvOfXy x y) (frac24 (ch.getD 0 0 * 256))
  else if space = 4 then
    let l := locusRow (max 1000 (min 25000 (ch.getD 0 0 / 256)))
    let duv := F64.div (fi ((ch.getD 1 0 / 256 : Nat) - 32768)) (fi 655360)
    let u := F64.add l.1 (F64.mul duv l.2.2.1)
    let v := F64.add l.2.1 (F64.mul duv l.2.2.2)
    xyzAt { u := u, v := F64.mul (F64.ratio 3 2) v } (frac24 (ch.getD 2 0))
  else if space = 3 then
    { x := frac24 (ch.getD 0 0), y := frac24 (ch.getD 1 0), z := frac24 (ch.getD 2 0) }
  else
    let m := spaceMatrix space prim
    let row (i : Nat) := fsum (List.zipWith (fun n c => F64.mul (fratio n m.2) (frac24 c)) (m.1.getD i []) ch)
    { x := row 0, y := row 1, z := row 2 }

/-- A target with its negative X and Z set to 0 (R138). -/
def clampXz (t : Xyz) : Xyz := { t with x := F64.max f0 t.x, z := F64.max f0 t.z }

/-! ### Emitters -/

/-- The piecewise-linear function through (TP0, lo), (400, mid), (TP2, hi), held at its ends (R140). -/
def threePoint (tp0 tp2 t : Int) (lo mid hi : F64) : F64 :=
  if t ≤ tp0 then lo
  else if tp2 ≤ t then hi
  else if t ≤ 400 then F64.add mid (F64.mul (F64.sub lo mid) (fratio (400 - t) (400 - tp0)))
  else F64.add mid (F64.mul (F64.sub hi mid) (fratio (t - 400) (tp2 - 400)))

/-- The flux factor of an emitter at a temperature (R140). -/
def fluxFactor (model e : Nat) (t : Int) : F64 :=
  threePoint (s16At model 10) (s16At model 12) t (F64.ratio (128 + byteAt e 8) 256) f1 (F64.ratio (128 + byteAt e 9) 256)

/-- The XYZ column of an emitter at a temperature (R140). -/
def column (model e : Nat) (t : Int) : Xyz :=
  let sh (lo hi : Nat) := threePoint (s16At model 10) (s16At model 12) t
    (fratio (signedOf 8 (byteAt e lo)) 8192) f0 (fratio (signedOf 8 (byteAt e hi)) 8192)
  let y := F64.mul (F64.ratio (u16At e 4) 16384) (fluxFactor model e t)
  let xi := F64.add (F64.ratio (u16At e 0) 65536) (sh 10 11)
  let yi := F64.add (F64.ratio (u16At e 2) 65536) (sh 12 13)
  { x := F64.div (F64.mul y xi) yi, y := y, z := F64.div (F64.mul y (F64.sub (F64.sub f1 xi) yi)) yi }

/-! ### Gamut -/

/-- Twice the signed area of a triangle. -/
def cross (a b c : Uv) : F64 :=
  F64.sub (F64.mul (F64.sub b.u a.u) (F64.sub c.v a.v)) (F64.mul (F64.sub b.v a.v) (F64.sub c.u a.u))

/-- The distance of two points. -/
def dist (a b : Uv) : F64 :=
  F64.sqrt (F64.add (F64.mul (F64.sub a.u b.u) (F64.sub a.u b.u)) (F64.mul (F64.sub a.v b.v) (F64.sub a.v b.v)))

/-- 2^-30, the tolerance of R143. -/
def tol30 : F64 := F64.round false 1 1 (-30)

/-- Ordered pairs of distinct points. -/
def pairs (ps : List Uv) : List (Uv × Uv) := ps.flatMap fun a => (ps.filter (· ≠ a)).map fun b => (a, b)

/-- The directed edges of the convex hull: every point lies on or left of them (R143). -/
def hullEdges (ps : List Uv) : List (Uv × Uv) :=
  (pairs ps).filter fun e => ps.all fun p => F64.le f0 (cross e.1 e.2 p)

/-- Every point lies on one line. -/
def collinear (ps : List Uv) : Bool :=
  (pairs ps).all fun e => ps.all fun p => !(F64.lt f0 (cross e.1 e.2 p)) && !(F64.lt (cross e.1 e.2 p) f0)

/-- A point lies inside the polygon or within 2^-30 of its boundary. -/
def insideHull (ps : List Uv) (p : Uv) : Bool :=
  (hullEdges ps).all fun e => F64.le (F64.neg tol30) (F64.div (cross e.1 e.2 p) (dist e.1 e.2))

/-- The point at parameter `t` from `a` to `b`. -/
def along (a b : Uv) (t : F64) : Uv :=
  { u := F64.add a.u (F64.mul t (F64.sub b.u a.u)), v := F64.add a.v (F64.mul t (F64.sub b.v a.v)) }

/-- The nearest point to `p` of the segment from `a` to `b`. -/
def nearestOn (a b p : Uv) : Uv :=
  let du := F64.sub b.u a.u
  let dv := F64.sub b.v a.v
  let l2 := F64.add (F64.mul du du) (F64.mul dv dv)
  if !(F64.lt f0 l2) then a
  else
    let t := F64.div (F64.add (F64.mul (F64.sub p.u a.u) du) (F64.mul (F64.sub p.v a.v) dv)) l2
    along a b (F64.max f0 (F64.min f1 t))

/-- The nearest point of the hull, the lowest emitter index winning a tie (R143). -/
def nearestHull (ps : List Uv) (p : Uv) : Uv :=
  let cands := ps.flatMap fun a => ps.map fun b => nearestOn a b p
  cands.foldl (fun best c => if F64.lt (dist p c) (dist p best) then c else best) (cands.headD p)

/-- Where the segment from `w` to `c` leaves the polygon, if it meets its boundary: the meeting farthest from `w`. -/
def exitPoint (ps : List Uv) (w c : Uv) : Option Uv :=
  let hits := (hullEdges ps).filterMap fun e =>
    let du := F64.sub c.u w.u
    let dv := F64.sub c.v w.v
    let eu := F64.sub e.2.u e.1.u
    let ev := F64.sub e.2.v e.1.v
    let den := F64.sub (F64.mul du ev) (F64.mul dv eu)
    let wu := F64.sub e.1.u w.u
    let wv := F64.sub e.1.v w.v
    if !(F64.lt f0 den) && !(F64.lt den f0) then none
    else
      let t := F64.div (F64.sub (F64.mul wu ev) (F64.mul wv eu)) den
      let s := F64.div (F64.sub (F64.mul wu dv) (F64.mul wv du)) den
      if F64.le f0 t && F64.le t f1 && F64.le f0 s && F64.le s f1 then some t else none
  match hits with
  | [] => none
  | h :: hs => some (along w c (hs.foldl F64.max h))

/-- Three or more points that do not all lie on one line. -/
def hasArea (ps : List Uv) : Bool := decide (3 ≤ ps.length) && !collinear ps

/-- A point lies inside or on the hull or within 2^-30 of it, whether the hull has an area or is a segment or a point (R142, R143). -/
def inHull (ps : List Uv) (p : Uv) : Bool := if hasArea ps then insideHull ps p else F64.le (dist p (nearestHull ps p)) tol30

/-- The hue reference: the model white where it lies inside or on the polygon, else the chromaticity of the sum of the columns (R142). -/
def hueRef (ps : List Uv) (white : Uv) (sum : Xyz) : Uv := if inHull ps white then white else uvOf sum

/-- The clipped chromaticity and whether it moved (R143). -/
def clipUv (ps : List Uv) (w c : Uv) : Uv × Bool :=
  if inHull ps c then (c, false)
  else if !hasArea ps then (nearestHull ps c, true)
  else match exitPoint ps w c with
    | some x => (x, true)
    | none => (nearestHull ps c, true)

/-! ### The solve -/

/-- The least-squares system of R145. -/
structure System where
  hm : List (List F64)
  gv : List F64
  deriving DecidableEq, Repr

/-- Entry of a matrix. -/
def ent (m : List (List F64)) (i j : Nat) : F64 := (m.getD i []).getD j f0

/-- Dot product in order x, y, z. -/
def dotX (a b : Xyz) : F64 := F64.add (F64.add (F64.mul a.x b.x) (F64.mul a.y b.y)) (F64.mul a.z b.z)

/-- The row weights of Table 6-7 as (w_par, w_perp, w_y); a civic fixture takes those of GAMUT 1 (R144). -/
def rowWeights (model : Nat) (gamut1 : Bool) : F64 × F64 × F64 :=
  let uv := F64.ratio (u16At model 6) 256
  let y := F64.ratio (u16At model 8) 256
  if gamut1 then (uv, F64.mul (fi 256) uv, F64.mul (fi 256) y) else (F64.mul (fi 256) uv, F64.mul (fi 256) uv, y)

/-- The system of R145 for active columns, powers, target, its chromaticity and the hue reference. -/
def buildSystem (wt : F64 × F64 × F64) (cols : List Xyz) (power : List Nat) (t : Xyz) (c w : Uv) : System :=
  let dt := F64.add (F64.add t.x (F64.mul (fi 15) t.y)) (F64.mul (fi 3) t.z)
  let bu : Xyz := { x := F64.div (F64.sub (fi 4) c.u) dt, y := F64.div (F64.mul (fi (-15)) c.u) dt,
                    z := F64.div (F64.mul (fi (-3)) c.u) dt }
  let bv : Xyz := { x := F64.div (F64.neg c.v) dt, y := F64.div (F64.sub (fi 9) (F64.mul (fi 15) c.v)) dt,
                    z := F64.div (F64.mul (fi (-3)) c.v) dt }
  let cu := F64.sub c.u w.u
  let cv := F64.sub c.v w.v
  let len := F64.sqrt (F64.add (F64.mul cu cu) (F64.mul cv cv))
  let short := F64.lt len (F64.round false 1 1 (-16))
  let eu := if short then f1 else F64.div cu len
  let ev := if short then f0 else F64.div cv len
  let comb (p q : F64) : Xyz := { x := F64.add (F64.mul p bu.x) (F64.mul q bv.x), y := F64.add (F64.mul p bu.y) (F64.mul q bv.y),
                                  z := F64.add (F64.mul p bu.z) (F64.mul q bv.z) }
  let par := comb eu ev
  let perp := comb (F64.neg ev) eu
  let g0 := cols.map fun a => F64.mul wt.1 (dotX par a)
  let g1 := cols.map fun a => F64.mul wt.2.1 (dotX perp a)
  let g2 := cols.map fun a => F64.div (F64.mul wt.2.2 a.y) t.y
  let pmax := power.foldl (fun m p => max m (max p 1)) 1
  let lam := F64.round false 1 1 (-30)
  let k := List.range cols.length
  { hm := k.map fun i => k.map fun j =>
      let base := F64.add (F64.add (F64.mul (g0.getD i f0) (g0.getD j f0)) (F64.mul (g1.getD i f0) (g1.getD j f0)))
        (F64.mul (g2.getD i f0) (g2.getD j f0))
      F64.add base (if i = j then F64.mul lam (F64.ratio (max (power.getD i 0) 1) pmax) else f0)
    gv := g2.map fun x => F64.mul x wt.2.2 }

/-- The state of an emitter in the active-set method (R146). -/
inductive Bound where
  | low | high | free
  deriving DecidableEq, Repr

/-- The iterate of R146. -/
structure Iterate where
  d : List F64
  st : List Bound
  done : Bool
  deriving DecidableEq, Repr

/-- Subtract terms one at a time (R517). -/
def subAll (a : F64) (ts : List F64) : F64 := ts.foldl F64.sub a

/-- The LDLᵀ factor over the free indices `fr` ascending: the columns built so far as (D, L by position) (R517). -/
def ldl (hm : List (List F64)) (fr : List Nat) : List (F64 × List F64) :=
  (List.range fr.length).foldl (fun cols j =>
    let at_ (k i : Nat) : F64 := ((cols.getD k (f0, [])).2).getD i f0
    let dk (k : Nat) : F64 := (cols.getD k (f0, [])).1
    let dj := subAll (ent hm (fr.getD j 0) (fr.getD j 0))
      ((List.range j).map fun k => F64.mul (F64.mul (at_ k j) (at_ k j)) (dk k))
    let col := (List.range fr.length).map fun i =>
      if i ≤ j then (if i = j then f1 else f0)
      else F64.div (subAll (ent hm (fr.getD i 0) (fr.getD j 0))
        ((List.range j).map fun k => F64.mul (F64.mul (at_ k i) (at_ k j)) (dk k))) dj
    cols ++ [(dj, col)]) []

/-- The solution over the free indices, by position (R517). -/
def ldlSolve (f : List (F64 × List F64)) (b : List F64) : List F64 :=
  let n := b.length
  let l (k i : Nat) : F64 := ((f.getD k (f0, [])).2).getD i f0
  let y := (List.range n).foldl (fun y i =>
    y ++ [subAll (b.getD i f0) ((List.range i).map fun k => F64.mul (l k i) (y.getD k f0))]) []
  let z := List.zipWith (fun a c => F64.div a c.1) y f
  (List.range n).foldl (fun s r =>
    let i := n - 1 - r
    listSet s i (subAll (z.getD i f0) (((List.range n).drop (i + 1)).map fun k => F64.mul (l i k) (s.getD k f0))))
    (List.replicate n f0)

/-- One iteration of R146. -/
def iterate (sys : System) (x : Iterate) : Iterate :=
  if x.done then x
  else
    let k := x.d.length
    let fr := (List.range k).filter fun i => x.st.getD i .low = .free
    let bound := (List.range k).filter fun i => x.st.getD i .low ≠ .free
    let b := fr.map fun i => subAll (sys.gv.getD i f0) (bound.map fun j => F64.mul (ent sys.hm i j) (x.d.getD j f0))
    let sol := ldlSolve (ldl sys.hm fr) b
    let s := (List.zip fr sol).foldl (fun s p => listSet s p.1 p.2) x.d
    if fr.all (fun i => F64.lt f0 (s.getD i f0) && F64.lt (s.getD i f0) f1) then
      let q := (List.range k).map fun i =>
        F64.sub (fsum ((List.range k).map fun j => F64.mul (ent sys.hm i j) (s.getD j f0))) (sys.gv.getD i f0)
      let eps := F64.round false 1 1 (-24)
      let cands := bound.filter fun i =>
        (x.st.getD i .low = .low && F64.lt (q.getD i f0) (F64.neg eps)) ||
        (x.st.getD i .low = .high && F64.lt eps (q.getD i f0))
      match cands with
      | [] => { x with d := s, done := true }
      | c :: cs =>
        let j := cs.foldl (fun m i => if F64.lt (q.getD m f0).abs (q.getD i f0).abs then i else m) c
        { x with d := s, st := listSet x.st j .free }
    else
      let term (i : Nat) : Option F64 :=
        let si := s.getD i f0
        let di := x.d.getD i f0
        if F64.le si f0 then
          let den := F64.sub di si
          some (if F64.lt f0 den || F64.lt den f0 then F64.div di den else f0)
        else if F64.le f1 si then
          let den := F64.sub si di
          some (if F64.lt f0 den || F64.lt den f0 then F64.div (F64.sub f1 di) den else f0)
        else none
      let terms := fr.filterMap fun i => (term i).map fun a => (i, a)
      match terms with
      | [] => x
      | t :: ts =>
        let m := ts.foldl (fun m y => if F64.lt y.2 m.2 then y else m) t
        let d := (List.range k).map fun i =>
          F64.add (x.d.getD i f0) (F64.mul m.2 (F64.sub (s.getD i f0) (x.d.getD i f0)))
        let low := F64.le (s.getD m.1 f0) f0
        { x with d := listSet d m.1 (if low then f0 else f1), st := listSet x.st m.1 (if low then .low else .high) }

/-- `n` iterations. -/
def iterateN (sys : System) : Nat → Iterate → Iterate
  | 0, x => x
  | n + 1, x => iterateN sys n (iterate sys x)

/-- The 24 iterations of R146 from all drives low. -/
def solve (sys : System) : Iterate :=
  iterateN sys 24 { d := sys.gv.map fun _ => f0, st := sys.gv.map fun _ => .low, done := false }

/-- A drive as U0.24 (R146). -/
def drive24 (d : F64) : Nat := min 16777215 (F64.add (F64.scale d 24) (F64.ratio 1 2)).floor.toNat

/-- The result of solving one fixture. -/
structure Solved where
  /-- U0.24 drive per emitter, before derating. -/
  d24 : List Nat
  unconv : Bool
  clipped : Bool
  dark : Bool
  deriving DecidableEq, Repr

/-- The XYZ sum of columns weighted by U0.24 drives (R147). -/
def weighted (cols : List Xyz) (d : List Nat) : Xyz :=
  let sum (f : Xyz → F64) := fsum (List.zipWith (fun c n => F64.mul (f c) (frac24 n)) cols d)
  { x := sum (·.x), y := sum (·.y), z := sum (·.z) }

/-- The fixture path of one fixture (R137 to R147): canvas space and primaries, GAMUT or CIVIC, model, FAULT mask, temperature, and
the floored target. -/
def solveFixture (space prim : Nat) (gamut1 : Bool) (model fault : Nat) (temp : Int) (form : Nat) (ch : List Nat) : Solved :=
  let n := mdEmitters model
  let act := (List.range n).filter fun i => !bitAt fault i
  let zero := List.replicate n 0
  if act = [] then { d24 := zero, unconv := false, clipped := false, dark := true }
  else
    let t0 := clampXz (targetXyz space prim model form ch)
    if !(F64.lt f0 t0.y) then { d24 := zero, unconv := false, clipped := false, dark := false }
    else
      let cols := act.map fun i => column model (emitter model i) temp
      let ps := cols.map uvOf
      let sum : Xyz := { x := fsum (cols.map (·.x)), y := fsum (cols.map (·.y)), z := fsum (cols.map (·.z)) }
      let white := uvOfXy (F64.round false (u16At model 2) 1 (-16)) (F64.round false (u16At model 4) 1 (-16))
      let w := hueRef ps white sum
      let clip := clipUv ps w (uvOf t0)
      let c := clip.1
      let t := if clip.2 then reform c t0.y else t0
      let sys := buildSystem (rowWeights model gamut1) cols (act.map fun i => u16At (emitter model i) 6) t c w
      let x := solve sys
      let d := x.d.map drive24
      let got := weighted cols d
      let gotUv := uvOf got
      let far := !(F64.lt f0 got.y) || F64.lt (F64.round false 1 1 (-12)) (dist gotUv c)
      let dim := F64.lt (F64.mul t.y (F64.round false 1 1 (-10))) (F64.sub got.y t.y).abs
      { d24 := (List.zip act d).foldl (fun l p => listSet l p.1 p.2) zero,
        unconv := !x.done, clipped := clip.2 || far || dim, dark := false }

/-! ### The tail -/

/-- The derating scale (R153). -/
def derScale (model : Nat) (t : Int) : Nat :=
  let tk := s16At model 14
  if t ≤ tk then 65536 else max (u16At model 18) (65536 - (u16At model 16 * (t - tk).toNat + 8) / 16)

/-- A linear drive after derating (R153). -/
def derate (scale v : Nat) : Nat := (v * scale + 32768) / 65536

/-- The response curve lookup of R155. -/
def curveLookup (c : Store) (n v : Nat) : Nat :=
  let i := v / 4096
  let f : Int := v % 4096
  let e := c.curve n i
  let e1 := if i = 4095 then 65535 else c.curve n (i + 1)
  ((e * 256 : Nat) + (((e1 : Int) - e) * f) / 16).toNat

/-- The hash of R156. -/
def ditherHash (idx frame em : Nat) : Nat :=
  let m := 4294967296
  let h := (idx * 0x9E3779B9 + frame % m + frame / m % m * 0x85EBCA6B + em * 0xC2B2AE35) % m
  let h := Nat.xor h (h / 65536) * 0x7FEB352D % m
  let h := Nat.xor h (h / 32768) * 0x846CA68B % m
  Nat.xor h (h / 65536)

/-- The dither to `b` bits (R156). -/
def dither (on : Bool) (b idx frame em v : Nat) : Nat :=
  let shift := 24 - b
  let r := if on then ditherHash idx frame em / 2 ^ (32 - shift) else 2 ^ (shift - 1)
  if v = 0 then 0 else min (2 ^ b - 1) ((v + r) / 2 ^ shift) * 2 ^ (16 - b)

/-! ### The pixel path -/

/-- The temperature scalar of a pixel strand with TSRC 1 (R149): TS_BASE over the mean flux factor, at most 32,768. -/
def pixelScalar (model base : Nat) (t : Int) : Nat :=
  let n := mdEmitters model
  let mean := F64.div (fsum ((List.range n).map fun i => fluxFactor model (emitter model i) t)) (fi n)
  min 32768 (F64.add (F64.div (fi base) mean) (F64.ratio 1 2)).floor.toNat

/-- Output channel `o` of a pixel as U0.24 (R149). -/
def pixelChannel (c : Store) (path ts o : Nat) (c16 : List Nat) : Nat :=
  let m (j : Nat) : Int := s16At path (2 * (3 * o + j))
  let acc : Int := ((List.range 3).map fun j => ((c16.getD j 0 * 256 : Nat) : Int) * m j).foldl (· + ·) 0
  let v := (max 0 (min 16777215 ((acc + 8192) / 16384))).toNat
  let v := if bitAt path (224 + o) then curveLookup c (byteAt path (24 + o)) v else v
  (v * ts + 16384) / 32768

/-! ### Temperatures -/

/-- The odd terms of the series of the inverse hyperbolic tangent from `pow` on, `n` more, in units of 2^-128. -/
def atanhTerms (x2 : Int) : Nat → Int → Int → Int
  | 0, _, _ => 0
  | n + 1, k, pow => pow / k + atanhTerms x2 n (k + 2) (pow * x2 / 2 ^ 128)

/-- The natural logarithm of a ratio of at most 2, in units of 2^-128. -/
def lnFix (n d : Nat) : Int :=
  let z : Int := ((n : Int) - d) * 2 ^ 128 / (n + d : Nat)
  2 * atanhTerms (z * z / 2 ^ 128) 44 1 z

/-- The natural logarithm (R518), rounded to binary64. -/
def F64.ln : F64 → F64
  | .nan => .nan
  | .inf s => if s then .nan else .inf false
  | .fin s m e =>
    if m = 0 then .inf true
    else if s then .nan
    else F64.signed (lnFix m (2 ^ Nat.log2 m) + ((Nat.log2 m : Int) + e) * lnFix 2 1) (-128)

/-- The temperature of a thermistor input from its resistance (R518), before the fault test. -/
def tsnsTemp (beta nom ohms : Nat) : Int :=
  let lnr := F64.ln (F64.div (fi ohms) (fi (nom * 10)))
  let tk := F64.div f1 (F64.add (F64.div f1 (F64.ratio 29815 100)) (F64.div lnr (fi beta)))
  let t := F64.mul (F64.sub tk (F64.ratio 27315 100)) (fi 16)
  max (-640) (min 3200 (F64.add t (F64.ratio 1 2)).floor)

/-- An input is faulted: BETA 0, or a resistance outside 1/50 to 50 times NOM_RES (R150). -/
def tsnsFaulted (rec ohms : Nat) : Bool :=
  u16At rec 0 = 0 || decide (ohms * 50 < u16At rec 2 * 10) || decide (u16At rec 2 * 500 < ohms)

end Sys2Proof.Machine
end

