-- ==== Sys2Proof/Machine/Compose.lean ====
section
/-! DEFINITION. Decoding of content, blending, culling, sampling, the merge of level sources, cue fades and the civic floor (04, 05), as
functions of their inputs alone (R16). -/

namespace Sys2Proof.Machine

/-! ### Decoding (R87) -/

/-- The greatest U16 value `q` with `(q - 1/2)/65,535 ≤ v`, where the test says whether a ratio `n/d ≤ v`: `v × 65,535` rounded, a
tie rounding up. -/
def quantise (le : Nat → Nat → Bool) : Nat := bsearch 16 (fun q => le (2 * q - 1) 131070) 0

/-- The U16 value of a normalised component `n/d` under a transfer (Table 4-5), exactly evaluated. -/
def transferExact (transfer n d peak : Nat) : Nat :=
  if transfer = 0 then min 65535 ((2 * n * 65535 + d) / (2 * d))
  else if transfer = 1 then
    -- E′ ≤ 0.04045: E′/12.92; else ((E′ + 0.055)/1.055)^2.4
    if n * 100000 ≤ 4045 * d then quantise (fun a b => a * d * 1292 ≤ n * 100 * b)
    else quantise (fun a b => a ^ 5 * (d * 1055) ^ 12 ≤ b ^ 5 * (n * 1000 + 55 * d) ^ 12)
  else if transfer = 2 then quantise (fun a b => a ^ 5 * d ^ 12 ≤ b ^ 5 * n ^ 12)
  else quantise (fun a b => pqInverse (a * peak * fixOne / (b * 10000)) * d ≤ n * fixOne)

/-- `v` moved by the deviation of the firmware tables, kept within U16 (R87). -/
def deviate (dev : Fin 3) (v : Nat) : Nat := min 65535 (v + dev.val - 1)

/-- A pixel of four U16 components as one number. -/
def mkPix (r g b a : Nat) : Nat := r + g * 2 ^ 16 + b * 2 ^ 32 + a * 2 ^ 48

/-- One R′G′B′ pixel given as numerators over a common denominator, decoded to C64; `codes` are the code values it comes from. -/
def decodeRgb (fmt transfer flags peak : Nat) (codes rgb : List Nat) (d : Nat) (alpha : Nat) : Nat :=
  let comp (i : Nat) : Nat :=
    let v := transferExact transfer (rgb.getD i 0) d peak
    if fmt = 8 ∧ transfer = 0 then v else deviate (Config.decodeDev fmt transfer flags peak (i :: codes)) v
  mkPix (comp 0) (comp 1) (comp 2) alpha

/-- An alpha code of `n` bits as U16. -/
def alphaOf (n a : Nat) : Nat := (2 * a * 65535 + (2 ^ n - 1)) / (2 * (2 ^ n - 1))

/-- R′G′B′ of a YCbCr pixel as numerators over one denominator, each clipped to [0, 1] (R87 step 2). `n` is the code width. Full-range
chroma is divided by 2^n − 1 as Y′ is (DESIGN CHOICE, log entry 89). -/
def ycbcr (n : Nat) (full bt2020 : Bool) (y cb cr : Int) : List Nat × Nat :=
  let dy : Int := if full then 2 ^ n - 1 else 219 * 2 ^ (n - 8)
  let dc : Int := if full then 2 ^ n - 1 else 224 * 2 ^ (n - 8)
  let y0 : Int := if full then y else y - 16 * 2 ^ (n - 8)
  let b0 : Int := cb - 2 ^ (n - 1)
  let r0 : Int := cr - 2 ^ (n - 1)
  -- over dy × dc × 100,000
  let yy := y0 * dc * 100000
  let k : Int × Int × Int × Int := if bt2020 then (147460, 16455, 57135, 188140) else (157480, 18730, 46810, 185560)
  let d := (dy * dc * 100000).toNat
  let clip (v : Int) : Nat := min d v.toNat
  ([clip (yy + k.1 * r0 * dy), clip (yy - k.2.1 * b0 * dy - k.2.2.1 * r0 * dy), clip (yy + k.2.2.2 * b0 * dy)], d)

/-- `w` most-significant-first bits of a byte list from bit `i` on (ST 2110-20 pgroups). -/
def msbBits (bs : List Byte) (i w : Nat) : Nat :=
  beNat ((bs.drop (i / 8)).take ((i % 8 + w + 7) / 8)) / 2 ^ ((8 - (i % 8 + w) % 8) % 8) % 2 ^ w

/-- Codes (R, G, B, alpha code and its bits) of an RGB pixel at index `x` of a row of source bytes (Table 4-4). -/
def rgbCodes (fmt : Nat) (row : List Byte) (x : Nat) : Nat × List Nat × Nat × Nat :=
  let b (i : Nat) := byteOf row i
  let u (i : Nat) := leAt row i 2
  if fmt = 1 then (8, [b (3 * x), b (3 * x + 1), b (3 * x + 2)], 0, 0)
  else if fmt = 2 then (8, [b (4 * x), b (4 * x + 1), b (4 * x + 2)], b (4 * x + 3), 8)
  else if fmt = 3 then
    let w := leAt row (4 * x) 4
    (10, [bitsAt w 0 10, bitsAt w 10 10, bitsAt w 20 10], bitsAt w 30 2, 2)
  else if fmt = 4 then (10, [msbBits row (30 * x) 10, msbBits row (30 * x + 10) 10, msbBits row (30 * x + 20) 10], 0, 0)
  else if fmt = 5 then (12, [u (6 * x) / 16, u (6 * x + 2) / 16, u (6 * x + 4) / 16], 0, 0)
  else if fmt = 6 then (12, [u (8 * x) / 16, u (8 * x + 2) / 16, u (8 * x + 4) / 16], u (8 * x + 6) / 16, 12)
  else if fmt = 7 then (16, [u (6 * x), u (6 * x + 2), u (6 * x + 4)], 0, 0)
  else (16, [u (8 * x), u (8 * x + 2), u (8 * x + 4)], u (8 * x + 6), 16)

/-- Code width, Y code at `x` and chroma codes of the even pixel at `x` of a 4:2:2 row. FORMAT 0x0B and 0x0C lie in Cb Y Cr Y order as 0x09
does, and 0x0B at the top of its containers as 0x05 and 0x06 do (DESIGN CHOICE, log entry 89). -/
def yccCodes (fmt : Nat) (row : List Byte) (x : Nat) : Nat × Nat × Nat × Nat :=
  let p := x / 2
  if fmt = 9 then (8, byteOf row (4 * p + 1 + 2 * (x % 2)), byteOf row (4 * p), byteOf row (4 * p + 2))
  else if fmt = 10 then
    (10, msbBits row (40 * p + 10 + 20 * (x % 2)) 10, msbBits row (40 * p) 10, msbBits row (40 * p + 20) 10)
  else if fmt = 11 then
    (12, leAt row (8 * p + 2 + 4 * (x % 2)) 2 / 16, leAt row (8 * p) 2 / 16, leAt row (8 * p + 4) 2 / 16)
  else (16, leAt row (8 * p + 2 + 4 * (x % 2)) 2, leAt row (8 * p) 2, leAt row (8 * p + 4) 2)

/-- Chroma of a pixel: an odd pixel takes (left + right + 1) >> 1 of its even neighbours, the last odd pixel its left's (R87). -/
def chromaAt (fmt width : Nat) (row : List Byte) (x : Nat) : Nat × Nat :=
  let l := yccCodes fmt row (x - x % 2)
  if x % 2 = 0 then (l.2.2.1, l.2.2.2)
  else if width ≤ x + 1 then (l.2.2.1, l.2.2.2)
  else
    let r := yccCodes fmt row (x + 1)
    ((l.2.2.1 + r.2.2.1 + 1) / 2, (l.2.2.2 + r.2.2.2 + 1) / 2)

/-- One pixel of a source row decoded into C64 (R87). -/
def decodePixel (fmt transfer flags peak width : Nat) (row : List Byte) (x : Nat) : Nat :=
  if fmt < 9 then
    let c := rgbCodes fmt row x
    let alpha := if c.2.2.2 = 0 then 65535 else alphaOf c.2.2.2 c.2.2.1
    decodeRgb fmt transfer flags peak c.2.1 c.2.1 (2 ^ c.1 - 1) alpha
  else
    let c := yccCodes fmt row x
    let ch := chromaAt fmt width row x
    let rgb := ycbcr c.1 (bitAt flags 2) (bitAt flags 1) c.2.1 ch.1 ch.2
    decodeRgb fmt transfer flags peak [c.2.1, ch.1, ch.2] rgb.1 rgb.2 65535

/-- Source bytes in one row of packed pixels (Table 4-4). -/
def rowBytes (fmt width : Nat) : Nat :=
  if fmt = 1 then 3 * width
  else if fmt = 4 then (30 * width + 7) / 8
  else if fmt = 5 ∨ fmt = 7 then 6 * width
  else if fmt = 6 ∨ fmt = 8 then 8 * width
  else if fmt = 9 then 4 * ((width + 1) / 2)
  else if fmt = 10 then 5 * ((width + 1) / 2)
  else if fmt = 11 ∨ fmt = 12 then 8 * ((width + 1) / 2)
  else 4 * width

/-- The source bytes of an entry decoded row by row at a pitch (R87). -/
def decodeAll (fmt transfer flags peak width height pitch : Nat) (data : List Byte) : List Nat :=
  (List.range height).flatMap fun y =>
    (List.range width).map fun x => decodePixel fmt transfer flags peak width (data.drop (y * pitch)) x

/-- The C64 pixels that bytes hold, 8 bytes each. -/
def pixelsOf (data : List Byte) (n : Nat) : List Nat := (chunks 8 n data).map leNat

/-- Opacity class of a tile from its pixels' alphas: 0 TRANSPARENT, 1 PARTIAL, 2 OPAQUE (R90). -/
def tileClass (alphas : List Nat) : Nat :=
  if alphas.all (· = 65535) then 2 else if alphas.all (· = 0) then 0 else 1

/-- The opacity map that the node computes for an entry's pixels (R90). -/
def computeMap (width height : Nat) (pix : List Nat) : List Nat :=
  let tw := (width + 63) / 64
  (List.range (tw * ((height + 63) / 64))).map fun n =>
    let x0 := n % tw * 64
    let y0 := n / tw * 64
    tileClass ((List.range (min 64 (height - y0))).flatMap fun dy =>
      (List.range (min 64 (width - x0))).map fun dx => bitsAt (pix.getD ((y0 + dy) * width + x0 + dx) 0) 48 16)

/-- The classes that a stored opacity map spells, two bits a tile (04 4.2). -/
def mapOf (bytes : List Byte) (tiles : Nat) : List Nat :=
  (List.range tiles).map fun n => bitsAt (byteOf bytes (n / 4)) (2 * (n % 4)) 2

/-- Bytes of a stored opacity map, padded to 64 (04 4.2). -/
def mapBytes (width height : Nat) : Nat := (((width + 63) / 64 * ((height + 63) / 64) + 3) / 4 + 63) / 64 * 64

/-- The status with which a header breaks R88's tests on entry, if it does: reserved values, reserved fields, the VALID mark, and a PT_NSEC
outside the range of Table 4-3 (DESIGN CHOICE, log entry 89). -/
def headerFault (h : List Byte) : Option Status :=
  let b := byteOf h
  if bitsAt (b 1) 4 2 ≠ 0 ∨ 8 ≤ b 4 ∨ leAt h 5 3 ≠ 0 ∨ leAt h 22 2 ≠ 0 ∨ leAt h 36 12 ≠ 0 ∨ leAt h 60 2 ≠ 0 then some .eParam
  else if b 0 = 0 ∨ 2 < b 0 then some .eRange
  else if b 0 = 2 then if leAt h 62 2 ≠ 0xE196 then some .eParam else none
  else if b 2 = 0 ∨ 12 < b 2 ∨ 3 < b 3 ∨ 1000000000 ≤ leAt h 16 4 then some .eRange
  else if leAt h 62 2 ≠ 0xE196 then some .eParam else none

/-- A header's presentation time. -/
def headerPt (h : List Byte) : Time := leAt h 8 8 * sec + leAt h 16 4 * ns + leAt h 20 2

/-- The layer instance that a LAYER byte names. -/
def layerOf (b : Nat) : Nat := bitsAt b 6 2 * 16 + bitsAt b 0 4

/-! ### Blending (R99) -/

/-- A layer as it takes part in a frame: its rectangle, blend, opacity, entry size, opacity map and pixels. -/
structure LayerIn where
  x : Int
  y : Int
  w : Nat
  h : Nat
  blend : Nat
  opacity : Nat
  map : List Nat
  pix : List Nat
  deriving DecidableEq, Repr

/-- One component blended (R99). -/
def blend1 (mode c a acc : Nat) : Nat :=
  if mode = 0 then (c * a + acc * (65535 - a) + 32767) / 65535
  else if mode = 1 then min 65535 (acc + (c * a + 32767) / 65535)
  else max acc ((c * a + 32767) / 65535)

/-- The opacity class of the tile of a layer that holds its pixel (px, py). -/
def LayerIn.classAt (l : LayerIn) (px py : Nat) : Nat := l.map.getD (py / 64 * ((l.w + 63) / 64) + px / 64) 1

/-- The accumulator after a layer at a canvas pixel (R90, R99). -/
def blendLayer (x y : Nat) (acc : Nat × Nat × Nat) (l : LayerIn) : Nat × Nat × Nat :=
  let px : Int := x - l.x
  let py : Int := y - l.y
  if px < 0 ∨ py < 0 ∨ (l.w : Int) ≤ px ∨ (l.h : Int) ≤ py then acc
  else
    let p := l.pix.getD (py.toNat * l.w + px.toNat) 0
    let cls := l.classAt px.toNat py.toNat
    let alpha := if cls = 2 then 65535 else if cls = 0 then 0 else bitsAt p 48 16
    let a := (alpha * l.opacity + 32767) / 65535
    (blend1 l.blend (bitsAt p 0 16) a acc.1, blend1 l.blend (bitsAt p 16 16) a acc.2.1,
     blend1 l.blend (bitsAt p 32 16) a acc.2.2)

/-- A canvas pixel: the background, then the layers from L0 up (R99). -/
def composePixel (bg : Nat) (layers : List LayerIn) (x y : Nat) : Nat :=
  let r := layers.foldl (blendLayer x y) (bitsAt bg 0 16, bitsAt bg 16 16, bitsAt bg 32 16)
  mkPix r.1 r.2.1 r.2.2 65535

/-- The lines `y0 ≤ y < y1` of a canvas. -/
def composeLines (bg : Nat) (layers : List LayerIn) (width y0 y1 : Nat) : List Nat :=
  ((List.range y1).drop y0).flatMap fun y => (List.range width).map fun x => composePixel bg layers x y

/-! ### Culling (R101) -/

/-- Area of the overlap of the intervals [a, b) and [c, d). -/
def overlap (a b c d : Int) : Nat := (min b d - max a c).toNat

/-- A layer culls the canvas tile [x0, x1) × [y0, y1): NORMAL at full opacity, the tile wholly inside it, and every tile of its map
that overlaps the tile OPAQUE (R101). -/
def culls (l : LayerIn) (x0 y0 x1 y1 : Nat) : Bool :=
  decide (l.blend = 0) && decide (l.opacity = 65535) && decide (l.x ≤ x0) && decide (l.y ≤ y0) &&
  decide ((x1 : Int) ≤ l.x + l.w) && decide ((y1 : Int) ≤ l.y + l.h) &&
  ((List.range ((l.w + 63) / 64 * ((l.h + 63) / 64))).all fun n =>
    let tx : Int := l.x + (n % ((l.w + 63) / 64) * 64 : Nat)
    let ty : Int := l.y + (n / ((l.w + 63) / 64) * 64 : Nat)
    overlap tx (tx + 64) x0 x1 * overlap ty (ty + 64) y0 y1 = 0 || l.map.getD n 1 = 2)

/-- Pixels of a layer fetched for the canvas tile: the overlap of its tiles that are not TRANSPARENT (4.8). -/
def fetchArea (l : LayerIn) (x0 y0 x1 y1 : Nat) : Nat :=
  ((List.range ((l.w + 63) / 64 * ((l.h + 63) / 64))).map fun n =>
    let tx : Int := l.x + (n % ((l.w + 63) / 64) * 64 : Nat)
    let ty : Int := l.y + (n / ((l.w + 63) / 64) * 64 : Nat)
    if l.map.getD n 1 = 0 then 0
    else overlap tx (min (tx + 64) (l.x + l.w)) x0 x1 * overlap ty (min (ty + 64) (l.y + l.h)) y0 y1).foldl (· + ·) 0

/-- Pixels fetched for the canvas tile, layers given from the top down, stopping at the first culling layer (R101). -/
def tileFetch (x0 y0 x1 y1 : Nat) : List LayerIn → Nat
  | [] => 0
  | l :: ls => fetchArea l x0 y0 x1 y1 + (if culls l x0 y0 x1 y1 then 0 else tileFetch x0 y0 x1 y1 ls)

/-- Pixels fetched for the lines [y0, y1) of a canvas of a width. -/
def bandFetch (layers : List LayerIn) (width y0 y1 : Nat) : Nat :=
  ((List.range ((width + 63) / 64)).map fun i => tileFetch (64 * i) y0 (min width (64 * i + 64)) y1 layers.reverse).foldl
    (· + ·) 0

/-! ### Sampling (R113) -/

/-- Footprint weights (R113). -/
def weights (tent : Bool) (n : Nat) : List Nat := (List.range n).map fun i => if tent then min (i + 1) (n - i) else 1

/-- One component of a fixture's canvas sample (R113). -/
def sample (pix : List Nat) (width lsb : Nat) (r : Nat) : Nat :=
  let wx := weights (bitAt r 38) (fxW r)
  let wy := weights (bitAt r 38) (fxH r)
  let s := ((List.range (fxH r)).flatMap fun j => (List.range (fxW r)).map fun i =>
    wx.getD i 0 * wy.getD j 0 * bitsAt (pix.getD ((fxY r + j) * width + fxX r + i) 0) lsb 16).foldl (· + ·) 0
  let n := wx.foldl (· + ·) 0 * wy.foldl (· + ·) 0
  (s + n / 2) / n

/-! ### Level sources -/

/-- A fixture's value in one frame: form 1 COLOUR with three channels, form 2 LEVEL with one. -/
structure LevelV where
  form : Nat
  ch : List Nat
  deriving DecidableEq, Repr

/-- The value that slots give under a LAYOUT (Table 5-6). -/
def slotValue (layout start : Nat) (slots : List Byte) : LevelV :=
  let b (i : Nat) := byteOf slots (start - 1 + i)
  let w (i : Nat) := b (2 * i) * 256 + b (2 * i + 1)
  if layout = 1 then { form := 2, ch := [b 0 * 257] }
  else if layout = 2 then { form := 2, ch := [w 0] }
  else if layout = 3 then { form := 1, ch := [b 0 * 257, b 1 * 257, b 2 * 257] }
  else { form := 1, ch := [w 0, w 1, w 2] }

/-- The merge level of a value (05 5.5). -/
def levelOf (luma : List Nat) (v : LevelV) : Nat := if v.form = 2 then v.ch.getD 0 0 else colourLevel luma v.ch

/-- A candidate of the merge: value, priority, rank, merge level, change frame. -/
structure Cand where
  v : LevelV
  prio : Nat
  rank : Nat
  level : Nat
  change : Nat
  deriving DecidableEq, Repr

/-- The source that R118 selects; candidates come in the order canvas, sACN, schedule, scene. -/
def merge (ltp : Bool) (cs : List Cand) : Option Cand :=
  cs.foldl (fun best s =>
    match best with
    | none => some s
    | some b =>
      if b.prio < s.prio then some s
      else if s.prio = b.prio then
        let key (c : Cand) := if ltp then c.change else c.level
        if key b < key s ∨ (key s = key b ∧ b.rank < s.rank) then some s else some b
      else some b) none

/-- One channel of a fade at step `m` of `F` (R119). -/
def fadeCh (v0 target f m : Nat) : Nat :=
  if f = 0 ∨ f ≤ m then target
  else
    let d : Int := (target : Int) - v0
    (v0 + Int.tdiv (d * m + d.sign * (f / 2)) f).toNat

/-- The floored value of a civic fixture (R125): channels of COLOUR become U24. -/
def civicFloor (civic : Bool) (floor l : Nat) (v : LevelV) : LevelV :=
  let up := if v.form = 1 then { v with ch := v.ch.map (· * 256) } else v
  if !civic ∨ floor ≤ l then up
  else if v.form = 2 then { v with ch := [floor] }
  else if l = 0 then { form := 2, ch := [floor] }
  else { v with ch := v.ch.map fun c => min 16777215 ((c * floor * 256 + l / 2) / l) }

end Sys2Proof.Machine
end

