-- ==== Sys2Proof/Machine/State.lean ====
section
/-! DEFINITION. The state of the block: every register, queue, buffer, counter, mode and pin that the spec names, as plain data. -/

namespace Sys2Proof.Machine

/-! ### Outcomes -/

/-- Why the block could stop with a fault. No command of this block stops: every one of the table has an effect. -/
inductive Fault where
  /-- Raised by no command: the spec names no condition in which the block halts. Safe. -/
  | halted
  deriving DecidableEq, Repr

/-- Why a command could be refused. -/
inductive Refusal where
  /-- The command has no meaning in the model. Raised by an arm of `exec` that is not written yet. Safe. -/
  | notModelled (mnemonic : String)
  deriving DecidableEq, Repr

/-! ### What the block puts out -/

/-- An operation of a transceiver script on a port's SPI (Table 10-2): bytes sent while RPn_CS_N is low, bytes sent after which a length and
a PSDU are read, or a wait for RPn_IRQ of at most some µs. -/
inductive Spi where
  | send (bytes : List Byte)
  | fetch (head : List Byte)
  | wait (us : Nat)
  deriving DecidableEq, Repr

/-- What the block puts on its pins, links and buses. `State.out` holds everything put out so far, newest first; no meaning reads
it. -/
inductive Sent where
  /-- An MSI-X message of a vector (R300). -/
  | msix (vector : Nat)
  /-- A SLIP frame on CON_TX (R476). -/
  | console (bytes : List Byte)
  /-- An Ethernet frame of a priority from the destination address on, with the instant its first symbol leaves (R264). -/
  | eth (port prio : Nat) (t : Time) (bytes : List Byte)
  /-- A PAUSE frame with its quanta (R273, R274). -/
  | pause (port quanta : Nat)
  /-- A pulse of a TOUT pin: its active level, and the instants of its two edges (R79, R80). -/
  | tout (n : Nat) (high : Bool) (start stop : Time)
  /-- The data of a strand pin for one frame, bits in order of transmission (R160, R166). -/
  | strand (pin : Nat) (start : Time) (bytes : List Byte)
  /-- A DMX packet: start code and slots (R168). -/
  | dmx (port : Nat) (start : Time) (bytes : List Byte)
  /-- An RDM request packet from its start code on (R170). -/
  | rdm (port : Nat) (t : Time) (bytes : List Byte)
  /-- A DALI forward frame: bus, value and width (R175). -/
  | dali (bus value width : Nat)
  /-- Blocks on the lanes of a raster port from a slot of the frame period on, in block order, four to a slot: each is the 66 bits of its
  lane, the first bit sent in bit 0 (R196, R197). -/
  | raster (port slot : Nat) (blocks : List Nat)
  /-- The active time of a drive pin from an instant on, and whether its level is inverted (R211, R212). -/
  | drive (channel : Nat) (start active : Time) (low : Bool)
  /-- A matrix row slot: row, start and end, the instant from which columns are active and the active time of each, and whether the levels of
  row and columns are inverted (R215, R217). -/
  | matrix (row : Nat) (start stop from_ : Time) (columns : List Time) (rowLow colLow : Bool)
  /-- A radio frame of a port at an ASN on a channel, with the instant of the rising edge of RPn_TXTRIG (R231, R236, R246). -/
  | radio (port asn channel : Nat) (trig : Time) (frame : List Byte)
  /-- Blocks of a cascade port in the order sent, each with whether it is a control block: a packet of class 1 to 3, or in class 0 a TIME
  slot, a CREDIT block or a LINK slot (R345, R346, Table 15-1). IDLE and ALIGN blocks come between. -/
  | cascade (port cls : Nat) (blocks : List (Bool × List Byte))
  /-- A transceiver script run on a radio port: its first entry and its operations up to the first END (Table 10-2, R230). -/
  | script (port first : Nat) (ops : List Spi)
  /-- A response packet that the host has of Q25 or Q27 although the queues are reset at once: the OK of DIAG RESTART (Table 21-6). -/
  | response (queue : Nat) (packet : List Byte)
  deriving DecidableEq, Repr
/-! ### Device, start-up and standby (01, 21) -/

/-- The device states of Table 1-8. -/
inductive DevState where
  | off | standby | dawn | safe | ready | run | shadow | dusk
  deriving DecidableEq, Repr

/-- State of the power, reset, start-up and standby logic (01 1.6, 21). -/
structure Dev where
  /-- The device state (R25). -/
  state : DevState
  /-- VBAT lies in its range (R30). -/
  vbat : Bool
  /-- Every main rail lies in its range. -/
  rails : Bool
  /-- The level of RESET_N. -/
  resetN : Bool
  /-- The straps as sampled at the last rising edge of RESET_N (R468). -/
  bootSrc : Nat
  stackEn : Bool
  safeSel : Bool
  /-- DAWN_RESULT (Table 13-3): the steps passed, and the failing step with its code. -/
  dawnPassed : Nat
  dawnFail : Bool
  dawnStep : Nat
  dawnCode : Nat
  /-- DETAIL of DIAG STATUS (R469). -/
  detail : Nat
  /-- FW_VERSION [31:0] (Table 13-3). -/
  fw : Nat
  /-- The SAFE cause of Table 21-5. -/
  safeCause : Nat
  /-- A DIAG DUSK was accepted and waits for the next edge (R477). -/
  duskWanted : Bool
  /-- The node reached STANDBY by a dusk with its main rails still applied (Table 21-4). -/
  duskDone : Bool
  /-- DIA_DIE_TEMP [1/16 °C] (R513). -/
  dieTemp : Int
  /-- Consecutive milliseconds for which DIA_DIE_TEMP has been at or above 2,000 (Table 21-5). -/
  hotMs : Nat
  /-- DIA_RAILS [mV] (R502). -/
  railMv : List Nat
  /-- The ranges of the VDD_IO banks taken at dawn (R502). -/
  bankRange : List Nat
  /-- DIA_WAKE_LATCH (R479): the input mask, the RTC seconds of the first latched event, and whether it has been read. -/
  wakeMask : Nat
  wakeSec : Nat
  wakeRead : Bool
  /-- The PCIe link is up (R476). -/
  pcieUp : Bool
  /-- The instant of the last IMAGE_BLOCK, or of link-up, while D3 serves a host load (R471). -/
  hostLoadAt : Option Time
  deriving DecidableEq, Repr
/-! ### Time base (03) -/

/-- The discipline states of Table 3-1. -/
inductive Disc where
  | free | acquiring | locked | holdover
  deriving DecidableEq, Repr

/-- A TIN input: TIM_TIN_LAST, the last accepted transition (R83), and the input's FIFO. -/
structure TinState where
  last : Time
  accepted : Option Time
  fifo : List (Bool × Time)
  deriving DecidableEq, Repr

/-- A TOUT: the start of the next pulse of the record in force, how many pulses it has begun, and the end of the pulse that has
begun (R79, R82). -/
structure ToutState where
  pulses : Nat
  busyUntil : Time
  /-- The pulse last begun is at high level (FLAGS[0] of its record). -/
  high : Bool
  deriving DecidableEq, Repr

/-- An ANNOUNCE record of a foreign master (IEEE 1588-2019, R72): the identity of the port that sent it, the grandmaster's data set, and
when the last two of its messages were heard. -/
structure PtpForeign where
  sender : Nat
  prio1 : Nat
  /-- clockClass, clockAccuracy and offsetScaledLogVariance, as one 32-bit number. -/
  quality : Nat
  /-- The rest of what Announce says of the grandmaster: priority2, identity, stepsRemoved, currentUtcOffset, flags and timeSource. -/
  prio2 : Nat
  gm : Nat
  steps : Nat
  utc : Nat
  flags : Nat
  timeSource : Nat
  /-- The announce interval, in units of 1/65,536 ns. -/
  interval : Time
  /-- When the message before the last one, and the last one, were heard. -/
  before : Option Time
  heard : Time
  deriving DecidableEq, Repr

/-- An event message whose transmit timestamp goes into a follow-up: its tag, messageType and sequence ID, the requester's identity, and
the correction that the follow-up carries (R72, R76). -/
structure PtpPending where
  tag : Nat
  type : Nat
  seq : Nat
  requester : List Byte
  correction : Int
  deriving DecidableEq, Repr

/-- State of the time base (03). -/
structure Tim where
  /-- Device time (R65). -/
  now : Time
  /-- Device time units that have passed in DAWN to DUSK since the last entry into DAWN: the clock that intervals are measured on. -/
  up : Time
  /-- The standby RTC in 1/32,768 s ticks, and the device time at which it had that count (R65, R66). -/
  rtc : Nat
  rtcAt : Time
  /-- TIM_RTC_VALID (R66). -/
  rtcValid : Bool
  /-- The servo's frequency and phase terms [ppb] (R67). -/
  f : Int
  p : Int
  /-- TIM_OFFSET (R84). -/
  offset : Int
  /-- TIM_SYNC_STATE (R69). -/
  disc : Disc
  /-- Consecutive samples below the lock threshold, and at or above four times it (R69). -/
  good : Nat
  bad : Nat
  /-- The instant of the last valid sample and the sync interval s in units of 1/128,000 s (R67, R69). -/
  sampleAt : Time
  interval : Nat
  /-- The instant at which HOLDOVER was entered (R69). -/
  holdAt : Time
  /-- The condition of R71 holds. -/
  large : Bool
  /-- The last offset measured, of which the RTC write takes account (R66). -/
  lastO : Int
  /-- Entries of Q16 and Q17: tag, PTP event, timestamp (Table 3-3). -/
  tsq : SMap (List (Nat × Bool × Time))
  /-- TIM_TSQ_OVF0 and TIM_TSQ_OVF1. -/
  tsqOvf : SMap Nat
  /-- Owners of CMP2 to CMP15 as (parameter ID, record) (R78). -/
  cmp : SMap (Nat × Nat)
  tin : SMap TinState
  /-- Alarms that have fired, or whose time lay before their enabling (R84). -/
  alarms : SMap Nat
  /-- TIM_TIN_OVF. -/
  tinOvf : Nat
  tout : SMap ToutState
  /-- PTP port states: 0 none of the others, 1 SLAVE, 2 MASTER, 3 PASSIVE (R67, R72). -/
  ptpPort : SMap Nat
  /-- Foreign masters heard on a PTP port (R72). -/
  foreign : SMap (List PtpForeign)
  /-- Event messages of a port whose timestamps a follow-up waits for (R76). -/
  ptpPend : SMap (List PtpPending)
  /-- Sequence IDs of the PTP messages sent: key port × 16 + messageType (R72). -/
  ptpSeq : SMap Nat
  deriving DecidableEq, Repr

/-! ### Frame edges (02) -/

/-- The states of the frame lock loop (R37, Table 2-2). -/
inductive Lock where
  | acquiring | locked | holdover
  deriving DecidableEq, Repr

/-- The frame lock loop (R37, R39). -/
structure LockLoop where
  state : Lock
  /-- The last reference pulse used. -/
  last : Option Time
  /-- Consecutive pulses whose spacing lies within 0.1 % of T. -/
  good : Nat
  /-- Consecutive missing pulses, and consecutive pulses beyond FRM_GEN_TOL. -/
  missing : Nat
  beyond : Nat
  /-- Lengthening still to be applied to the next interval not yet fixed, after lock. -/
  lengthen : Nat
  /-- Steering of the next interval not yet fixed. -/
  steer : Int
  /-- Rising edges of WCLK counted since the last pulse used (R39). -/
  wclk : Nat
  /-- The edge last matched with a pulse, so that further pulses of its window are ignored. -/
  window : Option Time
  /-- The edge whose window was last counted as missing. -/
  missed : Option Time
  /-- The loop has been locked at least once since edges started. -/
  everLocked : Bool
  /-- The condition of R39 holds. -/
  mismatch : Bool
  deriving DecidableEq, Repr

/-- LTC labels (R41, R42). -/
structure Ltc where
  /-- The start of the last LTC frame, decoded or counted, and its timecode in BCD and DROP. -/
  start : Option Time
  code : Nat
  drop : Bool
  /-- The last measured LTC frame period. -/
  period : Nat
  /-- Labels continue by counting, the LTC frames counted since the last valid word, and whether VALID has been cleared (R42). -/
  counting : Bool
  counted : Nat
  lost : Bool
  /-- Edges that have fallen within the present LTC interval. -/
  sub : Nat
  /-- FRM_TC (Table 2-3). -/
  tc : Nat
  deriving DecidableEq, Repr
/-! ### Ingress (04) -/

/-- An entry of a ring: its number in the ring, the offset and bytes it takes, its header and its opacity map and pixels once they
are written. `bytes` are the C64 pixels, one number a pixel (R in the low 16 bits, then G, B, alpha). -/
structure Entry where
  seq : Nat
  off : Nat
  len : Nat
  layer : Nat
  pt : Time
  width : Nat
  height : Nat
  hint : Bool
  /-- Opacity class of each tile (R90). -/
  map : List Nat
  pix : List Nat
  /-- When the write handshake completed; none while it has not. -/
  done : Option Time
  /-- A PAD entry, or an entry that failed a test: never used. -/
  dead : Bool
  /-- The descriptor SEQ to complete, for an entry of the DMA engine. -/
  dma : Option Nat
  deriving DecidableEq, Repr

/-- An ingress ring (04 4.3): the retained, waiting and incomplete entries oldest first; M, C and W as
byte positions that run on past the ring's size, of which the registers show the offset in the ring; the replay offset
of R95; the holds of accepted REWINDs (transaction, frame) of R96; the six counters of CNV_RING_COUNTERS; pixel bytes written since
the last ingress deadline (R103); and the writes that wait for space (R91). -/
structure Ring where
  entries : List Entry
  next : Nat
  m : Nat
  c : Nat
  w : Nat
  replay : Int
  holds : List (Nat × Nat)
  cnt : SMap Nat
  booked : Nat
  stalled : List Entry
  deriving DecidableEq, Repr

/-- A ring with nothing in it. -/
def Ring.empty : Ring :=
  { entries := [], next := 0, m := 0, c := 0, w := 0, replay := 0, holds := [], cnt := [], booked := 0, stalled := [] }

/-- A layer between frames: the entry it holds, frames since its last new entry, and its state (R94, R97). -/
structure Layer where
  held : Option Entry
  missed : Nat
  state : Nat
  deriving DecidableEq, Repr

/-- A layer that holds nothing and is off. -/
def Layer.empty : Layer := { held := none, missed := 0, state := 0 }

/-- A source of a universe received (R86, R116): CID, priority, since when without a timeout, last packet, sequence number, slots. -/
structure SacnSrc where
  cid : Nat
  prio : Nat
  since : Time
  last : Time
  seq : Nat
  slots : List Byte
  deriving DecidableEq, Repr

/-- An ST 2110-20 receiver's frame in assembly (R85, R315): the RTP timestamp, presentation time, the sequence number expected, the
lines' bytes received, whether a packet is missing, and whether it has been discarded at the ingress deadline of its frame. -/
structure StreamRx where
  rtp : Nat
  pt : Time
  seq : Nat
  got : SMap (List Byte)
  missing : Bool
  discarded : Bool
  deriving DecidableEq, Repr

/-- Ingress, layers and canvases (04). -/
structure Content where
  ringA : Ring
  ringB : Ring
  /-- Bytes that BAR2 writes left in ring A and no doorbell has covered. -/
  bar2 : SMap Byte
  layers : SMap Layer
  /-- sACN sources by universe. -/
  sacn : SMap (List SacnSrc)
  /-- The values closed at the last Q(k): priority and slots by universe. -/
  closed : SMap (Option (Nat × List Byte))
  streams : SMap (Option StreamRx)
  /-- The DRAM arbiter: per class the requester granted last, and the requesters' classes fixed at grants (R17, R18). -/
  rr : SMap Nat
  granted : List (Nat × Nat)
  /-- Captures held for the host: canvas to frame and pixels (R105). -/
  captures : SMap (Option (Nat × List Nat))
  captureMissed : Nat
  /-- The front buffers: canvas to frame and pixels (R104). -/
  front : SMap (Option (Nat × List Nat))
  /-- The two band buffers: the frame, canvas and band that each holds, and the buffer that is written next (R100). -/
  bands : SMap (Option (Nat × Nat × Nat))
  bandNext : Nat
  /-- CNV_DRAM_PIX and CNV_DRAM_OVER. -/
  dramPix : Nat
  dramOver : Nat
  deriving DecidableEq, Repr

/-! ### Level sources (05) -/

/-- The held value of a SCENE or SCHEDULE source (R119): form 1 COLOUR or 2 LEVEL, start and target channels, FADE and the frame
of the recall. -/
structure Held where
  form : Nat
  v0 : List Nat
  target : List Nat
  fade : Nat
  from_ : Nat
  deriving DecidableEq, Repr

/-- Level sources and fixtures between frames (05). -/
structure Sources where
  scene : SMap (Option Held)
  sched : SMap (Option Held)
  /-- Last value and change frame of each source: key fixture × 4 + source (R118). -/
  change : SMap (Option (Option LevelV × Nat))
  /-- FIX_CUE_SKIPPED. -/
  skipped : Nat
  /-- FIX_SCHED_STATE is RUNNING. -/
  schedRun : Bool
  /-- Schedule entries that fired and take part at the next latch, in the order in which they apply, and whether their cues fade. -/
  fired : List (Nat × Bool)
  /-- FIX_SOLAR and the dates for which SOLAR_NONE was logged. -/
  sunrise : Time
  sunset : Time
  solarNone : List Nat
  /-- Emitter fault masks that the node keeps: fixture to mask, and the temperatures received with their time (R107, R150). -/
  fault : SMap Nat
  temp : SMap (Option (Int × Time))
  /-- Entries evaluated up to this instant (R123, R124). -/
  schedUpTo : Time
  /-- SCHED_NO_TIME has been logged since dawn. -/
  noTimeLogged : Bool
  deriving DecidableEq, Repr
/-! ### What a frame yields (02, 06) -/

/-- What COMPUTE of a frame yields for its outputs (R16). -/
structure FrameOut where
  /-- Output drives of each enabled fixture (R132). -/
  drives : SMap (List Nat)
  /-- Drives after derating, U0.24 (R151). -/
  derated : SMap (List Nat)
  /-- Merge level of each fixture's floored target (R401). -/
  levels : SMap Nat
  /-- Output drives of each pixel of each PIXEL strand: strand to pixels. -/
  pixels : SMap (List (List Nat))
  /-- Drives of free channels (R214). -/
  free : SMap Nat
  /-- Composited canvases: canvas to C64 pixels. -/
  canvases : SMap (List Nat)
  unconv : Nat
  clipped : Nat
  dark : Nat
  deriving DecidableEq, Repr

/-- Nothing computed. -/
def FrameOut.empty : FrameOut :=
  { drives := [], derated := [], levels := [], pixels := [], free := [], canvases := [], unconv := 0, clipped := 0, dark := 0 }

/-! ### Wired outputs (07) -/

/-- An RDM transaction in flight (R170, R171): a telemetry poll (record and sensor), a branch of a discovery run, or else a host request;
its record, and how often it was sent. -/
structure RdmFlight where
  poll : Option (Nat × Nat)
  disc : Bool
  req : Nat
  tries : Nat
  deriving DecidableEq, Repr

/-- A packet on a DMX line (R168, R170): its start, its break, mark after break and mark between slots in µs, and its slots. -/
structure DmxTx where
  start : Time
  brk : Nat
  mab : Nat
  mbs : Nat
  bytes : List Byte
  deriving DecidableEq, Repr

/-- A DMX port. -/
structure DmxState where
  /-- When the packet now being sent, or the last one, ends, and one more than the number of the frame at whose edge. -/
  packetEnd : Time
  target : Nat
  /-- The packet or request last put on the line, and when DMXn_DE is released where it is (R171). -/
  tx : Option DmxTx
  deOff : Option Time
  /-- The transaction number of the next RDM request. -/
  tn : Nat
  queue : List Nat
  flight : Option RdmFlight
  /-- A transaction that is to be sent again (R171). -/
  retry : Option RdmFlight
  /-- The frame that the next packet carries: its parameter set and outputs (R159). -/
  src : Option (Store × FrameOut)
  /-- Telemetry polls due: record and sensor (0 temperature, 1 fault). -/
  due : List (Nat × Nat)
  disc : Bool
  /-- The free interval in which a deferral was last counted. -/
  deferredAt : Time
  /-- RDM_TIMEOUT, RDM_OVERRUN, RDM_CHECKSUM, RDM_DEFERRED. -/
  cnt : SMap Nat
  deriving DecidableEq, Repr

/-- A DMX port at rest. -/
def DmxState.empty : DmxState :=
  { packetEnd := 0, target := 0, tx := none, deOff := none, tn := 0, queue := [], flight := none, retry := none, src := none, due := [], disc := false, deferredAt := 0, cnt := [] }

/-- A query awaiting its backward frame: the address and 0 QUERY STATUS, 1 QUERY FAILURE STATUS, 2 READ MEMORY LOCATION, or a DAL_CMD
frame (3) (R179, R180). -/
structure DaliAsk where
  addr : Nat
  kind : Nat
  deriving DecidableEq, Repr

/-- A DALI bus. -/
structure DaliState where
  /-- Pending arc values by short address (R176). -/
  pending : SMap (Option (List Nat))
  /-- Arc values last sent or now being sent, by short address. -/
  sent : SMap (Option (List Nat))
  lastServed : Nat
  /-- Forward frames left of the sequence in progress, its address (64 for a broadcast) and its values. -/
  seq : List Nat
  seqFor : Option (Nat × List Nat)
  /-- The frame last sent, and the collisions it has met. -/
  lastFrame : Option Nat
  collisions : Nat
  down : Bool
  misses : SMap Nat
  /-- When each address was last polled (R179). -/
  polled : SMap (Option Time)
  ask : Option DaliAsk
  /-- DAL_CMD records waiting. -/
  cmds : List Nat
  /-- An address allocation runs; true when it readdresses all gear. -/
  addressing : Option Bool
  /-- DAL_COLLISIONS, DAL_DEVICE_FRAMES, BUS_DOWN. -/
  cnt : SMap Nat
  deriving DecidableEq, Repr

/-- A DALI bus at rest. -/
def DaliState.empty : DaliState :=
  { pending := [], sent := [], lastServed := 63, seq := [], seqFor := none, lastFrame := none, collisions := 0, down := false,
    misses := [], polled := [], ask := none, cmds := [], addressing := none, cnt := [] }

/-- sACN output on a port (R183 to R186): records of the present interval still to send, whether a SYNC universe went out, whether the
quiet time has begun, and whether the synchronisation packet was launched. -/
structure SacnPort where
  todo : List Nat
  count : Nat
  frame : Nat
  carried : Bool
  quiet : Bool
  synced : Bool
  deriving DecidableEq, Repr

/-- A port with nothing to send. -/
def SacnPort.empty : SacnPort := { todo := [], count := 0, frame := 0, carried := false, quiet := false, synced := false }

/-- A transmission on a strand pin (R166): its pin record, the instant of its first bit, its bits, and the edge at which its latch gap
ends. -/
structure StrandTx where
  rec_ : Nat
  start : Time
  bits : List Bool
  stop : Time
  deriving DecidableEq, Repr

/-- Wired outputs. -/
structure Wired where
  dmx : SMap DmxState
  /-- DMX_RDM_RESP by handle. -/
  resp : SMap (List Byte)
  /-- DMX_RDM_UID entries: key port × 512 + entry. -/
  uid : SMap Nat
  dali : SMap DaliState
  /-- DAL_FOUND. -/
  found : SMap Nat
  sacn : SMap SacnPort
  /-- Sequence number of each record's universe, plus 256 times the frame after the one it was last sent in (R183). -/
  sacnSeq : SMap Nat
  sacnLate : Nat
  /-- Strand pins: the last transmission begun. -/
  strands : SMap (Option StrandTx)
  /-- When each DMX_RDM_TEL record was last polled (R173). -/
  telAt : SMap (Option Time)
  deriving DecidableEq, Repr

/-! ### Raster ports (08) -/

/-- The lanes of a raster port: slots put out since the lanes began to run, and for each lane the last 58 bits sent, the latest in
bit 57 (R196, R197). -/
structure Lanes where
  slot : Nat
  hist : List Nat
  deriving DecidableEq, Repr

/-- Lanes that have sent nothing; the scramblers start from 0 (DESIGN CHOICE, log entry 96). -/
def Lanes.empty : Lanes := { slot := 0, hist := [0, 0, 0, 0] }

/-- A raster port: the frame being scanned, its next line, lines fully fetched, the port's last-sent line, marks of the frame, its lanes,
phase, and RAS_COUNTERS (LINES, REPEAT_FRAMES, UNDERRUN_LINES, UNDERRUN_FRAMES, URGENT_GRANTS). -/
structure RasterState where
  scanning : Bool
  frame : Nat
  repeat_ : Bool
  line : Nat
  fetched : Nat
  /-- The fetcher has moved to the next frame, and lines of it fetched ahead (R200). -/
  moved : Bool
  ahead : Nat
  lastLine : List Nat
  /-- The first line of the frame that underran, on this port or on its partner of LOCKED_SPLIT (R203, R205). -/
  under : Option Nat
  underRun : Bool
  /-- The lanes run (R195), what they have sent, and slots of the present frame period put out. -/
  run : Bool
  link : Lanes
  sent : Nat
  /-- Steps that the phase of the lanes has moved, those in the present vertical idle interval, and the instant of the last (R194). -/
  phase : Int
  shift : Int
  stepAt : Option Time
  cnt : SMap Nat
  deriving DecidableEq, Repr

/-- A raster port at rest. -/
def RasterState.empty : RasterState :=
  { scanning := false, frame := 0, repeat_ := false, line := 0, fetched := 0, moved := false, ahead := 0, lastLine := [],
    under := none, underRun := false, run := false, link := Lanes.empty, sent := 0, phase := 0, shift := 0, stepAt := none, cnt := [] }

/-! ### Direct drive (09) -/

/-- A measured point (R221): state of Table 9-3, last class, the class being confirmed with its count, whether the count came from
probes, the state before UNOBSERVED, presented frames without a measurement, last-verified time, forced inactive, and the frame in
which it became UNOBSERVED. -/
structure Point where
  state : Nat
  lastClass : Nat
  cls : Nat
  count : Nat
  byProbe : Bool
  before : Nat
  idle : Nat
  verified : Option Time
  forced : Bool
  since : Nat
  /-- Active long enough in its present period, run or slot for a measurement (R220). -/
  onNs : Nat
  /-- A report waits for room in Q29 (R227). -/
  report : Option (List Byte)
  /-- Measured from its own drive in the present frame (R221); the present active time is a probe's, and it has been measured; the
  frame in which it was last probed, plus 1. -/
  own : Bool
  probing : Bool
  measured : Bool
  probedIn : Nat
  /-- The rising edge of its present active time, from which BLANK counts (R220), and the fixture whose emitter was forced off (R222). -/
  rise : Time
  by_ : Option Nat
  deriving DecidableEq, Repr

/-- A point at UNKNOWN. -/
def Point.empty : Point :=
  { state := 0, lastClass := 0, cls := 0, count := 0, byProbe := false, before := 0, idle := 0, verified := none, forced := false,
    since := 0, onNs := 0, report := none, own := false, probing := false, measured := false, probedIn := 0,
    rise := 0, by_ := none }

/-- A channel's pin (R211, R212): output drive in force, n_on, PDM accumulator, level, the period or slot that comes next. -/
structure Pin where
  out : Nat
  nOn : Nat
  acc : Nat
  level : Bool
  index : Nat
  probe : Nat
  deriving DecidableEq, Repr

/-- A pin at rest. -/
def Pin.empty : Pin := { out := 0, nOn := 0, acc := 0x8000, level := false, index := 0, probe := 0 }

/-- Direct drive. -/
structure Drive where
  /-- The parameter set under which pins and matrix run: that of the frame whose buffer they hold (R213, R219). -/
  cfg : Store
  /-- The pins carried their buffer in the frame period that runs, and that of a frame of its own (R49, R221). -/
  live : Bool
  fresh : Bool
  points : SMap Point
  pins : SMap Pin
  /-- Matrix buffers: the one scanned and the one eligible (R218), drives by row × 32 + column. -/
  matrix : SMap Nat
  eligible : Option (SMap Nat)
  /-- The restart of the scan cycle and the slots begun since (R217). -/
  cycleAt : Time
  slots : Nat
  msyncAt : Option Time
  msyncIdle : Nat
  /-- An MSYNC edge was accepted in the present frame period. -/
  msyncSeen : Bool
  /-- Matrix elements to probe in the next slot of their row, and those whose probe waits for the swap (R225). -/
  probes : List Nat
  staged : List Nat
  /-- PROBES, REPORT_DROP, MSYNC_SKIP, MSYNC_LOST. -/
  cnt : SMap Nat
  deriving DecidableEq, Repr
/-! ### Radio ports (10) -/

/-- A pending command entry of a luminaire (R252, R253): values, activation ASN, sends still due after the first, whether it has been
sent, whether it carries a civic fixture, whether it is a rejoin item, its fixture, and the values last sent with the activation ASN
they were sent with (R254). -/
structure CmdEntry where
  values : List Nat
  act : Nat
  left : Nat
  sent : Bool
  civic : Bool
  rejoin : Bool
  fixture : Nat
  last : Option (List Nat × Nat)
  deriving DecidableEq, Repr

/-- A command frame built for the COMMAND cell of a slot (R253): its activation ASN, payload, the luminaires it covers, whether one is
civic, and how many of its items are late. -/
structure BuiltFrame where
  n : Int
  act : Nat
  payload : List Byte
  items : List Nat
  civic : Bool
  late : Nat
  deriving DecidableEq, Repr

/-- A queued host frame (10.8): neighbour or 0xFFFF, security level, acknowledgement, handle, payload, retries used. -/
structure HostFrame where
  neigh : Nat
  level : Nat
  ack : Bool
  handle : Nat
  payload : List Byte
  tries : Nat
  deriving DecidableEq, Repr

/-- The cell that a port runs in a slot: the slot's number n (its ASN is n mod 2^40), the cell, the channel byte and band, what it does
(0 it receives; 1 a host frame; 2 a command frame; 3 a beacon), security level and key slot, the host frame, the payload, the
luminaires whose items a command frame carries with its activation ASN and late items, PSDU bytes, whether an acknowledgement is asked
for, the PSDU that TX_LOAD writes, and whether the slot has started and its frame has gone out. -/
structure Slot where
  n : Int
  cell : Nat
  channel : Nat
  band : Nat
  what : Nat
  level : Nat
  key : Nat
  host : Option HostFrame
  payload : List Byte
  items : List Nat
  act : Nat
  late : Nat
  psdu : Nat
  ack : Bool
  frame : List Byte
  started : Bool
  done : Bool
  deriving DecidableEq, Repr

/-- A neighbour (10.4): STATE, KEY_GEN, last accepted DSN and frame counter (none after a commit), OFFSET_EST, last contact, and
whether its first contact after a takeover is awaited. -/
structure Neigh where
  state : Nat
  keyGen : Nat
  dsn : Option Nat
  fc : Option Nat
  offset : Int
  contact : Time
  guard : Nat
  open_ : Bool
  deriving DecidableEq, Repr

/-- An EMPTY neighbour. -/
def Neigh.empty : Neigh :=
  { state := 0, keyGen := 0, dsn := none, fc := none, offset := 0, contact := 0, guard := 0, open_ := false }

/-- A radio port. -/
structure RadioPort where
  slot : Option Slot
  queue : List HostFrame
  /-- Command store: entries by neighbour entry (R252). -/
  cmds : SMap (Option CmdEntry)
  /-- The command frame built for a COMMAND cell (R253). -/
  built : Option BuiltFrame
  /-- The SFD instant of the last edge of RPn_TSC in the slot, and whether it was of a reception (R231). -/
  sfd : Option (Bool × Time)
  /-- The frame that awaits an acknowledgement. -/
  awaiting : Option HostFrame
  /-- The RX_FETCH script has delivered a frame that has not been judged. -/
  fetched : Bool
  /-- Shared cells still to be passed over under the CSMA-CA back-off (Table 10-3). -/
  backoff : Nat
  /-- Generation of CMD_KEY when the record was committed (R245). -/
  keyGen : Nat
  /-- Occurrences of each ADVERTISING cell. -/
  beacons : SMap Nat
  dsn : Nat
  /-- Since when the oldest civic command has been deferred (R249). -/
  civicSince : Option Time
  cnt : SMap Nat
  deriving DecidableEq, Repr

/-- A port at rest. -/
def RadioPort.empty : RadioPort :=
  { slot := none, queue := [], cmds := [], built := none, sfd := none, awaiting := none, fetched := false, backoff := 0, keyGen := 0,
    beacons := [], dsn := 0, civicSince := none, cnt := [] }

/-- The radio MAC. -/
structure Radio where
  ports : SMap RadioPort
  /-- Neighbours: key port × 4,096 + entry. -/
  neigh : SMap Neigh
  /-- GEN of cells: key port × 16,384 + cell. -/
  cellGen : SMap Nat
  /-- Outgoing frame counter of each key slot (R244). -/
  fc : SMap Nat
  /-- Airtime by band and second: key band × 2^40 + second (R247). -/
  buckets : SMap Nat
  deriving DecidableEq, Repr
/-! ### Ethernet MACs (11) -/

/-- An Ethernet port: link, the frame on the wire (queue, descriptor and payload, its timestamp entry pending), pause state, its own
PAUSE frames, the synchronisation packet held, and the 19 counters. -/
structure EthState where
  up : Bool
  /-- The queue whose frame is on the wire, its packet, the instant of its start, and whether its timestamp was missed (R77). -/
  sending : Option (Nat × List Byte × Time × Bool)
  /-- End of the remaining pause time; none while not paused (R271). -/
  pauseEnd : Option Time
  /-- Start of the continuous pause (R272). -/
  pauseStart : Time
  /-- PAUSE frames are ignored until this instant. -/
  ignoreUntil : Option Time
  /-- A PAUSE frame of its own waits, with its quanta (R264, R274). -/
  ownPause : Option Nat
  /-- The port told its partner to pause. -/
  paused : Bool
  /-- When the port last sent a PAUSE. -/
  pauseSentAt : Time
  /-- The synchronisation packet waits for a pause to end (R273). -/
  syncHeld : Option (List Byte)
  cnt : SMap Nat
  deriving DecidableEq, Repr

/-- A port at reset. -/
def EthState.empty : EthState :=
  { up := false, sending := none, pauseEnd := none, pauseStart := 0, ignoreUntil := none, ownPause := none, paused := false, pauseSentAt := 0,
    syncHeld := none, cnt := [] }
/-! ### Hardware queues (12) -/

/-- A hardware queue: its committed packets oldest first, HEAD, watermark state, FLUSH_SEQ, a pending flush, PTR_ERR, the pushes that
wait (host slot pushes marked) and the counters of Table 12-6. -/
structure Queue where
  packets : List (List Byte)
  head : Nat
  high : Bool
  flushSeq : Nat
  flushing : Bool
  ptrErr : Bool
  waiting : List (Bool × List Byte)
  waits : Nat
  discards : Nat
  flushes : Nat
  crossings : Nat
  deriving DecidableEq, Repr

/-- An empty queue. -/
def Queue.empty : Queue :=
  { packets := [], head := 0, high := false, flushSeq := 0, flushing := false, ptrErr := false, waiting := [],
    waits := 0, discards := 0, flushes := 0, crossings := 0 }

/-- The queues, the push slots (by BAR0 offset) and the loss state of Q28 (R288). -/
structure Ques where
  q : SMap Queue
  slots : SMap Byte
  /-- Notifications lost since the last NOTIFY_LOST. -/
  lost : Nat
  /-- SEQ of the next notification (R316). -/
  seq : Nat
  deriving DecidableEq, Repr
/-! ### Host registers and messages (13) -/

/-- The registers of Table 13-3 that are state of their own, the MSI-X table and pending bits, the latches of R299 and the bytes that
the last register access returned. -/
structure HostRegs where
  intStatus : Nat
  intMask : Nat
  /-- INT_VEC0 to INT_VEC4 as one little-endian number. -/
  intVec : Nat
  dmaBase : Nat
  dmaSize : Nat
  dmaTail : Nat
  dmaHead : Nat
  /-- RING_A_CTRL MODE. -/
  bar2Mode : Bool
  /-- TIME_NSEC and FRAME_NUM as latched, on PCIe and on QSPI (R299). -/
  latchPcie : Nat × Nat
  latchQspi : Nat × Nat
  /-- The MSI-X table at BAR0 0x2000, by byte, and the pending-bit array at 0x3000. -/
  msixTable : SMap Byte
  msixPending : Nat
  /-- The bytes returned by the last read. -/
  busData : List Byte
  /-- DMA descriptors read whose entries are not written yet: SEQ and the 64-byte header (R301). -/
  dmaWork : List (List Byte)
  deriving DecidableEq, Repr

/-- A dedupe entry (R306, R307): the epoch, the CRC-32 of the request packet, the stored response (none where it was too long to
store), and the end of its life on the interval clock. -/
structure Dedupe where
  epoch : Nat
  crc : Nat
  resp : Option (List Byte)
  until_ : Time
  deriving DecidableEq, Repr

/-- An item of a transaction: the opcode and the request that carries it, and its staging on a stack (R310, R312). -/
structure Item where
  op : Nat
  req : Req
  deriving DecidableEq, Repr

/-- An open transaction (R310). -/
structure OpenTxn where
  id : Nat
  /-- The dedupe identity of the path that opened it. -/
  ident : Nat
  tenant : Nat
  role : Nat
  items : List Item
  /-- The interval clock at its last request. -/
  at_ : Time
  deriving DecidableEq, Repr

/-- An accepted transaction (R52, R55): the edge it commits at, and on a stack member whether COMMIT has arrived (R353). -/
structure AccTxn where
  id : Nat
  frame : Nat
  tenant : Nat
  role : Nat
  items : List Item
  /-- The commit order has been issued or is not needed. -/
  ordered : Bool
  deriving DecidableEq, Repr

/-- Requests and transactions (13.4 to 13.6). -/
structure Oxold where
  dedupe : SMap (Option Dedupe)
  open_ : List OpenTxn
  /-- Accepted transactions in the order of acceptance. -/
  accepted : List AccTxn
  /-- The transaction ID to try next. -/
  nextId : Nat
  /-- DEV_MB_COUNTERS: key record × 8 + counter. -/
  counters : SMap Nat
  deriving DecidableEq, Repr
/-! ### Event recorder (20) -/

/-- The token bucket of an event code (R457): tokens (none before the first use, when it is full), the suppressed count and the
operating time of the first suppressed event. -/
structure Bucket where
  tokens : Option Nat
  suppressed : Nat
  firstAt : Nat
  deriving DecidableEq, Repr

/-- An event: code, P0, P1, P2. -/
structure Event where
  code : Nat
  p0 : Nat
  p1 : Nat
  p2 : Nat
  deriving DecidableEq, Repr

/-- A clear in progress (R460, R461): the path, tenant and role that asked, the records used, and the request to answer. -/
structure Clearing where
  path : Nat
  tenant : Nat
  role : Nat
  used : Nat
  req : Option Req
  held : List Event
  deriving DecidableEq, Repr

/-- A cursor of the window for logs 6 and 7 (R462): log, cursor, and the remembered window's start and length in slots. -/
structure Cursor where
  log : Nat
  slot : Nat
  window : Option (Nat × Nat)
  deriving DecidableEq, Repr

/-- The recorder. -/
structure Recorder where
  /-- The slots: key log × 4096 + slot, 32 bytes each; an unlisted slot holds no VALID. -/
  slots : SMap (List Byte)
  /-- LOG_COUNTERS: key log × 4 + counter. -/
  counters : SMap Nat
  buckets : SMap Bucket
  clearing : SMap (Option Clearing)
  cursors : SMap (Option Cursor)
  /-- Records held in SRAM while D1 has not passed (R455), oldest first, by log. -/
  held : List (Nat × List Byte)
  /-- D1 failed at the last dawn, so the records held are all there are. -/
  volatile : Bool
  /-- OPTIME as stored in MRAM [ms], and OPTIME at the last entry into DAWN (R454). -/
  optime : Nat
  opBase : Nat
  cycles : Nat
  /-- Conditions that are logged once per entry and hold at present: key code × 2^24 + object. -/
  cond : SMap Nat
  deriving DecidableEq, Repr
/-! ### Cascade ports and stacks (15) -/

/-- A packet of a cascade port without its SEQ: class, source and destination node, stream, marks and payload (R346). -/
structure CasPacket where
  cls : Nat
  src : Nat
  dst : Nat
  stream : Nat
  first : Bool
  last : Bool
  payload : List Byte
  deriving DecidableEq, Repr

/-- A packet class of a cascade port (R347, R348): the SEQ of the next packet, the packets sent and not acknowledged with their SEQ,
the packets that wait, whether one that the node itself originates is due next, the credit, and the SEQ that follows the last one received in
order. -/
structure CasClass where
  next : Nat
  unacked : List (Nat × CasPacket)
  waiting : List CasPacket
  own : Bool
  credit : Nat
  received : Nat
  deriving DecidableEq, Repr

/-- A class with nothing sent and no credit. -/
def CasClass.empty : CasClass := { next := 0, unacked := [], waiting := [], own := false, credit := 0, received := 0 }

/-- A cascade port: locked-lane mask, link state (Table 15-2), consecutive matched and mismatched ALIGN slots, the partner's LINK slot
(mode, role), the last 16 values of t4 − t1 − residence in units of 1/65,536 ns, the PROBEs in flight (sequence to departure), classes by CLASS
value and STK_COUNTERS. -/
structure CasPort where
  lanes : Nat
  state : Nat
  matched : Nat
  mismatched : Nat
  partner : Option (Nat × Nat)
  delays : List Int
  probes : SMap (Option Time)
  cls : SMap CasClass
  cnt : SMap Nat
  deriving DecidableEq, Repr

/-- A port that is down. -/
def CasPort.empty : CasPort :=
  { lanes := 0, state := 0, matched := 0, mismatched := 0, partner := none, delays := [], probes := [], cls := [], cnt := [] }

/-- A message that the master sent down and whose answers are outstanding (R312, R354, R355, R357): a request (stage none) or a
staged transaction (its index in `stage`: ID and frame), the nodes that have not answered, and the answers received. -/
structure Relay where
  id : Nat
  op : Nat
  req : Req
  target : Nat
  stage : Option (Nat × Nat)
  waiting : Nat
  answers : List (Nat × List Byte)
  failed : List (Nat × Err)
  deriving DecidableEq, Repr

/-- The stack (15): role (0 undecided, 1 master, 2 member), index, node count, candidate index, whether the member is enumerated,
reach, latest o and edge offset ô in units of 1/65,536 ns, EDGE messages received and not used, consecutive misses, whether it heads or
belongs to a detached section, and sequence numbers of SYNC and PROBE. -/
structure Stack where
  role : Nat
  index : Nat
  nodes : Nat
  candidate : Option Nat
  enumerated : Bool
  reach : Nat
  o : Int
  oHat : Option Int
  edges : SMap (Option Time)
  missed : Nat
  detached : Bool
  masterProto : Nat
  port : SMap CasPort
  syncSeq : Nat
  probeSeq : Nat
  nextRelay : Nat
  relays : List Relay
  /-- Transactions validated for the master that await their COMMIT (R353). -/
  staged : List AccTxn
  /-- SLIP tokens seen: the frames of which the node knows a slip (R51). -/
  slips : List Nat
  deriving DecidableEq, Repr
/-! ### Redundant pairs (16) -/

/-- A frame's input record (Table 16-5 INPUT). -/
structure InputRec where
  step : Nat
  h : Nat
  rings : List Nat
  tsns : List Int
  /-- TEMP and FAULT of the fixtures as the INPUT records so far give them. -/
  temps : SMap Int
  faults : SMap Nat
  deriving DecidableEq, Repr

/-- The pair (16). -/
structure Red where
  /-- RED_MODE as taken at dawn (R363): the node is one of a pair. -/
  pair : Bool
  /-- RED_ROLE and RED_FIT. -/
  role : Nat
  fit : Nat
  actOut : Bool
  peerAct : Bool
  /-- The send instants of heartbeats not acknowledged, and s_a (R373). -/
  sent : SMap (Option Time)
  sAck : Option Time
  /-- r of R374, the extra L of the first deadline (R367), and the receipt of a RELEASE (R376). -/
  r : Time
  first : Bool
  released : Option Time
  /-- RED_SWITCH or DEV_RUN 0 commits at the next edge: the HEARTBEAT carries RELEASE (R379). -/
  release : Bool
  /-- The instant from which the taker waits for E(s0), t_d + 200 µs (R377). -/
  takenAt : Option Time
  /-- HELLO of the peer: device ID, nodes, active, protocol, result level (R367). -/
  hello : Option (Nat × Nat × Bool × Nat × Nat)
  /-- SNAPSHOT parts received, the frame of its commit, and whether it has committed (R368). -/
  snap : List Item
  snapPart : Nat
  snapAt : Option Nat
  snapDone : Bool
  inputs : SMap (Option InputRec)
  /-- Values of the last INPUT sent or received: the fixtures' TEMP and FAULT. -/
  temps : SMap Int
  faults : SMap Nat
  /-- What the last CONTINUITY told: sACN sequence numbers, frame counters, LAST_DSN and LAST_FC by neighbour, command entries by port ×
  4,096 + neighbour (R371). -/
  contSacn : SMap Nat
  contFc : SMap Nat
  contNeigh : SMap (Nat × Nat)
  contCmd : SMap (Option CmdEntry)
  results : SMap (Option (List (Nat × Nat)))
  /-- The strand CRC-32s of frames that this unit computed (R380). -/
  own : SMap (Option (List (Nat × Nat)))
  /-- The frame compared last (R380), and whether the active has sent an INPUT since its last SNAPSHOT (R371). -/
  compared : Option Nat
  told : Bool
  /-- The peer's RED_FIT, DEV_STATE and RED_COUNTERS (R370). -/
  peer : Nat × Nat × List Nat
  lastActive : Time
  cnt : SMap Nat
  /-- The drive pins hold the last buffer until PEER_ACT rises (R373); they are driven to 0 once it has. -/
  holding : Bool
  zeroed : Bool
  /-- A member's role change: new RED_ROLE and the frame of its edge (R366). -/
  roleAt : Option (Nat × Nat)
  deriving DecidableEq, Repr
/-! ### Energy (17) -/

/-- A frame as the planner keeps it: number, edge, divisor, forecast, and the energy measured [µJ], none while it is not (R386,
R388). -/
structure EnergyFrame where
  num : Nat
  edge : Time
  h : Nat
  forecast : Nat
  measured : Option Nat
  deriving DecidableEq, Repr

/-- The ledger and the planner. -/
structure Energy where
  /-- Frames since the entry into RUN, newest first. -/
  frames : List EnergyFrame
  /-- The coefficient of each work term and of the static term [µJ per unit], none while it stands at the calibration (R389). -/
  coef : SMap (Option Rat)
  /-- Work of frames planned and not measured: frame to the units of each term at the step taken. -/
  work : SMap (List Nat)
  /-- The last measured energies of the control domain, newest first, at most 8. -/
  control : List Nat
  /-- Calibrated energy per event by domain × 256 + class, none while it stands as made (R387). -/
  trim : SMap (Option Nat)
  /-- ENG_PLAN. -/
  planFrame : Nat
  planF : Nat
  planS : Int
  planCap : Int
  planA : Int
  step : Nat
  h : Nat
  /-- ENG_LEDGER: the eight energies and the frame. -/
  ledger : List Nat
  ledgerFrame : Nat
  /-- ENG_HISTORY, newest first, as records. -/
  history : List Nat
  /-- The minute in progress: energy [µJ], peak power [mW], greatest step and divisor, and the interval clock at its start. -/
  minute : Nat × Nat × Nat × Nat
  minuteAt : Time
  /-- Consecutive plans that would have fitted at H/2 (R397), and consecutive plans at H = 8 above the cap. -/
  fits : Nat
  above : Nat
  /-- Frames still to be skipped before the next computed frame (R395). -/
  skip : Nat
  /-- The causes in force: level × 2^24 + code × 2^8 + source (R400). -/
  causes : List Nat
  cnt : SMap Nat
  deriving DecidableEq, Repr
/-! ### Security island (18) -/

/-- A key slot (Table 18-5) with its key. -/
structure KeySlot where
  gen : Nat
  state : Nat
  ty : Nat
  usage : Nat
  owner : Nat
  depth : Nat
  parent : Nat
  parentGen : Nat
  key : List Byte
  deriving DecidableEq, Repr

/-- An EMPTY slot. -/
def KeySlot.empty : KeySlot :=
  { gen := 0, state := 0, ty := 0, usage := 0, owner := 0, depth := 0, parent := 0xFFFF, parentGen := 0, key := [] }

/-- The island. -/
structure Island where
  lifecycle : Nat
  counter : Nat
  tampered : Bool
  /-- The VBAT-domain latch of a tamper event: input and device time (R422). -/
  tamperAt : Option (Nat × Time)
  /-- The KEK register holds the key (R421). -/
  kek : Bool
  /-- The island is in its error state (R407). -/
  error : Bool
  slots : SMap KeySlot
  /-- The fuse that locks the fuse roots is blown (R409). -/
  fuseLocked : Bool
  /-- Highest counter received and last counter sent by MB2 session (R317, R318), and which sessions were live. -/
  rx : SMap Nat
  tx : SMap Nat
  live : List Nat
  /-- Where the last accepted datagram of a session came from, by session * 2 + port: Ethernet address, IP address and UDP port, to which the
  node's own go (R276). -/
  peer : SMap (List Byte)
  /-- ENV_OK, ENV_REJECT, ATTESTS, NOISE_FAIL. -/
  cnt : SMap Nat
  deriving DecidableEq, Repr
/-! ### Firmware update (19) -/

/-- An image set in boot flash: its manifest bytes and its segments (R430). -/
structure ImageSet where
  manifest : List Byte
  segs : SMap (List Byte)
  deriving DecidableEq, Repr

/-- An empty set. -/
def ImageSet.empty : ImageSet := { manifest := [], segs := [] }

/-- A settings copy in MRAM: its schema, the manifest hash it was written for and its valid mark, and the committed values. -/
structure Settings where
  schema : Nat
  hash : List Byte
  valid : Bool
  edge : Store
  imm : Store
  deriving DecidableEq, Repr

/-- A copy that holds nothing. -/
def Settings.empty : Settings := { schema := 0, hash := [], valid := false, edge := Store.empty, imm := Store.empty }

/-- The boot selector record in force (Table 19-5). -/
structure Selector where
  seq : Nat
  set : Nat
  trial : Bool
  count : Nat
  settings : Nat
  fbSet : Nat
  fbSettings : Nat
  hash : List Byte
  deriving DecidableEq, Repr

/-- A download (R434, R435): the manifest bytes received, whether the manifest is complete, the map of verified segments, and the segment in
assembly with its blocks of 1,024 bytes. -/
structure Download where
  manifest : List Byte
  complete : Bool
  progress : Nat
  seg : Option Nat
  blocks : SMap (List Byte)
  deriving DecidableEq, Repr

/-- No download. -/
def Download.empty : Download := { manifest := [], complete := false, progress := 0, seg := none, blocks := [] }

/-- The update machinery. -/
structure Update where
  state : Nat
  /-- The state a download started from, to which a failed manifest returns (R434). -/
  before : Nat
  sel : Selector
  sets : SMap ImageSet
  copies : SMap Settings
  /-- The download in the staging area, and that of a PCIe host load, which the boot ROM holds (R471). Set 2 is the image so loaded. -/
  dl : Download
  load : Download
  /-- The armed activation: frame j and device time (R438). -/
  armed : Option Nat
  svnFloor : Nat
  /-- The interval clock at the trial boot's entry into READY (R444). -/
  windowAt : Option Time
  /-- Transactions committed during the trial (R446). -/
  trialTxns : Nat
  /-- SEG_FAIL, VERIFY_FAIL, FALLBACKS, CONFIRMS. -/
  cnt : SMap Nat
  /-- The master keeps a stack-wide confirmation until its members report (R448). -/
  confirming : Bool
  /-- A fallback record is written, and the node resets at its next edge (R444). -/
  resetWanted : Bool
  deriving DecidableEq, Repr
/-! ### Fabric, calibration, scheduler (22) -/

/-- A delay line (CAL_LINES). -/
structure Line where
  state : Nat
  fails : Nat
  replaces : Nat
  lastPass : Nat
  deriving DecidableEq, Repr

/-- A line in service. -/
def Line.inService : Line := { state := 0, fails := 0, replaces := 0xFF, lastPass := 0 }

/-- Calibration: line by number; whether a pass runs and when the last one began; per group the position next (0 the spare, 1 to 8 the
lines, 9 done), groups whose spare failed in this pass, lines that calibrate in the present frame, and CAL_COUNTERS. -/
structure Calib where
  lines : SMap Line
  running : Bool
  startAt : Time
  pos : SMap Nat
  spareFailed : List Nat
  now : List Nat
  cnt : SMap Nat
  deriving DecidableEq, Repr

/-- A thread (DIA_THREADS): STATE, the core it runs on, its running time and pre-emptions, since when it is ready or running, and the
cause that made it ready. -/
structure Thread where
  state : Nat
  core : Nat
  runNs : Time
  preempts : Nat
  since : Time
  /-- Its place in the order in which threads became ready. -/
  order : Nat
  cause : Nat
  deriving DecidableEq, Repr

/-- An unused thread. -/
def Thread.unused : Thread := { state := 0, core := 0xFF, runNs := 0, preempts := 0, since := 0, order := 0, cause := 0 }

/-- Lamplighter: threads, the next place in the ready order, and trace records lost since the last LOST record. -/
structure Sched where
  threads : SMap Thread
  next : Nat
  lost : Nat
  deriving DecidableEq, Repr

/-- DIA_FABRIC (R481, R482). -/
structure Fabric where
  margin : Nat
  min : Nat
  low : Nat
  deriving DecidableEq, Repr
/-! ### Frames in progress (02, 04, 05, 06) -/

/-- The shedding plan of a frame (17): shedding step, bytes of ENG_PLAN, and what is shed. -/
structure Plan where
  step : Nat
  record : Nat
  forecast : Nat
  deriving DecidableEq, Repr

/-- How far a frame has come (R48 to R50). -/
inductive FrameStage where
  /-- Not to be computed: latched with DEV_RUN 0, before READY, or skipped under the rate divisor. -/
  | idle
  /-- Its COMPUTE runs. -/
  | computing
  /-- COMPUTE completed in time. -/
  | complete
  /-- It slipped (R49). -/
  | slipped
  deriving DecidableEq, Repr

/-- A frame between its latch and its edge. -/
structure Frame where
  num : Nat
  cfg : Store
  stage : FrameStage
  latchAt : Time
  /-- Transactions that commit at its edge, in order (R52). -/
  txns : List AccTxn
  /-- The entry each enabled layer uses and its state: instance to entry and state (R45, R94). -/
  layers : SMap (Option Entry × Nat)
  /-- sACN values closed for it (R86, R116). -/
  sacn : SMap (Option (Nat × List Byte))
  scene : SMap (Option Held)
  sched : SMap (Option Held)
  /-- Temperature and FAULT of each fixture in force at its latch (R142), and of each TSNS input. -/
  temp : SMap Int
  fault : SMap Nat
  tsns : List Int
  tsnsBad : List Bool
  /-- Lines of the present canvas composed, the canvas, and the pixels fetched. -/
  canvas : Nat
  lines : Nat
  pix : SMap (List Nat)
  fetched : Nat
  /-- Ring bytes booked to it (R103). -/
  ingress : Nat
  plan : Plan
  out : FrameOut
  deriving DecidableEq, Repr

/-- Edges and frames (02). -/
structure Frm where
  /-- Edges run (R31): in READY, RUN and SHADOW. -/
  running : Bool
  /-- An edge has fired since they started. Before that `num` is the number of the first edge. -/
  begun : Bool
  /-- Number and instant of the most recent edge, and of the next, which is fixed (R36). -/
  num : Nat
  last : Time
  next : Time
  /-- The edges before the last, newest first: number and instant, at most 1,024 (the windows of R46 and R95 reach back to them). -/
  past : List (Nat × Time)
  /-- FRM_NUM_OFFSET (R33). -/
  delta : Int
  /-- FRM_NUM_OFFSET as it reads: the offset of the most recent edge (R35). -/
  shownDelta : Int
  /-- The interval ends a lock or a re-base, so it may be long (R38). -/
  lock : LockLoop
  ltc : Ltc
  slips : Nat
  /-- The parameter set of the most recently presented frame (R60). -/
  cur : Store
  /-- Frames latched and not yet presented, oldest first. -/
  frames : List Frame
  /-- The presented frame's values, and the store they were computed under, which R49 presents again. -/
  shown : FrameOut
  shownCfg : Store
  shownNum : Nat
  /-- The frame presented at the last edge is a repeat (R49). -/
  repeat_ : Bool
  deriving DecidableEq, Repr
/-! ### The block -/

/-- Fixtures between frames (06): ambient and junction state of each thermal model as binary64 (R145), drives of the last solve of each
fixture, each PIXEL strand's pixel drives, the last canvas sample of each fixture (R393), the thermistor inputs as last measured
[Ω] (R509), and the per-frame counters of Foade. -/
structure Fixt where
  theta : SMap F64
  /-- Output drives of each fixture in the last computed frame (R133), and its drives after derating in U0.24 (R151). -/
  solved : SMap (List Nat)
  derated : SMap (List Nat)
  pixels : SMap (List (List Nat))
  samples : SMap (Option LevelV)
  ohms : List Nat
  /-- Temperature and FAULT used for the most recently presented frame (R107). -/
  temps : SMap Int
  faults : SMap Nat
  /-- FIX counters of Foade: unconverged, clipped, dark frames. -/
  cnt : SMap Nat
  deriving DecidableEq, Repr

/-- The whole block, and the queue of commands that wait for it, first in, first out. -/
structure State where
  pending : List Instr
  dev : Dev
  tim : Tim
  frm : Frm
  con : Content
  src : Sources
  fix : Fixt
  wired : Wired
  ras : SMap RasterState
  drv : Drive
  rad : Radio
  eth : SMap EthState
  que : Ques
  host : HostRegs
  ox : Oxold
  stk : Stack
  red : Red
  eng : Energy
  sec : Island
  upd : Update
  log : Recorder
  cal : Calib
  sch : Sched
  fab : Fabric
  /-- The values of IMMEDIATE parameters and tables that take writes. -/
  imm : Store
  /-- How many free values have been taken. The model's own field: no statement rests on its value. -/
  free : Nat
  /-- Everything put out, newest first. Read by no meaning. -/
  out : List Sent
  deriving DecidableEq, Repr
/-! ### Reset -/

/-- The block right after reset: DAWN (Table 13-3 STATE), every register at the reset value of its table, and what the spec gives no
reset value for as the assumption log says. -/
def State.reset : State where
  pending := []
  dev := {
    state := .dawn, vbat := true, rails := true, resetN := true, bootSrc := 0, stackEn := false, safeSel := false,
    dawnPassed := 0, dawnFail := false, dawnStep := 0, dawnCode := 0, detail := 0, fw := 0, safeCause := 0, duskWanted := false,
    duskDone := false, dieTemp := 0, hotMs := 0, railMv := [], bankRange := [], wakeMask := 0, wakeSec := 0, wakeRead := false,
    pcieUp := false, hostLoadAt := none }
  tim := {
    now := 0, up := 0, rtc := 0, rtcAt := 0, rtcValid := false, f := 0, p := 0, offset := 0, disc := .free, good := 0, bad := 0,
    sampleAt := 0, interval := 0, holdAt := 0, large := false, lastO := 0, tsq := [], tsqOvf := [], cmp := [], tin := [], alarms := [],
    tinOvf := 0, tout := [], ptpPort := [], foreign := [], ptpPend := [], ptpSeq := [] }
  frm := {
    running := false, begun := false, num := 0, last := 0, next := 0, past := [], delta := 0, shownDelta := 0,
    lock := {
      state := .acquiring, last := none, good := 0, missing := 0, beyond := 0, lengthen := 0, steer := 0, wclk := 0, window := none, missed := none,
      everLocked := false, mismatch := false },
    ltc := { start := none, code := 0, drop := false, period := 0, counting := false, counted := 0, lost := false, sub := 0, tc := 0 },
    slips := 0, cur := Store.empty, frames := [], shown := FrameOut.empty, shownCfg := Store.empty, shownNum := 0, repeat_ := false }
  con := {
    ringA := Ring.empty, ringB := Ring.empty, bar2 := [], layers := [], sacn := [], closed := [], streams := [], rr := [],
    granted := [], captures := [], captureMissed := 0, front := [], bands := [], bandNext := 0, dramPix := 0, dramOver := 0 }
  src := {
    scene := [], sched := [], change := [], skipped := 0, schedRun := false, fired := [], sunrise := 0, sunset := 0, solarNone := [],
    fault := [], temp := [], schedUpTo := 0, noTimeLogged := false }
  fix := { theta := [], solved := [], derated := [], pixels := [], samples := [], ohms := [], temps := [], faults := [], cnt := [] }
  wired := {
    dmx := [], resp := [], uid := [], dali := [], found := [], sacn := [], sacnSeq := [], sacnLate := 0,
    strands := [], telAt := [] }
  ras := []
  drv := {
    cfg := Store.empty, live := false, fresh := false, msyncSeen := false, staged := [],
    points := [], pins := [], matrix := [], eligible := none, cycleAt := 0, slots := 0, msyncAt := none, msyncIdle := 0,
    probes := [], cnt := [] }
  rad := { ports := [], neigh := [], cellGen := [], fc := [], buckets := [] }
  eth := []
  que := { q := [], slots := [], lost := 0, seq := 0 }
  host := {
    intStatus := 0, intMask := 0xFFFFFFFFFFFFFFFF, intVec := 0, dmaBase := 0, dmaSize := 16, dmaTail := 0, dmaHead := 0, bar2Mode := false,
    latchPcie := (0, 0), latchQspi := (0, 0), msixTable := [], msixPending := 0, busData := [], dmaWork := [] }
  ox := { dedupe := [], open_ := [], accepted := [], nextId := 1, counters := [] }
  stk := {
    role := 0, index := 0, nodes := 1, candidate := none, enumerated := false, reach := 1, o := 0, oHat := none, edges := [],
    missed := 0, detached := false, masterProto := 0, port := [], syncSeq := 0, probeSeq := 0, nextRelay := 0, relays := [],
    staged := [], slips := [] }
  red := {
    pair := false, role := 0, fit := 3, actOut := false, peerAct := false, sent := [], sAck := none, r := 0, first := false,
    released := none, release := false, takenAt := none, hello := none, snap := [], snapPart := 0, snapAt := none, snapDone := false,
    inputs := [], temps := [], faults := [], contSacn := [], contFc := [], contNeigh := [], contCmd := [], results := [], own := [], compared := none,
    told := false, peer := (3, 0, []), lastActive := 0, cnt := [], holding := false, zeroed := false,
    roleAt := none }
  eng := {
    frames := [], coef := [], work := [], control := [], trim := [], planFrame := 0, planF := 0, planS := 0, planCap := 0, planA := 0,
    step := 0, h := 1, ledger := [], ledgerFrame := 0, history := [], minute := (0, 0, 0, 1), minuteAt := 0, fits := 0, above := 0,
    skip := 0, causes := [], cnt := [] }
  sec := {
    lifecycle := 0, counter := 0, tampered := false, tamperAt := none, kek := true, error := false, slots := [], fuseLocked := false,
    rx := [], tx := [], live := [], peer := [], cnt := [] }
  upd := {
    state := 0, before := 0,
    sel := { seq := 0, set := 0, trial := false, count := 0, settings := 0, fbSet := 0, fbSettings := 0, hash := [] },
    sets := [], copies := [], dl := Download.empty, load := Download.empty, armed := none,
    svnFloor := 0, windowAt := none, trialTxns := 0, cnt := [], confirming := false, resetWanted := false }
  log := {
    slots := [], counters := [], buckets := [], clearing := [], cursors := [], held := [], volatile := false, optime := 0, opBase := 0,
    cycles := 0, cond := [] }
  cal := { lines := [], running := false, startAt := 0, pos := [], spareFailed := [], now := [], cnt := [] }
  sch := { threads := [], next := 0, lost := 0 }
  fab := { margin := 0, min := 0, low := 0 }
  imm := Store.empty
  free := 0
  out := []

end Sys2Proof.Machine
end

