-- ==== Sys2Proof/Machine/Lanes.lean ====
section
/-! DEFINITION. Block links (08 8.2, 15 15.1): the scrambler and the sync header of a lane, slots with ALIGN and IDLE blocks, and the packets,
TIME slots, CREDIT blocks and LINK slots of a cascade port. -/

namespace Sys2Proof.Machine

/-- A block: whether it is a control block, and its 8 payload bytes. -/
abbrev Block := Bool × List Byte

/-- 64 payload bits through the scrambler x^58 + x^39 + 1 of a lane, given the 58 bits sent before: the bits sent, and the 58 bits then
sent last (R196). -/
def scramble (h d : Nat) : Nat × Nat :=
  let o1 := Nat.xor (Nat.xor d (h / 2 ^ 19)) h % 2 ^ 39
  let w := h + o1 * 2 ^ 58
  let o2 := Nat.xor (Nat.xor (d / 2 ^ 39) (w / 2 ^ 58)) (w / 2 ^ 39) % 2 ^ 25
  (o1 + o2 * 2 ^ 39, (w + o2 * 2 ^ 97) / 2 ^ 64)

/-- A block as its lane sends it: the header 1, 0 of a control block or 0, 1 of a data block, then the scrambled payload. -/
def blockBits (control : Bool) (scrambled : Nat) : Nat := (if control then 1 else 2) + 4 * scrambled

/-- A control block of a type whose other bytes are 0 (Tables 8-5, 15-1). -/
def controlBlock (ty : Nat) : Block := (true, leBytes 8 ty)

/-- Data blocks of bytes, 8 to a block. -/
def dataBlocks (bytes : List Byte) : List Block := (chunks 8 (bytes.length / 8) bytes).map fun b => (false, b)

/-- The blocks of one slot, one on each of `width` lanes, IDLE on those without a block. -/
def laneSlot (width : Nat) (l : Lanes) (bs : List Block) : Lanes × List Nat :=
  let r := (List.range width).map fun i =>
    let b := bs.getD i (controlBlock 0x1E)
    let x := scramble (l.hist.getD i 0) (leNat b.2)
    (blockBits b.1 x.1, x.2)
  ({ slot := l.slot + 1, hist := r.map (·.2) }, r.map (·.1))

/-- A slot carries ALIGN blocks: every 16,384th from the start of the lanes (R197, R336). -/
def alignSlot (n : Nat) : Bool := (n + 1) % 16384 == 0

/-- The ALIGN blocks of a slot: lane, port and marker count (Table 8-5). -/
def alignBlocks (width port n : Nat) : List Block :=
  (List.range width).map fun i => (true, leBytes 1 0x4B ++ leBytes 1 i ++ leBytes 1 port ++ leBytes 2 (n / 16384) ++ leBytes 3 0)

/-- `n` slots of a port of `width` lanes that has blocks to send: those in order from lane 0, with ALIGN slots between and IDLE blocks in what
remains (R197, R336). The lanes after them, and the blocks sent, in reverse. -/
def laneStream (width port : Nat) : Nat → Lanes → List Block → List Nat → Lanes × List Nat
  | 0, l, _, acc => (l, acc)
  | n + 1, l, bs, acc =>
    if alignSlot l.slot then
      let r := laneSlot width l (alignBlocks width port l.slot)
      laneStream width port n r.1 bs (r.2.reverse ++ acc)
    else
      let r := laneSlot width l (bs.take width)
      laneStream width port n r.1 (bs.drop width) (r.2.reverse ++ acc)

/-! ### Cascade ports (Table 15-1) -/

/-- A packet with its SEQ: SOP, the header, the payload, the trailer with its CRC, and TERM (R346). -/
def packetBlocks (seq : Nat) (x : CasPacket) : List Block :=
  let head := leBytes 1 x.cls ++ leBytes 1 (b2n x.first + 2 * b2n x.last) ++ leBytes 1 x.src ++ leBytes 1 x.dst ++ leBytes 2 seq
    ++ leBytes 1 x.stream ++ leBytes 1 0
  let covered := head ++ pad8 x.payload ++ leBytes 2 x.payload.length ++ leBytes 2 0
  controlBlock 0x78 :: dataBlocks (covered ++ leBytes 4 (crc32 covered)) ++ [controlBlock 0x87]

/-- The packets of a message: at most 2,048 bytes each, the first and the last marked (R346). -/
def packetsOf (cls src dst stream : Nat) (m : List Byte) : List CasPacket :=
  let n := (m.length + 2047) / 2048
  (numbered (chunks 2048 n m)).map fun x => {
    cls := cls, src := src, dst := dst, stream := stream, first := x.1 == 0, last := x.1 + 1 == n, payload := x.2 }

/-- A TIME slot: its control block on lane 0 and 56 bytes on lanes 1 to 7, the last four a CRC over the others (R345). -/
def timeSlot (subtype : Nat) (body : List Byte) : List Block :=
  let b := body ++ List.replicate (52 - body.length) 0
  (true, leBytes 1 0x2D ++ leBytes 1 subtype ++ leBytes 6 0) :: dataBlocks (b ++ leBytes 4 (crc32 b))

/-- A CREDIT block: class, highest SEQ received in order, and credits granted (Table 15-1). -/
def creditBlock (cls seq units : Nat) : Block := (true, leBytes 1 0x33 ++ leBytes 1 cls ++ leBytes 2 seq ++ leBytes 2 units ++ leBytes 2 0)

/-- A LINK slot: port mode, STACK_EN strap, role and device state on all lanes (Table 15-1). -/
def linkSlot (mode : Nat) (stackEn : Bool) (role state : Nat) : List Block :=
  List.replicate 8 (true, leBytes 1 0x55 ++ leBytes 1 mode ++ leBytes 1 (b2n stackEn) ++ leBytes 1 role ++ leBytes 1 state ++ leBytes 3 0)

/-- The bits on the eight lanes of a cascade port, CUP 0 and CDN 1, over `n` slots in which it has these blocks to send (R336). -/
def casLanes (port n : Nat) (l : Lanes) (bs : List Block) : Lanes × List Nat :=
  let r := laneStream 8 port n l bs []
  (r.1, r.2.reverse)

end Sys2Proof.Machine
end

