-- ==== Sys2Proof/Machine/Flags.lean ====
section
/-! DEFINITION. Time, output history, interrupt sources with their MSI-X messages (13.2.1), and the status balls (21.4). -/

namespace Sys2Proof.Machine

/-- The parameter set of the most recently presented frame (R60). -/
abbrev State.cfg (s : State) : Store := s.frm.cur

/-- The block with one more thing put out. -/
def emit (s : State) (x : Sent) : State := { s with out := x :: s.out }

/-- The node runs on its main rails: DAWN to DUSK. -/
def DevState.powered : DevState → Bool
  | .off => false
  | .standby => false
  | _ => true

/-- The states in which edges run and every mailbox answers (Table 1-8). -/
def DevState.live : DevState → Bool
  | .ready => true
  | .run => true
  | .shadow => true
  | _ => false

/-- The code of a device state (Table 1-8). -/
def DevState.code : DevState → Nat
  | .off => 0
  | .standby => 1
  | .dawn => 2
  | .safe => 3
  | .ready => 4
  | .run => 5
  | .shadow => 6
  | .dusk => 7

/-- Device time has reached `t`; the interval clock moves with it while the node is powered. -/
def advance (s : State) (t : Time) : State :=
  { s with tim := { s.tim with
      now := max s.tim.now t
      up := if s.dev.state.powered then s.tim.up + (max s.tim.now t - s.tim.now) else s.tim.up } }

/-- The next free value and the state that has taken it. -/
def takeFree (s : State) : Nat × State := (s.free, { s with free := s.free + 1 })

/-! ### Interrupts -/

/-- A byte of the MSI-X table; the mask bit of every vector is set at reset. -/
def msixByte (s : State) (i : Nat) : Nat := (SMap.get (if i % 16 = 12 then 1#8 else 0#8) s.host.msixTable i).toNat

/-- A vector's mask bit is set. -/
def msixMasked (s : State) (v : Nat) : Bool := bitAt (msixByte s (16 * v + 12)) 0

/-- The MSI-X message of a vector, sent, or left pending while the vector is masked. -/
def msixSend (s : State) (v : Nat) : State :=
  if msixMasked s v then { s with host := { s.host with msixPending := putBit s.host.msixPending v true } }
  else emit s (.msix v)

/-- The MSI-X vector of an interrupt source (INT_VEC). -/
def vectorOf (s : State) (n : Nat) : Nat := bitsAt s.host.intVec (8 * n) 5

/-- Source `n` of INT_STATUS is set (R300). -/
def raise (s : State) (n : Nat) : State :=
  if bitAt s.host.intStatus n then s
  else
    let s1 := { s with host := { s.host with intStatus := putBit s.host.intStatus n true } }
    if bitAt s.host.intMask n then s1 else msixSend s1 (vectorOf s n)

/-- Sources of Table 13-4 beside the queues. -/
def intState : Nat := 32
/-- DAWN_DONE. -/
def intDawn : Nat := 33
/-- REG_ERR. -/
def intReg : Nat := 34
/-- PTR_ERR. -/
def intPtr : Nat := 35
/-- DMA_ERR. -/
def intDma : Nat := 36
/-- RING_A_ERR. -/
def intRing : Nat := 37
/-- MB_MALFORMED. -/
def intMal : Nat := 38

/-- An interrupt is pending: HQ_IRQ_N is low (R300). -/
def irqPending (s : State) : Bool := (List.range 39).any fun n => bitAt s.host.intStatus n && !bitAt s.host.intMask n

/-! ### Status balls -/

/-- The READY ball (Table 21-4). -/
def readyBall (s : State) : Bool := s.dev.state.live || s.dev.state == .dusk

/-- The SAFE_N ball (Table 21-4). -/
def safeNBall (s : State) : Bool :=
  match s.dev.state with
  | .safe => false
  | .dusk => false
  | _ => true

end Sys2Proof.Machine
end

