-- ==== Sys2Proof/Machine/NetFrame.lean ====
section
/-! DEFINITION. Ethernet frames as bytes (07 7.5, 11): the frames that the node builds over Ethernet, IP and UDP, ANSI E1.31 packets, TX
descriptors, and the fields that classification reads of a received frame. Multi-byte fields of these standards go most significant byte
first. -/

namespace Sys2Proof.Machine

/-! ### Building -/

/-- The station address of a port (R262). -/
def macOf (port : Nat) : List Byte := beBytes 6 (Config.macAddr port)

/-- A VLAN tag; none for VLAN 0. -/
def vlanTag (vid pcp : Nat) : List Byte := if vid = 0 then [] else beBytes 2 0x8100 ++ beBytes 2 (pcp * 8192 + vid)

/-- The 16-bit words of bytes, most significant first, added up. -/
def wordSum : List Byte → Nat
  | [] => 0
  | [a] => a.toNat * 256
  | a :: b :: rest => a.toNat * 256 + b.toNat + wordSum rest

/-- The ones' complement checksum of IP and UDP. -/
def ipSum (bs : List Byte) : Nat :=
  let n := wordSum bs
  let f := n % 65536 + n / 65536
  65535 - (f % 65536 + f / 65536) % 65536

/-- The IPv4 address, the global IPv6 address and the link-local IPv6 address of an interface (R275). -/
def ip4Of (c : Store) (i : Nat) : List Byte := leBytes 4 (c.row ethIp i)

/-- The modified EUI-64 of a port's station address. -/
def eui64 (port : Nat) : List Byte :=
  let m := Config.macAddr port
  beBytes 3 (Nat.xor (m / 2 ^ 24) 0x020000) ++ beBytes 2 0xFFFE ++ beBytes 3 (m % 2 ^ 24)

/-- The link-local address of a port's interfaces. -/
def linkLocal (port : Nat) : List Byte := beBytes 8 0xFE80000000000000 ++ eui64 port

/-- The source IPv6 address of an interface: global, or link-local where it has none. -/
def ip6Of (c : Store) (i : Nat) : List Byte :=
  if bitsAt (c.row ethIp i) 128 128 = 0 then linkLocal (i / 2) else leBytes 16 (bitsAt (c.row ethIp i) 128 128)

/-- A frame with header, tag and EtherType. -/
def ethFrame (port : Nat) (dmac : List Byte) (vid pcp ty : Nat) (payload : List Byte) : List Byte :=
  dmac ++ macOf port ++ vlanTag vid pcp ++ beBytes 2 ty ++ payload

/-- VLAN and PCP of what an interface sends, numbered port × 2 + interface: DATA_VID, or MGMT_VID with MGMT_PCP (Table 11-1, R276). -/
def ifTag (c : Store) (i : Nat) : Nat × Nat :=
  let r := c.row ethPort (i / 2)
  if i % 2 = 0 then (epData r, 0) else (epMgmt r, bitsAt r 112 3)

/-- An IPv4 packet of a protocol from an interface. -/
def ip4Packet (c : Store) (i : Nat) (dst dmac : List Byte) (proto ttl dscp : Nat) (data : List Byte) : List Byte :=
  let h (sum : Nat) : List Byte :=
    leBytes 1 0x45 ++ leBytes 1 (dscp * 4) ++ beBytes 2 (20 + data.length) ++ beBytes 4 0 ++ leBytes 1 ttl ++ leBytes 1 proto ++ beBytes 2 sum
      ++ ip4Of c i ++ dst
  ethFrame (i / 2) dmac (ifTag c i).1 (ifTag c i).2 0x0800 (h (ipSum (h 0)) ++ data)

/-- A UDP datagram over IPv4 from an interface, with a UDP checksum of zero. -/
def udp4 (c : Store) (i : Nat) (dst dmac : List Byte) (sp dp ttl dscp : Nat) (data : List Byte) : List Byte :=
  ip4Packet c i dst dmac 17 ttl dscp (beBytes 2 sp ++ beBytes 2 dp ++ beBytes 2 (8 + data.length) ++ beBytes 2 0 ++ data)

/-- An IPv6 packet of a next header from a source address of an interface; `data` is given its checksum over the pseudo-header. -/
def ip6Packet (c : Store) (i : Nat) (src dst dmac : List Byte) (proto hops dscp len : Nat) (data : Nat → List Byte) : List Byte :=
  let sum := ipSum (src ++ dst ++ beBytes 4 len ++ beBytes 4 proto ++ data 0)
  ethFrame (i / 2) dmac (ifTag c i).1 (ifTag c i).2 0x86DD
    (beBytes 4 (0x60000000 + dscp * 4 * 1048576) ++ beBytes 2 len ++ leBytes 1 proto ++ leBytes 1 hops ++ src ++ dst
      ++ data (if proto = 17 ∧ sum = 0 then 65535 else sum))

/-- A UDP datagram over IPv6 from an interface. -/
def udp6 (c : Store) (i : Nat) (dst dmac : List Byte) (sp dp ttl dscp : Nat) (data : List Byte) : List Byte :=
  ip6Packet c i (ip6Of c i) dst dmac 17 ttl dscp (8 + data.length) fun sum =>
    beBytes 2 sp ++ beBytes 2 dp ++ beBytes 2 (8 + data.length) ++ beBytes 2 sum ++ data

/-- An ARP packet from an interface: 1 a request, 2 a reply (RFC 826, PRESUMED, log entry 45). -/
def arpPacket (c : Store) (i op : Nat) (dmac : List Byte) (thw tip : List Byte) : List Byte :=
  ethFrame (i / 2) dmac (ifTag c i).1 (ifTag c i).2 0x0806
    (beBytes 2 1 ++ beBytes 2 0x0800 ++ leBytes 1 6 ++ leBytes 1 4 ++ beBytes 2 op ++ macOf (i / 2) ++ ip4Of c i ++ thw ++ tip)

/-- A Neighbour Advertisement of an address of an interface, with its flags (RFC 4861, PRESUMED, log entry 45). -/
def naPacket (c : Store) (i flags : Nat) (addr dst dmac : List Byte) : List Byte :=
  ip6Packet c i addr dst dmac 58 255 0 32 fun sum =>
    leBytes 1 136 ++ leBytes 1 0 ++ beBytes 2 sum ++ beBytes 4 flags ++ addr ++ leBytes 1 2 ++ leBytes 1 1 ++ macOf (i / 2)

/-- The Ethernet address of an IPv4 group. -/
def mac4 (group : Nat) : List Byte := beBytes 6 (0x01005E000000 + group % 2 ^ 23)

/-- The Ethernet address of an IPv6 group. -/
def mac6 (group : Nat) : List Byte := beBytes 6 (0x333300000000 + group % 2 ^ 32)

/-! ### ANSI E1.31 (7.5) -/

/-- The IPv4 group of a universe, 239.255.hi.lo. -/
def group4 (u : Nat) : Nat := 0xEFFF0000 + u

/-- The IPv6 group of a universe, ff18::83:00:hi:lo. -/
def group6 (u : Nat) : Nat := 0xFF180000000000000000000083000000 + u

/-- The root layer with a vector, over `rest` bytes from the framing layer on. -/
def acnRoot (c : Store) (vector : Nat) (rest : Nat) : List Byte :=
  beBytes 2 0x0010 ++ beBytes 2 0 ++ beBytes 12 0x4153432D45312E3137000000 ++ beBytes 2 (0x7000 + 22 + rest) ++ beBytes 4 vector
    ++ leBytes 16 (c.row sacCid 0)

/-- A data packet: universe, priority, synchronisation address, sequence number, options and slots. -/
def e131Data (c : Store) (u prio sync seq options : Nat) (slots : List Byte) : List Byte :=
  let n := slots.length
  acnRoot c 4 (88 + n) ++ beBytes 2 (0x7000 + 88 + n) ++ beBytes 4 2 ++ leBytes 64 (c.row sacName 0) ++ leBytes 1 prio ++ beBytes 2 sync
    ++ leBytes 1 seq ++ leBytes 1 options ++ beBytes 2 u ++ beBytes 2 (0x7000 + 11 + n) ++ leBytes 1 2 ++ leBytes 1 0xA1 ++ beBytes 2 0
    ++ beBytes 2 1 ++ beBytes 2 (n + 1) ++ leBytes 1 0 ++ slots

/-- A synchronisation packet. -/
def e131Sync (c : Store) (u seq : Nat) : List Byte :=
  acnRoot c 8 11 ++ beBytes 2 (0x7000 + 11) ++ beBytes 4 1 ++ leBytes 1 seq ++ beBytes 2 u ++ beBytes 2 0

/-- A frame to UDP port 5568 for a universe's group, or to a unicast IPv4 address in record order; `c` holds the SAC_ parameters that
govern it, and `e` those of the port. -/
def sacnFrame (c e : Store) (port u dest : Nat) (data : List Byte) : List Byte :=
  if c.v sacIp = 1 then
    udp6 e (port * 2) (beBytes 16 (group6 u)) (mac6 (group6 u)) 5568 5568 (c.v sacTtl) (c.v sacDscp) data
  else if dest = 0 then udp4 e (port * 2) (beBytes 4 (group4 u)) (mac4 (group4 u)) 5568 5568 (c.v sacTtl) (c.v sacDscp) data
  else udp4 e (port * 2) (leBytes 4 dest) (beBytes 6 (Config.neighbourMac dest)) 5568 5568 (c.v sacTtl) (c.v sacDscp) data

/-- A TX descriptor and its frame (Table 11-2). -/
def txPacket (tag flags : Nat) (frame : List Byte) : List Byte :=
  pad8 (leBytes 2 tag ++ leBytes 1 flags ++ leBytes 1 0 ++ leBytes 2 frame.length ++ leBytes 2 0 ++ frame)

/-- A descriptor of the sACN engine: it carries no request of the host's, and its last bytes mark whose it is and whether its universe is a
SYNC universe. -/
def sacnPacket (sync : Bool) (frame : List Byte) : List Byte :=
  pad8 (leBytes 4 0 ++ leBytes 2 frame.length ++ leBytes 2 (1 + 2 * b2n sync) ++ frame)

/-- A packet of the sACN engine. -/
def isSacn (pkt : List Byte) : Bool := leAt pkt 6 2 == 1 || leAt pkt 6 2 == 3

/-- The bytes that a synchronisation packet takes on the wire of a port. -/
def syncWireBytes (c e : Store) (port : Nat) : Nat := (sacnFrame c e port 0 0 (e131Sync c 0 0)).length + 24

/-! ### Reading a received frame -/

/-- What classification reads of a frame (R268, R269): destination, tag, EtherType after any tag, the offset of what follows, the IP
protocol, the destination address, the offset and destination port of UDP. -/
structure RxView where
  dst : Nat
  tagged : Bool
  tci : Nat
  etype : Nat
  off : Nat
  proto : Option Nat
  ipDst : List Byte
  udpPort : Option Nat
  udpOff : Nat
  deriving DecidableEq, Repr

/-- Where a datagram came from: Ethernet address, IP address and UDP port, as they stand in its frame. -/
def udpSource (b : List Byte) (v : RxView) : List Byte :=
  (b.drop 6).take 6 ++ (if v.etype = 0x0800 then (b.drop (v.off + 12)).take 4 else (b.drop (v.off + 8)).take 16) ++ (b.drop (v.udpOff - 8)).take 2

/-- The view of a frame's bytes. -/
def viewOf (b : List Byte) : RxView :=
  let tagged := beAt b 12 2 == 0x8100
  let tci := if tagged then beAt b 14 2 else 0
  let o := if tagged then 18 else 14
  let ty := beAt b (o - 2) 2
  let base : RxView :=
    { dst := beAt b 0 6, tagged := tagged, tci := tci, etype := ty, off := o, proto := none, ipDst := [], udpPort := none, udpOff := 0 }
  if ty = 0x0800 ∧ o + 20 ≤ b.length then
    let ihl := 4 * (byteOf b o % 16)
    let p := byteOf b (o + 9)
    let frag := beAt b (o + 6) 2 % 8192
    { base with
      proto := some p
      ipDst := (b.drop (o + 16)).take 4
      udpPort := if p = 17 ∧ frag = 0 ∧ o + ihl + 8 ≤ b.length then some (beAt b (o + ihl + 2) 2) else none
      udpOff := o + ihl + 8 }
  else if ty = 0x86DD ∧ o + 40 ≤ b.length then
    let p := byteOf b (o + 6)
    { base with
      proto := some p
      ipDst := (b.drop (o + 24)).take 16
      udpPort := if p = 17 ∧ o + 48 ≤ b.length then some (beAt b (o + 42) 2) else none
      udpOff := o + 48 }
  else base

end Sys2Proof.Machine
end

