-- ==== Sys2Proof/Machine/Ops.lean ====
section
/-! DEFINITION. The named operations that the commands share: queues (12), notifications (13.8), the event recorder's write side (20),
changes of the device state (01 1.6) and the cascade's sending side (15.4). -/

namespace Sys2Proof.Machine

/-! ### Node -/

/-- The node is the stack master, or stands alone (Table 13-3 MASTER). -/
def isMaster (s : State) : Bool := !s.dev.stackEn || s.stk.role == 1

/-- Its CUP reaches the stack above it (R353, R360). -/
def isMember (s : State) : Bool := s.dev.stackEn && s.stk.role == 2

/-- Operating time [ms] (R454). -/
def optimeNow (s : State) : Nat := min (s.log.opBase + s.tim.up / ms) 0xFFFFFFFFFF

/-- A counter of a sparse map, advanced by `k` and saturating. -/
def bump (m : SMap Nat) (i k : Nat) : SMap Nat := SMap.upd 0 m i fun x => sat32 x k

/-! ### Queues -/

/-- A queue. -/
def qGet (s : State) (q : Nat) : Queue := SMap.get Queue.empty s.que.q q

/-- The block with a queue replaced. -/
def qPut (s : State) (q : Nat) (x : Queue) : State := { s with que := { s.que with q := SMap.put Queue.empty s.que.q q x } }

/-- SIZE of a queue in bytes (Table 12-1). -/
def qSize (s : State) (q : Nat) : Nat := u16At (s.cfg.row queConfig q) 0 * 1024

/-- Bytes of committed packets (R280). -/
def qFill (x : Queue) : Nat := (x.packets.map List.length).sum

/-- Free bytes. -/
def qFree (s : State) (q : Nat) : Nat := qSize s q - qFill (qGet s q)

/-- TAIL: the offset that follows the last committed packet. -/
def qTail (s : State) (q : Nat) : Nat := if qSize s q = 0 then 0 else ((qGet s q).head + qFill (qGet s q)) % qSize s q

/-- The bytes a ring takes between C and W, and its size (R284). -/
def ringFill (s : State) (q : Nat) : Nat × Nat :=
  let r := if q = 22 then s.con.ringA else s.con.ringB
  let size := s.cfg.v (if q = 22 then cnvRingAMib else cnvRingBMib) * 1048576
  (r.w - r.c, size)

/-- The fill and the size that a queue's watermarks are taken against (R284). -/
def markOf (s : State) (q : Nat) : Nat × Nat :=
  if q = 22 ∨ q = 23 then ringFill s q
  else if q = 16 ∨ q = 17 then (((SMap.get [] s.tim.tsq (q - 16)).length * 16), 1024)
  else (qFill (qGet s q), qSize s q)

/-- The watermark state after a completed push, pop or flush, and HWM_CROSSINGS (R284). -/
def watermark (s : State) (q : Nat) : State :=
  let x := qGet s q
  let r := s.cfg.row queConfig q
  let m := markOf s q
  if m.1 * 256 > byteAt r 2 * m.2 then
    if x.high then s else qPut s q { x with high := true, crossings := sat32 x.crossings 1 }
  else if m.1 * 256 < byteAt r 3 * m.2 then qPut s q { x with high := false }
  else s

/-- Host-consumed queues (R289). -/
def hostConsumed (q : Nat) : Bool :=
  (8 ≤ q && q ≤ 15) || (18 ≤ q && q ≤ 21) || q == 25 || q == 27 || (28 ≤ q && q ≤ 30)

/-- Host-produced queues (R290). -/
def hostProduced (q : Nat) : Bool := q ≤ 7 || q == 24 || q == 26

/-- A packet written and committed at the tail; its Q_EVENT where the queue is the host's (Table 13-4). -/
def qCommit (s : State) (q : Nat) (hostSlot : Bool) (pkt : List Byte) : State :=
  let s1 := watermark (qPut s q { qGet s q with packets := (qGet s q).packets ++ [pkt] }) q
  if hostConsumed q || hostSlot then raise s1 q else s1

/-- A blocking push (R281): it commits at once where nothing waits before it and it fits, and otherwise it waits. -/
def qPush (s : State) (q : Nat) (hostSlot : Bool) (pkt : List Byte) : State :=
  let x := qGet s q
  if x.waiting = [] ∧ pkt.length ≤ qFree s q ∧ x.flushing = false then qCommit s q hostSlot pkt
  else qPut s q { x with waiting := x.waiting ++ [(hostSlot, pkt)], waits := sat32 x.waits 1 }

/-- The first waiting push, once the free space holds it (R281). -/
def qResume (s : State) (q : Nat) : State :=
  let x := qGet s q
  match x.waiting with
  | [] => s
  | (h, pkt) :: rest =>
    if pkt.length ≤ qFree s q ∧ x.flushing = false then qCommit (qPut s q { x with waiting := rest }) q h pkt else s

/-- As many waiting pushes as fit, at most `n`. -/
def qResumeAll : Nat → State → Nat → State
  | 0, s, _ => s
  | n + 1, s, q => qResumeAll n (qResume s q) q

/-- A packet given up by a discarding producer (R282). -/
def qDiscard (s : State) (q : Nat) : State := qPut s q { qGet s q with discards := sat32 (qGet s q).discards 1 }

/-- A discarding producer's test and push (R282): whether the packet was committed. -/
def qOffer (s : State) (q : Nat) (pkt : List Byte) : Bool × State :=
  if pkt.length ≤ qFree s q ∧ (qGet s q).waiting = [] then (true, qCommit s q false pkt)
  else (false, qDiscard s q)

/-- The oldest packet taken by the consumer. -/
def qPop (s : State) (q : Nat) : Option (List Byte) × State :=
  match (qGet s q).packets with
  | [] => (none, s)
  | p :: rest =>
    (some p, watermark (qPut s q { qGet s q with
      packets := rest
      head := if qSize s q = 0 then 0 else ((qGet s q).head + p.length) % qSize s q }) q)

/-! ### Cascade sending (15.4) -/

/-- A cascade port. -/
def casGet (s : State) (p : Nat) : CasPort := SMap.get CasPort.empty s.stk.port p

/-- The block with a cascade port replaced. -/
def casPut (s : State) (p : Nat) (x : CasPort) : State :=
  { s with stk := { s.stk with port := SMap.put CasPort.empty s.stk.port p x } }

/-- The port is UP. -/
def casUp (s : State) (p : Nat) : Bool := (casGet s p).state == 2

/-- A class of a port. -/
def casClass (s : State) (p c : Nat) : CasClass := SMap.get CasClass.empty (casGet s p).cls c

/-- The block with a class of a port replaced. -/
def casClassPut (s : State) (p c : Nat) (x : CasClass) : State :=
  casPut s p { casGet s p with cls := SMap.put CasClass.empty (casGet s p).cls c x }

/-- The packet that goes next of those that wait, and the others: transit and locally originated packets alternate, each kind in its
order (R347). -/
def nextPacket (index : Nat) (x : CasClass) : Option (CasPacket × List CasPacket) :=
  match x.waiting.find? fun y => (y.src == index) == x.own with
  | some y => some (y, x.waiting.erase y)
  | none => match x.waiting with
    | [] => none
    | y :: rest => some (y, rest)

/-- Packets of a class that go out: those that wait, while the class has credit and, in CMD and MIRROR, fewer than 64 are
unacknowledged (R347, R348). One packet takes one unit of credit. -/
def casPump : Nat → State → Nat → Nat → State
  | 0, s, _, _ => s
  | n + 1, s, p, c =>
    let x := casClass s p c
    match nextPacket s.stk.index x with
    | none => s
    | some (m, rest) =>
      if x.credit = 0 ∨ (c ≠ 2 ∧ 64 ≤ x.unacked.length) ∨ !casUp s p then s
      else
        let x1 := { x with
          waiting := rest
          own := !(m.src == s.stk.index)
          credit := x.credit - 1
          next := (x.next + 1) % 65536
          unacked := if c = 2 then x.unacked else x.unacked ++ [(x.next, m)] }
        casPump n (emit (casClassPut s p c x1) (.cascade p c (packetBlocks x.next m))) p c

/-- Packets handed to a class of a port. -/
def casQueue (s : State) (p c : Nat) (ps : List CasPacket) : State :=
  let x := casClass s p c
  casPump (x.waiting.length + ps.length) (casClassPut s p c { x with waiting := x.waiting ++ ps }) p c

/-- A message of this node for another, or for all (0x3F), handed to a class of a port (R346). -/
def casSend (s : State) (p c dst : Nat) (m : List Byte) : State := casQueue s p c (packetsOf c s.stk.index dst 0 m)

/-- A CMD or MIRROR message of so many bytes that arrived on a port that is UP is acknowledged: a CREDIT block names the highest SEQ
received in order (R346, R348). How many credits it grants the spec leaves open. -/
def casTook (s : State) (p c len : Nat) : State :=
  let x := casClass s p c
  let q := x.received + (len + 2047) / 2048 - 1
  if casUp s p then
    emit (casClassPut s p c { x with received := (q + 1) % 65536 })
      (.cascade p 0 [creditBlock c (q % 65536) (Config.creditGrant p c (q % 65536))])
  else s

/-- A TIME message on a port (R345, R353). -/
def casTime (s : State) (p subtype : Nat) (body : List Byte) : State :=
  if casUp s p then emit s (.cascade p 0 (timeSlot subtype body)) else s

/-- The relay header of Table 15-6. -/
def relayHeader (kind path tenant role session id txn status node len : Nat) : List Byte :=
  leBytes 1 kind ++ leBytes 1 path ++ leBytes 1 tenant ++ leBytes 1 role ++ leBytes 4 session ++ leBytes 2 id ++ leBytes 2 txn
    ++ leBytes 1 status ++ leBytes 1 node ++ leBytes 2 len

/-! ### Notifications (13.8) -/

/-- The notification header of Table 13-11 and a body. -/
def noteBytes (s : State) (code seq : Nat) (t : Time) (body : List Byte) : List Byte :=
  pad8 (leBytes 2 code ++ leBytes 2 body.length ++ leBytes 4 seq ++ leBytes 8 (t / sec) ++ leBytes 4 (t % sec / ns)
    ++ leBytes 2 (t % ns) ++ leBytes 1 s.stk.index ++ leBytes 1 0 ++ body)

/-- The node's datagram of a session around an Oxold message (Table 13-13, R317): under KEY_OUT with the session's next counter, and in clear
on session 0 (R427). -/
def mb2Datagram (s : State) (n c : Nat) (m : List Byte) : List Byte :=
  let head := leBytes 1 0xC9 ++ leBytes 1 1 ++ leBytes 1 1 ++ leBytes 1 0 ++ leBytes 4 n ++ leBytes 8 c
  if n = 0 then head ++ m ++ List.replicate 16 0
  else
    let i := secSession.all.find? fun i => bitAt (s.imm.row secSession i) 80 && u32At (s.imm.row secSession i) 0 == n
    let key := (SMap.get KeySlot.empty s.sec.slots (u16At (s.imm.row secSession (i.getD 0)) 8)).key
    head ++ gcmSeal key (head.drop 4) head m

/-- The frame of a datagram of the node: from UDP port 51200 of a port's management interface to where the session was last heard from
(R276). Its time to live is PRESUMED, log entry 52. -/
def mb2Frame (s : State) (p n : Nat) (d : List Byte) : List Byte :=
  let known := SMap.get [] s.sec.peer (n * 2 + p)
  let h := if known = [] then beBytes 12 (Config.mb2Host n p).toNat else known
  let ip := (h.drop 6).take (h.length - 8)
  let dp := beAt h (h.length - 2) 2
  if ip.length = 4 then udp4 s.cfg (p * 2 + 1) ip (h.take 6) 51200 dp 64 0 d else udp6 s.cfg (p * 2 + 1) ip (h.take 6) 51200 dp 64 0 d

/-- An Oxold message sent on a session over a port, on TX priority 3; session 0 counts nothing (R276, R317, R427). -/
def sendMb2 (s : State) (p n : Nat) (m : List Byte) : State :=
  let c := SMap.get 0 s.sec.tx n + 1
  let s1 := if n = 0 then s else { s with sec := { s.sec with tx := SMap.put 0 s.sec.tx n c } }
  qPush s1 (4 * p + 3) false (txPacket 0 0 (mb2Frame s p n (mb2Datagram s n (if n = 0 then 0 else c) m)))

/-- A port serves MB2: in READY and RUN, and ETH0 in SAFE (R295, R370, R476). -/
def mb2Serves (s : State) (p : Nat) : Bool :=
  s.dev.state == .ready || s.dev.state == .run || (s.dev.state == .safe && p == 0)

/-- Sessions that ask for copies of notifications and are live, with the port that the copies take: the lowest of PORTS (R316, R426; DESIGN
CHOICE, log entry 52). -/
def copySessions (s : State) : List (Nat × Nat) :=
  ((secSession.all.filter fun i =>
    s.sec.live.elem i && bitAt (s.imm.row secSession i) 81).map fun i =>
      (u32At (s.imm.row secSession i) 0, if bitAt (s.imm.row secSession i) 82 then 0 else 1)).filter fun x => mb2Serves s x.2

/-- A copy of a notification as an MB2 message on each such session (R316, R317). -/
def noteCopies : List (Nat × Nat) → State → List Byte → State
  | [], s, _ => s
  | n :: rest, s, body =>
    noteCopies rest (sendMb2 s n.2 n.1
      (leBytes 2 0x00F0 ++ leBytes 1 1 ++ leBytes 13 0 ++ leBytes 4 0 ++ leBytes 2 body.length ++ leBytes 2 0 ++ body)) body

/-- A notification on its other ways: to the sessions that ask for copies, and up a stack, whether Q28 takes it or not (R316, R357). -/
def noteOut (s : State) (pkt : List Byte) : State :=
  let s1 := noteCopies (copySessions s) s pkt
  if isMember s1 ∧ casUp s1 0 ∧ !s1.stk.detached then
    casSend s1 0 1 0 (relayHeader 7 0xFF 0 0 0 0 0 0 s.stk.index pkt.length ++ pkt)
  else s1

/-- A notification: put on Q28, judged by the kept 64 bytes and the loss state (R288), and sent on its other ways. -/
def notifyBytes (s : State) (pkt : List Byte) : State :=
  if s.que.lost ≠ 0 ∨ qFree s 28 < pkt.length + 64 then
    let s1 := noteOut (qDiscard s 28) pkt
    { s1 with que := { s1.que with lost := s.que.lost + 1 } }
  else noteOut (qCommit s 28 false pkt) pkt

/-- A notification of a code with its body and time; SEQ advances by one for each (R316). -/
def notifyAt (s : State) (code : Nat) (t : Time) (body : List Byte) : State :=
  notifyBytes { s with que := { s.que with seq := (s.que.seq + 1) % 4294967296 } } (noteBytes s code s.que.seq t body)

/-- A notification whose time is the posting instant. -/
def notify (s : State) (code : Nat) (body : List Byte) : State := notifyAt s code s.tim.now body

/-- After a pop or flush of Q28, the loss marker where notifications were lost (R288). -/
def lossMarker (s : State) : State :=
  if s.que.lost = 0 then s
  else
    let pkt := noteBytes s 0x0004 s.que.seq s.tim.now (leBytes 4 s.que.lost ++ leBytes 4 0)
    if pkt.length ≤ qFree s 28 then
      noteOut (qCommit { s with que := { s.que with lost := 0, seq := (s.que.seq + 1) % 4294967296 } } 28 false pkt) pkt
    else s

/-! ### Event recorder (20) -/

/-- The key of a slot. -/
def slotKey (log slot : Nat) : Nat := log * 4096 + slot

/-- The record in a slot; empty where the slot has no VALID. -/
def slotAt (s : State) (log slot : Nat) : List Byte := SMap.get [] s.log.slots (slotKey log slot)

/-- How many of slots 0 to 4,094 of a log hold records: the writer fills them in order (R451, R453). -/
def logUsed (s : State) (log : Nat) : Nat :=
  (s.log.slots.filter fun x => x.1 / 4096 = log ∧ x.1 % 4096 ≠ 4095).length

/-- USED of a log: slots with VALID, the LOG_FULL marker's among them (R459, R460). -/
def logRecords (s : State) (log : Nat) : Nat := logUsed s log + (if slotAt s log 4095 = [] then 0 else 1)

/-- A record of Table 20-2 with its CRC over bytes 0 to 11 and 14 to 27, and VALID. -/
def recordBytes (code sev flags optime cycles rep seq p0 p1 p2 : Nat) : List Byte :=
  let a := leBytes 2 code ++ leBytes 1 (sev + flags) ++ leBytes 1 (code / 256) ++ leBytes 5 optime ++ leBytes 3 cycles
  let b := leBytes 2 seq ++ leBytes 4 p0 ++ leBytes 4 p1 ++ leBytes 4 p2
  a ++ leBytes 2 rep ++ b ++ leBytes 2 (crc16 (a ++ b)) ++ leBytes 2 0xC3A5

/-- A record written into a slot. -/
def writeSlot (s : State) (log slot : Nat) (r : List Byte) : State :=
  { s with log := { s.log with slots := SMap.put [] s.log.slots (slotKey log slot) r } }

/-- The counters of a log: 0 SUPPRESSED, 1 LOST, 2 CRC_BAD, 3 CLEARS. -/
def logCount (s : State) (log k n : Nat) : State := { s with log := { s.log with counters := bump s.log.counters (log * 4 + k) n } }

/-- One more occurrence of the record in a slot (R456 step 1, R458): REPEAT and, on reaching 65,535, REPEAT_SAT. -/
def repeatSlot (s : State) (log slot : Nat) : State :=
  let r := slotAt s log slot
  let n := min (leAt r 12 2 + 1) 65535
  let fl := if n = 65535 then putBit (byteOf r 2) 4 true else byteOf r 2
  let a := r.take 2 ++ leBytes 1 fl ++ (r.drop 3).take 9
  writeSlot s log slot (a ++ leBytes 2 n ++ (r.drop 14).take 14 ++ leBytes 2 (crc16 (a ++ (r.drop 14).take 14)) ++ r.drop 30)

/-- An event that has its token written into the next slot, or lost where the log is full (R456 step 3, R458). -/
def writeEvent (s : State) (log code sev flags p0 p1 p2 : Nat) : State :=
  let u := logUsed s log
  if u < 4095 then writeSlot s log u (recordBytes code sev flags (optimeNow s) s.log.cycles 0 u p0 p1 p2)
  else if slotAt s log 4095 = [] then
    logCount (writeSlot s log 4095 (recordBytes 2 1 8 (optimeNow s) s.log.cycles 0 4095 code 0 0)) log 1 1
  else logCount (repeatSlot s log 4095) log 1 1

/-- The LOG_RATE record that names a code, as (BURST, PERIOD_S) (R457). -/
def rateOf (s : State) (code : Nat) : Nat × Nat :=
  (firstSome (fun i => let r := s.cfg.row logRate i; if u16At r 0 = code then some (byteAt r 2, u16At r 4) else none) logRate.all).getD (32, 1)

/-- The bucket of a code: full, with nothing suppressed, where it has not been used. -/
def bucketOf (s : State) (code : Nat) : Bucket := SMap.get { tokens := none, suppressed := 0, firstAt := 0 } s.log.buckets code

/-- The bucket of a code replaced. -/
def putBucket (s : State) (code : Nat) (b : Bucket) : State :=
  { s with log := { s.log with buckets := SMap.put { tokens := none, suppressed := 0, firstAt := 0 } s.log.buckets code b } }

/-- The tokens a bucket holds. -/
def tokensOf (s : State) (code : Nat) : Nat := min ((bucketOf s code).tokens.getD (rateOf s code).1) (rateOf s code).1

/-- An event handled in the order of R456 by a log that is neither cleared nor held back; behind LOG_FULL it is lost (R458). -/
def recordEvent (s : State) (log code sev p0 p1 p2 : Nat) : State :=
  let u := logUsed s log
  let last := if slotAt s log 4095 ≠ [] then 4095 else u - 1
  let r := slotAt s log last
  if r ≠ [] ∧ leAt r 0 2 = code ∧ leAt r 16 12 = p0 + p1 * 2 ^ 32 + p2 * 2 ^ 64 then repeatSlot s log last
  else if last = 4095 then logCount (repeatSlot s log 4095) log 1 1
  else if log ≤ 5 then
    let b := bucketOf s code
    let n := tokensOf s code
    if n = 0 then
      logCount (putBucket s code { b with
        tokens := some 0
        suppressed := b.suppressed + 1
        firstAt := if b.suppressed = 0 then optimeNow s else b.firstAt }) log 0 1
    else writeEvent (putBucket s code { b with tokens := some (n - 1) }) log code sev 0 p0 p1 p2
  else writeEvent s log code sev 0 p0 p1 p2

/-- A clear of a log in progress. -/
def clearingOf (s : State) (log : Nat) : Option Clearing := SMap.get none s.log.clearing log

/-- An event raised (R455, R456, R461, R463): held while D1 has not passed, held during a clear of its log, and otherwise recorded.
Parameters are taken as U32. -/
def logEv (s : State) (code p0 p1 p2 : Nat) : State :=
  match eventRow code with
  | none => s
  | some (log, sev) =>
    let q0 := p0 % 4294967296
    let q1 := p1 % 4294967296
    let q2 := p2 % 4294967296
    if s.dev.state = .dawn ∨ s.log.volatile then
      { s with log := { s.log with
          held := s.log.held ++ [(log, recordBytes code sev 0 (optimeNow s) s.log.cycles 0 s.log.held.length q0 q1 q2)] } }
    else match clearingOf s log with
      | some c =>
        if c.held.length < 256 then
          { s with log := { s.log with
              clearing := SMap.put none s.log.clearing log (some { c with held := c.held ++ [{ code := code, p0 := q0, p1 := q1, p2 := q2 }] }) } }
        else logCount s log 1 1
      | none => recordEvent s log code sev q0 q1 q2

/-- The key of a condition that is logged once per entry: its code and its object. -/
def condKey (code obj : Nat) : Nat := code * 16777216 + obj

/-- A condition that is logged once per entry into it holds. -/
def condHolds (s : State) (code obj : Nat) : Bool := SMap.get 0 s.log.cond (condKey code obj) == 1

/-- A condition noted as holding or not. -/
def setCond (s : State) (code obj : Nat) (b : Bool) : State :=
  { s with log := { s.log with cond := SMap.put 0 s.log.cond (condKey code obj) (b2n b) } }

/-- An event logged on entry into its condition, which is evaluated as `b`. -/
def logEntry (s : State) (b : Bool) (code obj p0 p1 p2 : Nat) : State :=
  if b then if condHolds s code obj then s else logEv (setCond s code obj true) code p0 p1 p2
  else setCond s code obj false

/-! ### Guarantees (17.6) -/

/-- The key of a cause in force: its code and its source. -/
def causeKey (code source : Nat) : Nat := code * 256 + source

/-- Entry into a cause: GUARANTEE_BROKEN in log 5 and on Q28 (R400). -/
def breakG (s : State) (level code source n : Nat) : State :=
  if s.eng.causes.elem (causeKey code source) then s
  else
    notify (logEv { s with eng := { s.eng with causes := s.eng.causes ++ [causeKey code source] } } 0x0B01 level
        (code + source * 65536) n)
      0x0050 (leBytes 1 level ++ leBytes 2 code ++ leBytes 1 source ++ leBytes 4 0)

/-- The end of a cause: GUARANTEE_RESTORED in log 5 (R400). -/
def restoreG (s : State) (level code source : Nat) : State :=
  if s.eng.causes.elem (causeKey code source) then
    logEv { s with eng := { s.eng with causes := s.eng.causes.filter (· ≠ causeKey code source) } } 0x0B02 level
      (code + source * 65536) 0
  else s

/-- A cause evaluated. -/
def setG (s : State) (b : Bool) (level code source n : Nat) : State :=
  if b then breakG s level code source n else restoreG s level code source

/-! ### Device state (01 1.6, 21.5) -/

/-- A change of the device state: STATE_CHANGE on Q28 and as an interrupt source (Table 13-4, Table 13-12). -/
def toState (s : State) (new : DevState) : State :=
  if s.dev.state = new then s
  else raise (notify { s with dev := { s.dev with state := new } } 0x0005
    (leBytes 1 s.dev.state.code ++ leBytes 1 new.code ++ leBytes 6 0)) intState

/-- Every accepted transaction with the frame it commits at: those not latched and those of latched frames. -/
def allAccepted (s : State) : List AccTxn := (s.frm.frames.flatMap (·.txns)) ++ s.ox.accepted

/-- The marks that the REWIND items of an accepted transaction hold in their rings (R96). -/
def holdRewinds (s : State) (x : AccTxn) : State :=
  x.items.foldl (fun a i =>
    if i.op ≠ 0x23 then a
    else
      let f := leAt i.req.body 8 8
      if byteOf i.req.body 0 = 0 then { a with con := { a.con with ringA := { a.con.ringA with holds := a.con.ringA.holds ++ [(x.id, f)] } } }
      else { a with con := { a.con with ringB := { a.con.ringB with holds := a.con.ringB.holds ++ [(x.id, f)] } } }) s

/-- The marks of a transaction that is latched or discarded are given up. -/
def dropHolds (s : State) (id : Nat) : State :=
  { s with con := { s.con with
      ringA := { s.con.ringA with holds := s.con.ringA.holds.filter fun h => !decide (h.1 = id) }
      ringB := { s.con.ringB with holds := s.con.ringB.holds.filter fun h => !decide (h.1 = id) } } }

/-- A transaction accepted for its edge (R52, R96). -/
def enlist (s : State) (x : AccTxn) : State :=
  holdRewinds { s with ox := { s.ox with accepted := s.ox.accepted ++ [x] } } x

/-- TXN_DISCARDED for each accepted transaction and TXN_EXPIRED for each open one (R313). -/
def noteDiscards (s : State) : State :=
  let s1 := (allAccepted s).foldl (fun a x => notify a 0x0002 (leBytes 2 x.id ++ leBytes 6 0 ++ leBytes 8 x.frame)) s
  s.ox.open_.foldl (fun a x => notify a 0x0003 (leBytes 2 x.id ++ leBytes 6 0)) s1

/-- Every pending and open transaction dropped (R313). -/
def dropTxns (s : State) : State :=
  { s with
    ox := { s.ox with accepted := [], open_ := [] }
    con := { s.con with ringA := { s.con.ringA with holds := [] }, ringB := { s.con.ringB with holds := [] } }
    stk := { s.stk with staged := [] }
    frm := { s.frm with frames := s.frm.frames.map fun f => { f with txns := [] } } }

/-- Edges stop and no frame is left in progress. -/
def stopEdges (s : State) : State := { s with frm := { s.frm with running := false, frames := [] } }

/-- Entry into SAFE (R474): edges stop, transactions and dedupe entries go, ACT_OUT falls, and the entry is logged and notified. -/
def enterSafe (s : State) (cause : Nat) : State :=
  let s1 := stopEdges (dropTxns (noteDiscards s))
  let s2 := { s1 with
    dev := { s1.dev with safeCause := cause, duskWanted := false }
    ox := { s1.ox with dedupe := [] }
    red := { s1.red with actOut := false }
    wired := { s1.wired with sacn := [] } }
  logEv (toState s2 .safe) 0x0E01 cause s.dev.state.code 0

end Sys2Proof.Machine
end

