-- ==== Sys2Proof/Machine/RasLink.lean ====
section
/-! DEFINITION. The slot grid of a raster port within a frame period (08 8.2, 8.3), and the slots that a line packet takes. -/

namespace Sys2Proof.Machine

/-- 25 slots of 5.28 ns in units of 1/65,536 ns. -/
def slots25 : Nat := 8650752

/-- Whole slots in a time from the start of a slot. -/
def slotsIn (t : Time) : Nat := 25 * t / slots25

/-- The first slot that starts at or after a time (R192). -/
def slotFrom (t : Time) : Nat := (25 * t + slots25 - 1) / slots25

/-- When a slot starts, in whole units. -/
def slotStart (n : Nat) : Time := (n * slots25 + 24) / 25

/-- Slots that a packet of so many blocks takes from a slot on: one more where an ALIGN slot falls inside (8.2). -/
def packetSlots (slot blocks : Nat) : Nat :=
  let m := (blocks + 3) / 4
  if (slot + 1 + m) / 16384 = (slot + 1) / 16384 ∧ !alignSlot slot then m else m + 1

end Sys2Proof.Machine
end

