-- ==== Sys2Proof/Machine/FrameTime.lean ====
section
/-! DEFINITION. Frame edges and windows (02 2.1, 2.3): the anchor grid, the declared period, the penumbra and margin, latch instants and
predicted edges. -/

namespace Sys2Proof.Machine

/-- `n / d` rounded to the nearest integer, a tie rounding up. -/
def roundDiv (n : Int) (d : Nat) : Int := (2 * n + d) / (2 * d)

/-- Numerator and denominator of the declared rate of a store. -/
def rateNum (c : Store) : Nat := c.v frmRateNum
/-- Denominator of the declared rate. -/
def rateDen (c : Store) : Nat := c.v frmRateDen

/-- T, the declared period, exactly, in units of 1/65,536 ns (2.1). -/
def exactT (c : Store) : Rat := (rateDen c * sec : Nat) / (rateNum c : Nat)

/-- T, the declared period, to the nearest unit (2.1). -/
def period (c : Store) : Time := (roundDiv (rateDen c * sec : Nat) (rateNum c)).toNat

/-- The anchor of a store. -/
def anchor (c : Store) : Time := timeDec (c.v frmAnchor)

/-- G(i), the point `i` of the anchor grid (R33). -/
def gridAt (c : Store) (i : Int) : Int := anchor c + roundDiv (i * ((rateDen c * sec : Nat) : Int)) (rateNum c)

/-- The index of the first grid point at or after an instant (R33, R35, R53). -/
def gridFirst (c : Store) (t : Int) : Int :=
  let i := (t - anchor c) * rateNum c / ((rateDen c * sec : Nat) : Int) - 1
  if t ≤ gridAt c i then i else if t ≤ gridAt c (i + 1) then i + 1 else if t ≤ gridAt c (i + 2) then i + 2 else i + 3

/-- The index of the grid point nearest to an instant (2.7). -/
def gridNear (c : Store) (t : Int) : Int :=
  let i := gridFirst c t
  if t - gridAt c (i - 1) ≤ gridAt c i - t then i - 1 else i

/-- P, the penumbra length (2.3). -/
def penumbra (c : Store) : Time := (roundDiv ((rateDen c * sec * c.v frmPenLen : Nat) : Int) (rateNum c * 100)).toNat

/-- M, the commit margin. -/
def margin (c : Store) : Time := c.v frmMargin * us

/-- FRM_SOURCE as the node reports it (R40). -/
def source (s : State) : Nat := if isMember s then 3 else s.cfg.v frmSource

/-- The node places its edges from EDGE messages: a member of a stack, and a shadow that the active feeds (R40, R351, R363). -/
def follows (s : State) : Bool :=
  isMember s || (s.dev.state == .shadow && s.red.pair && s.stk.oHat.isSome && s.red.takenAt.isNone)

/-- The interval that the node adds to an edge where neither the grid nor an EDGE message gives the next one. -/
def lastInterval (s : State) : Time := if s.frm.begun = false ∨ s.frm.next ≤ s.frm.last then period s.cfg else min (s.frm.next - s.frm.last) (period s.cfg + 500 * ns)

/-- A stretch of predicted edges: from a frame at an instant on, on the anchor grid of a store with its offset, or at a fixed step. -/
structure Seg where
  start : Nat
  at_ : Time
  grid : Bool
  store : Store
  delta : Int
  step : Time

/-- The predicted instant of an edge of a stretch. -/
def Seg.edge (g : Seg) (n : Nat) : Time :=
  if n ≤ g.start then g.at_
  else if g.grid then (gridAt g.store ((n : Int) - g.delta)).toNat
  else g.at_ + (n - g.start) * g.step

/-- The first frame of a stretch whose edge lies at or after an instant. -/
def Seg.first (g : Seg) (t : Time) : Nat :=
  if t ≤ g.at_ then g.start
  else if g.grid then (gridFirst g.store t + g.delta).toNat
  else g.start + (t - g.at_ + g.step - 1) / max 1 g.step

/-- The number of the next edge. -/
def nextNum (s : State) : Nat := if s.frm.begun then s.frm.num + 1 else s.frm.num

/-- The stretch that the present configuration gives from the next edge on. -/
def segNow (s : State) : Seg :=
  { start := nextNum s, at_ := s.frm.next, grid := source s == 0 && !follows s, store := s.cfg, delta := s.frm.delta, step := lastInterval s }

/-- The predicted instant of an edge after the most recent one. -/
def edgeAt (s : State) (n : Nat) : Time := if n < nextNum s then s.frm.last else (segNow s).edge n

/-- L(j) = E(j − 2) − P as predicted (R52). -/
def latchTime (s : State) (j : Nat) : Time := edgeAt s (j - 2) - penumbra s.cfg

/-- The frame whose latch comes next. -/
def nextLatch (s : State) : Nat := nextNum s + s.frm.frames.length

/-- The first frame at or after `j` whose latch instant lies after now, looking at most `n` frames on (R53 NEXT). -/
def nextOpen (s : State) : Nat → Nat → Nat
  | 0, j => j
  | n + 1, j => if s.tim.now < latchTime s j then j else nextOpen s n (j + 1)

/-- The frame that a NEXT transaction commits at. -/
def nextFrame (s : State) : Nat := nextOpen s 64 (nextLatch s)

/-- The frame in progress with a number. -/
def frameOf (s : State) (n : Nat) : Option Frame := s.frm.frames.find? (·.num = n)

/-- The block with a frame in progress replaced. -/
def putFrame (s : State) (f : Frame) : State :=
  { s with frm := { s.frm with frames := s.frm.frames.map fun g => if g.num = f.num then f else g } }

/-! ### The start of edges (R33, R50) -/

/-- A frame that is not computed: latched before entry into READY. -/
def idleFrame (s : State) (n : Nat) : Frame := {
  num := n, cfg := s.cfg, stage := .idle, latchAt := s.tim.now, txns := [], layers := [], sacn := [], scene := [], sched := [], temp := []
  fault := [], tsns := [], tsnsBad := [], canvas := 0, lines := 0, pix := [], fetched := 0, ingress := 0
  plan := { step := 0, record := 0, forecast := 0 }, out := FrameOut.empty }

/-- Edges start with frame `n` at an instant: frames whose latch instants lie before now are idle. -/
def beginEdges (s : State) (n : Nat) (e : Time) (delta : Int) : State :=
  let idle := if e < s.tim.now + penumbra s.cfg then [n, n + 1, n + 2] else [n, n + 1]
  { s with frm := { s.frm with
      running := true, begun := false, num := n, last := s.tim.now, next := e, past := [], delta := delta, shownDelta := delta
      frames := idle.map (idleFrame s) } }

/-- Edges start at the first point of the anchor grid at or after now (R33). -/
def startEdges (s : State) : State :=
  let i := gridFirst s.cfg s.tim.now
  beginEdges s i.toNat (gridAt s.cfg i).toNat (if 0 ≤ i then 0 else -i)

/-- Edges start unless they run already: those of a node of a stack wait for its role, and a member's for its first EDGE message. -/
def edgesUp (s : State) : State :=
  if s.frm.running ∨ !s.dev.state.live ∨ (s.dev.stackEn ∧ s.stk.role ≠ 1) then s else startEdges s

/-! ### The frame lock loop (R37 to R39) -/

/-- A spacing of pulses lies within 0.1 % of T (R37, R39). -/
def spacingGood (c : Store) (d : Nat) : Bool :=
  decide (((d * rateNum c : Nat) - (rateDen c * sec : Nat) : Int).natAbs * 1000 ≤ rateDen c * sec)

/-- An edge whose window holds an instant: the last, the next, or the one after (R37). It is asked of pulse + FRM_GEN_DELAY, where the edge
belongs (DEDUCED, log entry 19). -/
def windowEdge (s : State) (p : Int) : Option Time :=
  let t : Int := period s.cfg
  [s.frm.last, s.frm.next, s.frm.next + period s.cfg].find? fun e => decide (2 * ((e : Int) - p) ≤ t) && decide (2 * (p - (e : Int)) < t)

/-- Frame numbers shifted at the first lock of GENLOCK or WCLK (2.7): with the number of the edge go those of the frames in progress and
the frames that accepted transactions name; edges that have passed keep theirs (DESIGN CHOICE, log entry 19). -/
def renumber (s : State) (d : Int) : State :=
  let sh (n : Nat) : Nat := ((n : Int) + d).toNat
  { s with
    frm := { s.frm with
      num := sh s.frm.num
      frames := s.frm.frames.map fun f => { f with num := sh f.num, txns := f.txns.map fun x => { x with frame := sh x.frame } } }
    ox := { s.ox with accepted := s.ox.accepted.map fun x => { x with frame := sh x.frame } } }

/-- Lock is reached at a pulse: the interval not yet fixed is lengthened to bring the edges to pulse + FRM_GEN_DELAY (R37 step 2). At the
first lock the edge takes the number that R33 gives the nearest point of the anchor grid, under the offset in force (2.7). -/
def lockAt (s : State) (p : Int) : State :=
  let t := period s.cfg
  let base : Int := s.frm.next + t
  let d := ((p - base) % t).toNat
  let l := s.frm.lock
  let s1 := { s with frm := { s.frm with lock := { l with
    state := .locked, lengthen := d, steer := 0, missing := 0, beyond := 0, everLocked := true, mismatch := false } } }
  if l.everLocked then s1 else renumber s1 (gridNear s.cfg (base + d) + s.frm.delta - ((s.frm.num : Int) + 2))

/-- A reference pulse used by the loop (R37, R39). -/
def usePulse (s : State) (t : Time) : State :=
  let l := s.frm.lock
  let p : Int := t + s.cfg.vs frmGenDelay 0 * ns
  match l.state with
  | .locked =>
    match windowEdge s p with
    | none => s
    | some e =>
      if l.window = some e then s
      else
        let err : Int := (e : Int) - p
        let far := decide ((s.cfg.v frmGenTol * ns : Nat) < err.natAbs)
        let st : Int := max (-(500 * ns : Nat)) (min (500 * ns : Nat) (roundDiv (-err) 16))
        let l1 := { l with window := some e, last := some t, missing := 0, beyond := if far then l.beyond + 1 else 0, steer := st }
        if far ∧ 3 ≤ l1.beyond then
          { s with frm := { s.frm with lock := { l1 with state := .acquiring, good := 0, beyond := 0, steer := 0, wclk := 0 } } }
        else { s with frm := { s.frm with lock := l1 } }
  | .holdover =>
    { s with frm := { s.frm with lock := { l with state := .acquiring, good := 1, last := some t, missing := 0, wclk := 0, window := windowEdge s p } } }
  | .acquiring =>
    let w := match windowEdge s p with
      | some e => some e
      | none => l.window
    match l.last with
    | none => { s with frm := { s.frm with lock := { l with good := 1, last := some t, missing := 0, window := w } } }
    | some u =>
      if spacingGood s.cfg (t - u) then
        let s1 := { s with frm := { s.frm with lock := { l with good := l.good + 1, last := some t, missing := 0, window := w, mismatch := false } } }
        if 8 ≤ l.good + 1 then lockAt s1 p else s1
      else
        let s1 := { s with frm := { s.frm with lock := { l with good := 1, last := some t, missing := 0, window := w, mismatch := true } } }
        if l.mismatch then s1 else logEv s1 0x0103 ((t - u) / ns) 0 0

/-- FRM_LOCK_STATE (Table 2-2). -/
def lockState (s : State) : Nat :=
  if isMember s ∨ (follows s ∧ s.cfg.v frmSource ≠ 0) then if s.stk.detached then 3 else if (s.stk.o - s.stk.oHat.getD 0).natAbs < ns then 2 else 1
  else if s.cfg.v frmSource = 0 then
    match s.tim.disc with
    | .free => 0
    | .acquiring => 1
    | .locked => 2
    | .holdover => 3
  else match s.frm.lock.state with
    | .acquiring => if s.frm.lock.last = none then 0 else 1
    | .locked => 2
    | .holdover => 3

/-! ### Timecode (R41, R42) -/

/-- Two BCD digits. -/
def bcd (v : Nat) : Nat := v / 16 % 16 * 10 + v % 16
/-- A number below 100 as two BCD digits. -/
def toBcd (n : Nat) : Nat := n / 10 * 16 + n % 10

/-- LTC frames a second for a measured period: the nearest of 24, 25 and 30, and 30 with the drop-frame flag or before a period has
been measured (DESIGN CHOICE, log entry 14). -/
def ltcFps (drop : Bool) (p : Time) : Nat :=
  if drop ∨ p = 0 then 30 else if 2 * sec < 49 * p then 24 else if 2 * sec < 55 * p then 25 else 30

/-- A timecode as a count of frames; drop-frame counts omit two numbers a minute but the tenth. -/
def tcCount (fps : Nat) (drop : Bool) (c : Nat) : Nat :=
  let h := bcd (c / 2 ^ 24); let m := bcd (c / 2 ^ 16 % 256); let sc := bcd (c / 256 % 256); let f := bcd (c % 256)
  let n := ((h * 60 + m) * 60 + sc) * fps + f
  if drop then n - 2 * ((h * 60 + m) - (h * 60 + m) / 10) else n

/-- The timecode of a count of frames. -/
def tcOf (fps : Nat) (drop : Bool) (n : Nat) : Nat :=
  let n := if drop then
      let d := n / 17982; let r := n % 17982
      n + 18 * d + (if r < 2 then 0 else 2 * ((r - 2) / 1798))
    else n
  let f := n % fps; let sc := n / fps % 60; let m := n / (fps * 60) % 60; let h := n / (fps * 3600) % 24
  toBcd h * 2 ^ 24 + toBcd m * 2 ^ 16 + toBcd sc * 256 + toBcd f

/-- Timecode `c` plus `k` frames, within a day; `c` itself as decoded where `k` is 0. -/
def tcAdd (fps : Nat) (drop : Bool) (c : Nat) (k : Int) : Nat :=
  let day : Int := if drop then 2589408 else 86400 * fps
  if k = 0 then c else tcOf fps drop (((tcCount fps drop c : Int) + k) % day).toNat

/-- FRM_TC for an edge at an instant, and the sub-index count (R41, R42). -/
def labelEdge (c : Store) (l : Ltc) (e : Time) : Ltc :=
  match l.start with
  | none => l
  | some st =>
    let n := if l.counting ∧ l.period ≠ 0 then (e - st) / l.period else 0
    let sub := if n = l.counted then l.sub else 0
    let tc := tcAdd (ltcFps l.drop l.period) l.drop l.code ((n : Int) + c.vs frmLtcOffset 0)
    { l with
      counted := n
      sub := sub + 1
      tc := b2n (!l.lost) * 2 ^ 63 + b2n l.drop * 2 ^ 62 + min sub 65535 * 2 ^ 32 + tc }

end Sys2Proof.Machine
end

