-- ==== Sys2Proof/Machine/Rings.lean ====
section
/-! DEFINITION. The ingress rings (04 4.1 to 4.3, 13.2.2): placing and retaining entries, the choice of a frame's entries, the DMA engine,
the BAR2 window and content streams, with their commands. -/

namespace Sys2Proof.Machine

/-! ### Frames and instants -/

/-- The instant of an edge, past or predicted: before the edges that are remembered, by the anchor grid, or at the last interval. -/
def edgeAny (s : State) (n : Int) : Int :=
  if (s.frm.num : Int) < n then edgeAt s n.toNat
  else if n = s.frm.num then s.frm.last
  else match s.frm.past.find? fun x => (x.1 : Int) = n with
    | some x => x.2
    | none => if source s = 0 then gridAt s.cfg (n - s.frm.delta) else (s.frm.last : Int) - (s.frm.num - n) * lastInterval s

/-- The frame whose window holds an instant (R46). -/
def frameAt (s : State) (t : Time) : Int :=
  if s.frm.last ≤ t then
    if t < s.frm.next then s.frm.num else ((segNow s).first (t + 1) : Int) - 1
  else match s.frm.past.find? fun x => x.2 ≤ t with
    | some x => x.1
    | none =>
      if source s = 0 then gridFirst s.cfg (t + 1) - 1 + s.frm.delta
      else s.frm.num - ((s.frm.last - t + lastInterval s - 1) / max 1 (lastInterval s) : Nat)

/-! ### Rings -/

/-- Ring A (0) or B (1). -/
def ringGet (s : State) (i : Nat) : Ring := if i = 0 then s.con.ringA else s.con.ringB

/-- The block with a ring replaced. -/
def ringPut (s : State) (i : Nat) (r : Ring) : State :=
  if i = 0 then { s with con := { s.con with ringA := r } } else { s with con := { s.con with ringB := r } }

/-- Bytes of a ring (R97). -/
def ringSize (s : State) (i : Nat) : Nat := s.cfg.v (if i = 0 then cnvRingAMib else cnvRingBMib) * 1048576

/-- Counters of CNV_RING_COUNTERS: LATE 0, SKIPPED 1, REWIND_SHORT 2, BAD_ENTRY 3, PROTECT_VIOL 4, WAITS 5. -/
def ringCount (s : State) (i k n : Nat) : State := ringPut s i { ringGet s i with cnt := bump (ringGet s i).cnt k n }

/-- An invalid entry counted and logged (R88). -/
def badEntry (s : State) (i off : Nat) : State :=
  let o := if ringSize s i = 0 then 0 else off % ringSize s i
  logEv (ringCount s i 3 1) 0x0201 i (o % 4294967296) (o / 4294967296)

/-- Where an entry of `len` bytes goes: at W, or past a PAD at offset 0 (04 4.2). -/
def ringStart (r : Ring) (size len : Nat) : Nat :=
  if size = 0 ∨ r.w % size + len ≤ size then r.w else r.w + (size - r.w % size)

/-- The position that the rewind holds keep from being overwritten (R96). -/
def holdLimit (s : State) (r : Ring) : Option Nat :=
  (r.entries.find? fun e => r.holds.any fun h => decide ((h.2 : Int) ≤ frameAt s e.pt)).map (·.off)

/-- An entry of `len` bytes can be written without moving W onto C and without overwriting what a REWIND holds (R91, R96). -/
def ringFits (s : State) (i len : Nat) : Bool :=
  let r := ringGet s i
  let size := ringSize s i
  let stop := ringStart r size len + len
  decide (stop < r.c + size) && (match holdLimit s r with
    | some h => decide (stop ≤ h + size)
    | none => true)

/-- The position that no writer may reach: C, or what a REWIND holds where that lies before it (R91, R96). -/
def ringGuard (s : State) (i : Nat) : Nat :=
  match holdLimit s (ringGet s i) with
  | some h => min h (ringGet s i).c
  | none => (ringGet s i).c

/-- Retained entries that lie below a position are overwritten: M moves past each (R92). -/
def overwrite (s : State) (i limit : Nat) : State :=
  let r := ringGet s i
  let kept := r.entries.filter fun e => decide (limit ≤ e.off)
  let n := r.entries.length - kept.length
  if n = 0 then s
  else ringCount (ringPut s i { r with
    entries := kept
    m := match kept with
      | e :: _ => e.off
      | [] => r.w }) i 2 n

/-- The next frame to be latched whose entries a ring still serves, as a frame number of its content (R93, R95). -/
def serveNext (s : State) (r : Ring) : Int := (nextLatch s : Int) - r.replay

/-- An entry written at a place that fits, with a PAD before it where it would wrap; LATE where its frame has been latched (R91 to R93).
Its pixel bytes are booked (R103). -/
def ringWrite (s : State) (i : Nat) (e : Entry) : State :=
  let size := ringSize s i
  let r0 := ringGet s i
  let at_ := ringStart r0 size e.len
  let s1 := overwrite s i (at_ + e.len - size)
  let r := ringGet s1 i
  let late := s.frm.running && decide (frameAt s e.pt < serveNext s r)
  let pad : List Entry := if at_ = r.w then [] else
    [{ seq := r.next, off := r.w, len := at_ - r.w, layer := 0, pt := 0, width := 0, height := 0, hint := false, map := [], pix := [],
       done := some s.tim.now, dead := true, dma := none }]
  let e1 := { e with seq := r.next + pad.length, off := at_, done := some s.tim.now, dead := e.dead || late }
  let s2 := ringPut s1 i { r with
    entries := r.entries ++ pad ++ [e1]
    next := r.next + pad.length + 1
    m := if r.entries = [] then min r.m r.w else r.m
    w := at_ + e.len
    booked := r.booked + (if e.dead then 0 else 8 * e.width * e.height) }
  watermark (if late ∧ e.dead = false then ringCount s2 i 0 1 else s2) (22 + i)

/-- A write that starts: at once where nothing waits before it and it fits, otherwise it stalls and is counted in WAITS (R91). -/
def ringOffer (s : State) (i : Nat) (e : Entry) : State :=
  let r := ringGet s i
  if r.stalled = [] ∧ ringFits s i e.len then ringWrite s i e
  else ringCount (ringPut s i { r with stalled := r.stalled ++ [e] }) i 5 1

/-- DMA_DONE on Q28 (R301). -/
def dmaDone (s : State) (seq status : Nat) : State := notify s 0x0011 (leBytes 4 seq ++ leBytes 1 status ++ leBytes 3 0)

/-- A DMA descriptor that writes no entry: DMA_DONE with its status, and DMA_ERR. -/
def dmaFail (s : State) (seq status : Nat) : State := raise (dmaDone s seq status) intDma

/-- DMA_DONE of an entry that has been written, where it is the DMA engine's. -/
def entryDone (s : State) (e : Entry) : State :=
  match e.dma with
  | some q => dmaDone s q 0
  | none => s

/-! ### Content streams down the stack (R358) -/

/-- The bytes of an entry as it lies in the ring. -/
def entryBytes (e : Entry) : List Byte :=
  leBytes 1 1 ++ leBytes 1 (e.layer / 16 * 64 + e.layer % 16) ++ leBytes 1 8 ++ leBytes 1 0 ++ leBytes 1 (b2n e.hint) ++ leBytes 3 0
    ++ leBytes 8 (e.pt / sec) ++ leBytes 4 (e.pt % sec / ns) ++ leBytes 2 (e.pt % ns) ++ leBytes 2 0 ++ leBytes 2 e.width
    ++ leBytes 2 e.height ++ leBytes 4 0 ++ leBytes 4 e.len ++ leBytes 12 0 ++ leBytes 8 0 ++ leBytes 4 0 ++ leBytes 2 0
    ++ leBytes 2 0xE196
    ++ (if e.hint then leBytes (mapBytes e.width e.height)
          (((List.range e.map.length).map fun n => e.map.getD n 0 * 2 ^ (2 * n)).foldl (· + ·) 0) else [])
    ++ e.pix.flatMap (leBytes 8)

/-- A valid entry sent as one CONTENT message of its stream, once per direction that leads to a destination (R358). Nodes with greater
indexes lie below CDN. -/
def sendStreams (s : State) (e : Entry) : State :=
  stkContent.all.foldl (fun a i =>
    let r := s.cfg.row stkContent i
    if bitAt r 0 ∧ layerOf (byteAt r 1) = e.layer ∧ s.dev.stackEn then
      let dest := u32At r 4
      let toward (l : List Nat) : Nat := match l with
        | [n] => n
        | _ => 0x3F
      let one (b : State) (p : Nat) (l : List Nat) : State :=
        if l = [] then b else casQueue b p 2 (packetsOf 2 s.stk.index (toward l) (8 * s.stk.index + i) (entryBytes e))
      one (one a 1 (bitsSet 32 dest |>.filter fun n => s.stk.index < n)) 0 (bitsSet 32 dest |>.filter fun n => n < s.stk.index)
    else a) s

/-- The port on which the content of a stream arrives: from the side of the node that it starts from (R358). -/
def streamPort (s : State) (stream : Nat) : Nat := if stream / 8 < s.stk.index then 0 else 1

/-- A CONTENT message goes on in the direction in which it travels (R358, log entry 100). -/
def passStream (s : State) (stream : Nat) (m : List Byte) : State :=
  let out := 1 - streamPort s stream
  if casUp s out ∧ (out = 1 ∨ isMember s) then casQueue s out 2 (packetsOf 2 (stream / 8) 0x3F stream m) else s

/-! ### The DMA engine (R301) -/

/-- An entry of a header, its pixels and its host map. -/
def entryOf (s : State) (h : List Byte) (map : List Nat) (pix : List Nat) : Entry :=
  let w := leAt h 24 2
  let ht := leAt h 26 2
  { seq := 0, off := 0, len := max 64 (leAt h 32 4 / 64 * 64), layer := layerOf (byteOf h 1), pt := headerPt h, width := w, height := ht
    hint := bitAt (byteOf h 4) 0, map := if bitAt (byteOf h 4) 0 then map else computeMap w ht pix, pix := pix, done := some s.tim.now
    dead := false, dma := none }

/-- A host map holds a reserved class (R88). -/
def mapBad (h : List Byte) (map : List Nat) : Bool := bitAt (byteOf h 4) 0 && map.any fun c => decide (3 ≤ c)

/-- The pixels of source data under a header (R87), with the PQ peak of the layer it names. -/
def sourcePixels (s : State) (h : List Byte) (data : List Byte) : List Nat :=
  decodeAll (byteOf h 2) (byteOf h 3) (byteOf h 4) (s.cfg.val layPqPeak (layerOf (byteOf h 1))) (leAt h 24 2) (leAt h 26 2) (leAt h 28 4) data

/-- DMA_TAIL_WRITE (R301). -/
def execDmaTailWrite (v : BitVec 64) (s : State) : Host.Outcome State Fault Refusal :=
  let n := v.toNat % 4294967296
  .next (if s.host.bar2Mode ∨ s.host.dmaSize < (n + 4294967296 - s.host.dmaHead) % 4294967296 then raise s intDma
    else { s with host := { s.host with dmaTail := n } })

/-- DMA_BASE_WRITE (R301); the reserved low bits are ignored (R10). -/
def execDmaBaseWrite (v : BitVec 64) (s : State) : Host.Outcome State Fault Refusal :=
  .next (if s.host.dmaHead ≠ s.host.dmaTail then raise s intDma else { s with host := { s.host with dmaBase := v.toNat / 64 * 64 } })

/-- DMA_SIZE_WRITE (R301); the reserved high bits are ignored (R10). -/
def execDmaSizeWrite (v : BitVec 64) (s : State) : Host.Outcome State Fault Refusal :=
  let n := v.toNat % 131072
  .next (if s.host.dmaHead ≠ s.host.dmaTail ∨ (List.range 13).all (fun k => n ≠ 2 ^ (k + 4)) then raise s intDma
    else { s with host := { s.host with dmaSize := n } })

/-- DMA_DESCRIPTOR_READ (R88, R301): the next descriptor is tested and its entry is fetched, or it completes as invalid. -/
def execDmaDescriptorRead (desc : List Byte) (s : State) : Host.Outcome State Fault Refusal :=
  .next (if s.host.bar2Mode ∨ s.host.dmaHead = s.host.dmaTail ∨ desc.length ≠ 64 then s
    else
      let s1 := { s with host := { s.host with dmaHead := (s.host.dmaHead + 1) % 4294967296 } }
      if headerFault desc = none ∧ byteOf desc 0 = 1 then { s1 with host := { s1.host with dmaWork := s1.host.dmaWork ++ [desc] } }
      else dmaFail (badEntry s1 0 s1.con.ringA.w) (leAt desc 56 4) 2)

/-- DMA_ENTRY_WRITTEN (R87, R90, R91, R301): the oldest descriptor's entry is written into ring A, or its source read fails. -/
def execDmaEntryWritten (t : Time) (pcieError : Bool) (map : List Nat) (data : List Byte) (s : State) :
    Host.Outcome State Fault Refusal :=
  let s1 := advance s t
  .next (match s1.host.dmaWork with
    | [] => s1
    | h :: rest =>
      let s2 := { s1 with host := { s1.host with dmaWork := rest } }
      if pcieError then dmaFail s2 (leAt h 56 4) 1
      else if mapBad h map then dmaFail (badEntry s2 0 s2.con.ringA.w) (leAt h 56 4) 2
      else
        let e := { entryOf s2 h map (sourcePixels s2 h data) with dma := some (leAt h 56 4) }
        let fits := decide (s2.con.ringA.stalled = []) && ringFits s2 0 e.len
        let s3 := ringOffer s2 0 e
        if fits then entryDone (sendStreams s3 e) e else s3)

/-- RING_SPACE_FREED (R91): the first stalled write of a ring finds room and completes. -/
def execRingSpaceFreed (ring : Nat) (s : State) : Host.Outcome State Fault Refusal :=
  let i := ring % 2
  let r := ringGet s i
  .next (match r.stalled with
    | [] => s
    | e :: rest =>
      if ringFits s i e.len then entryDone (sendStreams (ringWrite (ringPut s i { r with stalled := rest }) i e) e) e else s)

/-! ### BAR2 (R89, R301, R302) -/

/-- RING_A_CTRL_WRITE (R301): MODE changes unless ring A holds waiting entries. -/
def execRingACtrlWrite (v : BitVec 64) (s : State) : Host.Outcome State Fault Refusal :=
  let mode := v.toNat % 2 = 1
  .next (if decide mode = s.host.bar2Mode then s
    else if s.con.ringA.w ≠ s.con.ringA.c then raise s intRing
    else { s with host := { s.host with bar2Mode := decide mode } })

/-- The running position of a ring offset at or after W. -/
def posAfter (r : Ring) (size off : Nat) : Nat := if size = 0 then r.w else r.w + (off + size - r.w % size) % size

/-- A byte written through BAR2: kept, or discarded where it would land between C and W, or on what a REWIND holds (R91, R96). -/
def bar2Byte (s : State) (x : Nat × Byte) : State :=
  let r := s.con.ringA
  let size := ringSize s 0
  if size ≤ x.1 ∨ ringGuard s 0 + size ≤ posAfter r size x.1 then s
  else { s with con := { s.con with bar2 := SMap.put 0 s.con.bar2 (x.1) x.2 } }

/-- BAR2_RING_WRITE (R91, R302): bytes of one write that fall between C and W are discarded, with the write counted in PROTECT_VIOL. -/
def execBar2RingWrite (offset : Nat) (bytes : List Byte) (s : State) : Host.Outcome State Fault Refusal :=
  let size := ringSize s 0
  let r := s.con.ringA
  .next (if size ≤ offset then s
    else if s.host.bar2Mode = false then ringCount s 0 4 1
    else
      let xs := (List.range bytes.length).map fun k => (offset + k, bytes.getD k 0)
      let s1 := xs.foldl bar2Byte s
      if xs.any fun x => decide (x.1 < size) && decide (ringGuard s 0 + size ≤ posAfter r size x.1) then ringCount s1 0 4 1 else s1)

/-- `n` bytes that BAR2 writes left in ring A from a position on. -/
def bar2Read (s : State) (pos n : Nat) : List Byte :=
  (List.range n).map fun k => SMap.get 0 s.con.bar2 ((pos + k) % max 1 (ringSize s 0))

/-- The positions of the entries that fill the ring from a position to another, if whole entries with their marks do. -/
def bar2Walk (s : State) (stop : Nat) : Nat → Nat → Option (List Nat)
  | 0, _ => none
  | n + 1, pos =>
    if pos = stop then some []
    else
      let h := bar2Read s pos 64
      let len := leAt h 32 4
      if stop < pos ∨ leAt h 62 2 ≠ 0xE196 ∨ len < 64 ∨ len % 64 ≠ 0 then none
      else (bar2Walk s stop n (pos + len)).map (pos :: ·)

/-- One entry that a doorbell covers, taken into the ring (R88, R89): an entry of a FORMAT or TRANSFER other than those of R89 is
invalid. -/
def bar2Take (s : State) (pos : Nat) : State :=
  let h := bar2Read s pos 64
  let len := leAt h 32 4
  let w := leAt h 24 2
  let ht := leAt h 26 2
  let hint := bitAt (byteOf h 4) 0
  let mb := if hint then mapBytes w ht else 0
  let map := mapOf (bar2Read s (pos + 64) mb) ((w + 63) / 64 * ((ht + 63) / 64))
  let pix := pixelsOf (bar2Read s (pos + 64 + mb) (8 * w * ht)) (w * ht)
  let pad := byteOf h 0 = 2
  let bad := headerFault h ≠ none ∨ (¬ pad ∧ (mapBad h map ∨ byteOf h 2 ≠ 8 ∨ byteOf h 3 ≠ 0))
  let e := { entryOf s h map (if pad ∨ bad then [] else pix) with len := len, dead := decide (pad ∨ bad) }
  let s1 := ringWrite s 0 e
  if bad then badEntry s1 0 pos else if pad then s1 else sendStreams s1 e

/-- RING_A_WP_WRITE (R89, R301): the doorbell publishes the whole entries from W to its value, or is ignored with RING_A_ERR. -/
def execRingAWpWrite (v : BitVec 64) (s : State) : Host.Outcome State Fault Refusal :=
  let size := ringSize s 0
  let off := v.toNat % 2 ^ 34
  let r := s.con.ringA
  let stop := posAfter r size off
  .next (if s.host.bar2Mode = false ∨ off % 64 ≠ 0 ∨ size ≤ off ∨ r.c + size ≤ stop ∨ ringGuard s 0 + size < stop then raise s intRing
    else match bar2Walk s stop (size / 64 + 1) r.w with
      | none => raise s intRing
      | some ps =>
        let s1 := ps.foldl bar2Take s
        { s1 with con := { s1.con with bar2 := s1.con.bar2.filter fun x => decide (stop ≤ posAfter r size x.1) } })

/-- CAPTURE_REL_WRITE (R105, R302): held captures of the named canvases are released. -/
def execCaptureRelWrite (v : BitVec 64) (s : State) : Host.Outcome State Fault Refusal :=
  .next { s with con := { s.con with
    captures := (bitsSet 4 v.toNat).foldl (fun m c => SMap.put none m c none) s.con.captures } }

/-! ### Streams into ring B -/

/-- The binding of a layer (R314), as its 48-byte payload. -/
def bindOf (c : Store) (layer : Nat) : List Byte := SMap.get [] c.binds layer

/-- The layer that a binding of a KIND and stream number names, if one does. -/
def boundLayer (c : Store) (kind stream : Nat) : Option Nat :=
  (List.range 64).find? fun i => byteOf (bindOf c i) 0 == kind && byteOf (bindOf c i) 2 == stream && bindOf c i != []

/-- An entry as a CONTENT message carries it: header, opacity map and C64 data (R358). -/
def entryMessage (e : EntryIn) : List Byte :=
  e.header ++ (if bitAt (byteOf e.header 4) 0 then
      leBytes (mapBytes (leAt e.header 24 2) (leAt e.header 26 2)) ((numbered e.map).map fun x => x.2 * 2 ^ (2 * x.1)).sum else [])
    ++ e.data

/-- CONTENT_STREAM_RECEIVED (R349, R358, R359): a message goes on to nodes beyond, and is written into ring B for its bound layer; one with a lost packet stays without its
mark, and one without a binding is discarded. -/
def execContentStreamReceived (t : Time) (stream : Nat) (complete : Bool) (e : EntryIn) (s : State) :
    Host.Outcome State Fault Refusal :=
  let a := advance s t
  let p := streamPort a stream
  let drop (a : State) : State := casPut a p { casGet a p with cnt := bump (casGet a p).cnt 4 1 }
  let s1 := if complete then passStream a stream (entryMessage e) else a
  .next (match boundLayer s1.cfg 3 stream with
    | none => drop s1
    | some layer =>
      let w := leAt e.header 24 2
      let ht := leAt e.header 26 2
      let en := { entryOf s1 e.header e.map (pixelsOf e.data (w * ht)) with layer := layer }
      if !complete then badEntry (drop (ringOffer s1 1 { en with dead := true, pix := [], map := [] })) 1 (ringStart s1.con.ringB (ringSize s1 1) en.len)
      else if headerFault e.header ≠ none ∨ mapBad e.header e.map then
        badEntry (ringOffer s1 1 { en with dead := true, pix := [], map := [] }) 1 (ringStart s1.con.ringB (ringSize s1 1) en.len)
      else sendStreams (ringOffer s1 1 en) en)

/-! ### Latching the layers of a frame (R45, R46, R88, R92 to R96) -/

/-- The entries of a ring that lie in a window and are not marked invalid. -/
def windowEntries (r : Ring) (a b : Int) : List Entry :=
  r.entries.filter fun e => !e.dead && e.done.isSome && decide (a ≤ (e.pt : Int)) && decide ((e.pt : Int) < b)

/-- An entry fails the tests of use: its layer is not bound to the ring, or its size is not the layer's (R88). -/
def useBad (c : Store) (i : Nat) (e : Entry) : Bool :=
  decide (c.val laySource e.layer ≠ i + 1) || decide (e.width ≠ c.val layWidth e.layer) || decide (e.height ≠ c.val layHeight e.layer)

/-- The entries of a window tested for use, each invalid one counted once. -/
def testWindow (s : State) (c : Store) (i : Nat) (a b : Int) : State :=
  (windowEntries (ringGet s i) a b).foldl (fun st e =>
    if useBad c i e then
      badEntry (ringPut st i { ringGet st i with
        entries := (ringGet st i).entries.map fun x => if x.seq = e.seq then { x with dead := true } else x }) i e.off
    else st) s

/-- The entry with the latest presentation time; of equal ones, the later in the ring. -/
def latest : List Entry → Option Entry
  | [] => none
  | e :: es => match latest es with
    | none => some e
    | some f => if e.pt ≤ f.pt then some f else some e

/-- What makes a layer hold no entry when the frame's parameters take over from the last latched frame's (R94, R97). -/
def layerReset (old new : Store) (i : Nat) : Bool :=
  let src := new.val laySource i
  decide (old.val layEnable i ≠ new.val layEnable i) || decide (old.val laySource i ≠ src)
    || decide (old.val layWidth i ≠ new.val layWidth i) || decide (old.val layHeight i ≠ new.val layHeight i)
    || (src == 1 && old.v cnvRingAMib != new.v cnvRingAMib) || (src == 2 && old.v cnvRingBMib != new.v cnvRingBMib)

/-- A layer latched for a frame: what it holds from then on, and the entry it uses with its state. -/
def latchLayer (s : State) (old new : Store) (k : Nat) (i : Nat) : State :=
  let l0 := SMap.get Layer.empty s.con.layers i
  let l := if layerReset old new i then { l0 with held := none, missed := 0 } else l0
  let put (st : State) (x : Layer) : State := { st with con := { st.con with layers := SMap.put Layer.empty st.con.layers i x } }
  let src := new.val laySource i
  if new.val layEnable i = 0 ∨ src = 0 then put s Layer.empty
  else if src = 3 then put s { held := none, missed := 0, state := 1 }
  else
    let ri := src - 1
    let kf : Int := k - (ringGet s ri).replay
    let cand := (windowEntries (ringGet s ri) (edgeAny s kf) (edgeAny s (kf + 1))).filter fun e => e.layer = i
    match latest cand with
    | some e => put (ringCount s ri 1 (cand.length - 1)) { held := some e, missed := 0, state := 1 }
    | none => put s { l with missed := l.missed + 1, state := if l.held = none then 3 else 2 }

/-- C of a ring: the oldest entry that the frame latched under `c` or one still in progress reads, or that is yet to come (R95). -/
def newC (s : State) (c : Store) (i : Nat) (future : Int) : Nat :=
  let r := ringGet s i
  let used : List Nat := (List.range 64).filterMap fun n =>
    if c.val laySource n = i + 1 then (SMap.get Layer.empty s.con.layers n).held.map (·.seq) else none
  let inFrames : List Nat := s.frm.frames.flatMap fun f => f.layers.filterMap fun x =>
    if f.stage = .computing ∧ f.cfg.val laySource x.1 = i + 1 then x.2.1.map (·.seq) else none
  match r.entries.find? fun e => used.elem e.seq || inFrames.elem e.seq || (!e.dead && decide (future ≤ (e.pt : Int))) with
  | some e => e.off
  | none => r.w

/-- C and M of a ring after the latch of frame `k` under a store (R92, R96). -/
def moveMarks (s : State) (new : Store) (k i : Nat) : State :=
  let r := ringGet s i
  let kf : Int := k - r.replay
  let c := newC s new i (edgeAny s (kf + 1))
  let base := match r.entries.find? fun e => e.off = c with
    | some e => frameAt s e.pt
    | none => kf
  let limit : Int := base - new.v cnvRewindDepth
  let kept := r.entries.dropWhile fun e => decide (e.off < c) && decide (frameAt s e.pt < limit)
    && !(r.holds.any fun h => decide ((h.2 : Int) ≤ frameAt s e.pt))
  watermark (ringPut s i { r with
    entries := kept
    c := c
    m := match kept with
      | e :: _ => e.off
      | [] => c }) (22 + i)

/-- The streams' frames that I(k) finds incomplete are discarded and counted (R85); their later packets are ignored. -/
def dropStreams (s : State) (k : Nat) : State :=
  s.con.streams.foldl (fun a x => match x.2 with
    | some r =>
      if r.discarded = false ∧ frameAt s r.pt ≤ (k : Int) - s.con.ringB.replay then
        badEntry { a with con := { a.con with streams := SMap.put none a.con.streams x.1 (some { r with discarded := true }) } } 1 a.con.ringB.w
      else a
    | none => a) s

/-- The layers of a frame latched under its parameters, the rings' marks moved, and the bytes booked to the frame (R103). -/
def latchLayers (s : State) (old new : Store) (k : Nat) : State × SMap (Option Entry × Nat) × Nat :=
  let win (st : State) (i : Nat) : State :=
    let kf : Int := k - (ringGet st i).replay
    testWindow st new i (edgeAny st kf) (edgeAny st (kf + 1))
  let s1 := (List.range 64).foldl (fun st i => latchLayer st old new k i) (win (win (dropStreams s k) 0) 1)
  let ls := (List.range 64).foldl (fun m i =>
    let l := SMap.get Layer.empty s1.con.layers i
    SMap.put (none, 0) m i (l.held, l.state)) []
  let b := s1.con.ringA.booked + s1.con.ringB.booked
  let s2 := { s1 with con := { s1.con with ringA := { s1.con.ringA with booked := 0 }, ringB := { s1.con.ringB with booked := 0 } } }
  (moveMarks (moveMarks s2 new k 0) new k 1, ls, b)

/-- LAYER_SOURCE_LOST (R94). -/
def execLayerSourceLost (layer : Nat) (s : State) : Host.Outcome State Fault Refusal :=
  let l := SMap.get Layer.empty s.con.layers layer
  let n := s.cfg.val layLossFrames layer
  .next (if layer < 64 ∧ l.held.isSome ∧ n ≠ 0 ∧ n ≤ l.missed then
      logEv { s with con := { s.con with layers := SMap.put Layer.empty s.con.layers layer { l with held := none, state := 3 } } } 0x0202
        layer 0 0
    else s)

/-- A ring emptied at the edge at which its size changes (R97): DMA descriptors in progress complete with status 0x03. -/
def emptyRing (s : State) (i : Nat) : State :=
  let r := ringGet s i
  let s1 := r.stalled.foldl (fun a e => match e.dma with
    | some q => dmaDone a q 3
    | none => a) s
  let s2 := if i = 0 then s1.host.dmaWork.foldl (fun a h => dmaDone a (leAt h 56 4) 3) { s1 with host := { s1.host with dmaWork := [] } } else s1
  let s3 := ringPut s2 i { Ring.empty with cnt := (ringGet s2 i).cnt, next := r.next }
  let s4 := if i = 0 then { s3 with con := { s3.con with bar2 := [] } } else { s3 with con := { s3.con with streams := [] } }
  { s4 with con := { s4.con with
      layers := (List.range 64).foldl (fun m n =>
        let l := SMap.get Layer.empty m n
        if s.cfg.val laySource n = i + 1 then SMap.put Layer.empty m n { l with held := none } else m) s4.con.layers } }

end Sys2Proof.Machine
end

