-- ==== Sys2Proof/Machine/Sun.lean ====
section
/-! DEFINITION. Sunrise and sunset (05 R122): the instants at which the centre of the sun stands 0.833° below the horizon, by the low-precision
solar position formulas of the Astronomical Almanac's kind (PRESUMED, log entry 91), in fixed point, with the deviation that R122 allows. -/

namespace Sys2Proof.Machine

/-- One, in signed fixed point. -/
def sfOne : Int := 2 ^ 64

/-- A decimal fraction `n / d`. -/
def sfDec (n d : Int) : Int := n * sfOne / d

/-- A product. -/
def sfMul (a b : Int) : Int := a * b / sfOne

/-- A quotient. -/
def sfDiv (a b : Int) : Int := a * sfOne / b

/-- π. -/
def sfPi : Int := 57952155664616982739

/-- The terms of the sine series from one on, `n` more. -/
def sinTerms (x2 : Int) : Nat → Int → Int → Int
  | 0, _, _ => 0
  | n + 1, k, term => term + sinTerms x2 n (k + 2) (-(sfMul term x2 / (k * (k + 1))))

/-- The sine of an angle in radians. -/
def sfSin (x : Int) : Int :=
  let r := (x + sfPi) % (2 * sfPi) - sfPi
  sinTerms (sfMul r r) 16 2 r

/-- The cosine of an angle in radians. -/
def sfCos (x : Int) : Int := sfSin (x + sfPi / 2)

/-- The angle in [0, π] of a cosine, by bisection. -/
def sfAcos (c : Int) : Nat → Int → Int → Int
  | 0, lo, _ => lo
  | n + 1, lo, w => sfAcos c n (if c ≤ sfCos (lo + w / 2) then lo + w / 2 else lo) (w / 2)

/-- Degrees as radians. -/
def radians (d : Int) : Int := sfMul d sfPi / 180

/-- Julian centuries since J2000 at a UTC second since 1970. -/
def centuries (t : Int) : Int := (t - 946728000) * sfOne / 3155760000

/-- Sine of the sun's declination, and the equation of time in seconds, both at a UTC second. -/
def solarPosition (t : Int) : Int × Int :=
  let j := centuries t
  let l0 := radians ((sfDec 28046646 100000 + sfMul j (sfDec 36000769830 1000000 + sfMul j (sfDec 3032 10000000))) % (360 * sfOne))
  let m := radians ((sfDec 35752911 100000 + sfMul j (sfDec 3599905029 100000 - sfMul j (sfDec 1537 10000000))) % (360 * sfOne))
  let e := sfDec 16708634 1000000000 - sfMul j (sfDec 42037 1000000000 + sfMul j (sfDec 1267 10000000000))
  let c := sfMul (sfSin m) (sfDec 1914602 1000000 - sfMul j (sfDec 4817 1000000 + sfMul j (sfDec 14 1000000)))
    + sfMul (sfSin (2 * m)) (sfDec 19993 1000000 - sfMul j (sfDec 101 1000000)) + sfMul (sfSin (3 * m)) (sfDec 289 1000000)
  let node := radians ((sfDec 12504 100 - sfMul j (sfDec 1934136 1000)) % (360 * sfOne))
  let lambda := l0 + radians (c - sfDec 569 100000 - sfMul (sfDec 478 100000) (sfSin node))
  let arcsec := sfDec 21448 1000 - sfMul j (sfDec 46815 1000 + sfMul j (sfDec 59 100000 - sfMul j (sfDec 1813 1000000)))
  let eps := radians (23 * sfOne + (26 * sfOne + arcsec / 60) / 60 + sfMul (sfDec 256 100000) (sfCos node))
  let y := sfDiv (sfOne - sfCos eps) (sfOne + sfCos eps)
  let eot := sfMul y (sfSin (2 * l0)) - 2 * sfMul e (sfSin m) + 4 * sfMul (sfMul e y) (sfMul (sfSin m) (sfCos (2 * l0)))
    - sfMul (sfMul y y) (sfSin (4 * l0)) / 2 - 5 * sfMul (sfMul e e) (sfSin (2 * m)) / 4
  (sfMul (sfSin eps) (sfSin lambda), sfDiv eot sfPi * 43200 / sfOne)

/-- The event of a solar day, whose mean noon is `noon`, by `n` more steps of approximation from an instant; none where the sun does not
reach the altitude. -/
def sunNear (noon lat : Int) (rising : Bool) : Nat → Int → Option Int
  | 0, t => some t
  | n + 1, t =>
    let p := solarPosition t
    let phi := radians (lat * sfOne / 1000000)
    let cosd := (fixSqrt ((sfOne * sfOne - p.1 * p.1).toNat) / 2 ^ 64 : Nat)
    let h := sfDiv (sfSin (radians (sfDec (-833) 1000)) - sfMul (sfSin phi) p.1) (sfMul (sfCos phi) cosd)
    if sfMul (sfCos phi) cosd = 0 ∨ sfOne < h ∨ h < -sfOne then none
    else
      let angle := sfDiv (sfAcos h 64 0 sfPi) sfPi * 43200 / sfOne
      sunNear noon lat rising n (noon - p.2 + (if rising then -angle else angle))

/-- Sunrise or sunset of a local date in UTC seconds, exactly evaluated: of the solar days near the date, the event that lies on it. `tz` is
local time less UTC in seconds. -/
def sunExact (date lat lon tz : Int) (rising : Bool) : Option Int :=
  let near (k : Int) : Option Int :=
    let noon := (date + k) * 86400 + 43200 - lon * 240 / 1000000
    match sunNear noon lat rising 4 noon with
    | some t => if (t + tz) / 86400 = date then some t else none
    | none => none
  match near 0 with
  | some t => some t
  | none => match near (-1) with
    | some t => some t
    | none => near 1

/-- Sunrise or sunset of a local date in UTC seconds as the node computes it: within 60 s for latitudes from −65° to +65°, and as the
implementation has it beyond (R122). -/
def sunEvent (date : Nat) (lat lon tz : Int) (rising : Bool) : Option Int :=
  if lat < -65000000 ∨ 65000000 < lat then (Config.sunFar date lat lon rising).map Int.ofNat
  else (sunExact date lat lon tz rising).map fun t => t + (Config.sunDev date lat lon rising).val - 60

end Sys2Proof.Machine
end

