-- ==== Sys2Proof/Machine/Ptp.lean ====
section
/-! DEFINITION. The PTP instance (03 3.3): its messages as bytes, the best master clock decision with the port states, and what a port
answers. The formats and the decision are those of IEEE 1588-2019, to which R72 refers (PRESUMED, log entry 85). -/

namespace Sys2Proof.Machine

/-! ### Messages (R72, R73) -/

/-- A timestamp of IEEE 1588. -/
def ptpStamp (t : Time) : List Byte := beBytes 6 (t / sec) ++ beBytes 4 (t % sec / ns)

/-- The clock identity of the node, made of port 0's station address. -/
def ptpClock : Nat := Config.macAddr 0 / 2 ^ 24 * 2 ^ 40 + 0xFFFE * 2 ^ 24 + Config.macAddr 0 % 2 ^ 24

/-- The port identity of IEEE 1588. -/
def ptpIdentity (port : Nat) : Nat := ptpClock * 65536 + port + 1

/-- A correctionField: units of 1/65,536 ns. -/
def ptpCorr (x : Int) : List Byte := beBytes 8 (patternOf 64 x)

/-- What a message says beside its header: type, flags, sequence ID, correction and body. -/
structure PtpMsg where
  type : Nat
  flags : Nat
  seq : Nat
  corr : Int
  body : List Byte
  deriving DecidableEq, Repr

/-- The logMessageInterval of a message: TIM_PTP_SYNC_LOG for Sync, Follow_Up and Delay_Resp, the profile's announce interval for
Announce, and 0x7F otherwise (PRESUMED, log entry 85). -/
def ptpLogInterval (c : Store) (ty : Nat) : Nat :=
  if ty = 0 ∨ ty = 8 ∨ ty = 9 then c.v timPtpSyncLog else if ty = 11 then (if c.v timPtpProfile = 2 then 0xFE else 1) else 0x7F

/-- A PTP message as bytes. -/
def ptpBytes (c : Store) (port : Nat) (m : PtpMsg) : List Byte :=
  leBytes 1 m.type ++ leBytes 1 2 ++ beBytes 2 (34 + m.body.length) ++ leBytes 1 (c.v timPtpDomain) ++ leBytes 1 0 ++ beBytes 2 m.flags
    ++ ptpCorr m.corr ++ beBytes 4 0 ++ beBytes 10 (ptpIdentity port) ++ beBytes 2 m.seq
    ++ leBytes 1 (if m.type = 0 then 0 else if m.type = 1 then 1 else if m.type = 8 then 2 else if m.type = 9 then 3 else 5)
    ++ leBytes 1 (ptpLogInterval c m.type) ++ m.body

/-- A PTP message in its frame under TIM_PTP_TRANSPORT. Over UDP/IPv6 an event message is followed by the two bytes with which the
checksum is adjusted (R73). -/
def ptpFrame (c : Store) (port ty : Nat) (m : List Byte) : List Byte :=
  let peer := ty = 2 ∨ ty = 3 ∨ ty = 10
  let dp := if ty < 4 then 319 else 320
  if c.v timPtpTransport = 2 then
    ethFrame port (beBytes 6 (if peer then 0x0180C200000E else 0x011B19000000)) (epData (c.row ethPort port)) 0 0x88F7 m
  else if c.v timPtpTransport = 1 then
    let g := if peer then 0xFF02000000000000000000000000006B else 0xFF0E0000000000000000000000000181
    udp6 c (port * 2) (beBytes 16 g) (mac6 g) dp dp 64 0 (if ty < 4 then m ++ beBytes 2 0 else m)
  else
    let g := if peer then 0xE000006B else 0xE0000181
    udp4 c (port * 2) (beBytes 4 g) (mac4 g) dp dp 64 0 m

/-- The tag of an event message: its type and the low bits of its sequence ID (DESIGN CHOICE, log entry 85). -/
def ptpTag (ty seq : Nat) : Nat := ty * 4096 + seq % 4096

/-- A message that Zhotex puts on priority 3 of a port. An event message asks for a timestamp unless the operation is one-step and the
message is Sync or Pdelay_Resp (R73, R76). -/
def ptpPush (s : State) (port : Nat) (m : PtpMsg) : State :=
  let one := decide (s.cfg.v timPtpStep = 1) && (m.type == 0 || m.type == 3)
  let flags := if 4 ≤ m.type then 0 else if one then 2 + 8 else 2 + 1
  qPush s (3 + 4 * port) false (txPacket (ptpTag m.type m.seq) flags (ptpFrame s.cfg port m.type (ptpBytes s.cfg port m)))

/-- The flag twoStepFlag of an event message. -/
def ptpTwoStep (c : Store) : Nat := if c.v timPtpStep = 0 then 0x0200 else 0

/-- A message of the port's own, with the next sequence ID of its type. -/
def ptpOwn (s : State) (port ty flags : Nat) (corr : Int) (body : List Byte) : State × Nat :=
  let k := port * 16 + ty
  let seq := SMap.get 0 s.tim.ptpSeq k
  (ptpPush { s with tim := { s.tim with ptpSeq := SMap.put 0 s.tim.ptpSeq k ((seq + 1) % 65536) } } port
    { type := ty, flags := flags, seq := seq, corr := corr, body := body }, seq)

/-- An event message whose timestamp a follow-up waits for. -/
def ptpAwait (s : State) (port : Nat) (x : PtpPending) : State :=
  { s with tim := { s.tim with ptpPend := SMap.put [] s.tim.ptpPend port (SMap.get [] s.tim.ptpPend port ++ [x]) } }

/-- The message of a frame that leaves at `t` in one-step operation (R73): the timestamp written, and correctionField advanced by what
the timestamp does not hold; for a Pdelay_Resp that is the residence time since the instant it held. -/
def ptpStampMsg (m : List Byte) (t : Time) : List Byte :=
  let held := beAt m 34 6 * sec + beAt m 40 4 * ns
  let corr : Int := if byteOf m 0 % 16 = 0 then ((t % ns : Nat) : Int) else signedOf 64 (beAt m 8 8) + ((t : Int) - held)
  m.take 8 ++ ptpCorr corr ++ (m.drop 16).take 18 ++ ptpStamp t ++ m.drop 44

/-- The two bytes after a message that keep a checksum as it was computed over the old bytes (R73). -/
def ptpAdjust (old new : List Byte) : List Byte := beBytes 2 ((wordSum old + 65535 * (new.length + 1) - wordSum new) % 65535)

/-- A one-step message's frame as it leaves at `t` (R73): Ethernet and UDP/IPv4, whose checksum is zero, take the new bytes; over UDP/IPv6
the last two bytes balance them. -/
def ptpLeaves (frame : List Byte) (off : Nat) (ipv6 : Bool) (t : Time) : List Byte :=
  let m := frame.drop off
  if ipv6 then
    let old := m.take (m.length - 2)
    frame.take off ++ ptpStampMsg old t ++ ptpAdjust old (ptpStampMsg old t)
  else frame.take off ++ ptpStampMsg m t

/-! ### Discipline states that PTP leads to (R69) -/

/-- HOLDOVER: p is 0 and f is held (R69). -/
def toHoldover (s : State) : State :=
  { s with tim := { s.tim with disc := .holdover, p := 0, holdAt := s.tim.now, good := 0, bad := 0 } }

/-- The samples have stopped: ACQUIRING and LOCKED go to HOLDOVER, and the other states stay (R69). -/
def losesSource (s : State) : State := if s.tim.disc = .acquiring ∨ s.tim.disc = .locked then toHoldover s else s

/-- FREE: f is held (R69). -/
def toFree (s : State) : State := { s with tim := { s.tim with disc := .free, p := 0, good := 0, bad := 0 } }

/-! ### Best master clock (R72) -/

/-- The PTP state of a port. -/
def ptpState (s : State) (p : Nat) : Nat := SMap.get 0 s.tim.ptpPort p

/-- An Ethernet port that can carry PTP: READY or RUN, enabled and with its link up. -/
def ptpLink (s : State) (p : Nat) : Bool :=
  decide (p < 2) && (s.dev.state == .ready || s.dev.state == .run) && modeOf (s.cfg.row ethPort p) != 0 && (SMap.get EthState.empty s.eth p).up

/-- The port takes part in PTP: both ports of a boundary clock, one port of an ordinary clock (Table 3-2), which is port 0 where that can
carry PTP and port 1 otherwise (DESIGN CHOICE, log entry 85). -/
def ptpActive (s : State) (p : Nat) : Bool :=
  ptpLink s p && s.cfg.v timPtpMode != 0 && (s.cfg.v timPtpMode == 2 || p == 0 || !ptpLink s 0)

/-- An ordinary clock that is slave-only (R72, Table 3-7). -/
def ptpSlaveOnly (c : Store) : Bool := c.v timPtpMode == 1 && c.v timPtpSlaveOnly == 1

/-- A foreign master that takes part in the decision: two messages within four announce intervals, the last within three. -/
def ptpQualified (x : PtpForeign) (t : Time) : Bool :=
  (match x.before with
    | some u => decide (x.heard ≤ u + 4 * x.interval)
    | none => false)
  && decide (t < x.heard + 3 * x.interval)

/-- A data set as the comparison takes it: the one with the smaller list is better. -/
def ptpRank (x : PtpForeign) (p : Nat) : List Nat := [x.prio1, x.quality, x.prio2, x.gm, x.steps, x.sender, p]

/-- The node's own data set, with clockClass 248, clockAccuracy 0xFE and offsetScaledLogVariance 0x4E5D (PRESUMED, log entry 85). -/
def ptpOwnRank (c : Store) : List Nat := [c.v timPtpPrio1, 0xF8FE4E5D, c.v timPtpPrio2, ptpClock, 0, ptpClock * 65536, 0]

/-- Lists of one length compared from the left. -/
def lexLess : List Nat → List Nat → Bool
  | a :: as_, b :: bs => decide (a < b) || (a == b && lexLess as_ bs)
  | _, _ => false

/-- The best foreign master heard on a port. -/
def ptpBestOf (s : State) (t : Time) (p : Nat) : Option PtpForeign :=
  ((SMap.get [] s.tim.foreign p).filter fun x => ptpQualified x t).foldl (fun best x => match best with
    | none => some x
    | some y => if lexLess (ptpRank x p) (ptpRank y p) then some x else some y) none

/-- The best foreign master of the node, with its port. -/
def ptpBest (s : State) (t : Time) : Option (Nat × PtpForeign) :=
  let at_ (p : Nat) : Option PtpForeign := if ptpActive s p then ptpBestOf s t p else none
  match at_ 0, at_ 1 with
  | some x, some y => if lexLess (ptpRank y 1) (ptpRank x 0) then some (1, y) else some (0, x)
  | some x, none => some (0, x)
  | none, some y => some (1, y)
  | none, none => none

/-- The better of two data sets of one grandmaster is better by topology alone: as near, or one step nearer than the other port's, whose
own identity is the larger. -/
def ptpByTopology (best other : PtpForeign) (p : Nat) : Bool :=
  best.gm == other.gm
    && (best.steps == other.steps || (other.steps == best.steps + 1 && decide (other.sender < ptpIdentity p)))

/-- The state of a port by the state decision algorithm. `heardNone` is a port on which the announce receipt time has passed. -/
def ptpRole (s : State) (t : Time) (heardNone : Option Nat) (p : Nat) : Nat :=
  let alone : Nat := if ptpState s p ≠ 0 ∨ heardNone = some p then 2 else 0
  if !ptpActive s p then 0
  else if s.cfg.v timPtpMode = 3 then 2
  else match ptpBest s t with
    | none => if ptpSlaveOnly s.cfg then 0 else alone
    | some (q, b) =>
      if ptpSlaveOnly s.cfg then (if q = p then 1 else 0)
      else if lexLess (ptpOwnRank s.cfg) (ptpRank b q) then (if (ptpBestOf s t p).isSome then 2 else alone)
      else if q = p then 1
      else match ptpBestOf s t p with
        | some e => if ptpByTopology b e p then 3 else 2
        | none => alone

/-- The port states decided again, and what the discipline makes of them (R69): a node that is master on a port and slave on none is
grandmaster and FREE, and one without a port in SLAVE state has lost its source. Members and a node in SHADOW have other sources (R67). -/
def ptpDecide (s : State) (heardNone : Option Nat) : State :=
  let r (p : Nat) : Nat := ptpRole s s.tim.now heardNone p
  let s1 := { s with tim := { s.tim with ptpPort := SMap.put 0 (SMap.put 0 s.tim.ptpPort 0 (r 0)) 1 (r 1) } }
  if isMember s ∨ s.dev.state = .shadow ∨ r 0 = 1 ∨ r 1 = 1 then s1
  else if r 0 = 2 ∨ r 1 = 2 then toFree s1
  else losesSource s1

/-- The instance begins again, with nothing heard. -/
def ptpClear (s : State) : State := { s with tim := { s.tim with ptpPort := [], foreign := [], ptpPend := [] } }

/-- TIM_SYNC_SOURCE (R67, R84). -/
def syncSource (s : State) : Nat :=
  if isMember s then 3
  else if s.dev.state = .shadow then 4
  else if ptpState s 0 = 1 then 1
  else if ptpState s 1 = 1 then 2
  else 0

/-- Which sources may discipline the node (R67, R69): 1 and 2 are PTP on port 0 and port 1, in SLAVE state. -/
def sourceAllowed (s : State) (src : Nat) : Bool :=
  if isMember s then src == 3
  else if s.dev.state = .shadow then src == 4
  else (src == 1 || src == 2) && (s.cfg.v timPtpMode == 1 || s.cfg.v timPtpMode == 2) && ptpState s (src - 1) == 1

/-! ### What a port sends and answers (R72, R75, R76) -/

/-- The grandmaster that Announce names: the one followed, one step further away, or the node itself. -/
def ptpAnnounce (s : State) (t : Time) : Nat × List Byte :=
  match ptpBest s t with
  | some (q, b) =>
    if ptpState s q = 1 then
      (b.flags, ptpStamp t ++ beBytes 2 b.utc ++ leBytes 1 0 ++ leBytes 1 b.prio1 ++ beBytes 4 b.quality ++ leBytes 1 b.prio2 ++ beBytes 8 b.gm
        ++ beBytes 2 (b.steps + 1) ++ leBytes 1 b.timeSource)
    else own
  | none => own
where own : Nat × List Byte :=
  (0x000C, ptpStamp t ++ beBytes 2 (s.cfg.v devUtcTai) ++ leBytes 1 0 ++ leBytes 1 (s.cfg.v timPtpPrio1) ++ beBytes 4 0xF8FE4E5D
    ++ leBytes 1 (s.cfg.v timPtpPrio2) ++ beBytes 8 ptpClock ++ beBytes 2 0 ++ leBytes 1 0xA0)

/-- TIM_PTP_ASYMn of a port, in units of 1/65,536 ns (R75). -/
def ptpAsym (c : Store) (p : Nat) : Int := c.vs (if p = 0 then timPtpAsym0 else timPtpAsym1) 0 * ns

/-- The messages of a port in MASTER state at its interval: Sync, whose Follow_Up waits for its timestamp in two-step operation, and
Announce (R72). -/
def ptpMaster (s : State) (p : Nat) (t : Time) : State :=
  let a := ptpOwn s p 0 (ptpTwoStep s.cfg) 0 (ptpStamp t)
  let s1 := if s.cfg.v timPtpStep = 0 then
      ptpAwait a.1 p { tag := ptpTag 0 a.2, type := 0, seq := a.2, requester := [], correction := 0 }
    else a.1
  let x := ptpAnnounce s t
  (ptpOwn s1 p 11 x.1 0 x.2).1

/-- The message of a port in SLAVE state at its interval: Pdelay_Req under the peer-to-peer profile, else Delay_Req; its correction takes
delayAsymmetry off (R72, R75). -/
def ptpSlave (s : State) (p : Nat) : State :=
  if s.cfg.v timPtpProfile = 1 then (ptpOwn s p 2 0 (-ptpAsym s.cfg p) (beBytes 20 0)).1
  else (ptpOwn s p 1 0 (-ptpAsym s.cfg p) (beBytes 10 0)).1

/-- An answer to a request received at `t`, which carries the request's sequence ID and its sender: Delay_Resp (9) or Pdelay_Resp (3),
the fraction that its timestamp leaves out taken off the correction. -/
def ptpAnswer (s : State) (p ty : Nat) (m : List Byte) (t : Time) : State :=
  let corr := signedOf 64 (beAt m 8 8)
  let seq := beAt m 30 2
  let who := (m.drop 20).take 10
  let two := ty = 3 ∧ s.cfg.v timPtpStep = 0
  let s1 := ptpPush s p
    { type := ty, flags := if ty = 3 then ptpTwoStep s.cfg else 0, seq := seq, corr := (if two then 0 else corr) - ((t % ns : Nat) : Int)
      body := ptpStamp t ++ who }
  if two then ptpAwait s1 p { tag := ptpTag 3 seq, type := 3, seq := seq, requester := who, correction := corr } else s1

/-- A popped timestamp of a PTP event message gives its Follow_Up (8) or Pdelay_Resp_Follow_Up (10) where one waits for it (R72, R76). -/
def ptpFollowUp (s : State) (p tag : Nat) (t : Time) : State :=
  let l := SMap.get [] s.tim.ptpPend p
  match l.find? fun x => x.tag == tag with
  | none => s
  | some x =>
    ptpPush { s with tim := { s.tim with ptpPend := SMap.put [] s.tim.ptpPend p (l.erase x) } } p
      { type := if x.type = 0 then 8 else 10, flags := 0, seq := x.seq, corr := x.correction + ((t % ns : Nat) : Int)
        body := ptpStamp t ++ x.requester }

/-- An Announce message as a foreign master's record, with what was known of its sender before. -/
def ptpForeign (m : List Byte) (old : Option PtpForeign) (t : Time) : PtpForeign :=
  let log := signedOf 8 (byteOf m 33)
  { sender := beAt m 20 10, prio1 := byteOf m 47, quality := beAt m 48 4, prio2 := byteOf m 52, gm := beAt m 53 8, steps := beAt m 61 2
    utc := beAt m 44 2, flags := beAt m 6 2, timeSource := byteOf m 63
    interval := if 0 ≤ log then sec * 2 ^ log.toNat else sec / 2 ^ (-log).toNat
    before := old.map (·.heard), heard := t }

/-- A PTP message taken in (R72): Announce enters the best master decision; Delay_Req is answered as master, and Pdelay_Req under the
peer-to-peer profile. Messages of another domain or of the node itself, and management messages, are not heard. -/
def takePtp (s : State) (p : Nat) (m : List Byte) (t : Time) : State :=
  let ty := byteOf m 0 % 16
  if byteOf m 4 ≠ s.cfg.v timPtpDomain ∨ !ptpActive s p ∨ beAt m 20 8 = ptpClock then s
  else if ty = 1 ∧ ptpState s p = 2 ∧ s.cfg.v timPtpProfile ≠ 1 then ptpAnswer s p 9 m t
  else if ty = 2 ∧ s.cfg.v timPtpProfile = 1 then ptpAnswer s p 3 m t
  else if ty = 11 ∧ s.cfg.v timPtpMode ≠ 3 ∧ beAt m 61 2 < 255 then
    let l := SMap.get [] s.tim.foreign p
    let x := ptpForeign m (l.find? fun y => y.sender == beAt m 20 10) t
    let rest := (l.filter fun y => y.sender != x.sender && decide (t < y.heard + 4 * y.interval)).take 4
    ptpDecide { s with tim := { s.tim with foreign := SMap.put [] s.tim.foreign p (x :: rest) } } none
  else s

end Sys2Proof.Machine
end

