-- ==== Sys2Proof/Machine/TimeOps.lean ====
section
/-! DEFINITION. Device time and its discipline (03): the RTC, the servo, timestamp queues, TOUT, TIN and alarms, with the commands that
need nothing of other chapters. -/

namespace Sys2Proof.Machine

/-! ### RTC (R65, R66) -/

/-- The RTC count at an instant, which it is taken to advance at its nominal rate (DESIGN CHOICE, log entry 15). -/
def rtcCount (s : State) : Nat := s.tim.rtc + (s.tim.now - s.tim.rtcAt) * 32768 / sec

/-- An instant truncated to a count of RTC ticks. -/
def ticksOf (t : Time) : Nat := t * 32768 / sec

/-- A count of RTC ticks as an instant; exact (R66). -/
def ofTicks (n : Nat) : Time := n * sec / 32768

/-- The RTC loaded with an instant. -/
def loadRtc (s : State) (t : Time) : State := { s with tim := { s.tim with rtc := ticksOf t, rtcAt := s.tim.now } }

/-- RTC_UPDATE (R66): while the discipline state is not FREE the estimate of master time is written, otherwise device time; nothing
where the node has no device time, before D6 has loaded it (R65). -/
def execRtcUpdate (t : Time) (s : State) : Host.Outcome State Fault Refusal :=
  let s1 := advance s t
  .next (if s1.dev.state.powered ∧ bitAt s1.dev.dawnPassed 6 then
      loadRtc s1 (if s1.tim.disc = .free then s1.tim.now else ((s1.tim.now : Int) - s1.tim.lastO).toNat)
    else s1)

/-! ### Servo (R67 to R71) -/

/-- The servo's new frequency and phase terms for a sample (3.2); divisions round toward zero. `s` is in units of 1/128,000 s. -/
def servo (c : Store) (f o : Int) (s : Nat) : Int × Int :=
  let slew : Int := c.v timSlewMax
  if (c.v timSlewThresh : Int) < o.natAbs then (f, if 0 < o then -slew else slew)
  else
    let q (k : Nat) : Int := Int.tdiv ((k : Int) * o * 128000) (256 * max 1 s : Nat)
    (max (-100000) (min 100000 (f - q (c.v timServoKi))), max (-slew) (min slew (-(q (c.v timServoKp)))))

/-- The discipline state after a valid sample, and the two runs of consecutive samples (R69). The sample that enters ACQUIRING is not one
of the 16 that lead to LOCKED (DESIGN CHOICE, log entry 86). -/
def discNext (c : Store) (t : Tim) (o : Int) : Disc × Nat × Nat :=
  let th := c.v timLockThresh
  let good := if o.natAbs < th then t.good + 1 else 0
  let bad := if 4 * th ≤ o.natAbs then t.bad + 1 else 0
  match t.disc with
  | .free => (.acquiring, 0, 0)
  | .holdover => (.acquiring, 0, 0)
  | .acquiring => if 16 ≤ good then (.locked, 0, 0) else (.acquiring, good, 0)
  | .locked => if 4 ≤ bad then (.acquiring, 0, 0) else (.locked, 0, bad)

/-- A valid offset sample applied (R67 to R71): `o` in nanoseconds, `fine` in units of 1/65,536 ns. The condition of R71 is one of the
time during which edges run. -/
def takeSample (s : State) (o fine : Int) (interval : Nat) : State :=
  let fp := servo s.cfg s.tim.f o interval
  let d := discNext s.cfg s.tim o
  let large := decide ((s.cfg.v timSlewThresh : Int) < o.natAbs) && s.frm.running
  let s1 := { s with tim := { s.tim with
    f := fp.1, p := fp.2, offset := o, disc := d.1, good := d.2.1, bad := d.2.2, sampleAt := s.tim.now
    interval := interval, lastO := fine, large := large } }
  if large ∧ s.tim.large = false then logEv s1 0x0107 (patternOf 64 o % 4294967296) (patternOf 64 o / 4294967296) 0 else s1

/-- SYNC_SAMPLE_TIMEOUT (R69): no valid sample for eight sync intervals. -/
def execSyncSampleTimeout (t : Time) (s : State) : Host.Outcome State Fault Refusal :=
  let s1 := advance s t
  let due := decide (s1.tim.sampleAt + 8 * (s1.tim.interval * sec / 128000) ≤ t)
  .next (if due then losesSource s1 else s1)

/-- HOLDOVER_EXPIRY (R69): TIM_HOLDOVER_MAX seconds of HOLDOVER. -/
def execHoldoverExpiry (t : Time) (s : State) : Host.Outcome State Fault Refusal :=
  let s1 := advance s t
  .next (if s1.tim.disc = .holdover ∧ s1.tim.holdAt + s1.cfg.v timHoldoverMax * sec ≤ t then toFree s1 else s1)

/-- PTP_MESSAGE_INTERVAL (R69, R72): the interval of a port's state passes. As master it means that the port has heard no Announce for the
announce receipt time. A port that is in the state named sends. -/
def execPtpMessageInterval (port : Nat) (master : Bool) (t : Time) (s : State) : Host.Outcome State Fault Refusal :=
  let s1 := advance s t
  let s2 := ptpDecide s1 (if master then some port else none)
  .next (if !ptpActive s1 port then s1
    else if master ∧ ptpState s2 port = 2 then ptpMaster s2 port s2.tim.now
    else if !master ∧ ptpState s2 port = 1 then ptpSlave s2 port
    else s2)

/-! ### Timestamp queues (R76, R77) -/

/-- Entries of Q16 or Q17. -/
def tsGet (s : State) (p : Nat) : List (Nat × Bool × Time) := SMap.get [] s.tim.tsq p

/-- A full queue met by a frame that asks for an entry (R77). -/
def tsFull (s : State) (p : Nat) : State :=
  logEv { s with tim := { s.tim with tsqOvf := bump s.tim.tsqOvf p 1 } } 0x0108 p 0 0

/-- TX_TIMESTAMP_CAPTURE (R76, R77): the timestamp of the frame on the wire, which asked for one and found a free entry, is pushed. -/
def execTxTimestampCapture (port tag : Nat) (ptp : Bool) (t : Time) (s : State) : Host.Outcome State Fault Refusal :=
  let s1 := advance s t
  match (SMap.get EthState.empty s.eth port).sending with
  | some (_, pkt, _, missed) =>
    if port < 2 ∧ (tsGet s1 port).length < 64 ∧ !missed ∧ leAt pkt 0 2 = tag ∧ bitAt (byteOf pkt 2) 0 ∧ bitAt (byteOf pkt 2) 1 = ptp then
      .next (watermark { s1 with tim := { s1.tim with tsq := SMap.put [] s1.tim.tsq port (tsGet s1 port ++ [(tag, ptp, t)]) } } (16 + port))
    else .next s1
  | none => .next s1

/-- TX_TIMESTAMP_POP (R76): the oldest entry is freed; a PTP entry that a follow-up waits for gives it. -/
def execTxTimestampPop (port : Nat) (s : State) : Host.Outcome State Fault Refusal :=
  .next (match tsGet s port with
    | [] => s
    | (tag, ptp, t) :: rest =>
      let s1 := watermark { s with tim := { s.tim with tsq := SMap.put [] s.tim.tsq port rest } } (16 + port)
      if ptp then ptpFollowUp s1 port tag t else s1)

/-! ### TOUT (R79 to R82) -/

/-- An instant at the nearest 62.5 ps step, a tie rounding up (R80). -/
def step625 (t : Time) : Time := (t + 2048) / 4096 * 4096

/-- A TOUT that has given no pulse. -/
def toutIdle : ToutState := { pulses := 0, busyUntil := 0, high := false }

/-- A TOUT's state. -/
def toutGet (s : State) (n : Nat) : ToutState := SMap.get toutIdle s.tim.tout n

/-- The block with a TOUT's state replaced. -/
def toutPut (s : State) (n : Nat) (x : ToutState) : State := { s with tim := { s.tim with tout := SMap.put toutIdle s.tim.tout n x } }

/-- The active level of a TOUT record: FLAGS[0] is 0 for active high (Table 3-5). -/
def toutHigh (r : Nat) : Bool := !bitAt r 8

/-- The level of a TOUT pin: the active level while a pulse is under way, the inactive level of the record in force otherwise (R79,
R82). -/
def toutLevel (s : State) (n : Nat) : Bool :=
  if s.tim.now < (toutGet s n).busyUntil then (toutGet s n).high else !toutHigh (s.cfg.row timTout n)

/-- START of a TOUT record. -/
def toutStart (r : Nat) : Time := u64At r 8 * sec + u32At r 16 * ns + u16At r 20

/-- The next pulse of a TOUT: its start, and the count of pulses (or, in EDGE_LOCKED, the frames) after it. -/
def toutNext (s : State) (n : Nat) : Option (Time × Nat) :=
  let r := s.cfg.row timTout n
  let x := toutGet s n
  if modeOf r = 1 then if x.pulses = 0 then some (toutStart r, 1) else none
  else if modeOf r = 2 then
    if u32At r 28 = 0 ∨ x.pulses < u32At r 28 then some (toutStart r + x.pulses * u32At r 24 * ns, x.pulses + 1) else none
  else if modeOf r = 3 then
    ([(s.frm.num, s.frm.last), (s.frm.num + 1, s.frm.next)].find? fun e => decide (x.pulses ≤ e.1) && e.1 % max 1 (u16At r 2) == 0).map
      fun e => (((e.2 : Int) + s32At r 24 * ns).toNat, e.1 + 1)
  else none

/-- TOUT_PULSE (R79, R80): the next pulse of the record in force; a node in SHADOW counts it and drives nothing. -/
def execToutPulse (n : Nat) (s : State) : Host.Outcome State Fault Refusal :=
  .next (if n < 8 ∧ s.frm.running then
      match toutNext s n with
      | none => s
      | some (t, k) =>
        let r := s.cfg.row timTout n
        let a := step625 t
        let b := step625 (t + u32At r 4 * ns)
        let s1 := advance s a
        if s.dev.state = .shadow then toutPut s1 n { toutGet s1 n with pulses := k }
        else emit (toutPut s1 n { pulses := k, busyUntil := b, high := toutHigh r }) (.tout n (toutHigh r) a b)
    else s)

/-- TOUT records that change at an edge start afresh; a pulse already begun keeps its end (R82). -/
def toutChanged (s : State) (old new : Store) (k : Nat) (n : Nat) : State :=
  let r := new.row timTout n
  if old.row timTout n = r then s
  else toutPut s n { toutGet s n with pulses := if modeOf r = 3 then (if s32At r 24 < 0 then k + 1 else k) else 0 }

/-- Pulses of a record whose instants lie before `t`. -/
def toutPast (r : Nat) (t : Time) : Nat :=
  if modeOf r = 1 then b2n (decide (toutStart r < t))
  else if modeOf r = 2 then (t - toutStart r + u32At r 24 * ns - 1) / max 1 (u32At r 24 * ns)
  else 0

/-- The TOUTs as edges begin: pulses whose instants have passed are not given (DESIGN CHOICE, log entry 86). -/
def toutBegin (s : State) : State :=
  (List.range 8).foldl (fun a n => toutPut a n { toutIdle with pulses := toutPast (s.cfg.row timTout n) s.tim.now }) s

/-! ### Alarms (R84) -/

/-- TIM_ALARM_FIRE (R84): an enabled alarm whose time is reached notifies once; what a dawn makes of it is alarmBegin (DESIGN CHOICE, log
entry 86). -/
def execTimAlarmFire (n : Nat) (s : State) : Host.Outcome State Fault Refusal :=
  let r := s.cfg.row timAlarm n
  .next (if n < 4 ∧ s.frm.running ∧ bitAt r 128 ∧ SMap.get 0 s.tim.alarms n = 0 then
      let t := timeDec r
      let s1 := advance s t
      notifyAt { s1 with tim := { s1.tim with alarms := SMap.put 0 s1.tim.alarms n 1 } } 0x0021 t (leBytes 1 n ++ leBytes 7 0)
    else s)

/-- Alarm records that change at an edge: one whose time lies before the edge never fires. -/
def alarmChanged (s : State) (old new : Store) (t : Time) (n : Nat) : State :=
  let r := new.row timAlarm n
  if old.row timAlarm n = r then s
  else { s with tim := { s.tim with alarms := SMap.put 0 s.tim.alarms n (if timeDec r < t then 1 else 0) } }

/-- The alarms as edges begin: one whose time has passed does not fire (DESIGN CHOICE, log entry 86). -/
def alarmBegin (s : State) : State :=
  { s with tim := { s.tim with alarms := (List.range 4).foldl (fun m n =>
      SMap.put 0 m n (if timeDec (s.cfg.row timAlarm n) < s.tim.now then 1 else 0)) s.tim.alarms } }

/-- Timed outputs and alarms as edges begin. -/
def timedBegin (s : State) : State := alarmBegin (toutBegin s)

/-! ### TIN (R83) -/

/-- A TIN input. -/
def tinGet (s : State) (n : Nat) : TinState := SMap.get { last := 0, accepted := none, fifo := [] } s.tim.tin n

/-- The block with a TIN input replaced. -/
def tinPut (s : State) (n : Nat) (x : TinState) : State :=
  { s with tim := { s.tim with tin := SMap.put { last := 0, accepted := none, fifo := [] } s.tim.tin n x } }

/-- The captures of an input's FIFO that Q28 can take, drained (R83). -/
def tinDrain (n : Nat) : Nat → State → State
  | 0, s => s
  | k + 1, s =>
    match (tinGet s n).fifo with
    | [] => s
    | (rising, t) :: rest =>
      if s.que.lost = 0 ∧ 96 ≤ qFree s 28 then
        tinDrain n k (notifyAt (tinPut s n { tinGet s n with fifo := rest }) 0x0020 t
          (leBytes 1 n ++ leBytes 1 (b2n (!rising)) ++ leBytes 6 0))
      else s

/-- TIN_CAPTURE (R83). -/
def execTinCapture (n : Nat) (rising : Bool) (t : Time) (s : State) : Host.Outcome State Fault Refusal :=
  let s1 := advance s t
  let r := s1.cfg.row timTin n
  let x := tinGet s1 n
  let selected := if rising then bitAt r 0 else bitAt r 1
  let glitch := match x.accepted with
    | some u => decide (t - u < u16At r 2 * ns)
    | none => false
  .next (if n < 8 ∧ s1.dev.state.live ∧ selected ∧ !glitch then
      let x1 := { x with last := t, accepted := some t }
      if !bitAt r 8 then tinPut s1 n x1
      else if x.fifo.length < 16 then tinDrain n 16 (tinPut s1 n { x1 with fifo := x.fifo ++ [(rising, t)] })
      else logEv { tinPut s1 n x1 with tim := { (tinPut s1 n x1).tim with tinOvf := sat32 s1.tim.tinOvf 1 } } 0x0106 n 0 0
    else s1)

/-- What follows a pop or flush of Q28: the loss marker, then the inputs' FIFOs (R83, R288). -/
def afterQ28 (s : State) : State := (List.range 8).foldl (fun a n => tinDrain n 16 a) (lossMarker s)

/-! ### Comparator units (R78) -/

/-- The pool's users of a store: radio ports that are ON, TOUTs and alarms, as (parameter, record) in ascending order. -/
def cmpUsers (c : Store) : List (Nat × Nat) :=
  (timTout.all.filter fun i => modeOf (c.row timTout i) ≠ 0).map (fun i => (timTout.id, i))
  ++ (timAlarm.all.filter fun i => bitAt (c.row timAlarm i) 128).map (fun i => (timAlarm.id, i))
  ++ (radPort.all.filter fun i => modeOf (c.row radPort i) ≠ 0).map (fun i => (radPort.id, i))

/-- The lowest-numbered free unit of the pool, 16 where there is none. -/
def cmpFree (m : SMap (Nat × Nat)) : Nat := ((List.range' 2 14).find? fun u => SMap.get (0, 0) m u = (0, 0)).getD 16

/-- The allocation after the users of a store, given the allocation before: users that are no longer enabled free their units, and new
ones take the lowest free (R78). The second part is a user that found none. -/
def cmpStep (m : SMap (Nat × Nat)) (users : List (Nat × Nat)) : SMap (Nat × Nat) × Option (Nat × Nat) :=
  let kept := m.filter fun x => users.elem x.2
  (users.filter fun u => !(kept.map (·.2)).elem u).foldl (fun acc u =>
    let k := cmpFree acc.1
    if k < 16 then (SMap.put (0, 0) acc.1 k u, acc.2) else (acc.1, acc.2.orElse fun _ => some u)) (kept, none)

end Sys2Proof.Machine
end

