-- ==== Sys2Proof/Machine/LevelSources.lean ====
section
/-! DEFINITION. Level sources (05 5.4 to 5.6): sACN values as closed, cues, recalls and releases, the schedule and the sun, with their
commands. -/

namespace Sys2Proof.Machine

/-! ### sACN values (R86, R116) -/

/-- The source of a universe that counts: the highest priority, then the longest without a timeout. -/
def sacnBest : List SacnSrc → Option SacnSrc
  | [] => none
  | x :: xs => match sacnBest xs with
    | none => some x
    | some y => if y.prio < x.prio ∨ (y.prio = x.prio ∧ x.since ≤ y.since) then some x else some y

/-- E131_NETWORK_DATA_LOSS_TIMEOUT, 2.5 s: a source not heard for it is lost (ANSI E1.31, which R86 names). -/
def sacnTimeout : Time := 2500 * ms

/-- The sources of a universe that are live at an instant. -/
def sacnLive (s : State) (u : Nat) (t : Time) : List SacnSrc := (SMap.get [] s.con.sacn u).filter fun x => decide (t < x.last + sacnTimeout)

/-- The universes named by the canvas map and the slot sets of a store (R117). -/
def sacnUniverses (c : Store) : List Nat :=
  ((c.listed cnvSacnMap).map (fun i => u16At (c.row cnvSacnMap i) 0) ++ (c.listed fixSacnSet).map (fun i => u16At (c.row fixSacnSet i) 0)).filter
    (· ≠ 0) |>.eraseDups

/-- One pixel of a map record from a universe's slots (Table 4-2). -/
def mapPixel (c : Store) (r i : Nat) (slots : List Byte) : Nat :=
  let layer := layerOf (byteAt r 6)
  let tr := c.val layInTransfer layer
  let pk := c.val layPqPeak layer
  let st := u16At r 2 - 1
  let b (k : Nat) : Nat := byteOf slots k
  if byteAt r 7 = 1 then
    decodeRgb 1 tr 0 pk [b (st + 3 * i), b (st + 3 * i + 1), b (st + 3 * i + 2)] [b (st + 3 * i), b (st + 3 * i + 1), b (st + 3 * i + 2)]
      255 65535
  else if byteAt r 7 = 2 then
    let w (k : Nat) := b (st + 6 * i + 2 * k) * 256 + b (st + 6 * i + 2 * k + 1)
    decodeRgb 7 tr 0 pk [w 0, w 1, w 2] [w 0, w 1, w 2] 65535 65535
  else
    decodeRgb 2 tr 0 pk [b (st + 4 * i), b (st + 4 * i + 1), b (st + 4 * i + 2)] [b (st + 4 * i), b (st + 4 * i + 1), b (st + 4 * i + 2)]
      255 (alphaOf 8 (b (st + 4 * i + 3)))

/-- The pixels of a mapped layer: alpha 0 where no record covers or the universe has no source (R86). -/
def mapPixels (c : Store) (layer : Nat) (closed : SMap (Option (Nat × List Byte))) : List Nat :=
  let n := c.val layWidth layer * c.val layHeight layer
  let w := (c.listed cnvSacnMap).foldl (fun m i =>
    let r := c.row cnvSacnMap i
    if u16At r 0 ≠ 0 ∧ layerOf (byteAt r 6) = layer then
      match SMap.get none closed (u16At r 0) with
      | none => m
      | some x => (List.range (u16At r 4)).foldl (fun m k => SMap.put 0 m (u32At r 8 + k) (mapPixel c r k x.2)) m
    else m) ([] : SMap Nat)
  (List.range n).map fun k => SMap.get 0 w k

/-- The layers bound to the canvas map (R314 KIND SACN). -/
def sacnLayers (c : Store) : List Nat := (List.range 64).filter fun i => byteOf (bindOf c i) 0 == 2 && bindOf c i != []

/-- SACN_CLOSE (R86, R116): at Q(k) the values of frame k close, and each mapped layer gets one entry presented at E(k). -/
def execSacnClose (s : State) : Host.Outcome State Fault Refusal :=
  .next (if s.frm.running then
      let k := nextLatch s
      let s1 := advance s (latchTime s k - period s.cfg / 2)
      let closed := (sacnUniverses s1.cfg).foldl (fun m u =>
        SMap.put none m u ((sacnBest (sacnLive s1 u s1.tim.now)).map fun x => (x.prio, x.slots))) []
      let s2 := { s1 with con := { s1.con with closed := closed } }
      (sacnLayers s2.cfg).foldl (fun a i =>
        let w := s2.cfg.val layWidth i
        let h := s2.cfg.val layHeight i
        let pix := mapPixels s2.cfg i closed
        let e : Entry :=
          { seq := 0, off := 0, len := (64 + mapBytes w h + 8 * w * h + 63) / 64 * 64, layer := i, pt := edgeAt s k, width := w
            height := h, hint := false, map := computeMap w h pix, pix := pix, done := none, dead := false, dma := none }
        sendStreams (ringOffer a 1 e) e) s2
    else s)

/-! ### Cues (R119, R120) -/

/-- A fixture or strand may be written by a tenant: it owns it or is delegated (R127). `own`, `dv` and `deleg` are the fields. -/
def mayWrite (tenant own dv deleg : Nat) : Bool := own == tenant || (dv == 1 && deleg == tenant)

/-- A fixture record may be written by a tenant. -/
def fixWritable (c : Store) (tenant f : Nat) : Bool :=
  let r := c.row fixTable f
  mayWrite tenant (fxOwner r) (bitsAt r 155 1) (bitsAt r 152 3)

/-- The zone mask of a fixture. -/
def zonesOf (c : Store) (zoneset : Nat) : Nat := c.row fixZoneset zoneset

/-- The fixtures that a cue item targets, in ascending index (Table 5-7). -/
def cueTargets (c : Store) (r : Nat) : List Nat :=
  if byteAt r 3 = 1 then (List.range (u32At r 8)).map (u32At r 4 + ·)
  else (c.listed fixTable).filter fun f => bitAt (zonesOf c (fxZoneset (c.row fixTable f))) (u32At r 4)

/-- The items of a cue in table order. -/
def cueItems (c : Store) (cue : Nat) : List Nat :=
  ((c.listed fixCue).map (c.row fixCue ·)).filter fun r => byteAt r 2 ≠ 0 && u16At r 0 = cue

/-- The channels of a cue item. -/
def cueValue (r : Nat) : List Nat := if byteAt r 2 = 2 then [u16At r 12] else [u16At r 12, u16At r 14, u16At r 16]

/-- The value that a held recall has in a frame (R119). -/
def heldValue (h : Held) (frame : Nat) : LevelV :=
  { form := h.form, ch := (List.range h.target.length).map fun i => fadeCh (h.v0.getD i 0) (h.target.getD i 0) h.fade (frame - h.from_) }

/-- Held values with a recall of a cue that takes part first in frame `j`; `base` are the held values of frame j − 1. The second
part counts fixtures skipped. -/
def recallCue (c : Store) (base : SMap (Option Held)) (cue j : Nat) (fades : Bool) (acc : SMap (Option Held) × Nat) :
    SMap (Option Held) × Nat :=
  (cueItems c cue).foldl (fun a r =>
    (cueTargets c r).foldl (fun (a : SMap (Option Held) × Nat) f =>
      if fixWritable c (byteAt r 20) f then
        let form := byteAt r 2
        let target := cueValue r
        let v0 := match SMap.get none base f with
          | some h => let v := heldValue h (j - 1); if v.form = form then v.ch else target.map fun _ => 0
          | none => target.map fun _ => 0
        (SMap.put none a.1 f (some { form := form, v0 := v0, target := target, fade := if fades then u16At r 18 else 0, from_ := j }), a.2)
      else (a.1, a.2 + 1)) a) acc

/-- Held values with a release of a cue (R120). -/
def releaseCue (c : Store) (cue : Nat) (acc : SMap (Option Held) × Nat) : SMap (Option Held) × Nat :=
  (cueItems c cue).foldl (fun a r =>
    (cueTargets c r).foldl (fun (a : SMap (Option Held) × Nat) f =>
      if fixWritable c (byteAt r 20) f then (SMap.put none a.1 f none, a.2) else (a.1, a.2 + 1)) a) acc

/-- FLOOR set by a schedule entry's cue on the civic fixtures that its owner owns (R123). The second part counts the others. -/
def floorCue (c : Store) (owner cue : Nat) : Store × Nat :=
  (cueItems c cue).foldl (fun a r =>
    (cueTargets c r).foldl (fun (a : Store × Nat) f =>
      let x := a.1.row fixTable f
      if fxCivic x ∧ fxOwner x = owner then (a.1.setRow fixTable f (putBits x 160 16 (u16At r 12)), a.2) else (a.1, a.2 + 1)) a) (c, 0)

/-- Recalls and releases of FIX_SCENE_RECALL values that commit at frame `j`, in order of acceptance (R121). -/
def latchScenes (s : State) (c : Store) (j : Nat) (vals : List Nat) : State :=
  let r := vals.foldl (fun a v => if bitAt v 15 then releaseCue c (v % 1024) a else recallCue c s.src.scene (v % 1024) j true a) (s.src.scene, 0)
  { s with src := { s.src with scene := r.1, skipped := sat32 s.src.skipped r.2 } }

/-! ### The schedule (R122 to R124) -/

/-- Local seconds of an instant as an integer. -/
def localSec (c : Store) (t : Time) : Int := (t / sec : Nat) - c.v devUtcTai + 60 * c.vs devTzOffset 0

/-- The device time of a second of a local date; `o` counts from local midnight. -/
def ofLocal (c : Store) (date : Int) (o : Int) : Int := (date * 86400 + o - 60 * c.vs devTzOffset 0 + c.v devUtcTai) * (sec : Int)

/-- DAYS holds a local date's weekday: 1970-01-01 was a Thursday. -/
def dayOn (r : Nat) (date : Int) : Bool := bitAt (byteAt r 4) ((date + 3) % 7).toNat

/-- Sunrise or sunset of a local date at the node's location, in UTC seconds (R122). -/
def sunOn (c : Store) (date : Nat) (rising : Bool) : Option Int :=
  sunEvent date (c.vs devLatitude 0) (c.vs devLongitude 0) (60 * c.vs devTzOffset 0) rising

/-- The instant of a schedule entry on a local date, none where it does not fire that day. -/
def entryOn (c : Store) (r : Nat) (date : Int) : Option Int :=
  if !dayOn r date then none
  else if byteAt r 0 = 2 then some (ofLocal c date (u64At r 8))
  else
    (sunOn c date.toNat (byteAt r 0 == 3)).map fun t => (t + signedOf 64 (u64At r 8) + c.v devUtcTai) * (sec : Int)

/-- The instants of a schedule entry in (lo, hi]. -/
def entryTimes (c : Store) (r : Nat) (lo hi : Time) : List Int :=
  (if byteAt r 0 = 0 then []
   else if byteAt r 0 = 1 then [((u64At r 8 * sec + u32At r 16 * ns : Nat) : Int)]
   else
     let d0 := localSec c lo / 86400 - 2
     let d1 := localSec c hi / 86400 + 2
     (List.range (d1 - d0).toNat).filterMap fun k => entryOn c r (d0 + k)).filter
    fun t => decide ((lo : Int) < t) && decide (t ≤ (hi : Int))

/-- An insertion that keeps fired entries of one frame in ascending table index after those of the catch-up (R123, R124). -/
def insFired (e : Nat) : List (Nat × Bool) → List (Nat × Bool)
  | [] => [(e, true)]
  | x :: xs => if x.2 ∧ e < x.1 then (e, true) :: x :: xs else x :: insFired e xs

/-- One fired schedule entry applied at the latch of frame `j`, unless it has been cleared to OFF (R123). -/
def applyFired (base : SMap (Option Held)) (j : Nat) (x : Nat × Bool) (a : Store × SMap (Option Held) × Nat) :
    Store × SMap (Option Held) × Nat :=
  let r := a.1.row fixSchedule x.1
  if byteAt r 0 = 0 then a
  else if byteAt r 1 = 1 then let h := recallCue a.1 base (u16At r 2) j x.2 (a.2.1, a.2.2); (a.1, h.1, h.2)
  else if byteAt r 1 = 2 then let h := releaseCue a.1 (u16At r 2) (a.2.1, a.2.2); (a.1, h.1, h.2)
  else let f := floorCue a.1 (byteAt r 5) (u16At r 2); (f.1, a.2.1, a.2.2 + f.2)

/-- Schedule entries fired for frame `j`, applied to the frame's parameters: the floors go into the store. An entry fires by the frame's
own set where an instant of it lies after the edge before and at or before E(j); those of a catch-up were judged by it (R52, R123, R124). -/
def latchSchedule (s : State) (c : Store) (j : Nat) : State × Store :=
  let due := s.src.fired.filter fun x => !x.2 || entryTimes c (c.row fixSchedule x.1) s.src.schedUpTo (edgeAt s j) != []
  let r := due.foldl (fun a x => applyFired s.src.sched j x a) (c, s.src.sched, 0)
  ({ s with src := { s.src with sched := r.2.1, skipped := sat32 s.src.skipped r.2.2, fired := [], schedUpTo := (edgeAt s j) } }, r.1)

/-- SCHEDULE_FIRE (R123): an entry fires in the next frame to be latched, whose own parameter set its instant is judged by at the latch. -/
def execScheduleFire (entry : Nat) (s : State) : Host.Outcome State Fault Refusal :=
  .next (if s.frm.running ∧ s.src.schedRun ∧ entry < 1024 ∧ !(s.src.fired.elem (entry, true)) then
      { s with src := { s.src with fired := insFired entry s.src.fired } }
    else s)

/-- An insertion by time and then by index. -/
def insTimed (x : Int × Nat) : List (Int × Nat) → List (Int × Nat)
  | [] => [x]
  | y :: ys => if x.1 < y.1 ∨ (x.1 = y.1 ∧ x.2 < y.2) then x :: y :: ys else y :: insTimed x ys

/-- The catch-up of R124: every entry that would have fired from 48 h before now up to an instant, in time order and without fades, before
what has fired for the next latch. Entries up to that instant are not judged again. -/
def catchUp (s : State) (upTo : Time) : State :=
  let lo := s.tim.now - 172800 * sec
  let ts := (s.cfg.listed fixSchedule).foldl (fun a i =>
    (entryTimes s.cfg (s.cfg.row fixSchedule i) (lo - 1) upTo).foldl (fun a t => insTimed (t, i) a) a) []
  { s with src := { s.src with fired := (ts.map fun x => (x.2, false)) ++ s.src.fired, schedUpTo := upTo } }

/-- The catch-up at an entry into RUN or SHADOW: frames already latched have taken the entries up to their edges, which are taken again in
their place (DESIGN CHOICE, log entry 92). -/
def catchUpRun (s : State) : State := catchUp s (max (s.tim.now - 1) s.src.schedUpTo)

/-- The hold of R124 ends once the RTC is valid or the discipline has reached LOCKED since dawn; entries are caught up in a node whose
edges run. -/
def holdCheck (s : State) : State :=
  if s.src.schedRun ∨ (s.tim.rtcValid = false ∧ s.tim.disc ≠ .locked) then s
  else
    let s1 := { s with src := { s.src with schedRun := true } }
    if s1.frm.running then catchUp s1 (s1.tim.now - 1) else s1

/-- A schedule hold that exists is logged once (R124). -/
def holdLog (s : State) : State :=
  if s.src.schedRun ∨ s.src.noTimeLogged then s else logEv { s with src := { s.src with noTimeLogged := true } } 0x0302 0 0 0

/-- A date without sunrise or without sunset logs SOLAR_NONE once (R122). -/
def solarLog (s : State) (date : Nat) : State :=
  if ((sunOn s.cfg date true).isSome && (sunOn s.cfg date false).isSome) || s.src.solarNone.elem date then s
  else logEv { s with src := { s.src with solarNone := date :: s.src.solarNone } } 0x0301 date 0 0

/-- What FIX_SOLAR shows of an event: its device time, or a free value where the date has none. -/
def solarShown (s : State) (x : Option Int) : Time × State :=
  match x with
  | some t => ((t + s.cfg.v devUtcTai).toNat * sec, s)
  | none => let a := takeFree s; (Config.freeNat a.1, a.2)

/-- SOLAR_COMPUTE (R122): a local date's sunrise and sunset; FIX_SOLAR shows those of today, and values the spec does not state on a
date that has none. -/
def execSolarCompute (date : Nat) (s : State) : Host.Outcome State Fault Refusal :=
  let s1 := solarLog s date
  .next (if localSec s.cfg s.tim.now / 86400 = date then
      let a := solarShown s1 (sunOn s.cfg date true)
      let b := solarShown a.2 (sunOn s.cfg date false)
      { b.2 with src := { b.2.src with sunrise := a.1, sunset := b.1 } }
    else s1)

/-- PTP_OFFSET_SAMPLE (R64, R67 to R71, R75, R124): a valid sample from a source that may discipline the node. `o` is in units of 1/65,536
ns; over PTP it is the offset measured before delayAsymmetry, which is taken off here (DESIGN CHOICE, log entry 85). The servo takes it in
whole nanoseconds. -/
def execPtpOffsetSample (t : Time) (o : Int) (src : Nat) (interval : Nat) (s : State) : Host.Outcome State Fault Refusal :=
  let s1 := advance s t
  let u := if src = 1 ∨ src = 2 then o - ptpAsym s1.cfg (src - 1) else o
  .next (if s1.dev.state.powered ∧ sourceAllowed s1 src then holdCheck (takeSample s1 (Int.tdiv u (ns : Int)) u interval) else s1)

end Sys2Proof.Machine
end

