-- ==== Sys2Proof/Machine/ComputeFrame.lean ====
section
/-! DEFINITION. The computation of a frame (04 4.5 to 4.8, 05 5.3 to 5.7, 06, 17.4): what COMPOSER_BAND and COMPUTE_COMPLETE yield, from the
frame's latched inputs alone (R16). -/

namespace Sys2Proof.Machine

/-! ### Shedding divisors (R392 to R394) -/

/-- Tenants with a reservation, in the order in which G4 is shed: descending, T0 last (Table 17-2). -/
def shedOrder (c : Store) : List Nat := ([7, 6, 5, 4, 3, 2, 1, 0] : List Nat).filter fun t => byteAt (c.row tenReserve t) 1 ≠ 0

/-- The deepest shedding step. -/
def deepest (c : Store) : Nat := 4 + (shedOrder c).length

/-- The divisor of an object at a step: `holder` is the tenant that reserves it, if one does. -/
def divisorOf (c : Store) (step : Nat) (holder : Option Nat) : Nat :=
  if step < 2 then 1
  else
    let d := if step = 2 then 2 else if step = 3 then 4 else 8
    match holder with
    | none => d
    | some t => if ((shedOrder c).take (step - 4)).elem t then 8 else min d (byteAt (c.row tenReserve t) 1)

/-- The tenant that reserves a canvas. -/
def canvasHolder (c : Store) (k : Nat) : Option Nat :=
  (List.range 8).find? fun t => byteAt (c.row tenReserve t) 1 ≠ 0 && bitAt (c.row tenReserve t) k

/-- The tenant whose reservation covers a fixture. -/
def fixHolder (c : Store) (r : Nat) : Option Nat := if byteAt (c.row tenReserve (fxOwner r)) 1 ≠ 0 then some (fxOwner r) else none

/-- Band `b` of a canvas is composed in frame `k` (R393). -/
def bandComposed (c : Store) (step k canvas b : Nat) : Bool := (b + k) % divisorOf c step (canvasHolder c canvas) == 0

/-- Fixture `i` is solved in frame `k` (R394). -/
def fixSolved (c : Store) (step k i r : Nat) : Bool := fxCivic r || (i + k) % divisorOf c step (fixHolder c r) == 0

/-! ### Canvases -/

/-- A scene slot as a layer's map and pixels (R98). -/
def sceneLayer (c : Store) (slot : Nat) : List Nat × List Nat :=
  let e := SMap.get [] c.scene slot
  let w := leAt e 24 2
  let h := leAt e 26 2
  let mb := if bitAt (byteOf e 4) 0 then mapBytes w h else 0
  let pix := pixelsOf (e.drop (64 + mb)) (w * h)
  (if mb ≠ 0 then mapOf (e.drop 64) ((w + 63) / 64 * ((h + 63) / 64)) else computeMap w h pix, pix)

/-- A layer of a frame as it takes part in composition, if it shows anything. -/
def layerIn (c : Store) (ls : SMap (Option Entry × Nat)) (i : Nat) : Option LayerIn :=
  let mk (m p : List Nat) : LayerIn :=
    { x := c.vs layX i, y := c.vs layY i, w := c.val layWidth i, h := c.val layHeight i, blend := c.val layBlend i
      opacity := c.val layOpacity i, map := m, pix := p }
  if c.val layEnable i = 0 ∨ c.val laySource i = 0 then none
  else if c.val laySource i = 3 then let e := sceneLayer c (c.val laySceneSlot i); some (mk e.1 e.2)
  else (SMap.get (none, 0) ls i).1.map fun e => mk e.map e.pix

/-- The layers of a canvas from L0 up. -/
def canvasLayers (f : Frame) (canvas : Nat) : List LayerIn :=
  (List.range 16).filterMap fun n => layerIn f.cfg f.layers (canvas * 16 + n)

/-- The next canvas from `k` on with lines still to be composed. -/
def nextCanvas (c : Store) (k lines : Nat) : Option (Nat × Nat) :=
  if k < 4 ∧ c.val cnvEnable k = 1 ∧ lines < c.val cnvHeight k then some (k, lines)
  else ((List.range 4).find? fun j => decide (k < j) && c.val cnvEnable j == 1).map fun j => (j, 0)

/-- One more band of a frame (R99 to R101, R393): a band left out takes its lines from the front buffer. -/
def composeBand (s : State) (f : Frame) : Frame :=
  match nextCanvas f.cfg f.canvas f.lines with
  | none => f
  | some (k, y0) =>
    let w := f.cfg.val cnvWidth k
    let y1 := min (f.cfg.val cnvHeight k) (y0 + 64)
    let ls := canvasLayers f k
    let done := bandComposed f.cfg f.plan.step f.num k (y0 / 64)
    let old := ((SMap.get none s.con.front k).map (·.2)).getD []
    let px := if done then composeLines (f.cfg.val cnvBg k) ls w y0 y1
      else (List.range (w * (y1 - y0))).map fun n => old.getD (y0 * w + n) 0
    { f with
      canvas := k
      lines := y1
      pix := SMap.put [] f.pix k (SMap.get [] f.pix k ++ px)
      fetched := f.fetched + (if done then bandFetch ls w y0 y1 else 0) }

/-- Every canvas of a frame is composed. -/
def composed (f : Frame) : Bool := (nextCanvas f.cfg f.canvas f.lines).isNone

/-! ### Fixtures -/

/-- The canvas sample of a fixture: the one before where its footprint touches a band that was left out (R113, R393). -/
def fixSample (s : State) (f : Frame) (i r : Nat) : Option LevelV :=
  let k := fxCanvas r
  if f.cfg.val cnvEnable k = 0 then none
  else
    let px := SMap.get [] f.pix k
    let w := f.cfg.val cnvWidth k
    let touched := (List.range (fxH r)).any fun j => !bandComposed f.cfg f.plan.step f.num k ((fxY r + j) / 64)
    if touched then some ((SMap.get none s.fix.samples i).getD { form := 1, ch := [0, 0, 0] })
    else some { form := 1, ch := [sample px w 0 r, sample px w 16 r, sample px w 32 r] }

/-- The values of a fixture's four sources with their priorities (Table 5-5). -/
def fixSources (s : State) (f : Frame) (i r : Nat) : List (Option (LevelV × Nat)) :=
  let set := f.cfg.row fixSacnSet (fxSacnSet r)
  let held (m : SMap (Option Held)) (p : Nat) : Option (LevelV × Nat) := (SMap.get none m i).map fun h => (heldValue h f.num, p)
  [if bitAt r 96 then (fixSample s f i r).map fun v => (v, byteAt r 13) else none,
   if bitAt r 97 then (SMap.get none f.sacn (u16At set 0)).map fun x => (slotValue (byteAt set 4) (u16At set 2) x.2, x.1) else none,
   if bitAt r 99 then held f.sched (byteAt r 15) else none,
   if bitAt r 98 then held f.scene (byteAt r 14) else none]

/-- The change frames of a fixture's sources after a frame (05 5.5): key fixture × 4 + rank. -/
def changeStep (m : SMap (Option (Option LevelV × Nat))) (k i rank : Nat) (v : Option LevelV) : SMap (Option (Option LevelV × Nat)) :=
  match SMap.get none m (i * 4 + rank) with
  | some (u, n) => if u = v then SMap.put none m (i * 4 + rank) (some (u, n)) else SMap.put none m (i * 4 + rank) (some (v, k))
  | none => if v = none then m else SMap.put none m (i * 4 + rank) (some (v, k))

/-- What a fixture yields in a frame. -/
structure FixOut where
  drives : List Nat
  derated : List Nat
  sample : Option LevelV
  changes : SMap (Option (Option LevelV × Nat))
  unconv : Bool
  clipped : Bool
  dark : Bool
  level : Nat

/-- A drive after derating, curve and dither (R153 to R156): `v` is U24. -/
def tailOne (c : Store) (step k ty endpoint pos idx em curve v : Nat) : Nat :=
  dither (c.v derDither = 1 ∧ step = 0 ∧ ditherable ty) (c.fieldBits ty endpoint pos) idx k em (curveLookup c curve v)

/-- A fixture computed (R113, R118, R125, R133, R137 to R147, R153 to R156, R394). -/
def computeFixture (s : State) (f : Frame) (ch0 : SMap (Option (Option LevelV × Nat))) (i r : Nat) : FixOut :=
  let c := f.cfg
  let k := fxCanvas r
  let prim := c.row cnvPrimaries k
  let space := c.val cnvColourSpace k
  let luma := lumaRow space prim
  let srcs := fixSources s f i r
  let ch := (List.range 4).foldl (fun m n => changeStep m f.num i n ((srcs.getD n none).map (·.1))) ch0
  let cands := (List.range 4).filterMap fun n => (srcs.getD n none).map fun x =>
    ({ v := x.1, prio := x.2, rank := n, level := levelOf luma x.1, change := ((SMap.get none ch (i * 4 + n)).map (·.2)).getD 0 } : Cand)
  let best := merge (bitAt r 42) cands
  let v := (best.map (·.v)).getD { form := 2, ch := [0] }
  let l := (best.map (·.level)).getD 0
  let smp := fixSample s f i r
  let model := c.row modTable (fxModel r)
  let fault := SMap.get 0 f.fault i
  let temp := SMap.get 0 f.temp i
  let lvl := if fxCivic r then max l (fxFloor r) else l
  if !fixSolved c f.plan.step f.num i r then
    let held (l : List Nat) : List Nat := (List.range l.length).map fun n => if bitAt fault n then 0 else l.getD n 0
    { drives := held (SMap.get [] s.fix.solved i), derated := held (SMap.get [] s.fix.derated i), sample := smp, changes := ch, unconv := false
      clipped := false, dark := (List.range (mdEmitters model)).all fun n => bitAt fault n, level := lvl }
  else
    let t := civicFloor (fxCivic r) (fxFloor r) l v
    let x := solveFixture space prim (bitAt r 176 || fxCivic r) model fault temp t.form t.ch
    let st := c.row stdTable (fxStrand r)
    let dr := x.d24.map (derate (derScale model temp))
    let out := (List.range dr.length).map fun n =>
      if bitAt fault n then 0
      else tailOne c f.plan.step f.num (stType st) (stEnd st) (fxSlot r + n) i n (fxCurve r) (dr.getD n 0)
    { drives := out, derated := dr, sample := smp, changes := ch, unconv := x.unconv, clipped := x.clipped, dark := x.dark, level := lvl }

/-! ### Pixels -/

/-- The temperature of a pixel strand under its pixel path: 25.0 °C where it is fixed (R149). -/
def pathTemp (f : Frame) (path : Nat) : Int :=
  if bitAt path 228 then
    if f.tsnsBad.getD (bitsAt path 229 3) true then f.cfg.vs derFallbackTemp 0 else f.tsns.getD (bitsAt path 229 3) 0
  else 400

/-- One pixel's output drives (R114, R115, R149, R153 to R156). -/
def computePixel (f : Frame) (strand r i : Nat) : List Nat :=
  let c := f.cfg
  let path := c.row stdPixpath (stPixpath r)
  let model := c.row modTable (stModel r)
  let t := pathTemp f path
  let ts := if bitAt path 228 then pixelScalar model (u16At path 30) t else u16At path 30
  let scale := if bitAt path 228 then derScale model t else 65536
  let pos := pixelPos r i
  let p := (SMap.get [] f.pix (stCanvas r)).getD (pos.2.toNat * c.val cnvWidth (stCanvas r) + pos.1.toNat) 0
  let e := mdEmitters model
  (List.range e).map fun o =>
    let v := pixelChannel c path ts o [bitsAt p 0 16, bitsAt p 16 16, bitsAt p 32 16]
    tailOne c f.plan.step f.num (stType r) (stEnd r) o (0x80000000 + strand * 4096 + i) o (byteAt path 29) (derate scale v)

/-- The pixels of a PIXEL strand: those of a band left out keep their output drives (R393). -/
def computeStrand (s : State) (f : Frame) (strand r : Nat) : List (List Nat) :=
  let old := SMap.get [] s.fix.pixels strand
  (List.range (stCount r)).map fun i =>
    if bandComposed f.cfg f.plan.step f.num (stCanvas r) ((pixelPos r i).2.toNat / 64) then computePixel f strand r i else old.getD i []

/-- Pixels of a PIXEL strand of TYPE 0x1 to 0x3. -/
def isPixelStrand (r : Nat) : Bool := stPixel r && decide (1 ≤ stType r) && decide (stType r ≤ 3)

/-! ### The frame -/

/-- The free channels' drives (R214). -/
def freeDrives (c : Store) : SMap Nat :=
  (List.range 48).foldl (fun m ch =>
    if modeOf (c.row drvChan ch) ≠ 0 ∧ !c.matrixClaims ch ∧ (c.taker ch).isNone then SMap.put 0 m ch (c.row drvLevel ch) else m) []

/-- A frame's outputs computed, and what the next frame takes over from it: samples, change frames, drives, and FIXTURE_DARK (R16, R142,
R147). -/
def computeFrame (s : State) (f : Frame) : State × FrameOut :=
  let r := f.cfg.fixtures.foldl (fun (a : State × FrameOut) x =>
    let o := computeFixture a.1 f a.1.src.change x.1 x.2
    let st := { a.1 with
      src := { a.1.src with change := o.changes }
      fix := { a.1.fix with samples := SMap.put none a.1.fix.samples x.1 o.sample } }
    (logEntry st o.dark 0x0303 x.1 x.1 0 0,
     { a.2 with
       drives := SMap.put [] a.2.drives x.1 o.drives
       derated := SMap.put [] a.2.derated x.1 o.derated
       levels := SMap.put 0 a.2.levels x.1 o.level
       unconv := a.2.unconv + b2n o.unconv
       clipped := a.2.clipped + b2n o.clipped
       dark := a.2.dark + b2n o.dark })) (s, FrameOut.empty)
  let px := (f.cfg.strands.filter fun x => isPixelStrand x.2).foldl (fun m x => SMap.put [] m x.1 (computeStrand s f x.1 x.2)) []
  ({ r.1 with fix := { r.1.fix with solved := r.2.drives, derated := r.2.derated, pixels := px } },
   { r.2 with pixels := px, free := freeDrives f.cfg, canvases := f.pix })

end Sys2Proof.Machine
end

