-- ==== Sys2Proof/Machine/Resources.lean ====
section
/-! DEFINITION. Every parameter and table of the node by its ID (14.1), and the owned resources of Table 14-6. -/

namespace Sys2Proof.Machine

/-- The single-value parameters, by class. -/
def params1 : List ParamRow :=
  [devStateP, devRun, devLatitude, devLongitude, devUtcTai, devTzOffset, devDedupeMs, devTxnIdle,
   timSyncSource, timSyncState, timOffset, timFreqAdj, timPtpMode, timPtpProfile, timPtpDomain, timPtpStep, timPtpTransport,
   timPtpPrio1, timPtpPrio2, timPtpSlaveOnly, timPtpSyncLog, timPtpAsym0, timPtpAsym1, timServoKp, timServoKi, timLockThresh,
   timSlewThresh, timSlewMax, timHoldoverMax, timRtcSet, timRtcValid, timTsqOvf0, timTsqOvf1, timTinOvf, timNow]
/-- Frame and content parameters. -/
def params2 : List ParamRow :=
  [frmSource, frmPenLen, frmMargin, frmRateNum, frmRateDen, frmAnchor, frmGenDelay, frmGenTol, frmWclkDiv, frmLockState, frmNumber,
   frmSlipCount, frmSlipScope, frmLtcOffset, frmTc, frmNumOffset,
   cnvEnable, cnvWidth, cnvHeight, cnvBg, cnvCapture, cnvRingAMib, cnvRingBMib, cnvRewindDepth, cnvSceneMib, cnvDramPix, cnvDramOver,
   cnvCaptureMissed, cnvColourSpace, layEnable, laySource, laySceneSlot, layX, layY, layWidth, layHeight, layBlend, layOpacity,
   layPqPeak, layInTransfer, layLossFrames, layState]
/-- Fixture and output parameters. -/
def params3 : List ParamRow :=
  [fixSceneRecall, fixFaultClear, fixSchedState, fixCueSkipped, fixSolveUnconv, fixGamutClipped, fixDark, fixFloorSet, fixEnableSet,
   derTelStale, derFallbackTemp, derDither, dmxRdmReq, dmxRdmDisc, dalCmd, dalAddressRun, sacLead, sacSyncUniv, sacRev, sacIp, sacTtl,
   sacDscp, sacLate, drvDiagStale, drvGlintInterval, drvDiagConfirm, radTimeslot, radAsnEpoch, radActDelay, radMaxRetries, radTx, radAsn]
/-- Parameters of the later classes. -/
def params4 : List ParamRow :=
  [queFlush, quePoolFree, stkIndex, stkNodes, stkProto, stkReach, stkRoleWait, stkEdgeOffset, redMode, redLeaseLen, redLeaseGuard, redRole,
   redSwitchP, redFit, redUnfitTake, redUnfitClearP, redLastActive, redTestDays, engBudget, engWindow, engCap, engShedStep, engRateDiv,
   secLifecycle, secCounter, secTampered, secTamperSample, secEval, secStatus, updState, updConfirmS, updActiveSet, updActFrame,
   updSvnFloor, logOptime, logCycles, diaDieTemp, diaSafeCause, calInterval, calStartP]
/-- Every single-value parameter. -/
def allParams : List ParamRow := params1 ++ params2 ++ params3 ++ params4

/-- The tables of the first classes. -/
def tables1 : List TableSpec :=
  [devMbCounters, timTout, timTin, timTinLast, timAlarm, cnvSceneStore, cnvSacnMap, cnvRingCounters, cnvPrimaries, cnvLuma,
   fixTable, fixZoneset, fixZone, fixSacnSet, fixCue, fixSchedule, fixSolar, stdTable, stdPixpath, modTable, curDef, curData,
   derThermal, derTsns, derTsnsTemp]
/-- The tables of the outputs. -/
def tables2 : List TableSpec :=
  [spnPin, spnTxTime, dmxPort, dmxRdmResp, dmxRdmUid, dmxRdmTel, dmxCounters, dalBus, dalAddr, dalFound, dalCounters, sacUniv, sacCid,
   sacName, rasPort, rasRegion, rasCounters, rasPktTime, drvChan, drvMatrix, drvStatus, drvCounters, drvLevel]
/-- The tables of radio, Ethernet, queues and the later classes. -/
def tables3 : List TableSpec :=
  [radPort, radHop, radSlotframe, radCell, radNeigh, radNeighStatus, radBand, radBandUse, radXcvr, radCounters, radExtAddr,
   ethPort, ethIp, ethFilter, ethMcast, ethMacAddr, ethLink, ethCounters, queConfig, queFlow, queStatus, queCounters,
   stkPort, stkLink, stkContent, stkCounters, redPeerStatus, redCounters, engLedger, engHistory, engPlan, engCounters,
   tenPath, tenRights, tenReserve, tenReserveUse, secSlot, secIdentity, secSession, secTamper, secCounters,
   updManifest, updProgress, updTrial, updCounters, logStatus, logRate, logCounters, resOwner,
   diaWake, diaWakeLatch, diaRails, diaFabric, diaTrace, diaThreads, calLines, calCounters]
/-- Every table. -/
def allTables : List TableSpec := tables1 ++ tables2 ++ tables3

/-- The parameter with an ID (R320). -/
def findParam (id : Nat) : Option ParamRow := allParams.find? (·.id == id)

/-- The table with an ID (R320). -/
def findTable (id : Nat) : Option TableSpec := allTables.find? (·.id == id)

/-- The class of an ID (14.1). -/
def classOf (id : Nat) : Nat := id / 0x400

/-! ### Resources (14.6) -/

/-- A claim: resource number, table or parameter ID, record. -/
abbrev Claim := Nat × Nat × Nat

/-- Pin groups claimed by the records of a store (Table 14-6, kinds 0x0 to 0x9). -/
def pinClaims (c : Store) : List Claim :=
  let on (t : TableSpec) (kind : Nat) : List Claim :=
    (t.all.filter fun i => modeOf (c.row t i) ≠ 0).map fun i => (kind * 64 + i, t.id, i)
  let m := c.matrixSize
  let mx := (List.range m.2) ++ (List.range m.1).map (32 + ·)
  (spnPin.all.flatMap fun i =>
    if modeOf (c.row spnPin i) = 0 then []
    else if modeOf (c.row spnPin i) = 2 then [(i, spnPin.id, i), (i + 1, spnPin.id, i)] else [(i, spnPin.id, i)])
  ++ on dmxPort 1 ++ on dalBus 2 ++ on radPort 3
  ++ (on drvChan 4).flatMap (fun x => [x, (x.1 + 64, x.2)])
  ++ mx.flatMap (fun i => [(256 + i, drvMatrix.id, 0), (320 + i, drvMatrix.id, 0)])
  ++ on timTout 6 ++ on timTin 7
  ++ (queFlow.all.filter fun i => bitAt (c.row queFlow i) 32).map (fun i => (512 + i, queFlow.id, i))
  ++ (if modeOf (c.row drvMatrix 0) = 2 then [(576, drvMatrix.id, 0)] else [])

/-- The owner of a resource given the pin claims and the comparator allocation: (parameter, record), none where it is free; the second
part is false where there is no such resource (Table 14-6, Table 14-7). -/
def ownerOf (c : Store) (cmp : SMap (Nat × Nat)) (res : Nat) : Option (Nat × Nat) × Bool :=
  let kind := res / 64
  let i := res % 64
  let sizes := [64, 16, 8, 4, 48, 48, 8, 8, 4, 1, 16, 42]
  if sizes.getD kind 0 ≤ i then (none, false)
  else if kind = 10 then
    if i = 0 then (some (frmSource.id, 0), true)
    else if i = 1 then (some (sacSyncUniv.id, 0), true)
    else (if SMap.get (0, 0) cmp i = (0, 0) then none else some (SMap.get (0, 0) cmp i), true)
  else if kind = 11 then
    if i = 22 ∨ i = 23 then (none, false)
    else (some (queConfig.id, if i < 32 then i else if i < 40 then i - 32 else if i = 40 then 24 else 26), true)
  else (((pinClaims c).find? (·.1 = res)).map (·.2), true)

/-- The first resource claimed twice by a store: the claimant, which is the one with the higher table ID or the higher record, and the
holder (R330). -/
def doubleClaim : List Claim → Option (Claim × Claim)
  | [] => none
  | x :: rest =>
    match rest.find? (fun y => y.1 = x.1 ∧ y.2 ≠ x.2) with
    | some y => if x.2.1 < y.2.1 ∨ (x.2.1 = y.2.1 ∧ x.2.2 < y.2.2) then some (y, x) else some (x, y)
    | none => doubleClaim rest

/-- A claim of a store that another record holds in an ownership pending or in force (R330). -/
def heldClaim (new held : List Claim) : Option (Claim × Claim) :=
  firstSome (fun x => (held.find? fun y => y.1 = x.1 ∧ y.2 ≠ x.2).map fun y => (x, y)) new

end Sys2Proof.Machine
end

