-- ==== Sys2Proof/Machine/ValidContent.lean ====
section
/-! DEFINITION. The checks of the content, fixture and colour chapters on the state that a whole transaction leaves (R20, R97, R98, R102,
R108 to R112, R117, R148, R158, R326). Each answers every violation; R130 chooses the one that is reported. -/

namespace Sys2Proof.Machine

/-- A violation that names a parameter or table and a record. -/
def viol (st : Status) (param record : Nat) : Err := { status := st, param := param, record := record }

/-- A violation that names no record. -/
def viol0 (st : Status) (param : Nat) : Err := { status := st, param := param }

/-- A conflict with the other record. -/
def violO (param record oParam oRecord : Nat) : Err :=
  { status := .eConflict, param := param, record := record, ownerParam := oParam, ownerRecord := oRecord }

/-- One violation where a test holds. -/
def errIf (b : Bool) (e : Err) : List Err := if b then [e] else []

/-! ### Canvases and layers (01, 04) -/

/-- Enabled canvases. -/
def canvasesOn (c : Store) : List Nat := (List.range 4).filter fun k => c.val cnvEnable k == 1

/-- Area of a canvas. -/
def canvasArea (c : Store) (k : Nat) : Nat := c.val cnvWidth k * c.val cnvHeight k

/-- Canvas pixels a second at the rate of a store (R20). -/
def pixelRate (c r : Store) : Rat := ((canvasesOn c).map (canvasArea c)).sum * (rateNum r : Rat) / rateDen r

/-- The store of two with the higher declared rate (R58). -/
def faster (o c : Store) : Store := if rateNum c * rateDen o < rateNum o * rateDen c then o else c

/-- sACN packets a second (R20): each universe is sent every DIV frames. -/
def sacnRate (c r : Store) : Rat :=
  ((c.listed sacUniv).filter fun i => u16At (c.row sacUniv i) 0 ≠ 0).foldl
    (fun a i => a + (rateNum r : Rat) / (rateDen r * max 1 (byteAt (c.row sacUniv i) 7) : Nat)) 0

/-- A canvas that a raster region in use shows (04 4.9). -/
def rasterCanvas (c : Store) (k : Nat) : Bool := ([0, 1] : List Nat).any fun p => (c.regions p).any fun x => bitsAt x.2.2 0 2 == k

/-- A canvas has presentation buffers: how many (R104). -/
def presentBuffers (c : Store) (k : Nat) : Nat :=
  if c.val cnvEnable k = 0 then 0
  else if c.val cnvCapture k = 1 then 5
  else if rasterCanvas c k then 4 else 0

/-- Bytes of DRAM that rings, scene store and presentation buffers take (R97). -/
def dramUse (c : Store) : Nat :=
  (c.v cnvRingAMib + c.v cnvRingBMib + c.v cnvSceneMib) * 1048576
    + ((List.range 4).map fun k => presentBuffers c k * canvasArea c k * 8).sum

/-- Pixels scanned out each frame on raster ports that are on (R102). -/
def rasterRead (c : Store) : Nat :=
  (([0, 1] : List Nat).map fun p =>
    if modeOf (c.row rasPort p) = 0 then 0 else ((c.regions p).map fun x => u16At x.2.2 6 * u16At x.2.2 8).sum).sum

/-- Pixels written into presentation buffers each frame (R102). -/
def presentWrite (c : Store) : Nat := ((List.range 4).map fun k => if presentBuffers c k = 0 then 0 else canvasArea c k).sum

/-- The checks of canvases, rings and DRAM (R20, R97, R102). The reset values of the rings and the scene store fit in every node: DEDUCED, log
entry 54. -/
def checkCanvas (o c : Store) : List Err :=
  errIf (decide (1006632960 < pixelRate c (faster o c)) && decide (pixelRate o o < pixelRate c (faster o c))) (viol0 .eCapacity cnvEnable.id)
  ++ errIf (decide (1966080 < sacnRate c (faster o c)) && decide (sacnRate o o < sacnRate c (faster o c))) (viol0 .eCapacity sacUniv.id)
  ++ errIf (decide (dramUse Store.empty < dramUse c) && decide ((Config.dramMib - 256) * 1048576 < dramUse c)) (viol0 .eCapacity cnvRingAMib.id)
  ++ errIf (decide (100000000000 * rateDen c < 8 * rateNum c * (presentWrite c + rasterRead c))) (viol0 .eCapacity cnvWidth.id)

/-- Enabled SCENE layers have a still of their own size (R98, Table 14-4). -/
def checkScene (c : Store) : List Err :=
  (List.range 64).flatMap fun i =>
    if c.val layEnable i = 1 ∧ c.val laySource i = 3 then
      let e := SMap.get [] c.scene (c.val laySceneSlot i)
      errIf (e == [] || leAt e 24 2 != c.val layWidth i || leAt e 26 2 != c.val layHeight i) (viol .eParam laySceneSlot.id i)
    else []

/-- An entry written to the scene store, tested at the write; its LAYER byte is ignored (R88, R98). -/
def sceneFault (e : List Byte) : Option Status :=
  let w := leAt e 24 2
  let h := leAt e 26 2
  let mb := if bitAt (byteOf e 4) 0 then mapBytes w h else 0
  match headerFault (e.take 1 ++ leBytes 1 0 ++ e.drop 2) with
  | some st => some st
  | none =>
    if byteOf e 0 ≠ 1 ∨ byteOf e 2 ≠ 8 ∨ byteOf e 3 ≠ 0 then some .eRange
    else if w = 0 ∨ 8192 < w ∨ h = 0 ∨ 8192 < h then some .eRange
    else if bitAt (byteOf e 4) 0 ∧ (mapOf (e.drop 64) ((w + 63) / 64 * ((h + 63) / 64))).any (fun x => decide (3 ≤ x)) then some .eRange
    else if e.length < 64 + mb + 8 * w * h then some .eSize
    else none

/-- The sACN map records written stay within their layer (04 4.1), and the distinct universes within 4,096 (R117). -/
def checkSacnMap (c : Store) (written : List Nat) : List Err :=
  (written.flatMap fun i =>
    let r := c.row cnvSacnMap i
    let l := layerOf (byteAt r 6)
    errIf (decide (u16At r 0 ≠ 0) &&
      decide (c.val layWidth l * c.val layHeight l < u32At r 8 + u16At r 4)) (viol .eRange cnvSacnMap.id i))
  ++ errIf (decide (4096 < (sacnUniverses c).length)) (viol0 .eCapacity cnvSacnMap.id)

/-! ### Fixtures (05, 06) -/

/-- Data slots per emitter on a DMX port or universe endpoint. The fields of a port that is OFF are not acted on (R516). -/
def emitterSlots (c : Store) (ty endpoint : Nat) : Nat :=
  if ty = 2 then slotWidth (modeOf (c.row dmxPort endpoint) != 0 && bitAt (c.row dmxPort endpoint) 8)
  else if ty = 3 then match c.univ endpoint with
    | some x => slotWidth (bitAt x.2 48)
    | none => 1
  else 1

/-- The output positions that a fixture takes on its strand: first and count (Table 5-4). -/
def fixPositions (c : Store) (r : Nat) : Nat × Nat :=
  let st := c.row stdTable (fxStrand r)
  let e := mdEmitters (c.row modTable (fxModel r))
  if stType st = 4 ∨ stType st = 5 then (fxSlot r, 1) else (fxSlot r, e * emitterSlots c (stType st) (stEnd st))

/-- Whether positions lie on the endpoint of a strand (R108): pin channels to the 4,096 pixels of a pin, DMX and universe slots to those
in use, short addresses, neighbour entries, and the channels or columns of direct drive. A pin or port that is OFF has its greatest extent
(R516: its fields are not acted on). -/
def positionsFit (c : Store) (st first n : Nat) : Bool :=
  let ty := stType st
  if ty = 1 then
    let r := c.row spnPin (stEnd st)
    decide (first + n ≤ 4096 * (if modeOf r = 0 then 16 else max 1 (spEmitters r)))
  else if ty = 2 then
    let r := c.row dmxPort (stEnd st)
    decide (1 ≤ first) && decide (first + n ≤ (if modeOf r = 0 then 513 else u16At r 2))
  else if ty = 3 then decide (1 ≤ first) && decide (first + n ≤ 1 + (match c.univ (stEnd st) with
    | some x => u16At x.2 4
    | none => 512))
  else if ty = 4 then decide (first < 64)
  else if ty = 5 then decide (first < 4096)
  else if c.matrixRow (stEnd st) then decide (first + n ≤ c.matrixSize.2)
  else decide (first + n ≤ 48)

/-- The status of an enabled fixture's temperature references (R158). -/
def tempBad (c : Store) (r : Nat) : Bool :=
  let beta (i : Nat) : Nat := u16At (c.row derTsns i) 0
  let th := c.row derThermal (fxTmodel r)
  if fxTsrc r = 1 then beta (fxTsns r) == 0
  else if fxTsrc r = 2 then u32At th 0 == 0 || (!bitAt th 51 && beta (bitsAt th 48 3) == 0)
  else false

/-- An enabled fixture by itself (R108, R136, R158). -/
def checkFixture (c : Store) (i r : Nat) : List Err :=
  let k := fxCanvas r
  let st := c.row stdTable (fxStrand r)
  let p := fixPositions c r
  let e (s : Status) : Err := viol s fixTable.id i
  errIf (c.val cnvEnable k == 0 || decide (c.val cnvWidth k < fxX r + fxW r) || decide (c.val cnvHeight k < fxY r + fxH r)) (e .eRange)
  ++ errIf (mdEmitters (c.row modTable (fxModel r)) == 0) (e .eParam)
  ++ errIf (stType st == 0 || stType st == 6 || stPixel st) (e .eParam)
  ++ errIf (bitAt r 97 && u16At (c.row fixSacnSet (fxSacnSet r)) 0 == 0) (e .eParam)
  ++ errIf (fxCivic r && c.val cnvColourSpace k == 4) (e .eParam)
  ++ errIf (tempBad c r) (e .eParam)
  ++ errIf (!positionsFit c st p.1 p.2) (e .eRange)

/-- Two enabled fixtures of one strand whose positions overlap (R108). -/
def overlaps (c : Store) (r q : Nat) : Bool :=
  let a := fixPositions c r
  let b := fixPositions c q
  fxStrand r == fxStrand q && decide (a.1 < b.1 + b.2) && decide (b.1 < a.1 + a.2)

/-- Overlaps among the enabled fixtures (R108): of a pair, a changed fixture is at fault, and of two, the one with the higher index. -/
def checkOverlap (o c : Store) : List Err :=
  let fs := c.fixtures
  fs.flatMap fun x => match fs.find? fun y => y.1 ≠ x.1 && overlaps c x.2 y.2 &&
      (decide (x.2 ≠ o.row fixTable x.1) || decide (y.2 = o.row fixTable y.1)) && (decide (y.1 < x.1) || decide (y.2 = o.row fixTable y.1)) with
    | some y => [violO fixTable.id x.1 fixTable.id y.1]
    | none => []

/-! ### Strands (05, 06) -/

/-- A PIXEL strand of TYPE 0x1 to 0x3 by itself (R112, R141, R148, Table 14-4). -/
def checkPixelStrand (c : Store) (i r : Nat) : List Err :=
  let k := stCanvas r
  let w := c.val cnvWidth k
  let h := c.val cnvHeight k
  let m := c.row modTable (stModel r)
  let path := c.row stdPixpath (stPixpath r)
  errIf (c.val cnvEnable k == 0 || (List.range (stCount r)).any fun n =>
    let p := pixelPos r n
    decide (p.1 < 0) || decide (p.2 < 0) || decide ((w : Int) ≤ p.1) || decide ((h : Int) ≤ p.2)) (viol .eRange stdTable.id i)
  ++ errIf (mdEmitters m == 0 || decide (4 < mdEmitters m)) (viol .eParam stdTable.id i)
  ++ errIf ((List.range 4).any fun o => decide (mdEmitters m ≤ o) && (List.range 3).any fun j => s16At path (2 * (3 * o + j)) != 0)
      (viol .eParam stdTable.id i)
  ++ errIf (bitAt path 228 && u16At (c.row derTsns (bitsAt path 229 3)) 0 == 0) (viol .eParam stdPixpath.id (stPixpath r))

/-- The strands (R111, R112): of two that name one endpoint, a changed strand is at fault, and of two, the one with the higher index. -/
def checkStrands (o c : Store) : List Err :=
  let ss := c.strands
  ss.flatMap fun x =>
    (match ss.find? fun y => y.1 ≠ x.1 && stType y.2 == stType x.2 && stEnd y.2 == stEnd x.2 &&
        (decide (x.2 ≠ o.row stdTable x.1) || decide (y.2 = o.row stdTable y.1)) && (decide (y.1 < x.1) || decide (y.2 = o.row stdTable y.1)) with
     | some y => [violO stdTable.id x.1 stdTable.id y.1]
     | none => [])
    ++ (if isPixelStrand x.2 then checkPixelStrand c x.1 x.2 else [])

/-- Every check of chapters 01 and 04 to 06 on the state that a transaction leaves; `maps` are the sACN map records it writes. -/
def checkContent (o c : Store) (maps : List Nat) : List Err :=
  checkCanvas o c ++ checkScene c ++ checkSacnMap c maps ++ (c.fixtures.flatMap fun x => checkFixture c x.1 x.2) ++ checkOverlap o c
    ++ checkStrands o c

end Sys2Proof.Machine
end

