-- ==== Sys2Proof/Machine/ValidOutputs.lean ====
section
/-! DEFINITION. The checks of the wired output chapter on the state that a whole transaction leaves (R112, R164, R165, R167 to R169,
R173, R174, R181, R182). -/

namespace Sys2Proof.Machine

/-- T under R58 in units of 1/65,536 ns, exactly: the shorter of the old and new periods. -/
def shortT (o c : Store) : Rat := min (exactT o) (exactT c)

/-- Strand pins (R164, R165). More than 4,096 pixels on a pin is E_RANGE as R164 says, where R4 says E_CAPACITY (DESIGN CHOICE, log entry 87). -/
def checkPins (o c : Store) : List Err :=
  (List.range 64).flatMap fun p =>
    let r := c.row spnPin p
    if modeOf r = 0 then []
    else
      let n := c.wirePixels p
      errIf (decide (shortT o c < ((spTtx r n + 20000) * ns : Nat)))
        (match c.strandOf 1 p with
        | some (i, _) => viol .eRange stdTable.id i
        | none => viol .eRange spnPin.id p)
      ++ (match c.strandOf 1 p with
        | some (i, x) =>
          errIf (stPixel x && mdEmitters (c.row modTable (stModel x)) != spEmitters r) (viol .eParam stdTable.id i)
          ++ errIf (decide (4096 < n)) (viol .eRange stdTable.id i)
        | none => [])

/-- DMX ports and telemetry records (R112, R167 to R169, R173). -/
def checkDmx (o c : Store) : List Err :=
  ((List.range 16).flatMap fun p =>
    let r := c.row dmxPort p
    if modeOf r = 0 then []
    else
      let d := byteAt r 10 * shortT o c
      errIf (decide (d < ((dmxTime r + 20000) * ns : Nat)) || decide ((sec : Rat) < byteAt r 10 * exactT c)) (viol .eRange dmxPort.id p)
      ++ errIf (modeOf r == 2 && decide (d < ((dmxTime r + 6000000) * ns : Nat))) (viol .eRange dmxPort.id p)
      ++ (match c.strandOf 2 p with
        | some (i, x) => errIf (stPixel x && decide (u16At r 2 - 1 < stCount x * mdEmitters (c.row modTable (stModel x)) * slotWidth (bitAt r 8)))
            (viol .eRange stdTable.id i)
        | none => []))
  ++ ((c.listed dmxRdmTel).flatMap fun i =>
    let f := u32At (c.row dmxRdmTel i) 0
    errIf (stType (c.row stdTable (fxStrand (c.row fixTable f))) != 2) (viol .eParam dmxRdmTel.id i))

/-- Enabled fixtures on DALI strands (R174). -/
def checkDali (c : Store) : List Err :=
  c.fixtures.flatMap fun x =>
    let st := c.row stdTable (fxStrand x.2)
    if stType st ≠ 4 then []
    else
      let a := c.row dalAddr (stEnd st * 64 + fxSlot x.2)
      errIf (mdEmitters (c.row modTable (fxModel x.2)) != bitsAt a 0 3 || (bitAt a 3 && (decide (1 < bitsAt a 0 3) || bitAt a 5))
        || (fxTsrc x.2 == 0 && !bitAt a 5)) (viol .eParam fixTable.id x.1)

/-- Records of SAC_UNIV in use, with their index. -/
def univs (c : Store) : List (Nat × Nat) :=
  (c.listed sacUniv).filterMap fun i => if u16At (c.row sacUniv i) 0 ≠ 0 then some (i, c.row sacUniv i) else none

/-- Bytes that a data packet takes on the wire of a port (R182): the port tags frames when it has a DATA VLAN. -/
def sacnWire (c : Store) (port r : Nat) : Nat :=
  u16At r 4 + 126 + 42 + (if c.v sacIp = 1 then 20 else 0) + (if epData (c.row ethPort port) ≠ 0 then 4 else 0) + 4 + 20

/-- sACN universes (R181, R182). -/
def checkSacn (o c : Store) : List Err :=
  let uv := univs c
  (uv.flatMap fun x =>
    (match uv.find? fun y => u16At y.2 0 = u16At x.2 0 && decide (y.1 < x.1) with
     | some y => [violO sacUniv.id x.1 sacUniv.id y.1]
     | none => [])
    ++ errIf (bitAt x.2 49 && c.v sacSyncUniv == 0) (viol .eParam sacUniv.id x.1)
    ++ errIf (u16At x.2 0 == c.v sacSyncUniv) (viol .eConflict sacUniv.id x.1)
    ++ errIf (u32At x.2 8 != 0 && c.v sacIp == 1) (viol .eParam sacUniv.id x.1)
    ++ errIf (decide ((sec : Rat) < byteAt x.2 7 * exactT c)) (viol .eRange sacUniv.id x.1))
  ++ (c.strands.flatMap fun x =>
    if stType x.2 ≠ 3 then []
    else match c.univ (stEnd x.2) with
      | none => [viol .eParam stdTable.id x.1]
      | some u => errIf (stPixel x.2 && decide (u16At u.2 4 < stCount x.2 * mdEmitters (c.row modTable (stModel x.2)) * slotWidth (bitAt u.2 48)))
          (viol .eRange stdTable.id x.1))
  ++ (([0, 1] : List Nat).flatMap fun p =>
    let rec_ := c.row ethPort p
    let sum := ((uv.filter fun x => bitAt x.2 (16 + p)).map fun x => wireTime rec_ (sacnWire c p x.2)).sum
    errIf (decide (shortT o c < (sum + c.v sacLead * us + quietTime rec_ + 20 * us : Nat))) (viol0 .eCapacity sacUniv.id))

/-- Every check of chapter 07. -/
def checkWired (o c : Store) : List Err := checkPins o c ++ checkDmx o c ++ checkDali c ++ checkSacn o c

end Sys2Proof.Machine
end

