-- ==== Sys2Proof/Machine/ReadBack.lean ====
section
/-! DEFINITION. What a read returns (R60, R308): the committed values, and the read-only values that the node computes from its state. -/

namespace Sys2Proof.Machine

/-- Little-endian U32 fields side by side. -/
def u32s (l : List Nat) : Nat := l.foldr (fun x a => x % 4294967296 + a * 4294967296) 0

/-- The number that bytes spell, for a record. -/
def packBytes (bs : List Byte) : Nat := leNat bs

/-- Counters `base` to `base + n - 1` of a sparse map as U32 fields. -/
def cnts (m : SMap Nat) (n : Nat) : Nat := u32s ((List.range n).map fun i => SMap.get 0 m i)

/-- Microseconds of airtime that a band's budget counts at a second (R247). -/
def bandUse (s : State) (band second : Nat) : Nat :=
  (s.rad.buckets.filter fun x => x.1 / 2 ^ 40 = band ∧ second < x.1 % 2 ^ 40 + 3600 ∧ x.1 % 2 ^ 40 ≤ second).foldl (fun a x => a + x.2) 0

/-- The number of the slot in progress at an instant, negative before the epoch (R232). -/
def radSlotAt (c : Store) (t : Time) : Int := ((t : Int) - timeDec (c.v radAsnEpoch)) / (c.v radTimeslot * us : Nat)

/-- The ASN of a slot: its number modulo 2^40 (10.2). -/
def asnOf (n : Int) : Nat := (n % 1099511627776).toNat

/-- The start of a slot. -/
def asnStart (c : Store) (n : Int) : Time := ((timeDec (c.v radAsnEpoch) : Int) + n * (c.v radTimeslot * us : Nat)).toNat

/-- An ASN lies after another one: less than half the circle of 2^40 ahead. DESIGN CHOICE, log entry 98. -/
def asnAfter (a b : Nat) : Bool :=
  let d := (a + 1099511627776 - b) % 1099511627776
  decide (0 < d ∧ d < 549755813888)

/-- Whether a write slot of the queue pool is a queue's (R279). -/
def poolUsed (c : Store) : Nat :=
  ((List.range 32).filter fun q => q ≠ 22 ∧ q ≠ 23).foldl (fun a q => a + u16At (c.row queConfig q) 0) 272

/-- The image set that runs: the active set, or set 2 after a PCIe host load (R471). -/
def runningSet (s : State) : Nat := if s.dev.bootSrc = 2 then 2 else s.upd.sel.set

/-- The manifest of the running image set. -/
def runningManifest (s : State) : List Byte := (SMap.get ImageSet.empty s.upd.sets (runningSet s)).manifest

/-- The STK_PROTO of the running image set (Table 14-5): that of its manifest, 1 where it has none. -/
def protoOf (s : State) : Nat :=
  if runningManifest s = [] then 1 else leAt (runningManifest s) 16 2

/-- Bytes of a manifest with `n` segments before its signatures (19.1). -/
def hashedLen (m : List Byte) : Nat := 144 + 32 * leAt m 22 2

/-- The manifest hash of a set (19.1); 32 zero bytes where it is empty. -/
def manifestHash (m : List Byte) : List Byte :=
  if m = [] then List.replicate 32 0 else sha256 (m.take (hashedLen m))

/-- The measured one-way delay of a port over its last exchanges, in ps, with STK_PORT ASYM (R350). -/
def delayPs (s : State) (p : Nat) : Int :=
  (casGet s p).delays.foldl (· + ·) 0 * 500 / ((ns : Int) * max 1 (casGet s p).delays.length) + s32At (s.cfg.row stkPort p) 0

/-- The pair's mirror link of this node: CDN on a standalone node, CUP on a stack master (15.3). -/
def mirrorPort (s : State) : Nat := if s.dev.stackEn then 0 else 1

/-- The mode of a port (15.3): 1 CASCADE, 2 MIRROR. -/
def casMode (s : State) (p : Nat) : Nat := if s.red.pair && isMaster s && p == mirrorPort s then 2 else 1

/-- The mirror link is UP. -/
def mirrorUp (s : State) : Bool := s.red.pair && isMaster s && casUp s (mirrorPort s)

/-- RED_FIT (R368): NO_PEER while the mirror link is not UP. A member of a stack reports its own. -/
def fitOf (s : State) : Nat := if isMember s || mirrorUp s then s.red.fit else 3

/-- A key slot as the record of Table 18-5, ORPHANED evaluated at the read (R412, R414). -/
def slotState (sl : SMap KeySlot) : Nat → Nat → Nat
  | 0, _ => 2
  | fuel + 1, i =>
    let k := SMap.get KeySlot.empty sl i
    if k.state ≠ 1 then k.state
    else if i < 16 ∨ k.parent = 0xFFFF then 1
    else if (SMap.get KeySlot.empty sl k.parent).gen = k.parentGen ∧ slotState sl fuel k.parent = 1 then 1 else 2

/-- STATE of a key slot: at most four slots lie on the way to the root (R413). -/
def keyState (s : State) (i : Nat) : Nat := slotState s.sec.slots 5 i

/-- A key slot's record. -/
def slotRecord (s : State) (i : Nat) : Nat :=
  let k := SMap.get KeySlot.empty s.sec.slots i
  k.gen + keyState s i * 2 ^ 16 + k.ty * 2 ^ 24 + k.usage * 2 ^ 32 + (k.owner + k.depth * 8) * 2 ^ 40 + k.parent * 2 ^ 48
    + k.parentGen * 2 ^ 64

/-- Segments verified, and the lowest that is not (R435). -/
def segsDone (s : State) : Nat := (bitsSet 256 s.upd.dl.progress).length

/-- Guard of a neighbour as last evaluated, and its contact, as RAD_NEIGH_STATUS gives them. -/
def neighOf (s : State) (i : Nat) : Neigh := SMap.get Neigh.empty s.rad.neigh i

/-- A neighbour record with its node-maintained fields (R237). -/
def neighRecord (s : State) (c : Store) (i : Nat) : Nat :=
  let r := c.row radNeigh i
  let n := if bitAt r 0 then neighOf s i else Neigh.empty
  r - Nat.land r neighKept + n.state * 2 ^ 8 + n.keyGen * 2 ^ 128 + n.dsn.getD 0 * 2 ^ 144 + n.fc.getD 0 * 2 ^ 160
    + patternOf 32 n.offset * 2 ^ 192

/-- The value of a parameter instance as a read returns it; `c` is the frame's parameter set. -/
def readPar (s : State) (c : Store) (p : ParamRow) (i : Nat) : Nat :=
  let id := p.id
  if p.wo then 0
  else if id = 0x0C00 then source s
  else if id = 0x0815 then timeEnc (ofTicks (rtcCount s))
  else if !p.ro then (if p.edge then c else s.imm).val p i
  else if id < 0x0C00 then
    (if id = 0x0410 then s.dev.state.code
    else if id = 0x0800 then syncSource s
    else if id = 0x0801 then (match s.tim.disc with | .free => 0 | .acquiring => 1 | .locked => 2 | .holdover => 3)
    else if id = 0x0802 then patternOf 64 s.tim.offset
    else if id = 0x0803 then patternOf 32 (s.tim.f + s.tim.p)
    else if id = 0x0816 then b2n s.tim.rtcValid
    else if id = 0x0817 then SMap.get 0 s.tim.tsqOvf 0
    else if id = 0x0818 then SMap.get 0 s.tim.tsqOvf 1
    else if id = 0x081C then s.tim.tinOvf
    else timeEnc s.tim.now)
  else if id < 0x3C00 then
    (if id = 0x0C09 then lockState s
    else if id = 0x0C0A then s.frm.num
    else if id = 0x0C0B then s.frm.slips
    else if id = 0x0C0E then s.frm.ltc.tc
    else if id = 0x0C0F then patternOf 64 s.frm.shownDelta
    else if id = 0x100C then s.con.dramPix
    else if id = 0x100D then s.con.dramOver
    else if id = 0x100E then s.con.captureMissed
    else if id = 0x140C then (SMap.get Layer.empty s.con.layers i).state
    else if id = 0x1808 then b2n (!s.src.schedRun)
    else if id = 0x180A then s.src.skipped
    else if id = 0x180B then s.frm.shown.unconv
    else if id = 0x180C then s.frm.shown.clipped
    else s.frm.shown.dark)
  else if id < 0x5800 then
    (if id = 0x3C09 then s.wired.sacnLate
    else if id = 0x4810 then asnOf (radSlotAt s.cfg s.tim.now)
    else if id = 0x4C05 then 3072 - poolUsed s.cfg
    else if id = 0x5000 then s.stk.index
    else if id = 0x5001 then s.stk.nodes
    else if id = 0x5002 then protoOf s
    else if id = 0x5005 then s.stk.reach
    else if id = 0x5008 then patternOf 64 (Int.tdiv (s.stk.oHat.getD 0) ns)
    else if id = 0x5403 then s.red.role
    else if id = 0x5405 then fitOf s
    else timeEnc (if s.red.actOut then s.tim.now else s.red.lastActive))
  else
    (if id = 0x5806 then s.eng.step
    else if id = 0x5807 then s.eng.h
    else if id = 0x6000 then s.sec.lifecycle
    else if id = 0x6001 then s.sec.counter
    else if id = 0x6002 then b2n s.sec.tampered
    else if id = 0x6009 then (if s.sec.tampered then 2 else if s.sec.error then 1 else 0)
    else if id = 0x6400 then s.upd.state
    else if id = 0x6403 then s.upd.sel.set
    else if id = 0x6405 then s.upd.armed.getD 0
    else if id = 0x6407 then s.upd.svnFloor
    else if id = 0x6802 then optimeNow s
    else if id = 0x6803 then s.log.cycles
    else if id = 0x7000 then patternOf 16 s.dev.dieTemp
    else s.dev.safeCause)

/-- Ring counters as the record of CNV_RING_COUNTERS. -/
def ringRecord (r : Ring) : Nat := cnts r.cnt 6

/-- The diagnosis status of a point (Table 9-5). -/
def drvRecord (s : State) (i : Nat) : Nat :=
  let p := SMap.get Point.empty s.drv.points i
  let t := p.verified.getD 0
  p.state + p.lastClass * 2 ^ 8 + (t / sec % 2 ^ 48) * 2 ^ 32 + t % sec / ns * 2 ^ 80

/-- The record of a read-only table of the classes below 0x10 (DEV_ to SAC_). -/
def readTabA (s : State) (t : TableSpec) (i : Nat) : Nat :=
  let id := t.id
  if id = 0x0432 then u32s ((List.range 8).map fun k => SMap.get 0 s.ox.counters (i * 8 + k))
  else if id = 0x081B then timeEnc (tinGet s i).last
  else if id = 0x100B then ringRecord (if i = 0 then s.con.ringA else s.con.ringB)
  else if id = 0x1809 then timeEnc (if i = 0 then s.src.sunrise else s.src.sunset)
  else if id = 0x1011 then u32s (lumaRow (s.cfg.val cnvColourSpace i) (s.cfg.row cnvPrimaries i))
  else if id = 0x2802 then
    (let r := s.cfg.row derTsns i
     if u16At r 0 = 0 ∨ s.fix.ohms.length ≤ i then 0
     else if tsnsFaulted r (s.fix.ohms.getD i 0) then s.cfg.v derFallbackTemp
     else patternOf 16 (tsnsTemp (u16At r 0) (u16At r 2) (s.fix.ohms.getD i 0)))
  else if id = 0x2C01 then (let r := s.cfg.row spnPin i; if modeOf r = 0 then 0 else spTtx r (s.cfg.wirePixels i))
  else if id = 0x3002 then packBytes (SMap.get [255#8] s.wired.resp i)
  else if id = 0x3004 then SMap.get 0 s.wired.uid i
  else if id = 0x3006 then cnts (SMap.get DmxState.empty s.wired.dmx i).cnt 4
  else if id = 0x3404 then SMap.get 0 s.wired.found i
  else if id = 0x3405 then cnts (SMap.get DaliState.empty s.wired.dali i).cnt 3
  else if id = 0x3804 then packBytes (beBytes 6 (Config.macAddr i))
  else if id = 0x3805 then b2n (SMap.get EthState.empty s.eth i).up
  else cnts (SMap.get EthState.empty s.eth i).cnt 19

/-- The record of a read-only table of classes 0x10 to 0x15 (RAS_ to RED_). -/
def readTabB (s : State) (t : TableSpec) (i : Nat) : Nat :=
  let id := t.id
  if id = 0x4002 then cnts (SMap.get RasterState.empty s.ras i).cnt 5
  else if id = 0x4003 then (let r := s.cfg.row rasPort i; if modeOf r = 0 then 0 else (rsPkt r + 99) / 100)
  else if id = 0x4405 then drvRecord s i
  else if id = 0x4406 then cnts s.drv.cnt 4
  else if id = 0x4807 then
    (let n := neighOf s i; n.contact / sec % 2 ^ 48 + n.contact % sec / ns * 2 ^ 48 + n.guard % 65536 * 2 ^ 80)
  else if id = 0x4809 then min 4294967295 (bandUse s i (s.tim.now / sec))
  else if id = 0x480E then cnts (SMap.get RadioPort.empty s.rad.ports i).cnt 14
  else if id = 0x480F then packBytes (beBytes 8 (Config.extAddr i))
  else if id = 0x4C03 then
    (let q := qGet s i
     let depth := if i = 16 ∨ i = 17 then (tsGet s (i - 16)).length
       else if i = 22 ∨ i = 23 then ((if i = 22 then s.con.ringA else s.con.ringB).entries.filter fun e => (if i = 22 then s.con.ringA else s.con.ringB).c ≤ e.off).length
       else q.packets.length
     depth + (markOf s i).1 * 2 ^ 32 + b2n q.high * 2 ^ 64 + q.flushSeq % 256 * 2 ^ 72)
  else if id = 0x4C04 then (let q := qGet s i; u32s [q.waits, q.discards, q.flushes, q.crossings])
  else if id = 0x5004 then
    (let x := casGet s i
     let d := delayPs s i
     x.state + casMode s i * 2 ^ 8
       + x.lanes * 2 ^ 16 + patternOf 32 d * 2 ^ 32)
  else if id = 0x5009 then cnts (casGet s i).cnt 6
  else if id = 0x5408 then s.red.peer.1 + s.red.peer.2.1 * 2 ^ 8 + u32s s.red.peer.2.2 * 2 ^ 64
  else cnts s.red.cnt 5

/-- The record of a read-only table of classes 0x16 to 0x1D (ENG_ to CAL_). -/
def readTabC (s : State) (t : TableSpec) (i : Nat) : Nat :=
  let id := t.id
  if id = 0x5803 then
    (let mean := (s.eng.frames.filterMap (·.measured)).foldl (· + ·) 0 / (1000 * max 1 (s.cfg.v engWindow))
     u32s (s.eng.ledger ++ List.replicate (8 - s.eng.ledger.length) 0 ++ [mean]) + s.eng.ledgerFrame * 2 ^ 320)
  else if id = 0x5804 then s.eng.history.getD i 0
  else if id = 0x5805 then
    s.eng.planFrame + s.eng.planF % 2 ^ 32 * 2 ^ 64 + patternOf 32 s.eng.planS * 2 ^ 96 + patternOf 32 s.eng.planCap * 2 ^ 128
      + patternOf 32 s.eng.planA * 2 ^ 160 + s.eng.step * 2 ^ 192 + s.eng.h * 2 ^ 200
  else if id = 0x5808 then cnts s.eng.cnt 4
  else if id = 0x6003 then slotRecord s i
  else if id = 0x6004 then packBytes (SMap.get KeySlot.empty s.sec.slots 0).key
  else if id = 0x600A then cnts s.sec.cnt 4
  else if id = 0x6402 then
    (let m := (SMap.get ImageSet.empty s.upd.sets i).manifest
     if m = [] then 0 else packBytes (m.take 64 ++ manifestHash m))
  else if id = 0x6404 then s.upd.dl.progress + segsDone s * 2 ^ 256
  else if id = 0x6406 then
    s.upd.sel.count + (match s.upd.windowAt with
      | some a => (s.cfg.v updConfirmS - (s.tim.up - a) / sec) * 2 ^ 32
      | none => 0)
  else if id = 0x6408 then cnts s.upd.cnt 4
  else if id = 0x6800 then logRecords s i + b2n (slotAt s i 4095 ≠ [] || decide (4095 ≤ logUsed s i)) * 2 ^ 16
  else if id = 0x6804 then u32s ((List.range 4).map fun k => SMap.get 0 s.log.counters (i * 4 + k))
  else if id = 0x6C00 then
    (match ownerOf s.cfg s.tim.cmp i with
     | (some (p, r), _) => p + r * 2 ^ 32
     | (none, true) => 0xFFFFFFFF * 2 ^ 32
     | (none, false) => 0xFFFF + 0xFFFFFFFF * 2 ^ 32)
  else if id = 0x7002 then s.dev.wakeMask + s.dev.wakeSec * 2 ^ 64
  else if id = 0x7004 then (s.dev.railMv ++ List.replicate (8 - s.dev.railMv.length) 0).foldr (fun x a => x % 65536 + a * 65536) 0
  else if id = 0x7005 then s.fab.margin + s.fab.min * 2 ^ 16 + s.fab.low * 2 ^ 32
  else if id = 0x7007 then
    (let x := SMap.get Thread.unused s.sch.threads i
     x.state + (Config.threadPrio i).val * 2 ^ 8 + x.core * 2 ^ 16 + (Config.threadFunction i).val * 2 ^ 32
       + min 4294967295 ((x.runNs + (if x.state = 2 then s.tim.now - x.since else 0)) / ms) * 2 ^ 64 + x.preempts * 2 ^ 96)
  else if id = 0x7401 then
    (let l := SMap.get (if i % 9 = 8 then { Line.inService with state := 1 } else Line.inService) s.cal.lines i
     l.state + l.fails * 2 ^ 8 + l.replaces * 2 ^ 16 + l.lastPass * 2 ^ 32)
  else cnts s.cal.cnt 5

/-- Pixel use and sACN use of a tenant of a store at the declared rate of another, by the second (17.7). A canvas that no reservation names
counts to T0: DEDUCED, log entry 103. -/
def tenantUse (c r : Store) (tenant : Nat) : Rat × Rat :=
  let rate : Rat := (rateNum r : Rat) / (rateDen r : Nat)
  let mask (n : Nat) : Nat := bitsAt (c.row tenReserve n) 0 4
  let mine (k : Nat) : Bool := bitAt (mask tenant) k || (tenant == 0 && !(List.range 8).any fun n => bitAt (mask n) k)
  let area := (((List.range 4).filter fun k => c.val cnvEnable k == 1 && mine k).map fun k => c.val cnvWidth k * c.val cnvHeight k).sum
  let named (u : Nat) : Option Nat := (c.strands.find? fun x => stType x.2 = 3 ∧ stEnd x.2 = u).map fun x => stOwner x.2
  let sent := (c.listed sacUniv).filter fun i => let u := u16At (c.row sacUniv i) 0; u != 0 && (named u).getD 0 == tenant
  ((area : Nat) * rate, (sent.map fun i => rate / (max 1 (byteAt (c.row sacUniv i) 7) : Nat)).sum)

/-- A record of a table as a read returns it (R60, R308). -/
def readTab (s : State) (c : Store) (t : TableSpec) (i : Nat) : Nat :=
  if t.id = 0x1800 then
    let r := c.row t i - Nat.land (c.row t i) (t.kept (c.row t i)) + SMap.get 0 s.fix.faults i * 2 ^ 224
    if fxTsrc r = 3 then r else putBits r 208 16 (patternOf 16 (SMap.get 0 s.fix.temps i))
  else if t.id = 0x4806 then neighRecord s c i
  else if t.id = 0x4805 then c.row t i / 65536 * 65536 + SMap.get 0 s.rad.cellGen i
  else if t.id = 0x5C03 then (let u := tenantUse c c i; u.1.ceil.toNat % 2 ^ 32 + u.2.ceil.toNat * 2 ^ 32)
  else if !t.ro then (if t.edge then c else s.imm).row t i
  else if t.id < 0x4000 then readTabA s t i
  else if t.id < 0x5800 then readTabB s t i
  else readTabC s t i

end Sys2Proof.Machine
end

