-- ==== Sys2Proof/Machine/Wired.lean ====
section
/-! DEFINITION. Strand pins, DMX512-A with RDM, and DALI (07 7.1 to 7.4): what each port sends of a frame, the RDM controller, the DALI
application controller, with their commands. -/

namespace Sys2Proof.Machine

/-- The frame whose data goes out before the next edge, with its parameters and outputs: the next frame where it is complete, otherwise
the presented one again (R49, R159, R160). -/
def sending (s : State) : Store × FrameOut × Nat :=
  match frameOf s (s.frm.num + 1) with
  | some f => if f.stage = .complete then (f.cfg, f.out, f.num) else (s.frm.shownCfg, s.frm.shown, s.frm.shownNum)
  | none => (s.frm.shownCfg, s.frm.shown, s.frm.shownNum)

/-- The node drives its outputs with frames: in RUN only (Table 1-8). -/
def transmits (s : State) : Bool := s.frm.running && s.dev.state == .run

/-- The output drives that fixtures of a strand put on its positions, `width` positions per emitter: position to drive. -/
def strandDrives (c : Store) (o : FrameOut) (strand width : Nat) : SMap Nat :=
  c.fixtures.foldl (fun m x =>
    if fxStrand x.2 = strand then
      let d := SMap.get [] o.drives x.1
      (List.range d.length).foldl (fun m n => SMap.put 0 m (fxSlot x.2 + n * width) (d.getD n 0)) m
    else m) []

/-! ### Strand pins (R163 to R166) -/

/-- The drive that a strand puts into field SRC `src` of wire pixel `j`. -/
def wireDrive (o : FrameOut) (st : Option (Nat × Nat)) (chans : SMap Nat) (fe j src : Nat) : Nat :=
  match st with
  | none => 0
  | some (i, r) => if stPixel r then ((SMap.get [] o.pixels i).getD j []).getD src 0 else SMap.get 0 chans (j * fe + src)

/-- The bits of one field. -/
def fieldBitsOf (lsbFirst : Bool) (w v : Nat) : List Bool :=
  let l := (List.range w).map fun i => bitAt v i
  if lsbFirst then l else l.reverse

/-- Bits packed into bytes, the first bit in bit 7. -/
def packBits : Nat → List Bool → List Byte
  | 0, _ => []
  | n + 1, bs =>
    BitVec.ofNat 8 (((List.range 8).map fun i => if bs.getD i false then 2 ^ (7 - i) else 0).foldl (· + ·) 0) :: packBits n (bs.drop 8)

/-- The bits of a frame on a pin in order of transmission (Table 7-2, R163, R164). -/
def strandBits (c : Store) (o : FrameOut) (pin : Nat) : List Bool :=
  let r := c.row spnPin pin
  let st := c.strandOf 1 pin
  let chans := match st with
    | some (i, x) => if stPixel x then [] else strandDrives c o i 1
    | none => []
  let fe := max 1 (spEmitters r)
  List.replicate (byteAt r 13) false
    ++ ((List.range (c.wirePixels pin)).flatMap fun j => (spFields r).flatMap fun f =>
      fieldBitsOf (bitAt r 10) f.2.1 (if f.1 = 4 then f.2.2 else wireDrive o st chans fe j f.1 / 2 ^ (16 - f.2.1)))
    ++ List.replicate (u16At r 14) (bitAt r 11)

/-- An instant to the nearest nanosecond (R166). -/
def nearestNs (t : Time) : Time := (t + ns / 2) / ns * ns

/-- The time of one bit of a pin record (R165). -/
def bitTime (r : Nat) : Nat := (if modeOf r = 2 then 2 * u16At r 2 else u16At r 2) * ns

/-- The bit that a transmission sends at an instant and the time since that bit began; none outside its bits. -/
def StrandTx.bitAtTime (x : StrandTx) (t : Time) : Option (Bool × Nat) :=
  let bt := max 1 (bitTime x.rec_)
  if t < x.start ∨ x.start + x.bits.length * bt ≤ t then none
  else some (x.bits.getD ((t - x.start) / bt) false, (t - x.start) % bt)

/-- The level of a data line (R166): in NRZ mode a pulse of T0H or T1H at the start of each bit, in CLOCKED mode the bit; INVERT turns
both and the idle level round (DEDUCED for CLOCKED, log entry 94). -/
def dataLevel (r : Nat) (x : Option StrandTx) (t : Time) : Bool :=
  match x.bind fun y => (y.bitAtTime t).map fun b => (y.rec_, b) with
  | none => bitAt r 8
  | some (q, b, off) =>
    xor (bitAt q 8) (if modeOf q = 2 then b else decide (off < (if b then u16At q 6 else u16At q 4) * ns))

/-- The level of a clock line (R166): each bit takes one period whose first half is the idle level, so that data changes on the edge that
Table 7-2 names. -/
def clockLevel (r : Nat) (x : Option StrandTx) (t : Time) : Bool :=
  match x.bind fun y => (y.bitAtTime t).map fun b => (y.rec_, b) with
  | none => bitAt r 9
  | some (q, _, off) => xor (bitAt q 9) (decide (u16At q 2 * ns ≤ off))

/-- STRAND_TX_START (R160, R166): a pin begins the data of the next edge at E(k) − t_tx. -/
def execStrandTxStart (pin : Nat) (s : State) : Host.Outcome State Fault Refusal :=
  let x := sending s
  let r := x.1.row spnPin pin
  .next (if transmits s ∧ pin < 64 ∧ modeOf r ≠ 0 ∧ (SMap.get none s.wired.strands pin).map (·.stop) ≠ some s.frm.next then
      let t := s.frm.next - spTtx r (x.1.wirePixels pin) * ns
      let bits := strandBits x.1 x.2.1 pin
      let s1 := advance s t
      let tx : StrandTx := { rec_ := r, start := nearestNs t, bits := bits, stop := s.frm.next }
      emit { s1 with wired := { s1.wired with strands := SMap.put none s1.wired.strands pin (some tx) } }
        (.strand pin (nearestNs t) (packBits ((bits.length + 7) / 8) bits))
    else s)

/-! ### DMX (R167, R168) -/

/-- A DMX port. -/
def dmxGet (s : State) (p : Nat) : DmxState := SMap.get DmxState.empty s.wired.dmx p

/-- The block with a DMX port replaced. -/
def dmxPut (s : State) (p : Nat) (x : DmxState) : State :=
  { s with wired := { s.wired with dmx := SMap.put DmxState.empty s.wired.dmx p x } }

/-- A counter of DMX_COUNTERS: RDM_TIMEOUT 0, RDM_OVERRUN 1, RDM_CHECKSUM 2, RDM_DEFERRED 3. -/
def dmxCount (s : State) (p k : Nat) : State := dmxPut s p { dmxGet s p with cnt := bump (dmxGet s p).cnt k 1 }

/-- The data slots of an endpoint that packs emitters into slots, from data slot 1 on (R167, R181). -/
def slotData (c : Store) (o : FrameOut) (ty endpoint slots : Nat) (slot16 : Bool) : List Byte :=
  let w := slotWidth slot16
  match c.strandOf ty endpoint with
  | none => List.replicate slots 0
  | some (i, r) =>
    let m : SMap Nat :=
      if stPixel r then
        let e := mdEmitters (c.row modTable (stModel r))
        let px := SMap.get [] o.pixels i
        (List.range px.length).foldl (fun m p => (List.range e).foldl (fun m n =>
          SMap.put 0 m (1 + (p * e + n) * w) ((px.getD p []).getD n 0)) m) []
      else strandDrives c o i w
    (List.range slots).map fun k =>
      let hi := SMap.get 0 m (k + 1)
      let lo := if slot16 then SMap.get 0 m k else 0
      BitVec.ofNat 8 (if hi ≠ 0 then hi / 256 else lo % 256)

/-- At an edge each DMX port takes the data of the frame that its next packet carries (Table 7-1): of frame `n`, which is sent from
now on, where its packet ends at a multiple of EDGE_DIV; of the frame before where frame `n` slipped (R160). -/
def dmxEdge (s : State) (n : Nat) : State :=
  let x := sending s
  (List.range 16).foldl (fun a p =>
    let r := x.1.row dmxPort p
    if modeOf r ≠ 0 ∧ (n + byteAt r 10 - 1) % max 1 (byteAt r 10) = 0 then dmxPut a p { dmxGet a p with src := some (x.1, x.2.1) } else a) s

/-- The number of the frame at whose edge a port with a record ends its next packet (R168). -/
def dmxTargetNum (s : State) (r : Nat) : Nat := (s.frm.num / max 1 (byteAt r 10) + 1) * max 1 (byteAt r 10)

/-- The edge at which the port's next packet ends. -/
def dmxTarget (s : State) (r : Nat) : Time := edgeAt s (dmxTargetNum s r)

/-- The record that governs a port's next packet (R160): that of the frame sent, or with EDGE_DIV above 1 that of the latest frame which is
latched, up to the one at whose edge the packet ends. -/
def dmxRec (s : State) (p : Nat) : Nat :=
  let r := (sending s).1.row dmxPort p
  if byteAt r 10 ≤ 1 then r
  else match (s.frm.frames.filter fun f => decide (f.num ≤ dmxTargetNum s r)).getLast? with
    | some f => f.cfg.row dmxPort p
    | none => r

/-- The slots of a packet under a record: start code 0 and the data of the frame taken (R167). -/
def dmxSlots (r p : Nat) (src : Option (Store × FrameOut)) : List Byte :=
  0#8 :: (match src with
    | some (c, o) => slotData c o 2 p (u16At r 2 - 1) (bitAt r 8)
    | none => List.replicate (u16At r 2 - 1) 0)

/-- The level of a DMX line that sends a packet (ANSI E1.11): a break, the mark after it, then slots of a start bit, eight data bits from the
least significant, and two stop bits, 4 µs each, with the mark between slots; mark outside (R168). -/
def DmxTx.level (x : DmxTx) (t : Time) : Bool :=
  let lead := (x.brk + x.mab) * us
  let slot := (44 + x.mbs) * us
  if t < x.start ∨ x.start + lead + x.bytes.length * slot ≤ t then true
  else if t < x.start + lead then decide (x.start + x.brk * us ≤ t)
  else
    let d := t - x.start - lead
    let bit := d % slot / (4 * us)
    if bit = 0 then false else if bit ≤ 8 then bitAt (byteOf x.bytes (d / slot)) (bit - 1) else true

/-- A response record in DMX_RDM_RESP (Table 7-8). -/
def respRecord (status ty port : Nat) (pd : List Byte) : List Byte :=
  leBytes 1 status ++ leBytes 1 ty ++ leBytes 1 pd.length ++ leBytes 1 port ++ pd ++ List.replicate (232 - pd.length) 0

/-- The end of a host request with its status: RDM_DONE and the response record (R171). A telemetry poll and a branch of a discovery run end
silently. -/
def rdmEnd (s : State) (port : Nat) (f : RdmFlight) (status ty : Nat) (pd : List Byte) : State :=
  let s1 := dmxPut s port { dmxGet s port with flight := none, retry := none }
  match f.poll, f.disc with
  | some _, _ => s1
  | none, true => s1
  | none, false =>
    let h := byteAt f.req 13
    notify { s1 with wired := { s1.wired with resp := SMap.put [255#8] s1.wired.resp h (respRecord status ty port (pd.take 231)) } } 0x0030
      (leBytes 1 port ++ leBytes 1 h ++ leBytes 1 status ++ leBytes 5 0)

/-- DMX_PACKET_START (R160, R168, R170): the packet that ends at the next multiple of EDGE_DIV; a response still arriving is
discarded. -/
def execDmxPacketStart (port : Nat) (s : State) : Host.Outcome State Fault Refusal :=
  let r := dmxRec s port
  .next (if transmits s ∧ port < 16 ∧ modeOf r ≠ 0 then
      let e := dmxTarget s r
      if (dmxGet s port).target = dmxTargetNum s r + 1 then s
      else
        let t := e - dmxTime r * ns
        let s1 := advance s t
        let s2 := match (dmxGet s1 port).flight with
          | some f => rdmEnd (dmxCount s1 port 1) port f 2 0 []
          | none => s1
        let x := dmxGet s2 port
        let tx : DmxTx := { start := t, brk := u16At r 4, mab := u16At r 6, mbs := u16At r 8, bytes := dmxSlots r port x.src }
        emit (dmxPut s2 port { x with packetEnd := e, target := dmxTargetNum s r + 1, tx := some tx, deOff := none }) (.dmx port t tx.bytes)
    else s)

/-! ### RDM (R169 to R173) -/

/-- The request record of a telemetry poll (R173), in the layout of Table 7-4: GET SENSOR_VALUE (0x0201) of a sensor. -/
def pollRecord (port tel sensor : Nat) : Nat :=
  packBytes (leBytes 1 port ++ leBytes 1 0x20 ++ leBytes 2 0x0201 ++ leBytes 6 (bitsAt tel 32 48) ++ leBytes 2 (u16At tel 10) ++ leBytes 1 1
    ++ leBytes 1 0 ++ leBytes 1 9 ++ leBytes 1 0 ++ leBytes 1 (byteAt tel (12 + sensor)))

/-- The record of a branch of a discovery run, in the layout of Table 7-4: DISC_UNIQUE_BRANCH (0x0001) to all responders, over the
branch that the search asks next. -/
def discRecord (port tn : Nat) : Nat :=
  let b := Config.discBranch port tn
  packBytes (leBytes 1 port ++ leBytes 1 0x10 ++ leBytes 2 0x0001 ++ beBytes 6 0xFFFFFFFFFFFF ++ leBytes 2 0 ++ leBytes 1 12 ++ leBytes 1 0
    ++ leBytes 1 0 ++ leBytes 1 0 ++ beBytes 6 b.1 ++ beBytes 6 b.2)

/-- The budget of a transaction in µs (R170). -/
def rdmBudget (r : Nat) : Nat := 192 + (26 + byteAt r 12) * 44 + 2800 + 440 + (26 + byteAt r 14) * 44

/-- The budget of a flight in µs; that of DISC_UNIQUE_BRANCH is its own (R170). -/
def RdmFlight.budget (f : RdmFlight) : Nat := if f.disc then 1864 + 2800 + 1056 else rdmBudget f.req

/-- The transaction of a port that is to begin next: a host request sent again, host requests in order, a branch of a discovery run, a
telemetry poll sent again, telemetry polls in order (R173). -/
def rdmNext (s : State) (port : Nat) : Option (RdmFlight × DmxState) :=
  let x := dmxGet s port
  let host (f : RdmFlight) : Bool := f.poll.isNone
  match x.retry.filter host, x.queue with
  | some f, _ => some (f, { x with retry := none })
  | none, q :: rest => some ({ poll := none, disc := false, req := q, tries := 0 }, { x with queue := rest })
  | none, [] =>
    if x.disc then some ({ poll := none, disc := true, req := discRecord port x.tn, tries := 0 }, x)
    else
      match x.retry, x.due with
      | some f, _ => some (f, { x with retry := none })
      | none, d :: rest =>
        some ({ poll := some d, disc := false, req := pollRecord port (s.cfg.row dmxRdmTel d.1) d.2, tries := 0 }, { x with due := rest })
      | none, [] => none

/-- An RDM request as ANSI E1.20 frames it, from its start code to its checksum: the record's UIDs, sub-device, command class, PID and
data between the message's own fields. -/
def rdmPacket (port tn r : Nat) : List Byte :=
  let pdl := byteAt r 12
  let m : List Byte := leBytes 1 0xCC ++ leBytes 1 1 ++ leBytes 1 (24 + pdl) ++ (leBytes 6 (bitsAt r 32 48)) ++ beBytes 6 Config.rdmUid
    ++ leBytes 1 tn ++ leBytes 1 (port + 1) ++ leBytes 1 0 ++ beBytes 2 (u16At r 10) ++ leBytes 1 (byteAt r 1) ++ beBytes 2 (u16At r 2)
    ++ leBytes 1 pdl ++ leBytes pdl (bitsAt r 128 (8 * pdl))
  m ++ beBytes 2 ((m.foldl (fun a b => a + b.toNat) 0) % 65536)

/-- A transaction begun: its request goes out with a break of 176 µs and a mark of 16 µs, and DMXn_DE is released at the end of its last
stop bit (R171). -/
def rdmBegin (s : State) (port : Nat) (t : Time) (f : RdmFlight) (y : DmxState) : State :=
  let p := rdmPacket port y.tn f.req
  let tx : DmxTx := { start := t, brk := 176, mab := 16, mbs := 0, bytes := p }
  emit (dmxPut s port { y with
    flight := some f, tx := some tx, deOff := some (t + (192 + p.length * 44) * us), tn := (y.tn + 1) % 256 }) (.rdm port t p)

/-- RDM_TRANSACTION_START (R170): in a free interval, if the budget ends 176 µs before the next packet; otherwise it waits, counted once
per interval in RDM_DEFERRED. -/
def execRdmTransactionStart (port : Nat) (t : Time) (s : State) : Host.Outcome State Fault Refusal :=
  let s1 := advance s t
  let r := dmxRec s1 port
  let x := dmxGet s1 port
  .next (if transmits s1 ∧ port < 16 ∧ modeOf r = 2 ∧ x.flight = none ∧ x.packetEnd ≤ t then
      match rdmNext s1 port with
      | none => s1
      | some (f, y) =>
        if t + (f.budget + 176) * us ≤ dmxTarget s1 r - dmxTime r * ns then rdmBegin s1 port t f y
        else if x.deferredAt = x.packetEnd then s1
        else dmxCount (dmxPut s1 port { x with deferredAt := x.packetEnd }) port 3
    else s1)

/-- A transaction without a good response: sent again up to twice, then ended with its status (R171). To a branch of a discovery run it is
an answer. -/
def rdmFail (s : State) (port : Nat) (f : RdmFlight) (counter status : Nat) : State :=
  if f.disc then rdmEnd s port f 0 0 []
  else if f.tries < 2 then dmxPut s port { dmxGet s port with flight := none, retry := some { f with tries := f.tries + 1 } }
  else rdmEnd (dmxCount s port counter) port f status 0 []

/-- FAULT bits of a fixture set (R107). -/
def orFault (s : State) (fixture mask : Nat) : State :=
  { s with src := { s.src with fault := SMap.put 0 s.src.fault fixture (Nat.lor (SMap.get 0 s.src.fault fixture) (mask % 65536)) } }

/-- A telemetry temperature of a fixture in 1/16 °C (R150). -/
def setTemp (s : State) (fixture : Nat) (t : Int) : State :=
  { s with src := { s.src with temp := SMap.put none s.src.temp fixture (some (t, s.tim.now)) } }

/-- What a poll's response tells (R173): the present value of the sensor, high byte first after the sensor number. -/
def pollResult (s : State) (d : Nat × Nat) (pd : List Byte) : State :=
  let f := u32At (s.cfg.row dmxRdmTel d.1) 0
  let v := beAt pd 1 2
  if d.2 = 0 then setTemp s f (16 * signedOf 16 v) else orFault s f v

/-- RDM_RESPONSE (R171, R173). -/
def execRdmResponse (port : Nat) (t : Time) (respType : Nat) (checksumOk : Bool) (pd : List Byte) (s : State) :
    Host.Outcome State Fault Refusal :=
  let s1 := advance s t
  .next (match (dmxGet s1 port).flight with
    | none => s1
    | some f =>
      if !checksumOk then rdmFail s1 port f 2 3
      else
        let s2 := rdmEnd s1 port f 0 respType pd
        match f.poll with
        | some d => if respType = 0 then pollResult s2 d pd else s2
        | none => s2)

/-- RDM_RESPONSE_TIMEOUT (R171): no response starts within 2,800 µs. -/
def execRdmResponseTimeout (port : Nat) (t : Time) (s : State) : Host.Outcome State Fault Refusal :=
  let s1 := advance s t
  .next (match (dmxGet s1 port).flight with
    | none => s1
    | some f => rdmFail s1 port f 0 1)

/-- RDM_DISC_DONE (R172): the responders found go into DMX_RDM_UID, at most 512, and the run is notified. -/
def execRdmDiscDone (port : Nat) (t : Time) (uids : List Nat) (s : State) : Host.Outcome State Fault Refusal :=
  let s1 := advance s t
  .next (if port < 16 ∧ (dmxGet s1 port).disc then
      let tab := (List.range 512).foldl (fun m i =>
        SMap.put 0 m (port * 512 + i) (if i < uids.length then leNat (beBytes 6 (uids.getD i 0)) else 0)) s1.wired.uid
      let s2 := dmxPut { s1 with wired := { s1.wired with uid := tab } } port { dmxGet s1 port with disc := false }
      notify s2 0x0031 (leBytes 1 port ++ leBytes 1 (b2n (decide (512 < uids.length))) ++ leBytes 2 (min 512 uids.length)
        ++ leBytes 2 (uids.length - 512) ++ leBytes 2 0)
    else s1)

/-- The DMX port of the strand that carries a fixture, if it is on DMX (R173). -/
def dmxPortOf (c : Store) (fixture : Nat) : Option Nat :=
  let st := c.row stdTable (fxStrand (c.row fixTable fixture))
  if stType st = 2 then some (stEnd st) else none

/-- An interval of `n` seconds has passed since an instant, if there was one. -/
def intervalOver (s : State) (last : Option Time) (n : Nat) : Bool :=
  match last with
  | some t => decide (t + n * sec ≤ s.tim.now)
  | none => true

/-- RDM_TELEMETRY_POLL (R173): once per TEL_S the sensors that a record names are queued on the port of its fixture. -/
def execRdmTelemetryPoll (record : Nat) (s : State) : Host.Outcome State Fault Refusal :=
  let r := s.cfg.row dmxRdmTel record
  .next (if transmits s ∧ record < 1024 ∧ r ≠ 0 then
      match dmxPortOf s.cfg (u32At r 0) with
      | none => s
      | some p =>
        if modeOf (s.cfg.row dmxPort p) = 2 ∧ intervalOver s (SMap.get none s.wired.telAt record) (u16At (s.cfg.row dmxPort p) 12) then
          let x := dmxGet s p
          let s1 := { s with wired := { s.wired with telAt := SMap.put none s.wired.telAt record (some s.tim.now) } }
          let new := (([0, 1] : List Nat).filter fun k => byteAt r (12 + k) ≠ 255 && !x.due.elem (record, k)).map fun k => (record, k)
          dmxPut s1 p { x with due := x.due ++ new }
        else s
    else s)

/-- The status with which a DMX_RDM_REQ record is refused (Table 7-4, R11, R12, R15, R171). -/
def rdmReqFault (s : State) (r : Nat) : Option Status :=
  if byteAt r 15 ≠ 0 then some .eParam
  else if 15 < byteAt r 0 ∨ (byteAt r 1 ≠ 0x20 ∧ byteAt r 1 ≠ 0x30) ∨ (512 < u16At r 10 ∧ u16At r 10 ≠ 0xFFFF) ∨ 32 < byteAt r 12 ∨
      231 < byteAt r 14 then some .eRange
  else if bitsAt r (128 + 8 * byteAt r 12) (256 - 8 * byteAt r 12) ≠ 0 then some .eParam
  else if 16 ≤ (dmxGet s (byteAt r 0)).queue.length then some .eBusy
  else none

/-- A DMX_RDM_REQ record queued on its port; its handle has no response yet (R171). -/
def rdmSubmit (s : State) (r : Nat) : State :=
  let p := byteAt r 0
  dmxPut { s with wired := { s.wired with resp := SMap.put [255#8] s.wired.resp (byteAt r 13) [255#8] } } p
    { dmxGet s p with queue := (dmxGet s p).queue ++ [r] }

/-- Whether a discovery run on the ports of a mask is refused with E_BUSY (R172). -/
def discBusy (s : State) (mask : Nat) : Bool := (bitsSet 16 mask).any fun p => (dmxGet s p).disc

/-- Discovery begun on the ports of a mask (R172). -/
def discStart (s : State) (mask : Nat) : State := (bitsSet 16 mask).foldl (fun a p => dmxPut a p { dmxGet a p with disc := true }) s

/-! ### DALI (R174 to R180) -/

/-- A DALI bus. -/
def daliGet (s : State) (b : Nat) : DaliState := SMap.get DaliState.empty s.wired.dali b

/-- The block with a DALI bus replaced. -/
def daliPut (s : State) (b : Nat) (x : DaliState) : State :=
  { s with wired := { s.wired with dali := SMap.put DaliState.empty s.wired.dali b x } }

/-- A counter of DAL_COUNTERS: DAL_COLLISIONS 0, DAL_DEVICE_FRAMES 1, BUS_DOWN 2. -/
def daliCount (s : State) (b k : Nat) : State := daliPut s b { daliGet s b with cnt := bump (daliGet s b).cnt k 1 }

/-- The enabled fixtures patched on a bus: short address, fixture and record, in ascending address. -/
def daliPatched (c : Store) (b : Nat) : List (Nat × Nat × Nat) :=
  match c.strandOf 4 b with
  | none => []
  | some (i, _) =>
    (List.range 64).filterMap fun a => (c.fixtures.find? fun x => fxStrand x.2 = i ∧ fxSlot x.2 = a).map fun x => (a, x.1, x.2)

/-- The arc value of a drive (R175). -/
def arcOf (out : Nat) : Nat := min 254 (out / 256)

/-- DALI_QUEUE_UPDATE at an edge (R176): arc values that differ from those last sent or queued replace the address's pending entry. -/
def daliEdge (s : State) (c : Store) (o : FrameOut) : State :=
  (List.range 8).foldl (fun a b =>
    if modeOf (c.row dalBus b) = 0 then a
    else
      daliPut a b ((daliPatched c b).foldl (fun x p =>
        let v := (SMap.get [] o.drives p.2.1).map arcOf
        let last := (SMap.get none x.pending p.1).orElse fun _ => SMap.get none x.sent p.1
        if last = some v then x else { x with pending := SMap.put none x.pending p.1 (some v) }) (daliGet a b))) s

/-- The forward frames that set an address to its values; a channel beyond those of the entry is sent as 0 (R175, R176). -/
def arcFrames (addr : Nat) (v : List Nat) : List Nat :=
  let dapc (l : Nat) : Nat := addr * 2 * 256 + l
  let cmd (n : Nat) : List Nat := [0xC108, (addr * 2 + 1) * 256 + n]
  let dtr (a b c : Nat) : List Nat := [0xA300 + a, 0xC300 + b, 0xC500 + c]
  if v.length ≤ 1 then [dapc (v.getD 0 0)]
  else
    let g (i : Nat) := v.getD i 0
    dtr (g 0) (g 1) (g 2) ++ cmd 235 ++ (if 3 < v.length then dtr (g 3) (g 4) (g 5) ++ cmd 236 else []) ++ [dapc 254]

/-- The value with which a bus may broadcast (R177). -/
def broadcastOf (c : Store) (b : Nat) (x : DaliState) : Option Nat :=
  let ps := daliPatched c b
  match ps with
  | [] => none
  | p :: _ =>
    let v := SMap.get none x.pending p.1
    if bitAt (c.row dalBus b) 11 ∧ v.isSome ∧ (ps.all fun q => bitsAt (c.row dalAddr (b * 64 + q.1)) 0 3 == 1 && SMap.get none x.pending q.1 == v) then
      v.map fun l => l.getD 0 0
    else none

/-- The address whose pending entry is served next (R176). -/
def nextPending (c : Store) (b : Nat) (x : DaliState) : Option Nat :=
  let has (a : Nat) : Bool := (SMap.get none x.pending a).isSome
  let civic := (daliPatched c b).filter fun p => fxCivic p.2.2 && has p.1
  match civic with
  | p :: _ => some p.1
  | [] => ((List.range 64).map fun k => (x.lastServed + 1 + k) % 64).find? has

/-- A forward frame sent on a bus. -/
def daliOut (s : State) (b v : Nat) (x : DaliState) : State :=
  emit (daliPut s b { x with lastFrame := some v, collisions := 0 }) (.dali b v 16)

/-- DALI_FRAME_SEND (R176, R177, R180): the next frame of a sequence, else the next DAL_CMD, else the next pending entry. -/
def execDaliFrameSend (bus : Nat) (s : State) : Host.Outcome State Fault Refusal :=
  let x := daliGet s bus
  .next (if transmits s ∧ bus < 8 ∧ modeOf (s.cfg.row dalBus bus) = 1 ∧ x.down = false ∧ (x.ask = none ∨ x.seq ≠ []) then
      match x.seq with
      | v :: rest => daliOut s bus v { x with seq := rest }
      | [] =>
        match x.cmds with
        | r :: rest =>
          let v := u16At r 2
          if bitAt r 8 then daliOut s bus v { x with cmds := putBit r 8 false :: rest, seqFor := none }
          else daliOut s bus v { x with cmds := rest, seqFor := none, ask := some { addr := 64, kind := 3 } }
        | [] =>
          match broadcastOf s.cfg bus x with
          | some l =>
            let sent := (daliPatched s.cfg bus).foldl (fun m p => SMap.put none m p.1 (some [l])) x.sent
            daliOut s bus (0xFE00 + l) { x with pending := [], sent := sent, seqFor := some (64, [l]) }
          | none =>
            match nextPending s.cfg bus x with
            | none => s
            | some a =>
              let v := (SMap.get none x.pending a).getD []
              match arcFrames a v with
              | [] => s
              | f :: rest => daliOut s bus f { x with
                  pending := SMap.put none x.pending a none, sent := SMap.put none x.sent a (some v), seq := rest
                  seqFor := some (a, v), lastServed := a }
    else s)

/-- DAL_CMD_REPLY on Q28 (R180). -/
def dalReply (s : State) (b result value : Nat) : State :=
  notify s 0x0033 (leBytes 1 b ++ leBytes 1 result ++ leBytes 1 value ++ leBytes 5 0)

/-- DALI_COLLISION (R178): the frame is sent again; after 8 collisions its entry returns to pending. -/
def execDaliCollision (bus : Nat) (s : State) : Host.Outcome State Fault Refusal :=
  let x := daliGet s bus
  .next (match x.lastFrame with
    | none => s
    | some v =>
      if x.collisions + 1 < 8 then emit (daliPut s bus { x with collisions := x.collisions + 1 }) (.dali bus v 16)
      else
        let back := match x.seqFor with
          | some (a, l) =>
            if a < 64 then
              { x with pending := if (SMap.get none x.pending a).isSome then x.pending else SMap.put none x.pending a (some l) }
            else { x with pending := (daliPatched s.cfg bus).foldl (fun (m : SMap (Option (List Nat))) (p : Nat × Nat × Nat) =>
                if (SMap.get none m p.1).isSome then m else SMap.put none m p.1 (some l)) (x.pending : SMap (Option (List Nat))) }
          | none => x
        let s1 := daliCount (daliPut s bus { back with seq := [], seqFor := none, lastFrame := none, collisions := 0, ask := none }) bus 0
        if x.ask.map (·.kind) = some 3 then dalReply s1 bus 2 0 else s1)

/-- The fixture at a short address. -/
def daliFixture (c : Store) (b a : Nat) : Option (Nat × Nat) := ((daliPatched c b).find? (·.1 = a)).map (·.2)

/-- The query that follows in a poll of an address (R179): after `kind`, the failure status of DT6 gear, then the temperature. The frames
that lead to it go out one by one, as a sequence. -/
def daliQuery (s : State) (b a from_ : Nat) : State :=
  let r := s.cfg.row dalAddr (b * 64 + a)
  let x := daliGet s b
  let q (n : Nat) : Nat := (a * 2 + 1) * 256 + n
  let send (kind first : Nat) (rest : List Nat) : State :=
    daliOut s b first { x with ask := some { addr := a, kind := kind }, seq := rest, seqFor := none }
  if from_ = 0 then send 0 (q 0x90) []
  else if from_ ≤ 1 ∧ bitAt r 4 then send 1 0xC106 [q 0xF1]
  else if from_ ≤ 2 ∧ bitAt r 5 then send 2 (0xC300 + byteAt r 1) [0xA300 + byteAt r 2, q 0xC5]
  else daliPut s b { x with ask := none }

/-- The query that awaits its backward frame: the frames before it have gone out. -/
def awaited (x : DaliState) : Option DaliAsk := if x.seq = [] then x.ask else none

/-- DALI_POLL (R179): a patched address is queried once per POLL_S, when nothing waits on the bus. -/
def execDaliPoll (bus address : Nat) (s : State) : Host.Outcome State Fault Refusal :=
  let x := daliGet s bus
  .next (if transmits s ∧ bus < 8 ∧ modeOf (s.cfg.row dalBus bus) = 1 ∧ x.down = false ∧ x.ask = none ∧ x.seq = [] ∧ x.cmds = [] ∧
      x.pending = [] ∧ (daliFixture s.cfg bus address).isSome ∧ intervalOver s (SMap.get none x.polled address) (u16At (s.cfg.row dalBus bus) 2) then
      daliQuery (daliPut s bus { x with seqFor := none, polled := SMap.put none x.polled address (some s.tim.now) }) bus address 0
    else s)

/-- Every FAULT bit of a fixture set: one for each emitter of its model (R179). -/
def allFault (s : State) (x : Nat × Nat) : State := orFault s x.1 (2 ^ mdEmitters (s.cfg.row modTable (fxModel x.2)) - 1)

/-- DALI_BACKWARD_FRAME (R179, R180). -/
def execDaliBackwardFrame (bus value : Nat) (t : Time) (s : State) : Host.Outcome State Fault Refusal :=
  let s1 := advance s t
  let x := daliGet s1 bus
  .next (match awaited x with
    | none => s1
    | some q =>
      if q.kind = 3 then dalReply (daliPut s1 bus { x with ask := none }) bus 0 (value % 256)
      else
        let s2 := setCond (daliPut s1 bus { x with misses := SMap.put 0 x.misses q.addr 0 }) 0x0401 (bus * 64 + q.addr) false
        let s3 := match daliFixture s2.cfg bus q.addr with
          | none => s2
          | some fx =>
            if q.kind = 0 then if bitAt value 1 then allFault s2 fx else s2
            else if q.kind = 1 then if bitAt value 0 ∨ bitAt value 1 then allFault s2 fx else s2
            else setTemp s2 fx.1 (16 * signedOf 8 value)
        daliQuery s3 bus q.addr (q.kind + 1))

/-- DALI_REPLY_TIMEOUT (R179, R180): no backward frame; the third poll in succession logs DALI_NO_REPLY. -/
def execDaliReplyTimeout (bus : Nat) (t : Time) (s : State) : Host.Outcome State Fault Refusal :=
  let s1 := advance s t
  let x := daliGet s1 bus
  .next (match awaited x with
    | none => s1
    | some q =>
      let s2 := daliPut s1 bus { x with ask := none }
      if q.kind = 3 then dalReply s2 bus 1 0
      else if q.kind = 0 then
        let n := SMap.get 0 x.misses q.addr + 1
        let s3 := daliPut s2 bus { daliGet s2 bus with misses := SMap.put 0 x.misses q.addr n }
        if 3 ≤ n then logEntry s3 true 0x0401 (bus * 64 + q.addr) bus q.addr 0 else s3
      else s2)

/-- DALI_BUS_DOWN (R180): a DAL_CMD frame that awaits its reply has none. -/
def execDaliBusDown (bus : Nat) (s : State) : Host.Outcome State Fault Refusal :=
  let x := daliGet s bus
  .next (if bus < 8 ∧ x.down = false then
      let s0 := if x.ask.map (·.kind) = some 3 then dalReply s bus 1 0 else s
      logEv (daliCount (daliPut s0 bus { x with down := true, pending := [], seq := [], seqFor := none, ask := none, lastFrame := none }) bus 2)
        0x0402 bus 0 0
    else s)

/-- DALI_BUS_RESTORED (R180): the current values of every patched address are queued. -/
def execDaliBusRestored (bus : Nat) (s : State) : Host.Outcome State Fault Refusal :=
  let x := daliGet s bus
  .next (if x.down then
      daliPut s bus { x with
        down := false
        pending := (daliPatched s.cfg bus).foldl
          (fun (m : SMap (Option (List Nat))) p => SMap.put none m p.1 (some ((SMap.get [] s.frm.shown.drives p.2.1).map arcOf))) [] }
    else s)

/-- DAL_ADDRESS_DONE (R180): the addresses allocated go into DAL_FOUND and the run is notified. -/
def execDalAddressDone (bus : Nat) (t : Time) (found : List (Nat × Nat)) (s : State) : Host.Outcome State Fault Refusal :=
  let s1 := advance s t
  let x := daliGet s1 bus
  .next (if bus < 8 ∧ x.addressing.isSome then
      let fs := found.filter fun p => p.1 < 64
      let clear : SMap Nat := (List.range 64).foldl (fun m a => SMap.put 0 m (bus * 64 + a) 0) s1.wired.found
      let tab : SMap Nat := fs.foldl (fun (m : SMap Nat) (p : Nat × Nat) => SMap.put 0 m (bus * 64 + p.1) (p.2 % 2 ^ 24 + 2 ^ 24)) clear
      notify (daliPut { s1 with wired := { s1.wired with found := tab } } bus { x with addressing := none }) 0x0032
        (leBytes 1 bus ++ leBytes 1 0 ++ leBytes 2 fs.length ++ leBytes 4 0)
    else s1)

/-- DALI_DEVICE_FRAME (7.4): a 24-bit frame of a control device is counted and ignored. -/
def execDaliDeviceFrame (bus : Nat) (s : State) : Host.Outcome State Fault Refusal :=
  .next (if bus < 8 then daliCount s bus 1 else s)

/-- The status with which a DAL_CMD record is refused (Table 7-8, R180). -/
def dalCmdFault (s : State) (r : Nat) : Option Status :=
  if bitsAt r 9 7 ≠ 0 then some .eParam
  else if 7 < byteAt r 0 then some .eRange
  else if (daliGet s (byteAt r 0)).addressing.isSome then some .eBusy else none

/-- A DAL_CMD frame queued. -/
def dalSubmit (s : State) (r : Nat) : State :=
  daliPut s (byteAt r 0) { daliGet s (byteAt r 0) with cmds := (daliGet s (byteAt r 0)).cmds ++ [r] }

/-- The status with which a DAL_ADDRESS_RUN value is refused (R180). -/
def dalRunFault (s : State) (v : Nat) : Option Status :=
  if bitsAt v 9 7 ≠ 0 then some .eParam
  else if (bitsSet 8 v).any (fun b => (daliGet s b).addressing.isSome) then some .eBusy else none

/-- Address allocation begun on the buses of a mask (R180). -/
def dalRunStart (s : State) (v : Nat) : State :=
  (bitsSet 8 v).foldl (fun a b => daliPut a b { daliGet a b with addressing := some (bitAt v 8) }) s

end Sys2Proof.Machine
end

