-- ==== Sys2Proof/Machine/Raster.lean ====
section
/-! DEFINITION. Raster ports and the raster link (08): what a line packet carries, fetch and its DRAM grants, the phase move, the checks on
a whole configuration, and the commands. -/

namespace Sys2Proof.Machine

/-! ### Lines -/

/-- A raster port. -/
def rasGet (s : State) (p : Nat) : RasterState := SMap.get RasterState.empty s.ras p

/-- The block with a raster port replaced. -/
def rasPut (s : State) (p : Nat) (x : RasterState) : State := { s with ras := SMap.put RasterState.empty s.ras p x }

/-- RAS_COUNTERS: LINES 0, REPEAT_FRAMES 1, UNDERRUN_LINES 2, UNDERRUN_FRAMES 3, URGENT_GRANTS 4. -/
def rasCount (s : State) (p k : Nat) : State := rasPut s p { rasGet s p with cnt := bump (rasGet s p).cnt k 1 }

/-- The record of a port in force for the frame it scans (R195). -/
def rasRec (s : State) (p : Nat) : Nat := s.frm.shownCfg.row rasPort p

/-- Both ports are in LOCKED_SPLIT. -/
def rasSplit (c : Store) : Bool := modeOf (c.row rasPort 0) == 2

/-- FILL of a port record as a pixel. -/
def rasFill (r : Nat) : Nat := mkPix (u16At r 16) (u16At r 18) (u16At r 20) 65535

/-- An output pixel of a port: from the region that covers it, or FILL (8.1). -/
def rasPixel (s : State) (r : Nat) (regions : List (Nat × Nat × Nat)) (x y : Nat) : Nat :=
  match regions.find? fun g =>
      decide (u16At g.2.2 2 ≤ x) && decide (x < u16At g.2.2 2 + u16At g.2.2 6) && decide (u16At g.2.2 4 ≤ y)
        && decide (y < u16At g.2.2 4 + u16At g.2.2 8) with
  | none => rasFill r
  | some g =>
    let k := bitsAt g.2.2 0 2
    let px := ((SMap.get none s.con.front k).map (·.2)).getD []
    px.getD ((stY0 g.2.1 + y - u16At g.2.2 4) * s.frm.shownCfg.val cnvWidth k + stX0 g.2.1 + x - u16At g.2.2 2) 0

/-- Output line `y` of a port (R200). -/
def rasLine (s : State) (p y : Nat) : List Nat :=
  let r := rasRec s p
  let g := s.frm.shownCfg.regions p
  (List.range (rsW r)).map fun x => rasPixel s r g x y

/-- An n-bit code of a component, exactly evaluated (R191): the greatest code whose value less a half is at most the encoded one. `peak` is
PQ_PEAK. -/
def rasExact (transfer n peak v : Nat) : Nat :=
  let m := 2 * (2 ^ n - 1)
  if transfer = 1 then
    bsearch n (fun q =>
      let a := 2 * q - 1
      if a * 100000 ≤ 4045 * m then a * 100 * 65535 ≤ 1292 * m * v
      else (a * 1000 + 55 * m) ^ 12 * 65535 ^ 5 ≤ v ^ 5 * (1055 * m) ^ 12) 0
  else if transfer = 3 then (pqInverse (v * peak * fixOne / (65535 * 10000)) * m + fixOne) / (2 * fixOne)
  else bsearch n (fun q => (2 * q - 1) ^ 12 * 65535 ^ 5 ≤ v ^ 5 * m ^ 12) 0

/-- The code of a component of a port record (R191). -/
def rasCode (r v : Nat) : Nat :=
  let n := (rsFormat (byteAt r 1)).1
  let t := bitsAt r 16 4
  let top := 2 ^ n - 1
  if t = 0 then (v * top + 32767) / 65535
  else min top (rasExact t n (u16At r 12) v + (Config.rasterDev t n v).val - 1)

/-- A pixel packed under Table 8-4. -/
def rasPack (r px : Nat) : List Byte :=
  let f := byteAt r 1
  let c (i : Nat) : Nat := rasCode r (bitsAt px (16 * i) 16)
  if f = 1 then leBytes 1 (c 0) ++ leBytes 1 (c 1) ++ leBytes 1 (c 2)
  else if f = 2 then leBytes 4 (c 0 + c 1 * 1024 + c 2 * 1048576)
  else if f = 3 then leBytes 2 (c 0 * 16) ++ leBytes 2 (c 1 * 16) ++ leBytes 2 (c 2 * 16)
  else if f = 4 then leBytes 2 (c 0) ++ leBytes 2 (c 1) ++ leBytes 2 (c 2)
  else leBytes 2 (c 0) ++ leBytes 2 (c 1) ++ leBytes 2 (c 2) ++ leBytes 2 65535

/-- The line packet header of Table 8-6. -/
def rasHeader (s : State) (p y : Nat) : List Byte :=
  let c := s.frm.shownCfg
  let r := rasRec s p
  let x := rasGet s p
  let split := rasSplit c
  let w0 := rsW (c.row rasPort 0)
  let under := match x.under with
    | some u => decide (u < y)
    | none => false
  let flags := b2n x.repeat_ + b2n under * 2 + b2n split * 4 + b2n (split && p == 1) * 8 + b2n (y + 1 == rsH r) * 16
  leBytes 1 1 ++ leBytes 1 (byteAt r 1) ++ leBytes 1 flags ++ leBytes 1 (bitsAt r 16 4) ++ leBytes 8 x.frame ++ leBytes 2 y
    ++ leBytes 2 (rsW r) ++ leBytes 2 (if split ∧ p = 1 then w0 else 0)
    ++ leBytes 2 (if split then w0 + rsW (c.row rasPort 1) else rsW r) ++ leBytes 2 (rsH r) ++ leBytes 2 (rsPb r)
    ++ leBytes 8 s.frm.ltc.tc

/-- The trailer without its CRC (R198). -/
def rasTrailer (filled : Option Nat) : List Byte :=
  match filled with
  | none => leBytes 4 0
  | some c => leBytes 1 1 ++ leBytes 1 0 ++ leBytes 2 c

/-- A line packet in blocks: SOP, header, payload, trailer with the CRC over everything before it, TERM (R198, R199). -/
def rasPacket (s : State) (p y : Nat) (line : List Nat) (filled : Option Nat) : List (Bool × List Byte) :=
  let r := rasRec s p
  let body := rasHeader s p y ++ pad8 (line.flatMap (rasPack r)) ++ rasTrailer filled
  let bytes := body ++ leBytes 4 (crc32 body)
  controlBlock 0x78 :: dataBlocks bytes ++ [controlBlock 0x87]

/-- The last-sent line of a port: FILL in every pixel on entry into line packets (R200). -/
def rasLast (s : State) (p x : Nat) : Nat := (rasGet s p).lastLine.getD x (rasFill (rasRec s p))

/-- The first underrun of a line booked to a port: the mark, UNDERRUN_FRAMES once a frame, and RASTER_UNDERRUN by the port whose line
it is, once per run (R203, R205). -/
def rasUnder (s : State) (p y : Nat) (own : Bool) : State :=
  let x := rasGet s p
  if x.under.isSome then s
  else
    let s1 := rasCount (rasPut s p { x with under := some y }) p 3
    if own ∧ !x.underRun then logEv s1 0x0501 p x.frame y else s1

/-- A port puts out `idle` slots of IDLE blocks and then `blocks` in the slots that they take, ALIGN slots among both (R192, R197). -/
def rasSend (s : State) (p idle : Nat) (blocks : List (Bool × List Byte)) : State :=
  let x := rasGet s p
  let a := laneStream 4 p idle x.link [] []
  let m := if blocks = [] then 0 else packetSlots a.1.slot blocks.length
  let b := laneStream 4 p m a.1 blocks a.2
  let s1 := rasPut s p { x with link := b.1, sent := x.sent + idle + m }
  if idle + m = 0 then s1 else emit s1 (.raster p x.sent b.2.reverse)

/-- The slot of the frame period in which the next line of a port begins: the first that starts at or after E(k) + n × t_line (R192). -/
def rasLineSlot (s : State) (p : Nat) : Nat := max (rasGet s p).sent (slotFrom ((rasGet s p).line * rsLine (rasRec s p) * ns))

/-- A port may begin its next line: in LOCKED_SPLIT the other port has begun every line before it, as both begin each line in the same slot
(R205). -/
def lineReady (s : State) (p : Nat) : Bool :=
  transmits s && decide (p < 2) && (rasGet s p).scanning && decide ((rasGet s p).line < rsH (rasRec s p))
    && (!rasSplit s.frm.shownCfg || decide ((rasGet s p).line ≤ (rasGet s (1 - p)).line))

/-- RASTER_LINE_START: the port sends IDLE up to the slot of its next line and begins its packet (R192, R202, R203, R205). `fetched` says
where a line that the grants have not fetched runs out of pixels; none where its fetch keeps ahead of transmission. -/
def execRasterLineStart (port : Nat) (fetched : Option Nat) (s : State) : Host.Outcome State Fault Refusal :=
  let r := rasRec s port
  let x := rasGet s port
  if !lineReady s port then .next s
  else
    let q := rasLineSlot s port
    let s0 := advance s (s.frm.last + slotStart q)
    let y := x.line
    let filled := if y < x.fetched then none else fetched.filter fun c => decide (c < rsW r)
    let full := rasLine s0 port y
    let line := match filled with
      | none => full
      | some c => full.take c ++ ((List.range (rsW r)).drop c).map (rasLast s0 port)
    let s1 := rasSend s0 port (q - x.sent) (rasPacket s0 port y line filled)
    let s2 := rasCount (rasPut s1 port { rasGet s1 port with line := y + 1, fetched := max x.fetched (y + 1), lastLine := line }) port 0
    match filled with
    | none => .next s2
    | some _ =>
      let s3 := rasUnder (rasCount s2 port 2) port y true
      .next (if rasSplit s.frm.shownCfg then rasUnder s3 (1 - port) y false else s3)

/-! ### Phase (R194) -/

/-- 25 phase steps of 62.5 ps in units of 1/65,536 ns. -/
def step25 : Nat := 102400

/-- By how much the slot grid of a frame period of length `len` must move later to begin a slot at its end, in 1/25 of a unit. -/
def gridOff (len : Time) : Nat := 25 * len % slots25

/-- Steps that bring the grid to the edge: later, or earlier once the port has begun to move that way. At most 85. -/
def stepsNeeded (len : Time) (earlier : Bool) : Nat :=
  ((if gridOff len = 0 then 0 else if earlier then slots25 - gridOff len else gridOff len) + step25 - 1) / step25

/-- The earliest instant of a port's next step: after its last line packet, and 32 slots after the step before. -/
def stepTime (s : State) (p : Nat) : Time :=
  let x := rasGet s p
  max (max s.tim.now (s.frm.last + slotStart x.sent)) (match x.stepAt with
    | some t => t + slotStart 32
    | none => 0)

/-- A port may move its phase one step: its last line packet of the frame is sent, the step falls before the next edge, and the grid is not
there yet. -/
def phaseFree (s : State) (p : Nat) (forward : Bool) : Bool :=
  let x := rasGet s p
  x.run && (!x.scanning || decide (rsH (rasRec s p) ≤ x.line)) && decide (stepTime s p < s.frm.next)
    && (if forward then decide (0 ≤ x.shift) else decide (x.shift ≤ 0))
    && decide (x.shift.natAbs < stepsNeeded (s.frm.next - s.frm.last) !forward)

/-- One step of a port's lanes, data and forwarded clock together. -/
def phaseStep (s : State) (p : Nat) (forward : Bool) : State :=
  let x := rasGet s p
  let d : Int := if forward then 1 else -1
  rasPut s p { x with phase := x.phase + d, shift := x.shift + d, stepAt := some s.tim.now }

/-- RASTER_PHASE_STEP: one step of 62.5 ps, later or earlier; in LOCKED_SPLIT the two ports move together (R194, R205). -/
def execRasterPhaseStep (port : Nat) (forward : Bool) (s : State) : Host.Outcome State Fault Refusal :=
  .next (if 2 ≤ port ∨ !transmits s ∨ !phaseFree s port forward then s
    else if rasSplit s.frm.shownCfg then
      if phaseFree s (1 - port) forward then
        let s1 := advance s (max (stepTime s port) (stepTime s (1 - port)))
        phaseStep (phaseStep s1 port forward) (1 - port) forward
      else s
    else phaseStep (advance s (stepTime s port)) port forward)

/-! ### Fetch (R200, R201) -/

/-- COMPUTE of the next frame is complete, or that frame has slipped. -/
def nextKnown (s : State) : Bool :=
  match frameOf s (s.frm.num + 1) with
  | some f => decide (f.stage = .complete) || decide (f.stage = .slipped)
  | none => false

/-- RASTER_FETCH_ADVANCE: the fetcher moves to the next frame once it has fetched the last line of the one being scanned and COMPUTE
of the next is complete, or that frame has slipped (R200). -/
def execRasterFetchAdvance (port : Nat) (s : State) : Host.Outcome State Fault Refusal :=
  let x := rasGet s port
  let r := rasRec s port
  if port < 2 ∧ transmits s ∧ modeOf r ≠ 0 ∧ (!x.scanning ∨ rsH r ≤ x.fetched) ∧ nextKnown s ∧ !x.moved then
    .next (rasPut s port { x with moved := true, ahead := 0 })
  else .next s

/-- Occupancy: lines fully fetched and not yet begun (R201). -/
def rasOccupancy (s : State) (p : Nat) : Nat := (rasGet s p).fetched - (rasGet s p).line + (rasGet s p).ahead

/-- The fetcher of a port has a line to fetch and a slot for it (R200). -/
def rasWants (s : State) (p : Nat) : Bool :=
  let x := rasGet s p
  let h := rsH (rasRec s p)
  transmits s && modeOf (rasRec s p) != 0 && decide (rasOccupancy s p < 7)
    && ((x.scanning && decide (x.fetched < h)) || (x.moved && decide (x.ahead < h)))

/-- The class of a requester at this moment (R17, R201): 0 URGENT, 1 FRAME, 2 SUPPORT. Requesters 0 and 1 are the raster ports, 2 to
7 the composer, ingress and presentation-buffer units, 8 and up the support units. -/
def dramClass (s : State) (q : Nat) : Nat :=
  if q < 2 then if rasOccupancy s q < byteAt (rasRec s q) 3 then 0 else 1
  else if q < 8 then 1 else 2

/-- The requester of a class that round robin serves next after `last` (the requester granted last, plus 1; 0 none). -/
def roundRobin (rs : List Nat) (last : Nat) : Option Nat :=
  match (rs.filter (last ≤ ·)).min? with
  | some q => some q
  | none => rs.min?

/-- One line fetched by a raster port. -/
def rasFetch (s : State) (p : Nat) : State :=
  let x := rasGet s p
  if x.scanning ∧ x.fetched < rsH (rasRec s p) then rasPut s p { x with fetched := x.fetched + 1 }
  else rasPut s p { x with ahead := x.ahead + 1 }

/-- DRAM_GRANT: of the requests, one of the highest class is granted in round robin and its class is fixed (R17, R18); a raster port's
grant fetches its next line. -/
def execDramGrant (requests : List Nat) (s : State) : Host.Outcome State Fault Refusal :=
  let live := requests.filter fun q => decide (2 ≤ q) || rasWants s q
  match (([0, 1, 2] : List Nat).map fun k => (k, live.filter fun q => dramClass s q == k)).find? fun x => x.2 != [] with
  | none => .next s
  | some (k, rs) =>
    match roundRobin rs (SMap.get 0 s.con.rr k) with
    | none => .next s
    | some q =>
      let s1 := { s with con := { s.con with
        rr := SMap.put 0 s.con.rr k (q + 1)
        granted := (s.con.granted.filter fun x => x.1 ≠ q) ++ [(q, k)] } }
      if 2 ≤ q then .next s1
      else .next (rasFetch (if k = 0 then rasCount s1 q 4 else s1) q)

/-! ### The edge (R195) -/

/-- The frame period of a port's lanes ends after `len`: IDLE and ALIGN blocks up to the edge, and the steps that still bring the slot grid
to it (R192, R194). -/
def rasFinish (s : State) (p : Nat) (len : Time) : State :=
  let x := rasGet s p
  if !x.run then s
  else
    let early := decide (x.shift < 0)
    let left : Int := (stepsNeeded len early : Int) - x.shift.natAbs
    let y := { x with phase := x.phase + (if early then -left else left), shift := 0, stepAt := none }
    let n := slotsIn len + b2n (early && decide (gridOff len ≠ 0))
    rasSend (rasPut s p y) p (n - x.sent) []

/-- A port at an edge: `old` was in force before it, `new` is in force from it on; `len` is the interval that ends. Its lanes run while it is
on; outside RUN they carry IDLE and ALIGN blocks only (R195, Table 21-3). -/
def rasEdge (s : State) (old new : Store) (slipped : Bool) (len : Time) (p : Nat) : State :=
  let s1 := rasFinish s p len
  let x := rasGet s1 p
  let was := modeOf (old.row rasPort p) != 0
  if modeOf (new.row rasPort p) = 0 then rasPut s1 p { RasterState.empty with cnt := x.cnt }
  else if !transmits s then
    rasPut s1 p { RasterState.empty with run := true, link := x.link, phase := x.phase, cnt := x.cnt }
  else
    rasPut s1 p { x with
      scanning := was
      frame := s.frm.num
      repeat_ := slipped
      line := 0
      fetched := if x.moved then x.ahead else 0
      moved := false
      ahead := 0
      lastLine := if was then x.lastLine else []
      under := none
      underRun := x.under.isSome
      run := true
      sent := 0
      cnt := if slipped ∧ was then bump x.cnt 1 1 else x.cnt }

/-! ### Checks (Table 8-3) -/

/-- Rectangles overlap. -/
def rectsMeet (a b : Nat) : Bool :=
  decide (u16At a 2 < u16At b 2 + u16At b 6) && decide (u16At b 2 < u16At a 2 + u16At a 6)
    && decide (u16At a 4 < u16At b 4 + u16At b 8) && decide (u16At b 4 < u16At a 4 + u16At a 8)

/-- The regions of a port (R190): `x` is strand, its record and the region record. The size of a port that is OFF is not acted on (R516). -/
def checkRegions (c : Store) (p : Nat) : List Err :=
  let r := c.row rasPort p
  let rs := c.regions p
  rs.flatMap fun x =>
    let g := x.2.2
    let k := bitsAt g 0 2
    let e (st : Status) : Err := viol st stdTable.id x.1
    errIf (c.val cnvEnable k == 0 || u16At g 6 == 0 || u16At g 8 == 0 || decide (c.val cnvWidth k < stX0 x.2.1 + u16At g 6)
        || decide (c.val cnvHeight k < stY0 x.2.1 + u16At g 8)) (e .eRange)
    ++ errIf (modeOf r != 0 && (decide (rsW r < u16At g 2 + u16At g 6) || decide (rsH r < u16At g 4 + u16At g 8))) (e .eRange)
    ++ errIf (modeOf r == 0) (e .eParam)
    ++ (match rs.find? fun z => decide (stEnd x.2.1 % 16 < stEnd z.2.1 % 16) && rectsMeet g z.2.2 with
      | some z => [violO stdTable.id x.1 stdTable.id z.1]
      | none => [])

/-- The line timing of a port (R193). -/
def checkLine (o c : Store) (p : Nat) : List Err :=
  let r := c.row rasPort p
  errIf (modeOf r != 0 && (decide (rsLine r * 100 < (rsSlots r + 1) * 528) || decide (rsLine r * 3 < rsW r * 5)
    || decide (shortT o c < ((rsH r * rsLine r + 20000) * ns : Nat)))) (viol .eRange rasPort.id p)

/-- LOCKED_SPLIT (R204): both records carry it, with the fields of `same` equal. -/
def checkSplit (c : Store) : List Err :=
  let a := c.row rasPort 0
  let b := c.row rasPort 1
  let same := byteAt a 1 == byteAt b 1 && bitsAt a 16 4 == bitsAt b 16 4 && byteAt a 3 == byteAt b 3 && rsH a == rsH b
    && rsLine a == rsLine b && u16At a 12 == u16At b 12
  errIf (modeOf a == 2 && !(modeOf b == 2 && same)) (viol .eParam rasPort.id 0)
  ++ errIf (modeOf b == 2 && modeOf a != 2) (viol .eParam rasPort.id 1)

/-- The checks of the raster chapter. -/
def checkRaster (o c : Store) : List Err :=
  checkRegions c 0 ++ checkRegions c 1 ++ checkLine o c 0 ++ checkLine o c 1 ++ checkSplit c

end Sys2Proof.Machine
end

