-- ==== Sys2Proof/Machine/Drive.lean ====
section
/-! DEFINITION. Direct drive, the matrix and lamp diagnosis (09): pins and scan, measured points and their verdicts, glint probes, reports
on Q29, the checks on a whole configuration, and the commands. -/

namespace Sys2Proof.Machine

/-! ### Pins and points -/

/-- A measured point: a channel, or 48 + row × 32 + column. -/
def pointGet (s : State) (p : Nat) : Point := SMap.get Point.empty s.drv.points p

/-- The block with a point replaced. -/
def pointPut (s : State) (p : Nat) (x : Point) : State :=
  { s with drv := { s.drv with points := SMap.put Point.empty s.drv.points p x } }

/-- A channel's pin. -/
def pinGet (s : State) (ch : Nat) : Pin := SMap.get Pin.empty s.drv.pins ch

/-- The block with a pin replaced. -/
def pinPut (s : State) (ch : Nat) (x : Pin) : State := { s with drv := { s.drv with pins := SMap.put Pin.empty s.drv.pins ch x } }

/-- DRV_COUNTERS: PROBES 0, REPORT_DROP 1, MSYNC_SKIP 2, MSYNC_LOST 3. -/
def drvCount (s : State) (k : Nat) : State := { s with drv := { s.drv with cnt := bump s.drv.cnt k 1 } }

/-- The drive pins carry their buffers: in RUN, from the take-over of a lease on (R377), and while a unit that gave up holds them. -/
def drvLive (s : State) : Bool :=
  transmits s || (s.frm.running && (s.red.takenAt.isSome || (s.red.holding && !s.red.zeroed)))

/-- SNS_TMIN in ns (9.5). -/
def snsTmin : Nat := 1000

/-- One step of 62.5 ps. -/
def step62 : Time := 4096

/-- G6 is shed (Table 17-2). -/
def g6Shed (s : State) : Bool := decide (1 ≤ s.eng.step)

/-- The output drive of a point in a frame: its fixture emitter's, DRV_LEVEL for a free channel, 0 for a free matrix element (R214,
R224). -/
def pointDrive (c : Store) (o : FrameOut) (p : Nat) : Nat :=
  match c.taker p with
  | some (fx, n) => (SMap.get [] o.drives fx).getD n 0
  | none => if p < 48 then SMap.get 0 o.free p else 0

/-- The active time of a point is known, with its rising edge: whether it is long enough to measure, and whether it is a probe's. -/
def pointActive (s : State) (p : Nat) (rise active : Time) (probe : Bool) : State :=
  pointPut s p { pointGet s p with onNs := active / ns, probing := probe, measured := false, rise := rise }

/-- PWM_PERIOD_START: the next period of a PWM channel in this frame, cut short at the next edge; a probe makes the first one active
for SNS_TMIN, and a forced point stays inactive (R211, R222, R225). -/
def execPwmPeriodStart (channel : Nat) (s : State) : Host.Outcome State Fault Refusal :=
  let r := s.drv.cfg.row drvChan channel
  let x := pinGet s channel
  let start := s.frm.last + x.index * (u32At r 4 * ns)
  if modeOf r ≠ 1 ∨ 48 ≤ channel ∨ !drvLive s ∨ s.frm.next ≤ start then .next s
  else
    let s0 := advance s start
    let p := pointGet s channel
    let own := if p.forced then 0 else min (x.nOn * step62) (s.frm.next - start)
    let probe := decide (x.probe ≠ 0) && decide (own < snsTmin * ns)
    let active := if probe then min (snsTmin * ns) (s.frm.next - start) else own
    .next (emit (pointActive (pinPut s0 channel { x with level := decide (active ≠ 0), index := x.index + 1, probe := 0 }) channel start active probe)
      (.drive channel start active (bitAt r 8)))

/-- PDM_SLOT: the next slot of a PDM channel: a probe's slots are active, otherwise the modulator decides; a forced point stays inactive from
its next run on (R212, R222, R225). A run of active slots is one measurement. -/
def execPdmSlot (channel : Nat) (s : State) : Host.Outcome State Fault Refusal :=
  let r := s.drv.cfg.row drvChan channel
  let x := pinGet s channel
  let start := s.frm.last + x.index * (u32At r 4 * ns)
  if modeOf r ≠ 2 ∨ 48 ≤ channel ∨ !drvLive s ∨ s.frm.next ≤ start then .next s
  else
    let s0 := advance s start
    let p := pointGet s channel
    let len := min (u32At r 4 * ns) (s.frm.next - start)
    let m := if x.probe ≠ 0 then (x.acc, true) else pdmSlot x.acc x.out
    let on := m.2 && (!p.forced || (x.level && decide (x.index ≠ 0)))
    let run := on && x.level && decide (x.index ≠ 0)
    let p1 := { p with
      onNs := if on then (if run then p.onNs else 0) + len / ns else if p.measured then 0 else p.onNs
      probing := if on then decide (x.probe ≠ 0) && (!run || p.probing) else p.probing
      measured := if on && !run then false else p.measured
      rise := if on && !run then start else p.rise }
    .next (emit (pointPut (pinPut s0 channel { x with acc := m.1, level := on, index := x.index + 1, probe := x.probe - 1 }) channel p1)
      (.drive channel start (if on then len else 0) (bitAt r 8)))

/-! ### Matrix (9.4) -/

/-- The matrix record under which the matrix runs. -/
def mxRec (s : State) : Nat := s.drv.cfg.row drvMatrix 0

/-- MODE of the matrix: 1 SCAN_EDGE, 2 SCAN_MSYNC. -/
def mxMode (s : State) : Nat := modeOf (mxRec s)

/-- The on-time of an element in units of time (R217). -/
def mxOn (s : State) (drive : Nat) : Time := pwmOn drive (u32At (mxRec s) 4 - u16At (mxRec s) 8) 0 * step62

/-- When the next slot of the scan starts. -/
def mxStart (s : State) : Time := s.drv.cycleAt + s.drv.slots * (u32At (mxRec s) 4 * ns)

/-- MATRIX_ROW_SLOT: the next slot of the scan: columns off for ROW_BLANK, then on for their on-times; under SCAN_EDGE a slot that runs at
the next edge stops there (R217). -/
def execMatrixRowSlot (s : State) : Host.Outcome State Fault Refusal :=
  let r := mxRec s
  let start := mxStart s
  if mxMode s = 0 ∨ !drvLive s ∨ (mxMode s = 1 ∧ s.frm.next ≤ start) then .next s
  else
    let s0 := advance s start
    let row := s.drv.slots % max 1 (byteAt r 1)
    let from_ := start + u16At r 8 * ns
    let whole := start + u32At r 4 * ns
    let stop := if mxMode s = 1 then min whole s.frm.next else whole
    let cols := (List.range (byteAt r 2)).map fun c =>
      let p := 48 + row * 32 + c
      let own := if (pointGet s p).forced then 0 else mxOn s (SMap.get 0 s.drv.matrix (row * 32 + c))
      let probe := s.drv.probes.elem p && decide (own < snsTmin * ns)
      (p, min (if probe then snsTmin * ns else own) (stop - from_), probe)
    let s1 := cols.foldl (fun a x => pointActive a x.1 from_ x.2.1 x.2.2) s0
    .next (emit { s1 with drv := { s1.drv with
        slots := s.drv.slots + 1
        probes := s.drv.probes.filter fun p => !(cols.any fun x => x.1 == p) } }
      (.matrix row start stop from_ (cols.map fun x => x.2.1) (bitAt r 24) (bitAt r 25)))

/-- The slot that runs at an instant stops there: no column of its row is active any longer (R217). -/
def mxCut (s : State) (t : Time) : State :=
  if s.drv.slots = 0 then s
  else
    let row := (s.drv.slots - 1) % max 1 (byteAt (mxRec s) 1)
    (List.range (byteAt (mxRec s) 2)).foldl (fun a c =>
      let x := pointGet a (48 + row * 32 + c)
      pointPut a (48 + row * 32 + c) { x with onNs := min x.onNs ((t - x.rise) / ns) }) s

/-- A buffer swapped in at an instant: the cycle restarts (R217, R218). -/
def mxSwap (s : State) (m : SMap Nat) (t : Time) : State :=
  { s with drv := { s.drv with matrix := m, eligible := none, cycleAt := t, slots := 0 } }

/-- Probes that waited for a swap act in the cycle that it begins, and are counted (R225). -/
def probesIn (s : State) : State :=
  s.drv.staged.foldl (fun a _ => drvCount a 0) { s with drv := { s.drv with probes := s.drv.staged, staged := [] } }

/-- MSYNC_EDGE: accepted unless it lies within 1 µs of the last accepted one; an eligible buffer is swapped in (R218). -/
def execMsyncEdge (t : Time) (s : State) : Host.Outcome State Fault Refusal :=
  let s0 := advance s t
  let near : Bool := match s.drv.msyncAt with
    | some a => decide (t ≤ a + us)
    | none => false
  .next (if mxMode s ≠ 2 ∨ !s.frm.running ∨ near then s0
    else
      let s1 := setCond { s0 with drv := { s0.drv with msyncAt := some t, msyncSeen := true, msyncIdle := 0 } } 0x0604 0 false
      match s.drv.eligible with
      | some m => mxSwap (probesIn (mxCut s1 t)) m t
      | none => s1)

/-- MSYNC_LOST: 4 consecutive frames without an accepted edge, once per entry (R218). -/
def execMsyncLost (s : State) : Host.Outcome State Fault Refusal :=
  if mxMode s = 2 ∧ s.frm.running ∧ 4 ≤ s.drv.msyncIdle ∧ !condHolds s 0x0604 0 then
    .next (logEv (drvCount (setCond s 0x0604 0 true) 3) 0x0604 0 0 0)
  else .next s

/-! ### Verdicts and reports (R221, R222, R227) -/

/-- The report of Table 9-4. -/
def lampReport (s : State) (p new prev : Nat) (byProbe : Bool) (t : Time) : List Byte :=
  let k := s.cfg.taker p
  let lv := ((pointGet s p).verified.getD 0) / sec
  leBytes 1 new ++ leBytes 1 prev ++ leBytes 1 (if p < 48 then p else (p - 48) % 32)
    ++ leBytes 1 (if p < 48 then 0xFF else (p - 48) / 32) ++ leBytes 1 (b2n byProbe * 2)
    ++ leBytes 1 ((k.map (·.2)).getD 0xFF) ++ leBytes 2 0 ++ leBytes 4 ((k.map (·.1)).getD 0xFFFFFFFF) ++ leBytes 4 0
    ++ leBytes 6 (t / sec) ++ leBytes 4 (t % sec / ns) ++ leBytes 6 lv

/-- A report queued on Q29, or held as the point's one pending report with REPLACED where it replaces another (R227). -/
def lampPush (s : State) (p : Nat) (rep : List Byte) : State :=
  let x := pointGet s p
  match x.report with
  | none => if rep.length ≤ qFree s 29 then qCommit s 29 false rep else pointPut s p { x with report := some rep }
  | some _ =>
    drvCount (pointPut s p { x with report := some (rep.take 4 ++ leBytes 1 (putBit (byteOf rep 4) 0 true) ++ rep.drop 5) }) 1

/-- Pending reports queued as Q29 gains room, lowest point first. -/
def afterQ29 (s : State) : State :=
  s.drv.points.foldl (fun a x =>
    match (pointGet a x.1).report with
    | some rep =>
      if rep.length ≤ qFree a 29 then qCommit (pointPut a x.1 { pointGet a x.1 with report := none }) 29 false rep else a
    | none => a) s

/-- P0 of a lamp event: channel and row. -/
def lampP0 (p : Nat) : Nat := if p < 48 then p + 0xFF00 else (p - 48) % 32 + (p - 48) / 32 * 256

/-- Entry into OPEN or SHORT: forced inactive, FAULT, report, log (R222). -/
def lampVerdict (s : State) (p new prev : Nat) (byProbe : Bool) (t : Time) : State :=
  let k := (s.cfg.taker p).getD (0xFFFFFFFF, 0xFF)
  let s1 := orFault (pointPut s p { pointGet s p with state := new, forced := true, by_ := some k.1 }) k.1 (2 ^ k.2)
  lampPush (logEv s1 (if new = 2 then 0x0601 else 0x0602) (lampP0 p) k.1 k.2) p (lampReport s1 p new prev byProbe t)

/-- A point is measured in this state of the block: RUN, SENSE, and a fixture emitter takes it (R220, R224). -/
def measurable (s : State) (p : Nat) : Bool := transmits s && (s.cfg.sense p).1 && (s.cfg.taker p).isSome

/-- One measurement of class `k` (0 OK, 1 OPEN, 2 SHORT) at `t` (R221). -/
def measure (s : State) (p k : Nat) (probe : Bool) (t : Time) : State :=
  let x := pointGet s p
  let n := if x.count ≠ 0 ∧ x.cls = k then x.count + 1 else 1
  let st := if x.state = 4 ∧ !probe then x.before else x.state
  let y := { x with
    state := st
    lastClass := k
    cls := k
    count := n
    byProbe := probe
    own := x.own || !probe
    verified := if k = 0 then some t else x.verified
    measured := true }
  if n < s.cfg.v drvDiagConfirm then pointPut s p y
  else if k = 0 then pointPut s p (if st = 0 then { y with state := 1 } else y)
  else if st = 2 ∨ st = 3 then pointPut s p y
  else lampVerdict (pointPut s p y) p (k + 1) st probe t

/-- SNS_SAMPLE: the comparators at the rising edge plus BLANK, in units of 10 mV; a sample at another instant is none (R220). -/
def execSnsSample (point : Nat) (t : Time) (tenMv : Nat) (probe : Bool) (s : State) : Host.Outcome State Fault Refusal :=
  let x := pointGet s point
  let e := s.cfg.sense point
  if !measurable s point ∨ x.onNs < snsTmin ∨ x.measured ∨ x.probing ≠ probe ∨
      t ≠ x.rise + e.2.2.2.2.2.2 * ns then .next s
  else .next (measure (advance s t) point (sampleClass e.2.2.2.1 e.2.2.2.2.1 e.2.2.2.2.2.1 tenMv) probe t)

/-- DIAG_STALE_EXPIRY: UNOBSERVED after DRV_DIAG_STALE presented frames without a measurement of the point's own drive (R221, R222). -/
def execDiagStaleExpiry (point : Nat) (s : State) : Host.Outcome State Fault Refusal :=
  let x := pointGet s point
  if measurable s point ∧ s.cfg.v drvDiagStale ≤ x.idle ∧ x.state < 2 then
    let k := (s.cfg.taker point).getD (0xFFFFFFFF, 0xFF)
    let s1 := pointPut s point { x with state := 4, before := x.state, since := s.frm.num }
    .next (lampPush (logEv s1 0x0603 (lampP0 point) k.1 ((x.verified.getD 0) / sec)) point (lampReport s1 point 4 x.state false s.frm.last))
  else .next s

/-- The output drive of a point in the present frame: that of its pin, or of the frame's buffer of the matrix, swapped in or eligible. -/
def drivenNow (s : State) (p : Nat) : Nat :=
  if p < 48 then (pinGet s p).out else SMap.get 0 (s.drv.eligible.getD s.drv.matrix) (p - 48)

/-- A point's first period, slot or row slot of the present frame has yet to come: a matrix element's after the frame's swap (R225). -/
def probeAhead (s : State) (p : Nat) : Bool :=
  if p < 48 then (pinGet s p).index == 0
  else s.drv.eligible.isSome || (decide (s.frm.last ≤ s.drv.cycleAt) && decide (s.drv.slots ≤ (p - 48) / 32))

/-- A probe placed: on a pin's first period or slots, or on a matrix element, where it waits for the swap if that is to come. It is counted
where it acts (R225). -/
def placeProbe (s : State) (p : Nat) : State :=
  if p < 48 then
    let r := s.drv.cfg.row drvChan p
    drvCount (pinPut s p { pinGet s p with
      probe := if modeOf r = 2 then (snsTmin + u32At r 4 - 1) / max 1 (u32At r 4) else 1 }) 0
  else if s.drv.eligible.isSome then { s with drv := { s.drv with staged := s.drv.staged ++ [p] } }
  else drvCount { s with drv := { s.drv with probes := s.drv.probes ++ [p] } } 0

/-- GLINT_PROBE: the probe of an UNOBSERVED point in frames u + i × DRV_GLINT_INTERVAL, before the first period, slot or row slot (R225). -/
def execGlintProbe (point : Nat) (s : State) : Host.Outcome State Fault Refusal :=
  let x := pointGet s point
  let e := s.cfg.sense point
  let k := (s.cfg.taker point).getD (0, 0)
  .next (if measurable s point ∧ x.state = 4 ∧ e.2.1 ∧ !g6Shed s ∧ x.since ≤ s.frm.num
      ∧ (s.frm.num - x.since) % s.cfg.v drvGlintInterval = 0 ∧ x.probedIn ≠ s.frm.num + 1
      ∧ (drivenNow s point ≠ 0 ∨ e.2.2.1) ∧ !bitAt (SMap.get 0 s.src.fault k.1) k.2 ∧ probeAhead s point then
    placeProbe (pointPut s point { x with probedIn := s.frm.num + 1 }) point
  else s)

/-! ### Latch, edge and entry into RUN -/

/-- A point back at UNKNOWN, with what it keeps. -/
def toUnknown (x : Point) : Point :=
  { Point.empty with
    lastClass := x.lastClass, verified := x.verified, forced := x.forced, report := x.report, onNs := x.onNs, probing := x.probing
    measured := x.measured, probedIn := x.probedIn, rise := x.rise, by_ := x.by_ }

/-- Every point at UNKNOWN: entry into RUN, and SHADOW (Table 9-3, R224). -/
def resetPoints (s : State) : State :=
  s.drv.points.foldl (fun a x => pointPut a x.1 (toUnknown (pointGet a x.1))) s

/-- The points of a fixture: those it takes, and those at which an emitter of it was forced off. -/
def pointsOf (s : State) (c : Store) (fixture : Nat) : List Nat :=
  ((c.points.filter fun x => x.2.1 = fixture).map (·.1) ++ (s.drv.points.filter fun x => x.2.by_ == some fixture).map (·.1)).dedup

/-- FIX_FAULT_CLEAR at L(k): the fixture's points to UNKNOWN (R223). -/
def clearPoints (s : State) (c : Store) (fixture : Nat) : State :=
  (pointsOf s c fixture).foldl (fun a p => pointPut a p (toUnknown (pointGet a p))) s

/-- FIX_FAULT_CLEAR at E(k), or a MODEL change: the forced inactive state ends (R222, R223). -/
def unforce (s : State) (c : Store) (fixture : Nat) : State :=
  (pointsOf s c fixture).foldl (fun a p => pointPut a p { pointGet a p with forced := false, by_ := none }) s

/-- One point at an edge that commits `new` after `old`: UNKNOWN where Table 9-3 says so, and the count of presented frames without a
measurement, a repeat of R49 being none. -/
def pointEdge (s : State) (old new : Store) (p : Nat) : State :=
  let x := pointGet s p
  let was := old.taker p
  let is := new.taker p
  let model (c : Store) (k : Option (Nat × Nat)) : Option Nat := k.map fun k => fxModel (c.row fixTable k.1)
  let moved := is.isSome && decide (was ≠ is)
  let remodelled := is.isSome && !moved && decide (model old was ≠ model new is)
  let sensed := (new.sense p).1 && !(old.sense p).1
  let y := if moved || remodelled || sensed then toUnknown { x with forced := x.forced && !remodelled } else x
  let watched := (old.sense p).1 && was.isSome
  pointPut s p { y with
    idle := if !watched ∨ x.own then 0 else y.idle + b2n (s.drv.fresh && !(moved || remodelled || sensed))
    own := false }

/-- The channels that are on. -/
def channelsOn (c : Store) : List Nat := (List.range 48).filter fun ch => modeOf (c.row drvChan ch) ≠ 0

/-- Points to go through at an edge: those taken before or after it and those that hold something. -/
def pointsAt (s : State) (old new : Store) : List Nat :=
  ((old.points.map (·.1)) ++ (new.points.map (·.1)) ++ s.drv.points.map (·.1)).dedup

/-- A pin at an edge: drive and n_on of the frame unless it is a repeat; the period grid and the accumulator restart (R211 to R213). -/
def pinEdge (s : State) (c : Store) (o : FrameOut) (slipped : Bool) (ch : Nat) : State :=
  let r := c.row drvChan ch
  let x := pinGet s ch
  let out := if slipped then x.out else pointDrive c o ch
  pinPut s ch { x with
    out := out
    nOn := if slipped then x.nOn else if modeOf r = 1 then pwmOn out (u32At r 4) (u16At r 2) else 0
    acc := 0x8000
    index := 0
    probe := 0 }

/-- The buffer of a frame for the matrix: drives by row × 32 + column. -/
def mxBuffer (c : Store) (o : FrameOut) : SMap Nat :=
  (List.range c.matrixSize.1).foldl (fun m r =>
    (List.range c.matrixSize.2).foldl (fun m k => SMap.put 0 m (r * 32 + k) (pointDrive c o (48 + r * 32 + k))) m) []

/-- Consecutive frames without an accepted MSYNC edge, after the one that ends (R218). -/
def msyncNext (s : State) : Nat := if s.drv.live ∧ mxMode s = 2 ∧ !s.drv.msyncSeen then s.drv.msyncIdle + 1 else 0

/-- The matrix at E(k), to run under a parameter set from now on (R218, R219). -/
def mxEdge (s : State) (c : Store) (o : FrameOut) (slipped : Bool) : State :=
  let mode := modeOf (c.row drvMatrix 0)
  let s0 := { s with drv := { s.drv with msyncSeen := false, msyncIdle := msyncNext s, probes := [], staged := [] } }
  if mode = 0 then { s0 with drv := { s0.drv with matrix := [], eligible := none, slots := 0, msyncAt := none, msyncIdle := 0 } }
  else if mode = 1 then mxSwap s0 (if slipped then s.drv.matrix else mxBuffer c o) s.frm.last
  else if slipped then s0
  else
    let s2 := if s.drv.eligible.isSome then drvCount s0 2 else s0
    { s2 with drv := { s2.drv with eligible := some (mxBuffer c o) } }

/-- Direct drive at an edge that commits `new` after `old`: `c` and `o` are the set and the outputs of the frame presented. A slipped
frame, and a unit that holds its last buffer after giving up, keep the set and the drives they had; grids and accumulators restart at every
edge (R211 to R213, R219, R373). -/
def drvEdge (s : State) (old new c : Store) (o : FrameOut) (slipped : Bool) : State :=
  let keep := slipped || s.red.holding
  let d := if keep then s.drv.cfg else c
  let s1 := (List.range 48).foldl (fun a ch =>
    if modeOf (d.row drvChan ch) = 0 then pinPut a ch Pin.empty else pinEdge a d o keep ch) s
  let s2 := (pointsAt s old new).foldl (fun a p => pointEdge a old new p) (mxEdge s1 d o keep)
  { s2 with drv := { s2.drv with cfg := d, live := drvLive s2, fresh := drvLive s2 && !keep } }

/-- Direct drive at an edge after which nothing is presented. -/
def drvRest (s : State) : State := { s with drv := { s.drv with live := false, fresh := false } }

/-! ### Checks (R207, R208, R210, R216) -/

/-- The last channel of the group of a TYPE 0x7 strand on channel `ch` (R207). -/
def groupEnd (c : Store) (ch : Nat) : Nat :=
  let nexts := c.strands.filterMap fun x =>
    if stType x.2 = 7 ∧ ch < stEnd x.2 ∧ stEnd x.2 < 48 then some (stEnd x.2 - 1) else none
  let claimed := (List.range 48).filterMap fun k => if ch < k ∧ c.matrixClaims k then some (k - 1) else none
  (nexts ++ claimed ++ [47]).min?.getD 47

/-- Enabled fixtures on direct drive (R207, R208). -/
def checkGroups (c : Store) : List Err :=
  c.fixtures.flatMap fun x =>
    let st := c.row stdTable (fxStrand x.2)
    if stType st ≠ 7 ∨ c.matrixRow (stEnd st) then []
    else
      let n := mdEmitters (c.row modTable (fxModel x.2))
      errIf (decide (fxSlot x.2 < stEnd st) || decide (groupEnd c (stEnd st) + 1 < fxSlot x.2 + n)) (viol .eRange fixTable.id x.1)
      ++ errIf ((List.range n).any fun k => modeOf (c.row drvChan (fxSlot x.2 + k)) == 0) (viol .eParam fixTable.id x.1)

/-- The claims of the matrix (R208). -/
def checkClaims (o c : Store) : List Err :=
  let both := (List.range 48).filter fun ch => c.matrixClaims ch && modeOf (c.row drvChan ch) != 0
  (both.flatMap fun ch => errIf (c.row drvChan ch != o.row drvChan ch) (violO drvChan.id ch drvMatrix.id 0))
  ++ (match both with
    | ch :: _ => errIf (c.row drvMatrix 0 != o.row drvMatrix 0) (violO drvMatrix.id 0 drvChan.id ch)
    | [] => [])
  ++ c.strands.flatMap fun x => errIf (stType x.2 == 7 && decide (stEnd x.2 < c.matrixSize.2)) (violO stdTable.id x.1 drvMatrix.id 0)

/-- The periods against T (R210, R216). -/
def checkPeriods (o c : Store) : List Err :=
  let m := c.row drvMatrix 0
  ((List.range 48).flatMap fun ch =>
    let r := c.row drvChan ch
    errIf (modeOf r == 1 && decide (shortT o c < ((u32At r 4 + 20000) * ns : Nat))) (viol .eRange drvChan.id ch))
  ++ errIf (modeOf m != 0 && decide (shortT o c < ((byteAt m 1 * u32At m 4 + 20000) * ns : Nat))) (viol .eRange drvMatrix.id 0)

/-- The checks of the direct drive chapter. -/
def checkDrive (o c : Store) : List Err := checkGroups c ++ checkClaims o c ++ checkPeriods o c

end Sys2Proof.Machine
end

