-- ==== Sys2Proof/Machine/Fabric.lean ====
section
/-! DEFINITION. The fabric margin and the delay lines (22.1, 22.2): passes, handovers, calibrations and retirement. -/

namespace Sys2Proof.Machine

/-! ### The fabric margin -/

/-- The margin measured over a frame whose edge is now: MIN, and LOW_FRAMES for a presented frame below 1.00 (R481, R482). -/
def fabricEdge (s : State) (m : Nat) (presented : Bool) : State :=
  let x := m % 65536
  { s with fab := {
      margin := x
      min := min s.fab.min x
      low := if presented && decide (x < 256) then sat32 s.fab.low 1 else s.fab.low } }

/-! ### Lines -/

/-- A line as it is made: position 8 of a group is an idle spare. -/
def lineNew (n : Nat) : Line := if n % 9 = 8 then { Line.inService with state := 1 } else Line.inService

/-- A delay line: position 8 of a group is its spare (R483). -/
def lineGet (s : State) (n : Nat) : Line :=
  SMap.get (lineNew n) s.cal.lines n

/-- The block with a delay line replaced. -/
def linePut (s : State) (n : Nat) (x : Line) : State :=
  { s with cal := { s.cal with lines := SMap.put (lineNew n) s.cal.lines n x } }

/-- CAL_COUNTERS advanced: 0 PASSES, 1 DISAGREE, 2 RETIRED, 3 NO_SPARE, 4 POSTPONED. -/
def calCount (s : State) (k n : Nat) : State := { s with cal := { s.cal with cnt := bump s.cal.cnt k n } }

/-- The spare of a group serves no line and is not retired. -/
def spareIdle (s : State) (g : Nat) : Bool := (lineGet s (g * 9 + 8)).state == 1

/-- The place of a group's pass: 0 its spare, 1 to 8 its lines, 9 done. -/
def calPos (s : State) (g : Nat) : Nat := SMap.get 9 s.cal.pos g

/-- The block with the place of a group's pass replaced. -/
def calPosPut (s : State) (g p : Nat) : State := { s with cal := { s.cal with pos := SMap.put 9 s.cal.pos g p } }

/-! ### Handover and retirement at an edge (R487, R488) -/

/-- The line or spare that calibrated in the frame before the edge: it is retired at its third failure, and otherwise takes its
duties back. -/
def lineBack (s : State) (n : Nat) : State :=
  let x := lineGet s n
  let g := n / 9
  if n % 9 = 8 then
    if 3 ≤ x.fails then calCount (linePut s n { x with state := 3 }) 2 1 else s
  else if 3 ≤ x.fails then calCount (linePut s n { x with state := 3 }) 2 1
  else linePut (linePut s n { x with state := 0 }) (g * 9 + 8) { lineGet s (g * 9 + 8) with state := 1, replaces := 0xFF }

/-- The next line of a group from a position on that is not retired. -/
def nextLine (s : State) (g p : Nat) : Option Nat := (List.range 8).find? fun n => p ≤ n + 1 ∧ (lineGet s (g * 9 + n)).state ≠ 3

/-- Lines of a group from a position on that a pass without a spare passes over. -/
def linesLeft (s : State) (g p : Nat) : Nat := ((List.range 8).filter fun n => p ≤ n + 1 ∧ (lineGet s (g * 9 + n)).state ≠ 3).length

/-- The calibration that a group begins at an edge (R485, R487, R488). -/
def groupBegin (s : State) (g : Nat) : State :=
  let p := calPos s g
  let spare := g * 9 + 8
  if 9 ≤ p then s
  else if !spareIdle s g then calPosPut (calCount s 3 (linesLeft s g p)) g 9
  else if p = 0 then calPosPut { s with cal := { s.cal with now := s.cal.now ++ [spare] } } g 1
  else if s.cal.spareFailed.elem g then calPosPut s g 9
  else match nextLine s g p with
    | none => calPosPut s g 9
    | some n =>
      let s1 := linePut (linePut s (g * 9 + n) { lineGet s (g * 9 + n) with state := 2 }) spare
        { lineGet s spare with state := 4, replaces := n }
      calPosPut { s1 with cal := { s1.cal with now := s1.cal.now ++ [g * 9 + n] } } g (n + 2)

/-- Every group has ended its pass. -/
def passDone (s : State) : Bool := (List.range 9).all fun g => calPos s g == 9

/-- The calibrations that begin at an edge of a pass; none while G6 is shed (R485). -/
def calBegin (s : State) : State :=
  if !s.cal.running then s
  else if g6Shed s then (if passDone s then s else calCount s 4 1)
  else (List.range 9).foldl groupBegin s

/-- A pass that has nothing left ends. -/
def calEnd (s : State) : State :=
  if s.cal.running ∧ s.cal.now = [] ∧ passDone s then calCount { s with cal := { s.cal with running := false } } 0 1 else s

/-- What the delay lines do at an edge: the handovers of the frame before end, and those of the next begin (R485, R487). -/
def calEdge (s : State) : State :=
  let s1 := s.cal.now.foldl lineBack s
  calEnd (calBegin { s1 with cal := { s1.cal with now := [] } })

/-- A pass starts at the most recent edge (R485, R490). -/
def calStartPass (s : State) : State :=
  calBegin { s with cal := { s.cal with
    running := true, startAt := s.tim.up, spareFailed := [], pos := [(0, 0), (1, 0), (2, 0), (3, 0), (4, 0), (5, 0), (6, 0), (7, 0), (8, 0)] } }

/-- CAL_PASS_START (R485): CAL_INTERVAL has elapsed since the start of the previous pass. -/
def execCalPassStart (s : State) : Host.Outcome State Fault Refusal :=
  .next (if s.frm.running ∧ s.frm.begun ∧ !s.cal.running ∧ s.cal.startAt + s.cfg.v calInterval * sec ≤ s.tim.up then calStartPass s else s)

/-! ### Calibrations (R486) -/

/-- The outcome of a calibration's attempts put into the line: up to four, the first that agrees ends it. -/
def calResult (s : State) (n : Nat) (attempts : List Bool) : State :=
  let tried := attempts.take 4
  let bad := (tried.takeWhile fun b => !b).length
  let x := lineGet s n
  let s1 := calCount s 1 bad
  if tried.any id then linePut s1 n { x with fails := 0, lastPass := optimeNow s / 1000 % 4294967296 }
  else
    let s2 := linePut s1 n { x with fails := min 3 (x.fails + 1) }
    if n % 9 = 8 then { s2 with cal := { s2.cal with spareFailed := s2.cal.spareFailed ++ [n / 9] } } else s2

/-- CAL_LINE_CALIBRATE (R486, R488): a line that calibrates in the present frame. -/
def execCalLineCalibrate (line : Nat) (attempts : List Bool) (s : State) : Host.Outcome State Fault Refusal :=
  .next (if s.cal.now.elem line ∧ attempts ≠ [] then calResult s line attempts else s)

/-! ### Dawn (R489) -/

/-- A line that fails at dawn, where no handover is made. -/
def dawnFailLine (s : State) (n : Nat) : State :=
  let x := lineGet s n
  let s1 := calCount s 1 4
  if x.fails < 2 then linePut s1 n { x with fails := x.fails + 1 }
  else if n % 9 = 8 then
    if x.state = 1 then calCount (linePut s1 n { x with state := 3, fails := 3 }) 2 1 else s1
  else if spareIdle s (n / 9) then
    calCount (linePut (linePut s1 n { x with state := 3, fails := 3 }) (n / 9 * 9 + 8)
      { lineGet s (n / 9 * 9 + 8) with state := 4, replaces := n % 9 }) 2 1
  else linePut s1 n { x with state := 5 }

/-- A line that passes at dawn. -/
def dawnPassLine (s : State) (n : Nat) : State :=
  let x := lineGet s n
  linePut s n { x with fails := 0, lastPass := optimeNow s / 1000 % 4294967296, state := if x.state = 5 then 0 else x.state }

/-- Step D6's calibration of every line that is not retired, spares included. -/
def calDawn (s : State) (bad : List Nat) : State :=
  let s1 := (List.range 81).foldl (fun a n =>
    if (lineGet a n).state = 3 then a else if bad.elem n then dawnFailLine a n else dawnPassLine a n) s
  calCount { s1 with cal := { s1.cal with running := false, startAt := s1.tim.up, pos := [], spareFailed := [], now := [] } } 0 1

/-- Lines as MRAM keeps them over a restart: a line whose handover was cut short is in service again, with its spare idle. -/
def calKeep (s : State) : State :=
  (List.range 81).foldl (fun a n =>
    let x := lineGet a n
    if n % 9 = 8 then a
    else if x.state = 2 then linePut (linePut a n { x with state := 0 }) (n / 9 * 9 + 8)
      { lineGet a (n / 9 * 9 + 8) with state := 1, replaces := 0xFF }
    else a) s

end Sys2Proof.Machine
end

