-- ==== Sys2Proof/Machine/RadFrame.lean ====
section
/-! DEFINITION. Frames of IEEE 802.15.4 as a radio port receives them (10 10.5): the header taken apart, and the CCM* check and decryption.
The frame formats are those of IEEE 802.15.4: PRESUMED, log entry 41. Unsafe. -/

namespace Sys2Proof.Machine

/-- A received frame: source address, security fields, sequence number, acknowledgement request, the header up to the payload with its
auxiliary security header and header IEs, what follows up to the FCS, and whether payload IEs come first. -/
structure MacFrame where
  srcExt : Option Nat
  srcShort : Option Nat
  secured : Bool
  level : Nat
  keyMode : Nat
  fcSuppressed : Bool
  fc : Nat
  dsn : Nat
  ackReq : Bool
  head : List Byte
  body : List Byte
  fcs : List Byte
  payloadIes : Bool
  deriving DecidableEq, Repr

/-- The nonce of a secured frame: source extended address, frame counter, security level (R243). -/
def macNonce (ext fc level : Nat) : List Byte := beBytes 8 ext ++ beBytes 4 fc ++ leBytes 1 level

/-- Bytes of an address by its mode: none, short, extended. -/
def addrLen (mode : Nat) : Nat := if mode = 2 then 2 else if mode = 3 then 8 else 0

/-- Whether the destination and the source PAN ID are there, from the frame version, the two address modes and PAN ID Compression. -/
def panIds (version dest src : Nat) (comp : Bool) : Bool × Bool :=
  if version = 2 then
    if dest = 0 ∧ src = 0 then (comp, false)
    else if src = 0 then (!comp, false)
    else if dest = 0 then (false, !comp)
    else if dest = 3 ∧ src = 3 then (!comp, false)
    else (true, !comp)
  else (dest != 0, src != 0 && !(comp && dest != 0))

/-- Bytes of the header IEs at the front, and whether payload IEs follow them: the list ends with a termination IE or the frame. -/
def headerIes : Nat → List Byte → Nat × Bool
  | 0, _ => (0, false)
  | fuel + 1, b =>
    if b.length < 2 then (0, false)
    else
      let d := leAt b 0 2
      let n := 2 + d % 128
      if d / 128 % 256 = 0x7E then (n, true)
      else if d / 128 % 256 = 0x7F then (n, false)
      else
        let r := headerIes fuel (b.drop n)
        (n + r.1, r.2)

/-- Bytes of the payload IEs at the front, up to their termination IE. -/
def payloadIeLen : Nat → List Byte → Nat
  | 0, _ => 0
  | fuel + 1, b =>
    if b.length < 2 then 0
    else
      let d := leAt b 0 2
      let n := 2 + d % 2048
      if d / 2048 % 16 = 15 then n else n + payloadIeLen fuel (b.drop n)

/-- Bytes of the key identifier by its mode. -/
def keyIdLen (mode : Nat) : Nat := if mode = 0 then 0 else if mode = 1 then 1 else if mode = 2 then 5 else 9

/-- A PSDU taken apart; none where its FCS is wrong or its header is cut short. -/
def parseMac (b : List Byte) : Option MacFrame :=
  let m := b.take (b.length - 4)
  let fcs := b.drop (b.length - 4)
  let fcf := leAt b 0 2
  let version := bitsAt fcf 12 2
  let dm := bitsAt fcf 10 2
  let sm := bitsAt fcf 14 2
  let pans := panIds version dm sm (bitAt fcf 6)
  let seq := if version = 2 ∧ bitAt fcf 8 then 0 else 1
  let srcAt := 2 + seq + b2n pans.1 * 2 + addrLen dm + b2n pans.2 * 2
  let aux := srcAt + addrLen sm
  let secured := bitAt fcf 3
  let ctl := if secured then byteOf m aux else 0
  let sup := bitAt ctl 5
  let ies := aux + (if secured then 1 + (if sup then 0 else 4) + keyIdLen (bitsAt ctl 3 2) else 0)
  let ie := if version = 2 ∧ bitAt fcf 9 then headerIes m.length (m.drop ies) else (0, false)
  let head := ies + ie.1
  if b.length < 4 ∨ fcs ≠ leBytes 4 (crc32 m) ∨ m.length < head then none
  else some {
    srcExt := if sm = 3 then some (leAt m srcAt 8) else none
    srcShort := if sm = 2 then some (leAt m srcAt 2) else none
    secured := secured, level := bitsAt ctl 0 3, keyMode := bitsAt ctl 3 2, fcSuppressed := sup
    fc := if secured ∧ !sup then leAt m (aux + 1) 4 else 0
    dsn := if seq = 1 then byteOf m 2 else 0, ackReq := bitAt fcf 5
    head := m.take head, body := m.drop head, fcs := fcs, payloadIes := ie.2 }

/-- The payload of a frame from an extended address under a key, without its MIC: none where the counter is suppressed, the key identifier
mode is not 1 or the MIC fails (R243, R246). -/
def openMac (key : List Byte) (ext : Nat) (f : MacFrame) : Option (List Byte) :=
  let mic := micBytes f.level
  let text := f.body.take (f.body.length - mic)
  let nonce := macNonce ext f.fc f.level
  if f.secured = false then some f.body
  else if f.fcSuppressed ∨ f.keyMode ≠ 1 then none
  else if f.level = 0 then some f.body
  else if f.level < 4 then (if mic ≤ f.body.length ∧ ccmSeal key nonce (f.head ++ text) [] mic = f.body.drop (f.body.length - mic) then some text else none)
  else ccmOpen key nonce f.head f.body mic

/-- What the luminaire's report or another payload holds behind the payload IEs. -/
def macPayload (f : MacFrame) (text : List Byte) : List Byte := if f.payloadIes then text.drop (payloadIeLen text.length text) else text

end Sys2Proof.Machine
end

