-- ==== Sys2Proof/Machine/RadioMac.lean ====
section
/-! DEFINITION. Radio ports and TSCH medium access (10), frames and slots: the choice of a cell, key and duty-cycle rules, frames sent,
and what a host frame and a command frame go through. -/

namespace Sys2Proof.Machine

/-! ### Port and keys -/

/-- A radio port. -/
def radGet (s : State) (p : Nat) : RadioPort := SMap.get RadioPort.empty s.rad.ports p

/-- The block with a radio port replaced. -/
def radPut (s : State) (p : Nat) (x : RadioPort) : State := { s with rad := { s.rad with ports := SMap.put RadioPort.empty s.rad.ports p x } }

/-- RAD_COUNTERS: RX 0, DUP 1, REPLAY 2, MIC_FAIL 3, RX_FULL 4, ACK_MISSED 5, DEFER 6, ACK_DEFERRED 7, XCVR_LATE 8, LOST 9, REJOIN 10,
ACT_LATE 11, KEY_STALE 12, RESEND 13. -/
def radCount (s : State) (p k n : Nat) : State := radPut s p { radGet s p with cnt := bump (radGet s p).cnt k n }

/-- The block with a neighbour replaced. -/
def neighPut (s : State) (i : Nat) (x : Neigh) : State := { s with rad := { s.rad with neigh := SMap.put Neigh.empty s.rad.neigh i x } }

/-- The ports transmit and receive: in READY and RUN (R231). -/
def radioLive (s : State) (p : Nat) : Bool :=
  decide (p < 4) && (s.dev.state == .ready || s.dev.state == .run) && modeOf (s.cfg.row radPort p) != 0

/-- A key slot may secure frames: its generation is the one recorded, and it is VALID at its use (R245, R414). -/
def keyGood (s : State) (key gen : Nat) : Bool :=
  (SMap.get KeySlot.empty s.sec.slots key).gen == gen && keyState s key == 1 && !s.sec.error && !s.sec.tampered

/-- The next value of a key slot's outgoing frame counter (R244). -/
def fcOf (s : State) (key : Nat) : Nat := SMap.get 0 s.rad.fc key

/-- A frame refused for its key's generation: KEY_STALE, and RADIO_KEY_STALE once per entry (R245). -/
def keyStale (s : State) (p key : Nat) : State := logEntry (radCount s p 12 1) true 0x0704 (p * 4096 + key) p key 0

/-- Airtime charged to a band at the second of an SFD (R247). -/
def charge (s : State) (band second time : Nat) : State :=
  if bitAt (s.cfg.row radBand band) 16 then
    { s with rad := { s.rad with buckets := SMap.upd 0 s.rad.buckets (band * 2 ^ 40 + second) (· + time) } }
  else s

/-- A transmission of `time` µs whose SFD falls in a second fits the band's budget (R247, R248). -/
def inBudget (s : State) (band second time : Nat) : Bool :=
  !bitAt (s.cfg.row radBand band) 16 || decide (bandUse s band second + time ≤ u16At (s.cfg.row radBand band) 0 * 360000)

/-! ### Frames on the air -/

/-- PSDU bytes of a frame to a short address: header, auxiliary security header, payload, MIC, FCS. -/
def psduLen (level payload : Nat) : Nat := 15 + (if level = 0 then 0 else 6) + payload + micBytes level + 4

/-- The MAC header to a short address with the extended source address (10.7). -/
def macHeader (port dsn dest : Nat) (panId : Nat) (ack sec : Bool) : List Byte :=
  leBytes 2 (1 + b2n sec * 8 + b2n ack * 32 + 64 + 2 * 1024 + 2 * 4096 + 3 * 16384) ++ leBytes 1 dsn ++ leBytes 2 panId ++ leBytes 2 dest
    ++ leBytes 8 (Config.extAddr port)

/-- A PSDU of a header, header IEs and a payload, secured at a level under a key slot and its next counter value (R243), with its FCS. -/
def sealPsdu (s : State) (port level key : Nat) (header ies payload : List Byte) : List Byte :=
  let fc := fcOf s key
  let k := (SMap.get KeySlot.empty s.sec.slots key).key
  let aux := leBytes 1 (level + 8) ++ leBytes 4 fc ++ leBytes 1 key
  let nonce := macNonce (Config.extAddr port) fc level
  let body := if level = 0 then header ++ ies ++ payload
    else if level < 4 then header ++ aux ++ ies ++ payload ++ ccmSeal k nonce (header ++ aux ++ ies ++ payload) [] (micBytes level)
    else header ++ aux ++ ies ++ ccmSeal k nonce (header ++ aux ++ ies) payload (micBytes level)
  body ++ leBytes 4 (crc32 body)

/-- A beacon: header without destination, and the TSCH synchronisation IE with the ASN. PRESUMED, log entry 41. Unsafe. -/
def beaconPsdu (s : State) (port asn dsn : Nat) : List Byte :=
  let body := leBytes 2 (512 + 2 * 4096 + 3 * 16384) ++ leBytes 1 dsn ++ leBytes 2 (u16At (s.cfg.row radPort port) 26)
    ++ leBytes 8 (Config.extAddr port) ++ leBytes 2 0x3F00 ++ leBytes 2 0x8808 ++ leBytes 2 0x1A06 ++ leBytes 5 asn ++ leBytes 1 0
  body ++ leBytes 4 (crc32 body)

/-- A counter value used (R244). -/
def useFc (s : State) (key : Nat) : State := { s with rad := { s.rad with fc := SMap.put 0 s.rad.fc key (fcOf s key + 1) } }

/-! ### Cells (R233 to R236) -/

/-- The hop entry of a cell at a slot (R233). -/
def hopOf (c : Store) (p chOff : Nat) (n : Int) : Nat := c.row radHop (p * 128 + (asnOf n + chOff) % max 1 (byteAt (c.row radPort p) 23))

/-- Cells of a port that are active in a slot, in the order of slotframe handle and cell index: index and record (10.3, R236). Cells of a
LOST neighbour are suspended (R240). -/
def activeCells (s : State) (p : Nat) (n : Int) : List (Nat × Nat) :=
  let cells := (s.cfg.listed radCell).filterMap fun i =>
    let r := s.cfg.row radCell i
    let len := u16At (s.cfg.row radSlotframe (p * 8 + bitsAt r 16 3)) 0
    let nb := u16At r 8
    if i / 16384 = p ∧ cellUsed r ∧ len ≠ 0 ∧ asnOf n % len = u16At r 4 ∧ !(nb < 4096 ∧ (neighOf s (p * 4096 + nb)).state = 2)
    then some (i % 16384, r) else none
  (List.range 8).flatMap fun h => cells.filter fun x => bitsAt x.2 16 3 = h

/-- A neighbour record's short address. -/
def shortOf (c : Store) (p nb : Nat) : Nat := u16At (c.row radNeigh (p * 4096 + nb)) 12

/-- What a TX cell could send: kind, security level and key slot, the generation recorded for it, host frame, command frame, payload,
PSDU bytes, acknowledgement. -/
structure Offer where
  what : Nat
  level : Nat
  key : Nat
  gen : Nat
  host : Option HostFrame
  cmd : Option BuiltFrame
  payload : List Byte
  psdu : Nat
  ack : Bool
  deriving DecidableEq, Repr

/-- A queued host frame as an offer (10.8): a broadcast goes under CMD_KEY. -/
def hostOffer (s : State) (p : Nat) (f : HostFrame) : Offer :=
  let r := s.cfg.row radPort p
  let b := f.neigh = 0xFFFF
  { what := 1, level := f.level, key := if b then u16At r 28 else u16At (s.cfg.row radNeigh (p * 4096 + f.neigh)) 14
    gen := if b then (radGet s p).keyGen else (neighOf s (p * 4096 + f.neigh)).keyGen
    host := some f, cmd := none, payload := f.payload, psdu := psduLen f.level f.payload.length, ack := f.ack }

/-- The oldest frame of the host queue that a cell's QUEUE and NEIGH offer: of a neighbour that is ACTIVE (R236, R240). -/
def hostFor (s : State) (p : Nat) (cellRec : Nat) : Option HostFrame :=
  let nb := u16At cellRec 8
  let q := (radGet s p).queue
  match byteAt cellRec 7 with
  | 0 => q.find? fun f => f.neigh != 0xFFFF && (nb == 0xFFFF || f.neigh == nb) && (neighOf s (p * 4096 + f.neigh)).state == 1
  | 2 => q.find? fun f => f.neigh == 0xFFFF
  | _ => none

/-- The one frame that a TX cell offers: that of its queue, and otherwise a beacon (R236). -/
def offerOf (s : State) (p : Nat) (n : Int) (cell : Nat × Nat) : Option Offer :=
  let x := radGet s p
  let r := s.cfg.row radPort p
  let command := if byteAt cell.2 7 = 1 ∧ s.dev.state = .run then
      (x.built.filter fun b => b.n == n).map fun b =>
        { what := 2, level := bitsAt r 240 3, key := u16At r 28, gen := x.keyGen, host := none, cmd := some b, payload := b.payload
          psdu := commandPsdu r b.payload.length, ack := false }
    else none
  let beacon := if bitAt cell.2 28 ∧ (SMap.get 0 x.beacons cell.1 + 1) % max 1 (u16At r 24) = 0 then
      some { what := 3, level := 0, key := 0, gen := 0, host := none, cmd := none, payload := [], psdu := 29, ack := false }
    else none
  (((hostFor s p cell.2).map (hostOffer s p)).or command).or beacon

/-- Why an offer cannot go out in a slot: 0 it can, 1 deferred by the duty cycle, 2 stale key, 3 exhausted counter. -/
def offerFault (s : State) (p : Nat) (n : Int) (band : Nat) (o : Offer) : Nat :=
  let r := s.cfg.row radPort p
  if o.level ≠ 0 ∧ !keyGood s o.key o.gen then 2
  else if o.level ≠ 0 ∧ 0x100000000 ≤ fcOf s o.key then 3
  else if !inBudget s band ((asnStart s.cfg n + u16At r 8 * us) / sec) (airtime r o.psdu) then 1 else 0

/-- What the port books of an offer that cannot go out (R244, R245, R248, R249). -/
def bookFault (s : State) (p : Nat) (o : Offer) (fault : Nat) : State :=
  if fault = 1 then
    let x := radGet (radCount s p 6 1) p
    radPut (radCount s p 6 1) p { x with civicSince := if o.cmd.any (·.civic) ∧ x.civicSince.isNone then some s.tim.now else x.civicSince }
  else if fault = 2 then keyStale s p o.key
  else if fault = 3 then logEntry s true 0x0703 o.key p o.key 0
  else s

/-- The first TX cell of a list that has a frame to send: SHARED cells observe the back-off, and a cell whose frame is deferred or refused
offers nothing (R236, R244, R245, R248). -/
def firstTx (p : Nat) (n : Int) : List (Nat × Nat) → State → State × Option (Nat × Nat × Offer)
  | [], s => (s, none)
  | cell :: rest, s =>
    match offerOf s p n cell with
    | none => firstTx p n rest s
    | some o =>
      if bitAt cell.2 26 ∧ (radGet s p).backoff ≠ 0 then
        firstTx p n rest (radPut s p { radGet s p with backoff := (radGet s p).backoff - 1 })
      else
        match offerFault s p n (bitsAt (hopOf s.cfg p (byteAt cell.2 6) n) 8 3) o with
        | 0 => (s, some (cell.1, cell.2, o))
        | f => firstTx p n rest (bookFault s p o f)

/-- Occurrences of ADVERTISING cells counted for EB_DIV. -/
def countBeacons (s : State) (p : Nat) (cells : List (Nat × Nat)) : State :=
  radPut s p { radGet s p with
    beacons := (cells.filter fun x => bitAt x.2 28).foldl (fun m x => SMap.upd 0 m x.1 (· + 1)) (radGet s p).beacons }

/-- The one cell that the port runs in slot `n` (R236). -/
def chooseCell (s : State) (p : Nat) (n : Int) : State × Option Slot :=
  let cells := activeCells s p n
  let mk (i r : Nat) (o : Option Offer) : Slot :=
    let hop := hopOf s.cfg p (byteAt r 6) n
    let cmd := o.bind (·.cmd)
    { n := n, cell := i, channel := hop % 256, band := bitsAt hop 8 3, what := (o.map (·.what)).getD 0, level := (o.map (·.level)).getD 0
      key := (o.map (·.key)).getD 0, host := o.bind (·.host), payload := (o.map (·.payload)).getD [], items := (cmd.map (·.items)).getD []
      act := (cmd.map (·.act)).getD 0, late := (cmd.map (·.late)).getD 0, psdu := (o.map (·.psdu)).getD 0, ack := (o.map (·.ack)).getD false
      frame := [], started := false, done := false }
  match firstTx p n (cells.filter fun x => bitAt x.2 24) s with
  | (s1, some (i, r, o)) => (countBeacons s1 p cells, some (mk i r (some o)))
  | (s1, none) =>
    (countBeacons s1 p cells, ((cells.filter fun x => bitAt x.2 25).head?).map fun x => mk x.1 x.2 none)

/-! ### Guard (R239) -/

/-- g in µs after a time without contact (R239). -/
def guardOf (r : Nat) (dt : Time) : Nat := u16At r 20 + (2 * byteAt r 22 * dt + 1000000 * us - 1) / (1000000 * us)

/-- The listening interval of a cell in a slot: from, to (R239). -/
def listens (s : State) (p : Nat) (n : Int) (cellRec : Nat) : Int × Int :=
  let r := s.cfg.row radPort p
  let mid : Int := (asnStart s.cfg n + u16At r 8 * us : Nat)
  let half : Int := (u16At r 10 * us / 2 : Nat)
  let nb := u16At cellRec 8
  if 4095 < nb then (mid - half, mid + half)
  else
    let x := neighOf s (p * 4096 + nb)
    let g : Int := if x.open_ then half else (guardOf r (s.tim.now - x.contact) * us : Nat)
    let m := mid + x.offset * (ns : Int)
    (max (mid - half) (m - g), min (mid + half) (m + g))

/-! ### The slot (R230, R231) -/

/-- The slot whose preparation comes next: the first one whose preparation instant has not passed. -/
def nextSlot (s : State) (p : Nat) : Int :=
  let c := s.cfg
  let t := s.tim.now + 1000 * us
  let n := if asnStart c (radSlotAt c t) = t then radSlotAt c t else radSlotAt c t + 1
  match (radGet s p).slot with
  | some x => max n (x.n + 1)
  | none => n

/-- The bytes that begin an operation: PREFIX and ALEN bytes of ADDR, the high byte first (Table 10-2). -/
def spiHead (op : Nat) : List Byte := leBytes 1 (byteAt op 1) ++ beBytes (bitsAt op 16 2) (u16At op 4)

/-- The length that goes before a PSDU: one byte, or for the longer PSDUs of SUN FSK two, the high byte first. DESIGN CHOICE, log entry
98. -/
def psduLength (port n : Nat) : List Byte := if byteAt port 1 = 3 then leBytes 1 n else beBytes 2 n

/-- An operation carried out with the slot's channel byte and PSDU (Table 10-2). -/
def scriptOp (port channel : Nat) (psdu : List Byte) (op : Nat) : Spi :=
  match byteAt op 0 with
  | 1 => .send (spiHead op ++ leBytes 1 (byteAt op 6))
  | 2 => .send (spiHead op ++ leBytes 1 channel)
  | 3 => .send (spiHead op ++ psduLength port psdu.length ++ psdu)
  | 4 => .fetch (spiHead op)
  | _ => .wait (u16At op 6 * 10)

/-- A sequence of a port's script from its first entry up to the first END: INIT 0, CHANNEL 16, TX_LOAD 32, RX_FETCH 48 (Table 10-2). -/
def runScript (s : State) (p first channel : Nat) (psdu : List Byte) : State :=
  let ops := ((List.range 16).map fun k => s.cfg.row radXcvr (p * 64 + first + k)).takeWhile fun op => byteAt op 0 != 0
  emit s (.script p first (ops.map (scriptOp (s.cfg.row radPort p) channel psdu)))

/-- The PSDU of the frame that a slot sends (10.7, 10.8). -/
def slotPsdu (s : State) (p : Nat) (x : Slot) : List Byte :=
  let dsn := (radGet s p).dsn
  let dest := match x.host with
    | some f => if f.neigh = 0xFFFF then 0xFFFF else shortOf s.cfg p f.neigh
    | none => 0xFFFF
  if x.what = 0 then []
  else if x.what = 3 then beaconPsdu s p (asnOf x.n) dsn
  else sealPsdu s p x.level x.key (macHeader p dsn dest (u16At (s.cfg.row radPort p) 26) x.ack (decide (x.level ≠ 0))) [] x.payload

/-- The latest instant by which a slot's scripts must have ended (R230). -/
def scriptsBy (s : State) (p : Nat) (x : Slot) : Int :=
  let r := s.cfg.row radPort p
  if x.what = 0 then (listens s p x.n (s.cfg.row radCell (p * 16384 + x.cell))).1
  else (asnStart s.cfg x.n + u16At r 8 * us : Nat) - (u16At r 16 * ns : Nat)

/-- RADIO_CELL_PREPARE: 1,000 µs before a slot the port chooses its cell and runs CHANNEL, and TX_LOAD for a transmission, whose PSDU takes
the next value of its frame counter; `scriptUs` is what the two take (R230, R244). -/
def execRadioCellPrepare (port scriptUs : Nat) (s : State) : Host.Outcome State Fault Refusal :=
  if !radioLive s port then .next s
  else
    let n := nextSlot s port
    let t := asnStart s.cfg n - 1000 * us
    let s0 := advance s t
    let s1 := radPut s0 port { radGet s0 port with slot := none, sfd := none, fetched := false }
    match chooseCell s1 port n with
    | (s2, none) => .next s2
    | (s2, some y) =>
      let x := { y with frame := slotPsdu s2 port y }
      let s3 := runScript s2 port 16 x.channel []
      let s4 := if x.what = 0 then s3 else runScript s3 port 32 x.channel x.frame
      if scriptsBy s2 port x < (t + scriptUs * us : Nat) then .next (radCount s4 port 8 1)
      else
        let s5 := if x.level = 0 then s4 else useFc s4 x.key
        .next (radPut s5 port { radGet s5 port with slot := some x })

/-- RADIO_SLOT_START: the slot begins, and the port runs the cell prepared for it (R232, R236). -/
def execRadioSlotStart (port : Nat) (s : State) : Host.Outcome State Fault Refusal :=
  match (radGet s port).slot with
  | none => .next s
  | some x =>
    if !radioLive s port ∨ x.started then .next s
    else
      let s0 := advance s (asnStart s.cfg x.n)
      .next (radPut s0 port { radGet s0 port with slot := some { x with started := true } })

/-- The host frame with a handle removed from a queue. -/
def dropFrame (q : List HostFrame) (f : HostFrame) : List HostFrame := q.erase f

/-- RAD_TX_DONE on Q28 (10.8): 0 ACKED, 1 SENT, 2 NO_ACK. -/
def txDone (s : State) (p status handle : Nat) : State :=
  notify s 0x0040 (leBytes 1 p ++ leBytes 1 status ++ leBytes 2 handle ++ leBytes 4 0)

/-- A pending entry once a command frame has carried it with an activation ASN. -/
def cmdSent (act : Nat) (m : SMap (Option CmdEntry)) (nb : Nat) : SMap (Option CmdEntry) :=
  match SMap.get none m nb with
  | none => m
  | some e => SMap.put none m nb (some { e with left := e.left - 1, sent := true, rejoin := false, last := some (e.values, act) })

/-- What a frame that has gone out changes: the host queue, the command store, ACT_LATE, the end of a civic deferral (R249, R253, R256). -/
def afterTx (s : State) (p : Nat) (x : Slot) : State :=
  let y := radGet s p
  match x.what, x.host with
  | 1, some f =>
    let s1 := radPut s p { y with queue := dropFrame y.queue f, awaiting := if f.ack then some f else y.awaiting }
    if f.ack then s1 else txDone s1 p 1 f.handle
  | 2, _ =>
    let civic := x.items.any fun nb => ((SMap.get none y.cmds nb).map (·.civic)).getD false
    let s1 := radPut s p { y with
      cmds := x.items.foldl (cmdSent x.act) y.cmds
      built := none
      cnt := bump y.cnt 11 x.late
      civicSince := if civic then none else y.civicSince }
    if civic then restoreG s1 2 0x0B13 p else s1
  | _, _ => s

/-- The instant of the trigger for an SFD instant (R231). -/
def trigAt (c : Store) (p : Nat) (sfd : Time) : Time := sfd - u16At (c.row radPort p) 16 * ns

/-- The SFD instant that a slot's transmission intends: TX_OFFSET into the slot (Table 10-1). -/
def slotSfd (c : Store) (p : Nat) (n : Int) : Time := asnStart c n + u16At (c.row radPort p) 8 * us

/-- RADIO_TXTRIG: the trigger at the intended SFD instant minus TX_LEAD; the frame goes out and its airtime is charged (R231, R247). -/
def execRadioTxtrig (port : Nat) (s : State) : Host.Outcome State Fault Refusal :=
  match (radGet s port).slot with
  | none => .next s
  | some x =>
    if !radioLive s port ∨ !x.started ∨ x.done ∨ x.what = 0 then .next s
    else
      let sfd := slotSfd s.cfg port x.n
      let s0 := advance s (trigAt s.cfg port sfd)
      let s1 := charge (emit s0 (.radio port (asnOf x.n) x.channel (trigAt s.cfg port sfd) x.frame)) x.band (sfd / sec)
        (airtime (s.cfg.row radPort port) x.psdu)
      .next (afterTx (radPut s1 port { radGet s1 port with
        slot := some { x with done := true }, dsn := ((radGet s port).dsn + 1) % 256 }) port x)

/-- RADIO_SFD_STAMP: the first edge after the trigger is that of the port's own transmission, whose SFD instant is the intended one; any
other is a reception's, at the stamp minus RX_LAT (R231). -/
def execRadioSfdStamp (port : Nat) (t : Time) (s : State) : Host.Outcome State Fault Refusal :=
  match (radGet s port).slot with
  | none => .next s
  | some x =>
    if !radioLive s port ∨ !x.started ∨ (x.what ≠ 0 ∧ x.done = false) then .next s
    else
      let s0 := advance s t
      let own : Bool := x.what != 0 && (radGet s port).sfd.isNone
      .next (radPut s0 port { radGet s0 port with
        sfd := some (if own then (false, slotSfd s.cfg port x.n) else (true, t - u16At (s.cfg.row radPort port) 18 * ns)) })

/-- RADIO_RX_FETCH: RPn_IRQ after a reception starts RX_FETCH; a fetch not complete when the next preparation begins loses the frame
(R230). -/
def execRadioRxFetch (port : Nat) (complete : Bool) (s : State) : Host.Outcome State Fault Refusal :=
  match (radGet s port).slot with
  | none => .next s
  | some x =>
    if !radioLive s port ∨ !x.started ∨ x.what ≠ 0 ∨ (radGet s port).sfd.isNone then .next s
    else
      let s1 := runScript s port 48 x.channel []
      if complete then .next (radPut s1 port { radGet s1 port with fetched := true })
      else .next (radCount (radPut s1 port { radGet s1 port with slot := none }) port 8 1)

/-! ### Acknowledgements received (R238, R256) -/

/-- The SFD instant of a reception: that of its edge on RPn_TSC, and where none was stamped the instant given (R231). -/
def heardAt (x : RadioPort) (given : Time) : Time := ((x.sfd.filter (·.1)).map (·.2)).getD given

/-- RADIO_ACK_RECEIVED: last contact and OFFSET_EST follow the acknowledgement, and the frame completes ACKED (R238). -/
def execRadioAckReceived (port : Nat) (sfd : Time) (correctionUs : Int) (s : State) : Host.Outcome State Fault Refusal :=
  match (radGet s port).awaiting with
  | none => .next s
  | some f =>
    if !radioLive s port then .next s
    else
      let i := port * 4096 + f.neigh
      let s1 := neighPut s i { neighOf s i with contact := heardAt (radGet s port) sfd, offset := -correctionUs * 1000, open_ := false }
      .next (txDone (radPut s1 port { radGet s1 port with awaiting := none, backoff := 0 }) port 0 f.handle)

/-- RADIO_ACK_TIMEOUT: the frame is retried in a later cell up to RAD_MAX_RETRIES times and then completes NO_ACK; after a SHARED cell the
back-off is a free value; for a LOST neighbour it waits with no retry counted (R256). -/
def execRadioAckTimeout (port : Nat) (s : State) : Host.Outcome State Fault Refusal :=
  match (radGet s port).awaiting with
  | none => .next s
  | some f =>
    if !radioLive s port then .next s
    else
      let x := radGet s port
      let shared := match x.slot with
        | some y => bitAt (s.cfg.row radCell (port * 16384 + y.cell)) 26
        | none => false
      let fr := takeFree s
      let s1 := if shared then radPut fr.2 port { x with backoff := Config.freeNat fr.1 } else s
      let y := radGet s1 port
      if (neighOf s (port * 4096 + f.neigh)).state = 2 then
        .next (radPut s1 port { y with awaiting := none, queue := f :: y.queue })
      else if f.tries < s.cfg.v radMaxRetries then
        .next (radPut s1 port { y with awaiting := none, queue := { f with tries := f.tries + 1 } :: y.queue })
      else .next (txDone (radCount (radPut s1 port { y with awaiting := none }) port 5 1) port 2 f.handle)

/-! ### Host frames (10.8) -/

/-- A RAD_TX record: port, level, acknowledgement, neighbour, handle, payload. DESIGN CHOICE, log entry 42. -/
def radTxRec (b : List Byte) : Nat × HostFrame :=
  (byteOf b 0, { neigh := leAt b 2 2, level := byteOf b 1 % 8, ack := bitAt (byteOf b 1) 3, handle := leAt b 4 2
                 payload := (b.drop 8).take (leAt b 6 2), tries := 0 })

/-- Why a RAD_TX is rejected (R255). -/
def radTxFault (s : State) (b : List Byte) : Option Status :=
  let x := radTxRec b
  let r := s.cfg.row radPort x.1
  let psdu := psduLen x.2.level x.2.payload.length
  if byteOf b 1 / 16 ≠ 0 then some .eParam
  else if 4 ≤ x.1 ∨ (4096 ≤ x.2.neigh ∧ x.2.neigh ≠ 0xFFFF) then some .eRange
  else if b.length < 8 + leAt b 6 2 then some .eSize
  else if modeOf r = 0 then some .eState
  else if x.2.neigh ≠ 0xFFFF ∧ (neighOf s (x.1 * 4096 + x.2.neigh)).state = 0 then some .eParam
  else if maxPsdu r < psdu ∨ !fitsSlot r (s.cfg.v radTimeslot) psdu x.2.ack then some .eSize
  else if 256 ≤ (radGet s x.1).queue.length + b2n (radGet s x.1).awaiting.isSome then some .eBusy
  else none

/-- A host frame queued. -/
def radTxSubmit (s : State) (b : List Byte) : State :=
  let x := radTxRec b
  let f := if x.2.neigh = 0xFFFF then { x.2 with ack := false } else x.2
  radPut s x.1 { radGet s x.1 with queue := (radGet s x.1).queue ++ [f] }

end Sys2Proof.Machine
end

