-- ==== Sys2Proof/Machine/Radio.lean ====
section
/-! DEFINITION. Radio luminaires, neighbours and reception (10 10.4 to 10.7): the command store and command frames, guards, the reception
verdicts with acknowledgements and reports, what commits do to the ports, and the checks on a whole configuration. -/

namespace Sys2Proof.Machine

/-! ### The command store (R252, R253) -/

/-- Enabled fixtures on a port's radio strands: neighbour entry, group, fixture index and record. -/
def luminaires (c : Store) (p : Nat) : List (Nat × Nat × Nat × Nat) :=
  c.fixtures.filterMap fun x =>
    let st := c.row stdTable (fxStrand x.2)
    if stType st = 5 ∧ stEnd st / 16384 = p then some (fxSlot x.2, stEnd st % 4096, x.1, x.2) else none

/-- The ASN of the first slot that starts at or after an instant (R252). -/
def slotAfter (c : Store) (t : Time) : Nat :=
  asnOf (if asnStart c (radSlotAt c t) = t then radSlotAt c t else radSlotAt c t + 1)

/-- An entry for a luminaire's values: newer values replace what is pending together with its activation ASN, equal ones too while the item
has not been sent; values sent already stay as they are (R252, R253). -/
def enterValue (c : Store) (p act : Nat) (m : SMap (Option CmdEntry)) (x : Nat × Nat × Nat × Nat) (values : List Nat) : SMap (Option CmdEntry) :=
  let fresh : CmdEntry := { values := values, act := act, left := 1 + byteAt (c.row radPort p) 31, sent := false, civic := fxCivic x.2.2.2
                            rejoin := false, fixture := x.2.2.1, last := none }
  let new := match SMap.get none m x.1 with
    | some e =>
      if e.fixture ≠ x.2.2.1 then fresh
      else if e.values = values ∧ e.sent then { e with civic := fxCivic x.2.2.2 }
      else { fresh with rejoin := e.rejoin, last := e.last }
    | none => fresh
  SMap.put none m x.1 (some new)

/-- Frame k's values enter the command stores at E(k − 1): `e` is E(k), `c` and `o` are the frame's (R252). -/
def radioEdge (s : State) (e : Time) (c : Store) (o : FrameOut) : State :=
  let act := slotAfter c (e + c.v radActDelay * ms)
  ([0, 1, 2, 3] : List Nat).foldl (fun a p =>
    if modeOf (c.row radPort p) = 0 then a
    else
      let m := (luminaires c p).foldl (fun m x => enterValue c p act m x (SMap.get [] o.drives x.2.2.1)) (radGet a p).cmds
      radPut a p { radGet a p with cmds := m }) s

/-- An item of a command frame: order (0 rejoin, 1 civic, 2 the rest), group, address, GROUP, values, activation, luminaires, and
whether it was sent before. -/
structure CmdItem where
  rank : Nat
  group : Nat
  addr : Nat
  grouped : Bool
  values : List Nat
  act : Nat
  lums : List Nat
  sent : Bool
  civic : Bool
  deriving DecidableEq, Repr

/-- A pending entry of the store: sends are due. -/
def cmdPending (m : SMap (Option CmdEntry)) (nb : Nat) : Option CmdEntry := (SMap.get none m nb).filter fun e => decide (0 < e.left)

/-- The item of a group whose enabled fixtures all hold pending entries of equal values (R252). -/
def groupItem (m : SMap (Option CmdEntry)) (g : Nat) (ls : List (Nat × Nat × Nat × Nat)) : Option CmdItem :=
  let es := ls.filterMap fun x => cmdPending m x.1
  match es with
  | [] => none
  | e :: _ =>
    if es.length = ls.length ∧ es.all (fun y => y.values == e.values && !y.rejoin) then
      some { rank := if es.any (·.civic) then 1 else 2, group := g, addr := g, grouped := true, values := e.values
             act := es.foldl (fun a y => if asnAfter y.act a then y.act else a) e.act, lums := ls.map (·.1), sent := es.all (·.sent), civic := es.any (·.civic) }
    else none

/-- The item of one luminaire. -/
def lumItem (c : Store) (p : Nat) (m : SMap (Option CmdEntry)) (x : Nat × Nat × Nat × Nat) : Option CmdItem :=
  (cmdPending m x.1).map fun e =>
    { rank := if e.rejoin then 0 else if e.civic then 1 else 2, group := x.2.1, addr := shortOf c p x.1, grouped := false
      values := e.values, act := e.act, lums := [x.1], sent := e.sent, civic := e.civic }

/-- Insertion in the order of R253. -/
def insItem (i : CmdItem) : List CmdItem → List CmdItem
  | [] => [i]
  | j :: rest =>
    if i.rank < j.rank ∨ (i.rank = j.rank ∧ (i.group < j.group ∨ (i.group = j.group ∧ i.addr < j.addr))) then i :: j :: rest
    else j :: insItem i rest

/-- The pending items of a port in the order in which frames take them (R253). -/
def cmdItems (s : State) (p : Nat) : List CmdItem :=
  let ls := luminaires s.cfg p
  let m := (radGet s p).cmds
  let groups := (ls.map fun x => x.2.1).dedup
  (groups.flatMap fun g =>
    let mine := ls.filter fun x => x.2.1 = g
    match groupItem m g mine with
    | some i => [i]
    | none => mine.filterMap (lumItem s.cfg p m)).foldl (fun a i => insItem i a) []

/-- The activation ASN that an item is sent with in the cell of an ASN, and whether it came late (R253). -/
def actOf (asn : Nat) (i : CmdItem) : Nat × Bool := if asnAfter i.act asn then (i.act, false) else ((asn + 1) % 1099511627776, true)

/-- Items that fill a frame in order, while it still fits (R253, R255); the frame carries one activation ASN, so that items with another one
wait for a later frame. -/
def fillFrame (r slot asn act : Nat) : List CmdItem → Nat → List CmdItem → List CmdItem
  | [], _, acc => acc
  | i :: rest, len, acc =>
    let more := len + 3 + 2 * i.values.length
    if (actOf asn i).1 ≠ act then fillFrame r slot asn act rest len acc
    else if acc.length < 255 ∧ fitsSlot r slot (commandPsdu r more) false ∧ commandPsdu r more ≤ maxPsdu r then
      fillFrame r slot asn act rest more (acc ++ [i])
    else acc

/-- The payload of Table 10-7. -/
def cmdPayload (act : Nat) (items : List CmdItem) : List Byte :=
  leBytes 1 1 ++ leBytes 1 (b2n (items.all (·.sent))) ++ leBytes 5 act ++ leBytes 1 items.length
    ++ items.flatMap fun i => leBytes 2 i.addr ++ leBytes 1 (i.values.length + b2n i.grouped * 8) ++ i.values.flatMap (leBytes 2)

/-- The command frame of a port for the COMMAND cell of a slot: none where no item is pending or none fits (R253). -/
def commandFrame (s : State) (p : Nat) (n : Int) : Option BuiltFrame :=
  let r := s.cfg.row radPort p
  match cmdItems s p with
  | [] => none
  | i :: rest =>
    let act := (actOf (asnOf n) i).1
    let items := fillFrame r (s.cfg.v radTimeslot) (asnOf n) act (i :: rest) 8 []
    if items = [] then none
    else some {
      n := n, act := act, payload := cmdPayload act items, items := items.flatMap (·.lums), civic := items.any (·.civic)
      late := (items.filter fun i => (actOf (asnOf n) i).2).length }

/-- COMMAND_FRAME_BUILD: the command frame for the COMMAND cell of the next slot (R253). -/
def execCommandFrameBuild (port : Nat) (s : State) : Host.Outcome State Fault Refusal :=
  let n := nextSlot s port
  let due := (activeCells s port n).any fun x => bitAt x.2 24 && byteAt x.2 7 == 1
  if !radioLive s port ∨ s.dev.state ≠ .run ∨ !due then .next s
  else
    let s0 := advance s (asnStart s.cfg n - 1000 * us)
    .next (radPut s0 port { radGet s0 port with built := commandFrame s0 port n })

/-- RADIO_CIVIC_DEFERRED: a civic command deferred for 60 s breaks G2 (R249). -/
def execRadioCivicDeferred (port : Nat) (t : Time) (s : State) : Host.Outcome State Fault Refusal :=
  match (radGet s port).civicSince with
  | none => .next s
  | some a => if port < 4 ∧ a + 60 * sec ≤ t then .next (breakG (advance s t) 2 0x0B13 port 0) else .next s

/-! ### Guard and neighbours (R240 to R242) -/

/-- RADIO_GUARD_EVAL: the guard of an ACTIVE neighbour; above g_max it becomes LOST (R240). -/
def execRadioGuardEval (port neigh : Nat) (t : Time) (s : State) : Host.Outcome State Fault Refusal :=
  let i := port * 4096 + neigh
  let r := s.cfg.row radPort port
  if !radioLive s port ∨ 4096 ≤ neigh ∨ (neighOf s i).state ≠ 1 then .next s
  else
    let s0 := advance s t
    let g := guardOf r (t - (neighOf s i).contact)
    let s1 := neighPut s0 i { neighOf s0 i with guard := min 65535 g }
    if u16At r 10 < 2 * g then
      .next (logEv (radCount (neighPut s1 i { neighOf s1 i with state := 2 }) port 9 1) 0x0701 port neigh 0)
    else .next s1

/-- Every ACTIVE neighbour after a take-over: the edge is its last contact and its whole window is open (R242). -/
def openWindows (s : State) (t : Time) : State :=
  s.rad.neigh.foldl (fun a x => if x.2.state = 1 then neighPut a x.1 { x.2 with contact := t, open_ := true } else a) s

/-! ### Reception (R238, R246) -/

/-- The admitted neighbour that a frame comes from, by its extended or its short address. -/
def neighFrom (s : State) (p : Nat) (f : MacFrame) : Option Nat :=
  ((s.cfg.listed radNeigh).find? fun i =>
    let r := s.cfg.row radNeigh i
    i / 4096 == p && bitAt r 0 && (f.srcExt == some (u64At r 4) || f.srcShort == some (u16At r 12))).map (· % 4096)

/-- The payload of a neighbour's frame under the key of its record (R243). -/
def openFrom (s : State) (p nb : Nat) (f : MacFrame) : Option (List Byte) :=
  let r := s.cfg.row radNeigh (p * 4096 + nb)
  openMac (SMap.get KeySlot.empty s.sec.slots (u16At r 14)).key (u64At r 4) f

/-- The PSDU that is delivered: decrypted, with the MIC removed (R257). -/
def clearPsdu (f : MacFrame) (text : List Byte) : List Byte := f.head ++ text ++ f.fcs

/-- The verdict of Table 10-5: 0 delivered, 1 MIC_FAIL, 2 REPLAY, 3 DUP, 4 RX_FULL, 5 key stale (R245). -/
def verdictOf (s : State) (p nb : Nat) (f : MacFrame) (text : Option (List Byte)) : Nat :=
  let r := s.cfg.row radNeigh (p * 4096 + nb)
  let x := neighOf s (p * 4096 + nb)
  if f.secured ∧ !keyGood s (u16At r 14) x.keyGen then 5
  else if f.level < bitsAt r 16 3 ∨ (!f.secured ∧ bitAt r 1) ∨ text.isNone then 1
  else if f.secured ∧ x.fc.any (fun c => decide (f.fc < c)) then 2
  else if f.secured ∧ x.fc = some f.fc ∧ x.dsn = some f.dsn then 3
  else if f.secured ∧ x.fc = some f.fc then 2
  else if !f.secured ∧ x.dsn = some f.dsn then 3
  else if qFree s (18 + p) < 32 + up8 (clearPsdu f (text.getD [])).length then 4
  else 0

/-- The reception header of Table 10-8 and the PSDU. -/
def rxRecord (p : Nat) (x : Slot) (sfd : Time) (rssi lqi : Nat) (psdu : List Byte) (flags nb : Nat) : List Byte :=
  pad8 (leBytes 1 p ++ leBytes 1 flags ++ leBytes 2 nb ++ leBytes 5 (asnOf x.n) ++ leBytes 1 x.channel ++ leBytes 1 rssi ++ leBytes 1 lqi
    ++ leBytes 2 psdu.length ++ leBytes 2 0 ++ leBytes 6 (sfd / sec) ++ leBytes 4 (sfd % sec / ns) ++ leBytes 2 (sfd % ns)
    ++ leBytes 4 0 ++ psdu)

/-- PSDU bytes of an enhanced acknowledgement with its time-correction IE. PRESUMED, log entry 43. Unsafe. -/
def ackPsdu (level : Nat) : Nat := 2 + 1 + 2 + 8 + (if level = 0 then 0 else 6) + 4 + micBytes level + 4

/-- e rounded to the microsecond, negated and clamped (R238). -/
def correctionOf (e : Int) : Int := max (-2047) (min 2047 (-(roundDiv e us)))

/-- The SFD instant of the acknowledgement of a frame of `len` bytes: TX_ACK_DELAY after its end, which R255 puts its airtime after its SFD
(Table 10-1). DEDUCED, log entry 98. -/
def ackSfd (r : Nat) (sfd : Time) (len : Nat) : Time := sfd + (airtime r len + u16At r 12) * us

/-- A frame as the port judges it: the slot, what was fetched and its parts, and its SFD instant. -/
structure HeardFrame where
  slot : Slot
  frame : RadioFrame
  mac : MacFrame
  sfd : Time
  deriving DecidableEq, Repr

/-- e of a received frame (R238). -/
def HeardFrame.error (s : State) (p : Nat) (h : HeardFrame) : Int := (h.sfd : Int) - slotSfd s.cfg p h.slot.n

/-- The enhanced acknowledgement of a neighbour's frame, if the band's budget at its SFD and the frame counter allow it: whether it was
sent (R238, R244, R247, R248). -/
def sendAck (s : State) (p nb : Nat) (h : HeardFrame) : Bool × State :=
  let r := s.cfg.row radPort p
  let nr := s.cfg.row radNeigh (p * 4096 + nb)
  let key := u16At nr 14
  let level := h.mac.level
  let t := airtime r (ackPsdu level)
  let at_ := ackSfd r h.sfd h.frame.psdu.length
  if !inBudget s h.slot.band (at_ / sec) t then (false, radCount s p 7 1)
  else if level ≠ 0 ∧ 0x100000000 ≤ fcOf s key then (false, logEntry s true 0x0703 key p key 0)
  else
    let header := leBytes 2 (2 + b2n h.mac.secured * 8 + 512 + 3 * 1024 + 2 * 4096) ++ leBytes 1 h.mac.dsn ++ leBytes 2 (u16At r 26)
      ++ leBytes 8 (u64At nr 4)
    let ie := leBytes 2 0x0F02 ++ leBytes 2 (patternOf 12 (correctionOf (h.error s p)))
    let psdu := sealPsdu s p level key header ie []
    let s1 := if level = 0 then s else useFc s key
    (true, charge (emit s1 (.radio p (asnOf h.slot.n) h.slot.channel (trigAt s.cfg p at_) psdu)) h.slot.band (at_ / sec) t)

/-- A frame accepted in a timekeeping or bound cell: last contact and OFFSET_EST, with the acknowledgement (R238). -/
def keepTime (s : State) (p nb : Nat) (h : HeardFrame) (timed : Bool) : Bool × State :=
  let i := p * 4096 + nb
  let a := if h.mac.ackReq then sendAck s p nb h else (false, s)
  if timed then
    (a.1, neighPut a.2 i { neighOf a.2 i with
      contact := h.sfd, open_ := false, offset := if a.1 then 0 else roundDiv (h.error s p) ns })
  else a

/-- A luminaire's report (R253, R254): temperature, faults, and the last value sent again where its slot follows that value's activation ASN
and the levels differ; a newer value that is pending keeps its place (R252). -/
def takeReport (s : State) (p nb : Nat) (n : Int) (b : List Byte) : State :=
  match (luminaires s.cfg p).find? fun l => l.1 = nb with
  | none => s
  | some l =>
    if byteOf b 0 ≠ 2 ∨ b.length < 12 + 2 * byteOf b 7 then s
    else
      let s1 := if bitAt (byteOf b 1) 0 then setTemp s l.2.2.1 (signedOf 16 (leAt b 8 2)) else s
      let s2 := if bitAt (byteOf b 1) 1 then orFault s1 l.2.2.1 (leAt b 10 2) else s1
      let levels := (List.range (byteOf b 7)).map fun k => leAt b (12 + 2 * k) 2
      match SMap.get none (radGet s2 p).cmds nb with
      | some e =>
        match e.last with
        | some (values, act) =>
          if asnAfter (asnOf n) act ∧ levels ≠ values then
            let again := if e.sent then { e with left := max e.left (1 + byteAt (s.cfg.row radPort p) 31) } else e
            radCount (radPut s2 p { radGet s2 p with cmds := SMap.put none (radGet s2 p).cmds nb (some again) }) p 13 1
          else s2
        | none => s2
      | none => s2

/-- A LOST neighbour rejoins: ACTIVE, logged and counted, and its current values queued (R241, R253). -/
def rejoin (s : State) (p nb : Nat) : State :=
  let i := p * 4096 + nb
  let s1 := logEv (radCount (neighPut s i { neighOf s i with state := 1 }) p 10 1) 0x0702 p nb 0
  match SMap.get none (radGet s1 p).cmds nb with
  | none => s1
  | some e => radPut s1 p { radGet s1 p with cmds := SMap.put none (radGet s1 p).cmds nb (some { e with rejoin := true, left := max 1 e.left }) }

/-- A frame of an admitted neighbour that may be heard: the first row of Table 10-5 that applies. -/
def receive (s : State) (p nb cell : Nat) (h : HeardFrame) : State :=
  let i := p * 4096 + nb
  let text := openFrom s p nb h.mac
  match verdictOf s p nb h.mac text with
  | 5 => keyStale s p (u16At (s.cfg.row radNeigh i) 14)
  | 1 => radCount s p 3 1
  | 2 => radCount s p 2 1
  | 3 => (sendAck (radCount s p 1 1) p nb h).2
  | 4 => qDiscard (radCount s p 4 1) (18 + p)
  | _ =>
    let lost := (neighOf s i).state = 2
    let s1 := if lost then rejoin s p nb else s
    let a := keepTime s1 p nb h (bitAt cell 27 || u16At cell 8 == nb || lost)
    let s2 := neighPut a.2 i { neighOf a.2 i with
      dsn := some h.mac.dsn, fc := if h.mac.secured then some h.mac.fc else (neighOf a.2 i).fc }
    let flags := b2n (decide (4 ≤ h.mac.level)) + b2n a.1 * 2 + b2n (bitAt cell 29) * 8
    let t := text.getD []
    takeReport (qCommit (radCount s2 p 0 1) (18 + p) false
      (rxRecord p h.slot h.sfd h.frame.rssi h.frame.lqi (clearPsdu h.mac t) flags nb)) p nb h.slot.n (macPayload h.mac t)

/-- A frame that was heard: judged where its source is admitted, and otherwise delivered as it came, from RECOVERY cells and cells for any
neighbour only (R241, R246, R257). -/
def judge (s : State) (p cell : Nat) (h : HeardFrame) : State :=
  match neighFrom s p h.mac with
  | some nb => if (neighOf s (p * 4096 + nb)).state = 2 ∧ !bitAt cell 29 then s else receive s p nb cell h
  | none =>
    if !(bitAt cell 29 || u16At cell 8 == 0xFFFF) then s
    else if qFree s (18 + p) < 32 + up8 h.frame.psdu.length then qDiscard (radCount s p 4 1) (18 + p)
    else qCommit s (18 + p) false (rxRecord p h.slot h.sfd h.frame.rssi h.frame.lqi h.frame.psdu (4 + b2n (bitAt cell 29) * 8) 0xFFFF)

/-- RADIO_FRAME_RECEIVED: a fetched frame whose SFD, as stamped, fell in the listening interval is judged (R231, R239, R241, R246, R257). -/
def execRadioFrameReceived (port : Nat) (f : RadioFrame) (s : State) : Host.Outcome State Fault Refusal :=
  match (radGet s port).slot, (radGet s port).sfd with
  | some x, some (true, sfd) =>
    let cell := s.cfg.row radCell (port * 16384 + x.cell)
    let l := listens s port x.n cell
    if !radioLive s port ∨ !x.started ∨ x.what ≠ 0 ∨ !(radGet s port).fetched then .next s
    else
      let s0 := radPut s port { radGet s port with fetched := false, slot := none }
      match parseMac f.psdu with
      | some m => .next (if l.1 ≤ (sfd : Int) ∧ (sfd : Int) < l.2 then judge s0 port cell { slot := x, frame := f, mac := m, sfd := sfd } else s0)
      | none => .next s0
  | _, _ => .next s

/-! ### Commits (R235, R237, R245) -/

/-- A neighbour record committed at an instant (R237): ADMIT 1 enters ACTIVE with the key's generation recorded and nothing to match;
ADMIT 0 empties. -/
def neighCommitted (s : State) (i : Nat) (t : Time) : State :=
  let r := s.cfg.row radNeigh i
  if bitAt r 0 then
    let key := u16At r 14
    let s1 := setCond s 0x0704 (i / 4096 * 4096 + key) false
    neighPut s1 i { Neigh.empty with state := 1, contact := t, keyGen := (SMap.get KeySlot.empty s.sec.slots key).gen }
  else neighPut s i Neigh.empty

/-- A port record committed: the generation of CMD_KEY is recorded and INIT runs; a port that goes OFF drops what it had begun (R229, R245). -/
def portCommitted (s : State) (p : Nat) : State :=
  let r := s.cfg.row radPort p
  let key := u16At r 28
  let x := radGet s p
  let s1 := setCond s 0x0704 (p * 4096 + key) false
  if modeOf r = 0 then radPut s1 p { RadioPort.empty with cnt := x.cnt, queue := x.queue, cmds := x.cmds }
  else runScript (radPut s1 p { x with keyGen := (SMap.get KeySlot.empty s.sec.slots key).gen }) p 0 0 []

/-- The radio as a dawn that passes finds it: an admitted neighbour of the settings loaded is as it was, with the instant as its last contact
and its whole window open, or ACTIVE where it was not known; ports that are ON run INIT. DESIGN CHOICE, log entry 98. Unsafe. -/
def radioDawn (s : State) : State :=
  let admitted := (s.cfg.listed radNeigh).filter fun i => bitAt (s.cfg.row radNeigh i) 0
  let s1 := admitted.foldl (fun a i =>
    let x := neighOf s i
    let x := if x.state = 0 then { x with state := 1, keyGen := (SMap.get KeySlot.empty s.sec.slots (u16At (s.cfg.row radNeigh i) 14)).gen } else x
    neighPut a i { x with contact := s.tim.now, open_ := true }) { s with rad := { s.rad with neigh := [] } }
  (([0, 1, 2, 3] : List Nat).filter fun p => modeOf (s.cfg.row radPort p) ≠ 0).foldl (fun a p => runScript a p 0 0 []) s1

/-- A committed write of a cell adds 1 to GEN (R235). -/
def cellCommitted (s : State) (i : Nat) : State :=
  { s with rad := { s.rad with cellGen := SMap.upd 0 s.rad.cellGen i fun g => (g + 1) % 65536 } }

/-! ### Checks (R229, R235, R237, R250, R251) -/

/-- Two cells in use of one slotframe and TS_OFFSET: the fault of the one written, naming the one already there, and of two written the
later index (R235). -/
def cellClash (o c : Store) (x y : Nat) : Err :=
  if o.row radCell x = c.row radCell x ∧ o.row radCell y ≠ c.row radCell y then violO radCell.id y radCell.id x
  else violO radCell.id x radCell.id y

/-- Cells (R235). -/
def checkCells (o c : Store) : List Err :=
  let used := (c.listed radCell).filterMap fun i => if cellUsed (c.row radCell i) then some (i, c.row radCell i) else none
  used.flatMap fun x =>
    let p := x.1 / 16384
    let len := u16At (c.row radSlotframe (p * 8 + bitsAt x.2 16 3)) 0
    errIf (decide (len ≤ u16At x.2 4)) (viol .eRange radCell.id x.1)
    ++ (match used.find? fun y => decide (y.1 < x.1) && y.1 / 16384 == p && bitsAt y.2 16 3 == bitsAt x.2 16 3 && u16At y.2 4 == u16At x.2 4 with
      | some y => [cellClash o c x.1 y.1]
      | none => [])

/-- Two admitted neighbours with an address in common: the fault of the one written, naming the other (R237). -/
def neighClash (o c : Store) (x y : Nat) : Err :=
  if o.row radNeigh x = c.row radNeigh x ∧ o.row radNeigh y ≠ c.row radNeigh y then violO radNeigh.id y radNeigh.id x
  else violO radNeigh.id x radNeigh.id y

/-- Admitted neighbours with an address in common on one port (R237). -/
def checkNeigh (o c : Store) : List Err :=
  let used := (c.listed radNeigh).filterMap fun i => if bitAt (c.row radNeigh i) 0 then some (i, c.row radNeigh i) else none
  used.flatMap fun x =>
    match used.find? fun y => decide (y.1 < x.1) && y.1 / 4096 == x.1 / 4096 && (u64At y.2 4 == u64At x.2 4 || u16At y.2 12 == u16At x.2 12) with
    | some y => [neighClash o c x.1 y.1]
    | none => []

/-- Enabled fixtures on radio strands (R251). -/
def checkLuminaires (c : Store) : List Err :=
  ([0, 1, 2, 3] : List Nat).flatMap fun p =>
    let ls := luminaires c p
    ls.flatMap fun x =>
      errIf (decide (4 < mdEmitters (c.row modTable (fxModel x.2.2.2)))) (viol .eParam fixTable.id x.2.2.1)
      ++ errIf (!bitAt (c.row radNeigh (p * 4096 + x.1)) 0) (viol .eParam fixTable.id x.2.2.1)
      ++ errIf (ls.any fun y => y.1 == x.1 && decide (y.2.2.1 < x.2.2.1)) (viol .eParam fixTable.id x.2.2.1)

/-- A payload of `len` bytes and `n` items fits a command frame of a port (Table 10-7, R253, R255). -/
def payloadFits (r slot len n : Nat) : Bool :=
  decide (n ≤ 255) && fitsSlot r slot (commandPsdu r len) false && decide (commandPsdu r len ≤ maxPsdu r)

/-- An item of a size put into the first frame that it fits: frames are their payload length and item count. -/
def fitFrame (r slot size : Nat) : List (Nat × Nat) → List (Nat × Nat)
  | [] => [(8 + size, 1)]
  | f :: rest => if payloadFits r slot (f.1 + size) (f.2 + 1) then (f.1 + size, f.2 + 1) :: rest else f :: fitFrame r slot size rest

/-- The frames that items of given sizes take, the largest items first (R250). DESIGN CHOICE, log entry 98. -/
def framesFor (r slot : Nat) (sizes : List Nat) : List Nat :=
  ((([11, 9, 7, 5] : List Nat).flatMap fun n => sizes.filter (· == n)).foldl (fun a n => fitFrame r slot n a) []).map (·.1)

/-- The airtime in µs of the command frames for a set of luminaires of a port in the minimal packing (R250). -/
def commandTime (c : Store) (p : Nat) (changed : List Nat) : Nat :=
  let r := c.row radPort p
  let ls := luminaires c p
  let groups := (ls.map fun x => x.2.1).dedup
  let size (x : Nat × Nat × Nat × Nat) : Nat := 3 + 2 * mdEmitters (c.row modTable (fxModel x.2.2.2))
  let sizes := groups.flatMap fun g =>
    let mine := ls.filter fun x => x.2.1 = g
    let hit := mine.filter fun x => changed.elem x.2.2.1
    if hit ≠ [] ∧ hit.length = mine.length ∧ (hit.map size).dedup.length = 1 then (hit.map size).take 1 else hit.map size
  ((framesFor r (c.v radTimeslot) sizes).map fun len => airtime r (commandPsdu r len)).sum * (1 + byteAt r 31)

/-- What is left of the budget of a port's most used band: of the bands of its hop entries, the one with the greatest usage, the one with
the least left where several have it (R247, R250). -/
def budgetLeft (s : State) (c : Store) (p : Nat) : Nat :=
  let bands := ((List.range (byteAt (c.row radPort p) 23)).map fun k => bitsAt (c.row radHop (p * 128 + k)) 8 3).dedup
  let use (b : Nat) : Nat := bandUse s b (s.tim.now / sec)
  let most := (bands.map use).foldl max 0
  let left (b : Nat) : Option Nat :=
    if use b = most ∧ bitAt (c.row radBand b) 16 then some (u16At (c.row radBand b) 0 * 360000 - use b) else none
  ((bands.filterMap left).min?).getD (2 ^ 64)

/-- The command frames for civic radio fixtures that a transaction touches fit what is left of the budget (R250). -/
def checkBudget (s : State) (c : Store) (touched : List Nat) : List Err :=
  ([0, 1, 2, 3] : List Nat).flatMap fun p =>
    let civic := (luminaires c p).filterMap fun x => if fxCivic x.2.2.2 ∧ touched.elem x.2.2.1 then some x.2.2.1 else none
    errIf (civic != [] && modeOf (c.row radPort p) != 0 && decide (budgetLeft s c p < commandTime c p civic)) (viol .eGuarantee radPort.id p)

/-- The checks of the radio chapter. -/
def checkRadio (o c : Store) : List Err := checkCells o c ++ checkNeigh o c ++ checkLuminaires c

end Sys2Proof.Machine
end

