-- ==== Sys2Proof/Machine/Ether.lean ====
section
/-! DEFINITION. The Ethernet MACs (11): transmission, reception with its classification, sACN and ST 2110-20 input, and PAUSE, with their
commands. -/

namespace Sys2Proof.Machine

/-! ### Ports -/

/-- An Ethernet port. -/
def ethGet (s : State) (p : Nat) : EthState := SMap.get EthState.empty s.eth p

/-- The block with an Ethernet port replaced. -/
def ethPut (s : State) (p : Nat) (x : EthState) : State := { s with eth := SMap.put EthState.empty s.eth p x }

/-- ETH_COUNTERS: TX_FRAMES 0, RX_FRAMES 1, RUNT 2, FCS_ERR 3, OVERSIZE 4, RX_QFULL 5 to 8, FILTER_DROP 9, DEFAULT_DROP 10,
CTRL_UNSUPPORTED 11, PAUSE_RX 12, PAUSE_TX 13, PAUSE_BROKEN 14, TX_REJECT 15, LINK_DROP 16, SYNC_LATE 17, MGMT_WRONG_VLAN 18. -/
def ethCount (s : State) (p k : Nat) : State := ethPut s p { ethGet s p with cnt := bump (ethGet s p).cnt k 1 }

/-- The record of a port. -/
def ethRec (s : State) (p : Nat) : Nat := s.cfg.row ethPort p

/-- The port sends: in READY and RUN, and ETH0 in SAFE (Table 21-3, R370, R476). -/
def ethSends (s : State) (p : Nat) : Bool :=
  decide (p < 2) && modeOf (ethRec s p) != 0 && (s.dev.state == .ready || s.dev.state == .run || (s.dev.state == .safe && p == 0))

/-- The port receives: as it sends, and in SHADOW. -/
def ethHears (s : State) (p : Nat) : Bool :=
  (ethSends s p || (decide (p < 2) && modeOf (ethRec s p) != 0 && s.dev.state == .shadow)) && (ethGet s p).up

/-- A frame put on the wire, padded to 60 bytes and with its FCS (R263). -/
def ethEmit (s : State) (p prio : Nat) (t : Time) (frame : List Byte) : State :=
  let f := frame ++ List.replicate (60 - frame.length) 0
  ethCount (emit s (.eth p prio t (f ++ leBytes 4 (crc32 f)))) p 0

/-- ETH_LINK_CHANGE (R261), which the PTP ports follow (R69, R72). -/
def execEthLinkChange (port : Nat) (up : Bool) (s : State) : Host.Outcome State Fault Refusal :=
  if 2 ≤ port ∨ (ethGet s port).up = up ∨ modeOf (ethRec s port) = 0 then .next s
  else
    let x := ethGet s port
    let y := if up then { x with up := true } else { x with up := false, pauseEnd := none, ownPause := none, paused := false }
    .next (ptpDecide (logEv (ethPut s port y) (if up then 0x0802 else 0x0801) port 0 0) none)

/-! ### sACN quiet time (R184) -/

/-- sACN output on a port. -/
def sacnGet (s : State) (p : Nat) : SacnPort := SMap.get SacnPort.empty s.wired.sacn p

/-- The block with a port's sACN output replaced. -/
def sacnPut (s : State) (p : Nat) (x : SacnPort) : State :=
  { s with wired := { s.wired with sacn := SMap.put SacnPort.empty s.wired.sacn p x } }

/-- The instant of the synchronisation packet of the frame that is being sent, E(k) − SAC_LEAD. -/
def syncAt (s : State) : Time := s.frm.next - (sending s).1.v sacLead * us

/-- The start of the quiet time of a port. -/
def quietAt (s : State) (p : Nat) : Time := syncAt s - quietTime (ethRec s p)

/-- Records that a port sends in a frame (R183). -/
def dueRecords (c : Store) (p n : Nat) : List Nat :=
  (c.listed sacUniv).filter fun i =>
    let r := c.row sacUniv i
    u16At r 0 != 0 && bitAt r (16 + p) && n % max 1 (byteAt r 7) == 0

/-- A port keeps a quiet time before each edge: the node sends sACN under SAC_REV 2016. -/
def quietOn (s : State) (p : Nat) : Bool := transmits s && decide (p < 2) && (sending s).1.v sacRev == 0

/-- A port has a synchronisation packet to launch in this frame: a SYNC universe is due on it. -/
def syncDue (s : State) (p : Nat) : Bool :=
  let c := (sending s).1
  quietOn s p && c.v sacSyncUniv != 0 && (dueRecords c p (s.frm.num + 1)).any fun i => bitAt (c.row sacUniv i) 49

/-- The end of the quiet time of a port: the synchronisation packet has left; the instant at which it would start where the port has none
(DESIGN CHOICE, log entry 95). -/
def quietEnd (s : State) (p : Nat) : Time :=
  syncAt s + (if (sacnGet s p).carried then wireTime (ethRec s p) (syncWireBytes (sending s).1 s.cfg p) else 0)

/-- An instant lies in the quiet time of a port. -/
def quietNow (s : State) (p : Nat) (t : Time) : Bool := quietOn s p && decide (quietAt s p ≤ t) && decide (t < quietEnd s p)

/-! ### Transmission (R263 to R266) -/

/-- ETH_TX_DONE on Q28 with TAG, port and status: 0 SENT, 1 TS_MISSED, 2 SIZE, 3 PARAM, 4 LINK_DOWN, 5 FLUSHED (R266). -/
def ethDone (s : State) (p : Nat) (pkt : List Byte) (status : Nat) (t : Time) : State :=
  notifyAt s 0x0010 t (leBytes 2 (leAt pkt 0 2) ++ leBytes 1 p ++ leBytes 1 status ++ leBytes 4 0)

/-- Descriptors of a flushed TX queue complete with FLUSHED (R266, R286). -/
def txFlushed (s : State) (q : Nat) (pkts : List (List Byte)) : State := pkts.foldl (fun a k => ethDone a (q / 4) k 5 0) s

/-- Why a descriptor is not sent (R265): 2 SIZE, 3 PARAM. -/
def descFault (r : Nat) (pkt : List Byte) : Option Nat :=
  let len := leAt pkt 4 2
  let fl := byteOf pkt 2
  if len < 14 ∨ epMax r - 4 < len then some 2
  else if fl / 16 ≠ 0 ∨ byteOf pkt 3 ≠ 0 ∨ (leAt pkt 6 2 ≠ 0 ∧ !isSacn pkt) ∨ (bitAt fl 3 ∧ !bitAt fl 1) then some 3 else none

/-- A descriptor the host pushes: PTP_EVENT is Zhotex's alone and the last bytes are reserved, and one that carries either is marked so that
R265 rejects it. -/
def hostDesc (pkt : List Byte) : List Byte := if bitAt (byteOf pkt 2) 1 ∨ leAt pkt 6 2 ≠ 0 then pkt.take 7 ++ leBytes 1 0x80 ++ pkt.drop 8 else pkt

/-- The head of a queue needs a timestamp entry that is not free, and it is a PTP event: the queue is held (R77). While the link is down the
frame is discarded and takes no entry (R261). -/
def txHeld (s : State) (p : Nat) (pkt : List Byte) : Bool :=
  (ethGet s p).up && bitAt (byteOf pkt 2) 1 && bitAt (byteOf pkt 2) 0 && decide (64 ≤ (tsGet s p).length)

/-- The first queue of a list, highest priority first, that is non-empty and not held. A held PTP frame counts its encounter with a full
queue each time it is examined (DESIGN CHOICE, log entry 86). -/
def pickQueue (p : Nat) : List Nat → State → State × Option (Nat × List Byte)
  | [], s => (s, none)
  | q :: rest, s =>
    match (qGet s q).packets with
    | [] => pickQueue p rest s
    | pkt :: _ => if txHeld s p pkt then pickQueue p rest (tsFull s p) else (s, some (q, pkt))

/-- The frame of a descriptor as it leaves at `t`: a one-step message takes its timestamp now (R73). -/
def txFrame (pkt : List Byte) (t : Time) : List Byte :=
  let frame := (pkt.drop 8).take (leAt pkt 4 2)
  if bitAt (byteOf pkt 2) 3 then
    let v := viewOf frame
    ptpLeaves frame (if v.udpPort.isSome then v.udpOff else v.off) (v.etype == 0x86DD) t
  else frame

/-- ETH_TX_FRAME_START at a frame boundary: an own PAUSE, then a held synchronisation packet, then the head of the highest queue that is
not held (R264). A frame taken while the link is down, or rejected, completes at once (R261, R265); an sACN packet left from a state in which
the node sent sACN is dropped (R186). -/
def execEthTxFrameStart (port : Nat) (t : Time) (s : State) : Host.Outcome State Fault Refusal :=
  let s0 := advance s t
  let x := ethGet s0 port
  let r := ethRec s0 port
  if !ethSends s0 port ∨ x.sending.isSome then .next s0
  else
    let near := syncDue s0 port && decide (t < syncAt s0) && decide (syncAt s0 < t + wireTime r 84)
    match (if x.up then x.ownPause else none), x.syncHeld with
    | some quanta, _ =>
      if near then .next s0
      else
        .next (ethCount (emit (ethPut s0 port { x with ownPause := none, pauseSentAt := t }) (.pause port quanta)) port 13)
    | none, held =>
      if x.pauseEnd.isSome then .next s0
      else
        match held with
        | some f => .next (ethEmit (ethPut s0 port { x with syncHeld := none }) port 2 t f)
        | none =>
          if quietNow s0 port t then .next s0
          else
            match pickQueue port ([3, 2, 1, 0].map (· + 4 * port)) s0 with
            | (s1, none) => .next s1
            | (s1, some (q, pkt)) =>
              let s2 := (qPop s1 q).2
              if isSacn pkt ∧ !transmits s2 then .next s2
              else if !x.up then .next (ethDone (ethCount s2 port 16) port pkt 4 0)
              else
                match descFault r pkt with
                | some st => .next (ethDone (ethCount s2 port 15) port pkt st 0)
                | none =>
                  let miss := bitAt (byteOf pkt 2) 0 && decide (64 ≤ (tsGet s2 port).length)
                  let s3 := if miss then tsFull s2 port else s2
                  let s4 := if leAt pkt 6 2 = 3 then sacnPut s3 port { sacnGet s3 port with carried := true } else s3
                  .next (ethEmit (ethPut s4 port { ethGet s4 port with sending := some (q, pkt, t, miss) }) port (q % 4) t (txFrame pkt t))

/-- ETH_TX_COMPLETE: the frame on the wire ends; a descriptor with NOTIFY or TS_REQ completes, with its timestamp where it asked for
one (R266); the entry of a PTP event stays for its follow-up (R76). -/
def execEthTxComplete (port : Nat) (t : Time) (s : State) : Host.Outcome State Fault Refusal :=
  let x := ethGet s port
  match x.sending with
  | none => .next s
  | some (_, pkt, start, miss) =>
    if 2 ≤ port then .next s
    else
      let s0 := advance s (max t (start + wireTime (ethRec s port) (max 60 (leAt pkt 4 2) + 4)))
      let s1 := ethPut s0 port { x with sending := none }
      let ts := bitAt (byteOf pkt 2) 0
      let event := bitAt (byteOf pkt 2) 1
      if !(ts ∨ bitAt (byteOf pkt 2) 2) then .next s1
      else if miss then .next (ethDone s1 port pkt 1 0)
      else if ts then
        match (tsGet s1 port).find? fun e => e.1 = leAt pkt 0 2 ∧ e.2.1 = event with
        | some e =>
          let s2 := if event then s1 else watermark { s1 with tim := { s1.tim with tsq := SMap.put [] s1.tim.tsq port ((tsGet s1 port).erase e) } } (16 + port)
          .next (ethDone s2 port pkt 0 e.2.2)
        | none => .next (ethDone s1 port pkt 0 start)
      else .next (ethDone s1 port pkt 0 0)

/-! ### PAUSE (R271 to R274) -/

/-- A received PAUSE takes effect (R271, R272). -/
def pauseReceived (s : State) (p quanta : Nat) (t : Time) : State :=
  let s1 := ethCount s p 12
  let x := ethGet s1 p
  let r := ethRec s p
  let ignored := !bitAt r 9 || (match x.ignoreUntil with
    | some u => decide (t < u)
    | none => false)
  if ignored then s1
  else if quanta = 0 then ethPut s1 p { x with pauseEnd := none }
  else ethPut s1 p { x with
    pauseStart := if x.pauseEnd.isSome then x.pauseStart else t
    pauseEnd := some (t + quantaTime r quanta) }

/-- A held synchronisation packet leaves as a pause ends before E(k) (R273). -/
def syncRelease (s : State) (p : Nat) : State :=
  match (ethGet s p).syncHeld with
  | none => s
  | some f => if s.tim.now < s.frm.next then ethEmit (ethPut s p { ethGet s p with syncHeld := none }) p 2 s.tim.now f else s

/-- The instant at which a continuous pause reaches PAUSE_WD. -/
def watchdogAt (s : State) (p : Nat) : Time := (ethGet s p).pauseStart + u16At (ethRec s p) 4 * us

/-- PAUSE_EXPIRY: the remaining pause time expires, at PAUSE_WD at the latest (R271, R272). -/
def execPauseExpiry (port : Nat) (s : State) : Host.Outcome State Fault Refusal :=
  match (ethGet s port).pauseEnd with
  | none => .next s
  | some e =>
    if 2 ≤ port ∨ watchdogAt s port < e then .next s
    else
      let s0 := advance s e
      .next (syncRelease (ethPut s0 port { ethGet s0 port with pauseEnd := none }) port)

/-- PAUSE_WATCHDOG: a continuous pause that would go on past PAUSE_WD is broken and PAUSE ignored (R272). -/
def execPauseWatchdog (port : Nat) (s : State) : Host.Outcome State Fault Refusal :=
  match (ethGet s port).pauseEnd with
  | none => .next s
  | some e =>
    let w := watchdogAt s port
    if 2 ≤ port ∨ e ≤ w then .next s
    else
      let s0 := advance s w
      let s1 := ethPut s0 port { ethGet s0 port with pauseEnd := none, ignoreUntil := some (w + u16At (ethRec s port) 8 * ms) }
      .next (syncRelease (logEntry (ethCount s1 port 14) true 0x0803 port port 0 0) port)

/-- PAUSE_IGNORE_END (R272). -/
def execPauseIgnoreEnd (port : Nat) (s : State) : Host.Outcome State Fault Refusal :=
  match (ethGet s port).ignoreUntil with
  | none => .next s
  | some u =>
    if 2 ≤ port then .next s
    else
      let s0 := advance s u
      .next (setCond (ethPut s0 port { ethGet s0 port with ignoreUntil := none }) 0x0803 port false)

/-- The RX queues of a port. -/
def rxQueues (p : Nat) : List Nat := [8, 9, 10, 11].map (· + 4 * p)

/-- A queue's fill is below its low watermark (R284). -/
def belowLow (s : State) (q : Nat) : Bool := decide ((markOf s q).1 * 256 < byteAt (s.cfg.row queConfig q) 3 * (markOf s q).2)

/-- PAUSE transmission as the watermark states stand after a push or a pop of the port's RX queues (R274). -/
def pauseCheck (s : State) (p : Nat) : State :=
  let x := ethGet s p
  let r := ethRec s p
  if !bitAt r 10 ∨ modeOf r = 0 then s
  else
    let high := (rxQueues p).any fun q => (qGet s q).high
    if high ∧ !x.paused then ethPut s p { x with paused := true, ownPause := some (u16At r 6) }
    else if (rxQueues p).all (belowLow s) ∧ x.paused then ethPut s p { x with paused := false, ownPause := some 0 }
    else s

/-- PAUSE_REFRESH: half the time of the quanta sent has passed with a queue above its low watermark (R274). -/
def execPauseRefresh (port : Nat) (s : State) : Host.Outcome State Fault Refusal :=
  let x := ethGet s port
  let r := ethRec s port
  let above := (rxQueues port).any fun q => decide (byteAt (s.cfg.row queConfig q) 3 * (markOf s q).2 < (markOf s q).1 * 256)
  if port < 2 ∧ ethSends s port ∧ x.paused ∧ x.ownPause.isNone ∧ above then
    let s0 := advance s (x.pauseSentAt + quantaTime r (u16At r 6) / 2)
    .next (ethPut s0 port { ethGet s0 port with ownPause := some (u16At r 6) })
  else .next s

/-! ### Multicast membership (R262) -/

/-- The membership report of a port for a universe on its data interface: IGMPv2, or MLDv2 where the port has no IPv4 address. The formats are
those of RFC 2236 and RFC 3810: PRESUMED, log entry 99. -/
def joinFrame (c : Store) (p u : Nat) : List Byte :=
  let vid := epData (c.row ethPort p)
  if leNat (ip4Of c (p * 2)) ≠ 0 then
    let g := beBytes 4 (group4 u)
    let igmp (sum : Nat) : List Byte := beBytes 2 0x1600 ++ beBytes 2 sum ++ g
    let ip (sum : Nat) : List Byte :=
      beBytes 4 0x46C00020 ++ beBytes 4 0 ++ beBytes 2 0x0102 ++ beBytes 2 sum ++ ip4Of c (p * 2) ++ g ++ beBytes 4 0x94040000
    ethFrame p (mac4 (group4 u)) vid 0 0x0800 (ip (ipSum (ip 0)) ++ igmp (ipSum (igmp 0)))
  else
    let src := linkLocal p
    let dst := beBytes 16 0xFF020000000000000000000000000016
    let mld (sum : Nat) : List Byte := beBytes 2 0x8F00 ++ beBytes 2 sum ++ beBytes 4 1 ++ beBytes 4 0x04000000 ++ beBytes 16 (group6 u)
    ethFrame p (mac6 0x16) vid 0 0x86DD (beBytes 4 0x60000000 ++ beBytes 2 36 ++ beBytes 2 0x0001 ++ src ++ dst
      ++ beBytes 8 0x3A00050200000100 ++ mld (ipSum (src ++ dst ++ beBytes 4 28 ++ beBytes 4 58 ++ mld 0)))

/-- Universes that come into use are reported on each port that is not OFF (R262; the instant is a DESIGN CHOICE, log entry 99). -/
def sacnJoins (s : State) (o c : Store) : State :=
  let old := sacnUniverses o
  if s.dev.state = .shadow then s
  else ((sacnUniverses c).filter fun u => !old.elem u).foldl (fun a u =>
    (([0, 1] : List Nat).filter fun p => modeOf (c.row ethPort p) ≠ 0).foldl (fun a p =>
      qPush a (3 + 4 * p) false (txPacket 0 0 (joinFrame c p u))) a) s

/-! ### Reception (R262, R267 to R270) -/

/-- The port accepts a destination address (R262): its own, broadcast, PROMISC, the host's multicast entries, and the groups that Zhotex
enters for sACN input and PTP. -/
def addrAccepted (s : State) (p dst : Nat) : Bool :=
  let c := s.cfg
  let r := ethRec s p
  let host := (List.range 32).any fun i => let a := c.row ethMcast (p * 32 + i); a != 0 && leBytes 6 a == beBytes 6 dst
  let sacn := (sacnUniverses c).any fun u => mac4 (group4 u) == beBytes 6 dst || mac6 (group6 u) == beBytes 6 dst
  let ptp := c.v timPtpMode != 0 && (match c.v timPtpTransport with
    | 0 => dst == 0x01005E000181 || dst == 0x01005E00006B
    | 1 => dst == 0x333300000181 || dst == 0x33330000006B
    | _ => dst == 0x011B19000000 || dst == 0x0180C200000E)
  bitAt r 12 || dst == Config.macAddr p || dst == 0xFFFFFFFFFFFF || dst == 0x0180C2000001 || host || sacn || ptp

/-- A frame belongs to an interface: data on DATA_VID or untagged, management on MGMT_VID (11.6). -/
def onData (s : State) (p : Nat) (v : RxView) : Bool :=
  let vid := epData (ethRec s p)
  if vid = 0 then !v.tagged else v.tagged && v.tci % 4096 == vid

/-- On the management interface. -/
def onMgmt (s : State) (p : Nat) (v : RxView) : Bool :=
  let vid := epMgmt (ethRec s p)
  vid != 0 && v.tagged && v.tci % 4096 == vid

/-- An IP destination is an address of an interface (port × 2 + interface). -/
def isAddr (c : Store) (i : Nat) (dst : List Byte) : Bool :=
  (dst.length == 4 && dst == ip4Of c i && dst != beBytes 4 0)
    || (dst.length == 16 && (dst == linkLocal (i / 2) || dst == ip6Of c i))

/-- A PTP frame of the transport in force on the data interface (R268 step 2). -/
def isPtp (s : State) (p : Nat) (v : RxView) : Bool :=
  let tr := s.cfg.v timPtpTransport
  s.cfg.v timPtpMode != 0 && onData s p v
    && (if tr = 2 then v.etype == 0x88F7
        else (v.udpPort == some 319 || v.udpPort == some 320) && (v.etype == (if tr = 1 then 0x86DD else 0x0800)))

/-- A source's packet taken in: kept since when it has been heard without a timeout (R86, R116). -/
def sacnTake (s : State) (u : Nat) (x : SacnSrc) (stop : Bool) : State :=
  let old := SMap.get [] s.con.sacn u
  let rest := old.filter fun y => y.cid ≠ x.cid
  let prev := (old.filter fun y => decide (x.last < y.last + sacnTimeout)).find? fun y => y.cid = x.cid
  let stale := match prev with
    | some y => let d := (x.seq + 256 - y.seq) % 256; decide (d = 0) || decide (236 < d)
    | none => false
  let put (l : List SacnSrc) : State := { s with con := { s.con with sacn := SMap.put [] s.con.sacn u l } }
  if stop then put rest
  else if stale then s
  else put (rest ++ [{ x with since := match prev with
    | some y => y.since
    | none => x.last }])

/-- The sACN assembler takes an E1.31 data packet with start code 0 (R268 step 4). -/
def takeSacn (s : State) (b : List Byte) (t : Time) : State :=
  let n := beAt b 123 2
  if beAt b 18 4 ≠ 4 ∨ beAt b 40 4 ≠ 2 ∨ byteOf b 125 ≠ 0 ∨ n = 0 ∨ 513 < n ∨ b.length < 125 + n ∨ bitAt (byteOf b 112) 7 then s
  else
    sacnTake s (beAt b 113 2)
      { cid := beAt b 22 16, prio := byteOf b 108, since := t, last := t, seq := byteOf b 111, slots := (b.drop 126).take (n - 1) }
      (bitAt (byteOf b 112) 6)

/-- The layer whose ST 2110-20 binding a datagram matches (R268 step 5, Table 13-10). -/
def streamLayer (s : State) (p : Nat) (v : RxView) : Option Nat :=
  (List.range 64).find? fun i =>
    let b := bindOf s.cfg i
    b != [] && byteOf b 0 == 1 && byteOf b 3 == p + (if v.ipDst.length = 16 then 2 else 0) && v.udpPort == some (leAt b 4 2)
      && (if leAt b 6 2 = 0 then !v.tagged else v.tagged && v.tci % 4096 == leAt b 6 2)
      && (b.drop 8).take v.ipDst.length == v.ipDst

/-- Pixels and bytes of a pixel group (ST 2110-20). -/
def pgroup (fmt : Nat) : Nat × Nat := if fmt = 4 then (4, 15) else if fmt = 9 then (2, 4) else if fmt = 10 then (2, 5) else (1, 3)

/-- The line segments of an ST 2110-20 payload: line, pixel offset, length, at most `n` headers; and where the data begins. -/
def lineHeaders (b : List Byte) : Nat → Nat → List (Nat × Nat × Nat) → List (Nat × Nat × Nat) × Nat
  | 0, at_, acc => (acc, at_)
  | n + 1, at_, acc =>
    let acc1 := acc ++ [(beAt b (at_ + 2) 2 % 32768, beAt b (at_ + 4) 2 % 32768, beAt b at_ 2)]
    if bitAt (byteOf b (at_ + 4)) 7 then lineHeaders b n (at_ + 6) acc1 else (acc1, at_ + 6)

/-- The segments written into the frame's lines; one that does not follow on leaves the frame incomplete. -/
def putSegs (fmt : Nat) : List (Nat × Nat × Nat) → List Byte → StreamRx → StreamRx
  | [], _, x => x
  | (line, off, len) :: rest, data, x =>
    let row := SMap.get [] x.got line
    let start := off / (pgroup fmt).1 * (pgroup fmt).2
    putSegs fmt rest (data.drop len)
      (if row.length = start ∧ len ≤ data.length then { x with got := SMap.put [] x.got line (row ++ data.take len) } else { x with missing := true })

/-- The presentation time of a frame with an RTP timestamp (R315). -/
def rtpTime (rtp : Nat) (arrival : Time) (offset : Int) : Time :=
  let now := roundDiv (arrival * 90000 : Nat) sec
  let n := now + signedOf 32 (patternOf 32 ((rtp : Int) - now))
  (roundDiv (n * (sec : Int)) 90000 + offset * (ns : Int)).toNat

/-- A frame of a stream ends: written into ring B where no packet is missing, otherwise counted in BAD_ENTRY, unless that was done at its
ingress deadline (R85). -/
def streamEnd (s : State) (layer : Nat) (x : StreamRx) : State :=
  let b := bindOf s.cfg layer
  let w := s.cfg.val layWidth layer
  let h := s.cfg.val layHeight layer
  let flags := byteOf b 26
  let fmt := byteOf b 24
  let s1 := { s with con := { s.con with streams := SMap.put none s.con.streams layer none } }
  let whole := !x.missing && (List.range h).all fun y => decide (rowBytes fmt w ≤ (SMap.get [] x.got y).length)
  if x.discarded then s1
  else if !whole then badEntry s1 1 s1.con.ringB.w
  else
    let data := (List.range h).flatMap fun y => (SMap.get [] x.got y).take (rowBytes fmt w)
    let pix := decodeAll fmt (byteOf b 25) flags (s.cfg.val layPqPeak layer) w h (rowBytes fmt w) data
    let e : Entry :=
      { seq := 0, off := 0, len := (64 + mapBytes w h + 8 * w * h + 63) / 64 * 64, layer := layer, pt := x.pt, width := w, height := h
        hint := false, map := computeMap w h pix, pix := pix, done := none, dead := false, dma := none }
    sendStreams (ringOffer s1 1 e) e

/-- The stream receiver takes an RTP packet of a bound stream (R85, R315). -/
def takeRtp (s : State) (layer : Nat) (b : List Byte) (t : Time) : State :=
  let bind := bindOf s.cfg layer
  let head := 12 + 4 * (byteOf b 0 % 16)
  let rtp := beAt b 4 4
  let seq := beAt b 2 2
  if byteOf b 0 / 64 ≠ 2 ∨ byteOf b 1 % 128 ≠ byteOf bind 27 then s
  else
    let old := SMap.get none s.con.streams layer
    let fresh : StreamRx :=
      { rtp := rtp, pt := rtpTime rtp t (signedOf 32 (leAt bind 28 4)), seq := seq, got := [], missing := false, discarded := false }
    let sx := match old with
      | none => (s, fresh)
      | some x => if x.rtp = rtp then (s, x) else (streamEnd s layer { x with missing := true }, fresh)
    let hs := lineHeaders b 64 (head + 2) []
    let y := putSegs (byteOf bind 24) hs.1 (b.drop hs.2) { sx.2 with seq := (seq + 1) % 65536, missing := sx.2.missing || sx.2.seq != seq }
    if bitAt (byteOf b 1) 7 then streamEnd sx.1 layer y
    else { sx.1 with con := { sx.1.con with streams := SMap.put none sx.1.con.streams layer (some y) } }

/-- A filter takes a frame (R269). -/
def filterTakes (r : Nat) (v : RxView) : Bool :=
  let m (b : Nat) (t : Bool) : Bool := !bitAt r (16 + b) || t
  byteAt r 0 != 0
    && m 0 (v.tagged && v.tci % 4096 == bitsAt r 32 12) && m 1 (v.tagged && v.tci / 8192 == bitsAt r 48 3) && m 2 (v.etype == u16At r 8)
    && m 3 (v.proto == some (byteAt r 7)) && m 4 (v.udpPort == some (u16At r 10)) && m 5 (!v.tagged)

/-- A steered frame pushed with the header of Table 11-5, or discarded in RX_QFULL (R270). -/
def steer (s : State) (p q filter : Nat) (big stamped : Bool) (f : EthFrame) (bytes : List Byte) (v : RxView) (t : Time) : State :=
  let t0 := if stamped then t else 0
  let flags := b2n big * 3 + b2n stamped * 4 + b2n v.tagged * 8
  let pkt := pad8 (leBytes 1 p ++ leBytes 1 flags ++ leBytes 1 filter ++ leBytes 1 0 ++ leBytes 2 bytes.length
    ++ leBytes 2 (min 65535 f.wireLen) ++ leBytes 2 v.tci ++ leBytes 6 0 ++ leBytes 6 (t0 / sec) ++ leBytes 4 (t0 % sec / ns)
    ++ leBytes 2 (t0 % ns) ++ leBytes 4 0 ++ bytes)
  let a := qOffer s (8 + 4 * p + q) pkt
  pauseCheck (if a.1 then a.2 else ethCount a.2 p (5 + q)) p

/-- The filters and DEFAULT_DROP (R268 step 7). -/
def applyFilters (s : State) (p : Nat) (big : Bool) (f : EthFrame) (bytes : List Byte) (v : RxView) (t : Time) : State :=
  match (List.range 64).find? fun i => filterTakes (s.cfg.row ethFilter (p * 64 + i)) v with
  | some i =>
    let r := s.cfg.row ethFilter (p * 64 + i)
    if byteAt r 0 = 2 then ethCount s p 9 else steer s p (bitsAt r 8 2) i big (bitAt r 10) f bytes v t
  | none => if bitAt (ethRec s p) 11 then ethCount s p 10 else steer s p 0 0xFF big false f bytes v t

/-- ARP, ND and ICMP echo addressed to the node (R268 step 6). -/
def forZhotex (s : State) (p : Nat) (v : RxView) (b : List Byte) : Bool :=
  let addr (d : List Byte) : Bool := isAddr s.cfg (2 * p) d || isAddr s.cfg (2 * p + 1) d
  if v.etype = 0x0806 then addr ((b.drop (v.off + 24)).take 4)
  else if v.etype = 0x0800 then v.proto == some 1 && byteOf b (v.off + 4 * (byteOf b v.off % 16)) == 8 && addr v.ipDst
  else if v.etype = 0x86DD then
    v.proto == some 58 && (let ty := byteOf b (v.off + 40)
      (ty == 135 && addr ((b.drop (v.off + 48)).take 16)) || (ty == 136 && addr v.ipDst) || (ty == 128 && addr v.ipDst))
  else false

/-- What Zhotex answers such a frame from the interface it came to: an ARP request, a Neighbour Solicitation or an ICMP echo (RFC 826, 4861,
792 and 4443: PRESUMED, log entry 45). -/
def zhotexReply (c : Store) (i : Nat) (v : RxView) (b : List Byte) : Option (List Byte) :=
  let from_ := (b.drop 6).take 6
  let icmp := v.off + (if v.etype = 0x0800 then 4 * (byteOf b v.off % 16) else 40)
  if v.etype = 0x0806 then
    if beAt b (v.off + 6) 2 = 1 ∧ isAddr c i ((b.drop (v.off + 24)).take 4) then
      some (arpPacket c i 2 from_ ((b.drop (v.off + 8)).take 6) ((b.drop (v.off + 14)).take 4))
    else none
  else if v.etype = 0x0800 then
    let body := (b.drop (icmp + 4)).take (beAt b (v.off + 2) 2 - 4 * (byteOf b v.off % 16) - 4)
    let echo (sum : Nat) : List Byte := beBytes 2 0 ++ beBytes 2 sum ++ body
    if isAddr c i v.ipDst then some (ip4Packet c i ((b.drop (v.off + 12)).take 4) from_ 1 64 0 (echo (ipSum (echo 0)))) else none
  else
    let src := (b.drop (v.off + 8)).take 16
    if byteOf b icmp = 135 then
      let want := (b.drop (v.off + 48)).take 16
      if !isAddr c i want then none
      else if leNat src = 0 then some (naPacket c i 0x20000000 want (beBytes 16 0xFF020000000000000000000000000001) (beBytes 6 0x333300000001))
      else some (naPacket c i 0x60000000 want src from_)
    else if byteOf b icmp = 128 ∧ isAddr c i v.ipDst then
      let body := (b.drop (icmp + 4)).take (beAt b (v.off + 4) 2 - 4)
      some (ip6Packet c i v.ipDst src from_ 58 64 0 (4 + body.length) fun sum => beBytes 2 0x8100 ++ beBytes 2 sum ++ body)
    else none

/-- Zhotex takes such a frame and answers it on TX priority 3 where the port sends. -/
def zhotexTakes (s : State) (p : Nat) (v : RxView) (b : List Byte) : State :=
  match zhotexReply s.cfg (if onMgmt s p v then 2 * p + 1 else 2 * p) v b with
  | some frame => if ethSends s p then qPush s (3 + 4 * p) false (txPacket 0 0 frame) else s
  | none => s

/-! ### MB2 datagrams (R295, R317, R318, R427) -/

/-- A counter of the MB2 record of DEV_MB_COUNTERS: 4 MB2_NO_SESSION, 5 MB2_AUTH_FAIL, 6 MB2_REPLAY, 7 MB2_FRAGMENT. -/
def mb2Count (s : State) (k : Nat) : State := { s with ox := { s.ox with counters := bump s.ox.counters (2 * 8 + k) 1 } }

/-- The live session with a number that accepts datagrams on a port, as its SEC_SESSION record (R426). -/
def mb2Session (s : State) (p n : Nat) : Option Nat :=
  (s.sec.live.find? fun i => u32At (s.imm.row secSession i) 0 = n ∧ bitAt (s.imm.row secSession i) (82 + p)).map fun i => s.imm.row secSession i

/-- The replay window after a counter, none where R318 refuses it. A window is the highest counter × 2^64 and, by bit, which of the 64
counters below it were accepted. -/
def replay (w c : Nat) : Option Nat :=
  let h := w / 2 ^ 64
  let m := w % 2 ^ 64
  if h < c then some (c * 2 ^ 64 + (m * 2 + 1) * 2 ^ (min (c - h) 65 - 1) % 2 ^ 64)
  else if c < h ∧ h - c ≤ 64 ∧ bitAt m (h - c - 1) = false then some (h * 2 ^ 64 + putBit m (h - c - 1) true)
  else none

/-- A datagram to port 51200 judged: whether a message of it is heard, and the counters. Its request is a command of its own. -/
def takeMb2 (s : State) (p : Nat) (src d : List Byte) (frag : Bool) : State :=
  let n := leAt d 4 4
  let c := leAt d 8 8
  let heard : State := { s with sec := { s.sec with peer := SMap.put [] s.sec.peer (n * 2 + p) src } }
  if ¬ mb2Serves s p then s
  else if frag then mb2Count s 7
  else if d.length < 32 ∨ byteOf d 0 ≠ 0xC9 ∨ byteOf d 1 ≠ 1 ∨ byteOf d 2 ≠ 0 then mb2Count s 4
  else if n = 0 then heard
  else match mb2Session s p n with
    | none => mb2Count s 4
    | some r =>
      match gcmOpen (SMap.get KeySlot.empty s.sec.slots (u16At r 6)).key ((d.drop 4).take 12) (d.take 16) (d.drop 16) with
      | none => mb2Count s 5
      | some _ => match replay (SMap.get 0 s.sec.rx n) c with
        | none => mb2Count s 6
        | some w => { heard with sec := { heard.sec with rx := SMap.put 0 s.sec.rx n w } }

/-- An accepted frame classified (R268, R276). -/
def classify (s : State) (p : Nat) (f : EthFrame) (t : Time) : State :=
  let b := f.bytes
  let v := viewOf b
  let udp := b.drop v.udpOff
  let mgmt := v.udpPort == some 51200
  if v.etype = 0x8808 then
    if beAt b v.off 2 = 1 then pauseReceived s p (beAt b (v.off + 2) 2) t else ethCount s p 11
  else if isPtp s p v then takePtp s p (if v.udpPort.isSome then udp else b.drop v.off) t
  else if mgmt ∧ onMgmt s p v ∧ isAddr s.cfg (2 * p + 1) v.ipDst then
    takeMb2 s p (udpSource b v) (udp.take (beAt b (v.udpOff - 4) 2 - 8)) (v.etype == 0x0800 && decide (0x2000 ≤ beAt b (v.off + 6) 2 % 0x4000))
  else if mgmt then applyFilters (ethCount s p 18) p false f b v t
  else if v.udpPort = some 5568 ∧ onData s p v ∧ (sacnUniverses s.cfg).elem (beAt udp 113 2) then takeSacn s udp t
  else match streamLayer s p v with
    | some layer => takeRtp s layer udp t
    | none => if forZhotex s p v b then zhotexTakes s p v b else applyFilters s p false f b v t

/-- ETH_RX_FRAME: size checks of Table 11-3, the address filter, then classification (R262, R267, R268). -/
def execEthRxFrame (port : Nat) (t : Time) (f : EthFrame) (s : State) : Host.Outcome State Fault Refusal :=
  let s0 := advance s t
  let max_ := epMax (ethRec s port)
  if !ethHears s port then .next s0
  else if f.wireLen ≤ 63 then .next (ethCount s0 port 2)
  else if f.wireLen ≤ max_ ∧ !f.fcsGood then .next (ethCount s0 port 3)
  else
    let s1 := if max_ < f.wireLen then ethCount s0 port 4 else s0
    if !addrAccepted s port (beAt f.bytes 0 6) then .next s1
    else
      let s2 := ethCount s1 port 1
      if max_ < f.wireLen then
        let b := f.bytes.take (max_ - 4)
        .next (applyFilters s2 port true f b (viewOf b) t)
      else .next (classify s2 port f t)

end Sys2Proof.Machine
end

