-- ==== Sys2Proof/Machine/Stack.lean ====
section
/-! DEFINITION. Cascade ports and stacks (15): roles and enumeration, time and edges, sequence numbers and credit, with the commands that
need no request. -/

namespace Sys2Proof.Machine

/-! ### Ports (15.1, 15.2) -/

/-- A counter of a port advanced: 0 LOCK_LOSS, 1 CRC_ERR, 2 RETRANSMIT, 3 TIME_CRC, 4 CONTENT_DROP, 5 EDGE_MISSED (Table 15-5). -/
def casCount (s : State) (p k n : Nat) : State := casPut s p { casGet s p with cnt := bump (casGet s p).cnt k n }

/-- CASCADE_LANE_LOCK (R338): a lane locks after 64 consecutive valid sync headers. -/
def execCascadeLaneLock (port lane goodHeaders : Nat) (s : State) : Host.Outcome State Fault Refusal :=
  .next (if s.dev.state.powered ∧ s.dev.resetN ∧ port < 2 ∧ lane < 8 ∧ 64 ≤ goodHeaders then
      casPut s port { casGet s port with lanes := putBit (casGet s port).lanes lane true }
    else s)

/-- A member whose CUP leaves UP heads a detached section: it leaves the master and the nodes above it out of STK_REACH, goes to HOLDOVER,
freezes o, and logs STK_UPSTREAM_LOST (R360). A node whose CDN leaves UP drops the nodes below it. -/
def detach (s : State) (p : Nat) : State :=
  let i := s.stk.index
  if p = 1 then { s with stk := { s.stk with reach := s.stk.reach % 2 ^ (i + 1) } }
  else if isMember s then
    let s1 := { s with stk := { s.stk with reach := s.stk.reach / 2 ^ i * 2 ^ i, detached := true } }
    logEv (losesSource s1) 0x0908 0 0 0
  else s

/-- A port leaves UP, if it was UP: STK_LINK_DOWN is logged (R340). -/
def leaveUp (s : State) (p new : Nat) : State :=
  let was := (casGet s p).state == 2
  let mode := casMode s p
  let s1 := casPut s p { casGet s p with state := new }
  if was then
    let s2 := logEv s1 0x0901 p 0 0
    if mode = 1 ∧ s.dev.stackEn then detach s2 p else s2
  else s1

/-- CASCADE_LOCK_LOSS (R338, R339): the lane loses lock and the link goes DOWN. -/
def execCascadeLockLoss (port lane : Nat) (s : State) : Host.Outcome State Fault Refusal :=
  let x := casGet s port
  .next (if port < 2 ∧ bitAt x.lanes lane then
      leaveUp (casCount (casPut s port { x with lanes := putBit x.lanes lane false, matched := 0, mismatched := 0 }) port 0 1) port 0
    else s)

/-- The node transmits on a port (R337). -/
def casSpeaks (s : State) (p : Nat) : Bool := s.dev.stackEn || casMode s p == 2

/-- The node's LINK slot on a port (Table 15-1). -/
def sendLink (s : State) (p : Nat) : State :=
  if casSpeaks s p then emit s (.cascade p 0 (linkSlot (casMode s p) s.dev.stackEn s.stk.role s.dev.state.code)) else s

/-- CASCADE_ALIGN_SLOT (R338, R339): the marker counts of the eight lanes, all locked, match or not; an ALIGNED link sends
LINK slots. -/
def execCascadeAlignSlot (port : Nat) (counts : List Nat) (s : State) : Host.Outcome State Fault Refusal :=
  let x := casGet s port
  .next (if 2 ≤ port ∨ counts.length ≠ 8 ∨ x.lanes ≠ 255 then s
    else if counts.all (· == counts.getD 0 0) then
      let s1 := casPut s port { x with matched := min 2 (x.matched + 1), mismatched := 0 }
      if x.state = 0 ∧ 1 ≤ x.matched then sendLink (casPut s1 port { casGet s1 port with state := 1 }) port else s1
    else
      let s1 := casPut s port { x with matched := 0, mismatched := min 2 (x.mismatched + 1) }
      if 1 ≤ x.mismatched then leaveUp s1 port 0 else s1)

/-- A TIME message sent once the link is at least ALIGNED: PROBE and ECHO measure its delay before it comes UP (R339, R350). -/
def casProbe (s : State) (p subtype : Nat) (body : List Byte) : State :=
  if 1 ≤ (casGet s p).state ∧ casSpeaks s p then emit s (.cascade p 0 (timeSlot subtype body)) else s

/-- An ENUM message (Table 15-3). -/
def enumBody (index : Nat) (final : Bool) (nodes proto : Nat) : List Byte :=
  leBytes 1 index ++ leBytes 1 (b2n final) ++ leBytes 1 nodes ++ leBytes 2 proto

/-- The master starts an enumeration (R342). -/
def startEnum (s : State) : State := casTime s 1 7 (enumBody 0 false 0 (protoOf s))

/-- STK_ROLE_DECIDE (R341): a node strapped STACK_EN high is a member where its CUP is UP in CASCADE mode, and otherwise the master. -/
def execStkRoleDecide (s : State) : Host.Outcome State Fault Refusal :=
  .next (if s.dev.state.powered ∧ s.dev.resetN ∧ s.dev.stackEn ∧ s.stk.role = 0 then
      if casUp s 0 ∧ ((casGet s 0).partner.getD (1, 0)).1 = 1 then { s with stk := { s.stk with role := 2 } }
      else edgesUp (timedBegin <| startEnum { s with stk := { s.stk with role := 1, index := 0, enumerated := true } })
    else s)

/-! ### Enumeration (R342, R343) -/

/-- Why a member does not adopt its candidate index, or keep the index it has (R343, R361), as the event to log with its parameters. -/
def enumFault (s : State) (cand proto : Nat) : Option (Nat × Nat × Nat) :=
  if 32 ≤ cand then some (0x0905, cand, 0)
  else if s.stk.enumerated = false ∧ bitAt s.stk.reach cand ∧ cand ≠ 0 then some (0x0906, cand, 0)
  else if protoOf s + 1 < proto ∨ proto + 1 < protoOf s then some (0x0907, protoOf s, proto)
  else none

/-- Every node of a stack of `n` in reach. -/
def reachAll (n : Nat) : Nat := 2 ^ min n 32 - 1

/-- ENUM_RECEIVED (R342, R343, R361): a member takes a candidate index and passes it on, or reports it where it is the last node; at FINAL
it adopts the index, or refuses it. One that has an index keeps that where R343 admits it. -/
def execEnumReceived (index : Nat) (final : Bool) (nodes proto : Nat) (s : State) : Host.Outcome State Fault Refusal :=
  .next (if !isMember s then s
    else if !final then
      let cand := index + 1
      let s1 := { s with stk := { s.stk with candidate := some cand, masterProto := proto } }
      if casUp s1 1 then casTime s1 1 7 (enumBody cand false nodes proto) else casTime s1 0 8 (leBytes 1 cand)
    else
      let s1 := match s.stk.candidate with
        | none => s
        | some cand =>
          let stk := { s.stk with nodes := nodes, reach := reachAll nodes, masterProto := proto, detached := false }
          let index := if s.stk.enumerated then s.stk.index else cand
          match enumFault s index proto with
          | some (code, p0, p1) => logEv { s with stk := { s.stk with enumerated := false } } code p0 p1 0
          | none => { s with stk := { stk with index := index, enumerated := true } }
      casTime s1 1 7 (enumBody index true nodes proto))

/-! ### Time (R350) -/

/-- An instant as TIME messages carry it: seconds, nanoseconds, fraction. -/
def stampBytes (t : Time) : List Byte := leBytes 8 (t / sec) ++ leBytes 4 (t % sec / ns) ++ leBytes 2 (t % ns)

/-- The port on which a node hears master time: CUP, or the mirror link of a standalone shadow. -/
def timePort (s : State) : Nat := if s.dev.stackEn then 0 else 1

/-- The node's estimate of master time: its device time less its latest o (R350). -/
def masterTime (s : State) : Time := if follows s ∨ isMember s then ((s.tim.now : Int) - s.stk.o).toNat else s.tim.now

/-- The node sends TIME messages of its own on a port: down the stack, and from the active over the mirror link (R350, R363). -/
def sendsTime (s : State) (p : Nat) : Bool := if casMode s p = 2 then s.red.role == 1 && s.dev.state == .run else p == 1 && s.dev.stackEn

/-- A SYNC message on the ports that carry one (R350). -/
def sendSync (s : State) : State :=
  let body := stampBytes (masterTime s) ++ leBytes 2 s.stk.syncSeq
  ([0, 1] : List Nat).foldl (fun a p => if sendsTime s p then casTime a p 1 body else a)
    { s with stk := { s.stk with syncSeq := (s.stk.syncSeq + 1) % 65536 } }

/-- SYNC_SEND (R350), every millisecond. -/
def execSyncSend (t : Time) (s : State) : Host.Outcome State Fault Refusal :=
  let s1 := advance s t
  .next (if s1.dev.state.powered ∧ s1.dev.resetN then sendSync s1 else s1)

/-- PROBE_SEND (R350), every 16 ms. -/
def execProbeSend (t : Time) (s : State) : Host.Outcome State Fault Refusal :=
  let s1 := advance s t
  let q := s1.stk.probeSeq
  let one (a : State) (p : Nat) : State :=
    if (p = 1 ∧ s1.dev.stackEn) ∨ (casMode s1 p = 2 ∧ s1.red.role = 1) then
      casProbe (casPut a p { casGet a p with probes := SMap.put none (casGet a p).probes q (some t) }) p 2 (leBytes 2 q)
    else a
  .next (if s1.dev.state.powered ∧ s1.dev.resetN then
      ([0, 1] : List Nat).foldl one { s1 with stk := { s1.stk with probeSeq := (q + 1) % 65536 } }
    else s1)

/-- A TIME message whose CRC fails is discarded and counted (R350). -/
def timeCrc (s : State) (p : Nat) : State := casCount s p 3 1

/-- The measured delay of a port with STK_PORT ASYM, in units of 1/65,536 ns (R350). -/
def delayFine (s : State) (p : Nat) : Int :=
  roundDiv ((casGet s p).delays.foldl (· + ·) 0) (2 * max 1 (casGet s p).delays.length) + roundDiv (s32At (s.cfg.row stkPort p) 0 * ns) 1000

/-- SYNC_RECEIVED (R68, R350, R353): the offset o = t_rx − (t_sync + d) goes to the servo with s = 0.001 s, and the node passes master time
on downward by its own estimate. -/
def execSyncReceived (tRx tSync : Time) (crcOk : Bool) (s : State) : Host.Outcome State Fault Refusal :=
  let s1 := advance s tRx
  let p := timePort s1
  .next (if !crcOk then timeCrc s1 p
    else if s1.dev.state.powered ∧ casUp s1 p ∧ (isMember s1 ∨ (casMode s1 p = 2 ∧ s1.red.role ≠ 1)) then
      let o : Int := (tRx : Int) - ((tSync : Int) + delayFine s1 p)
      let s2 := { s1 with stk := { s1.stk with o := o } }
      let src := if isMember s1 then 3 else 4
      sendSync (if sourceAllowed s2 src then takeSample s2 (Int.tdiv o (ns : Int)) o 128 else s2)
    else s1)

/-- PROBE_RECEIVED (R350): answered with ECHO and the residence time. -/
def execProbeReceived (t : Time) (seq residence : Nat) (crcOk : Bool) (s : State) : Host.Outcome State Fault Refusal :=
  let s1 := advance s t
  let p := timePort s1
  .next (if !crcOk then timeCrc s1 p
    else casProbe s1 p 3 (leBytes 2 seq ++ leBytes 4 (residence / ns) ++ leBytes 2 (residence % ns)))

/-- ECHO_RECEIVED (R350): one exchange more in the average of the last 16. On CDN it answers a PROBE of the node. -/
def execEchoReceived (port : Nat) (t1 t4 : Time) (seq residence : Nat) (crcOk : Bool) (s : State) : Host.Outcome State Fault Refusal :=
  let s1 := advance s t4
  let x := casGet s1 port
  let own := SMap.get none x.probes seq
  .next (if 2 ≤ port ∨ x.state = 0 then s1
    else if !crcOk then timeCrc s1 port
    else if port = 1 ∧ own = none then s1
    else casPut s1 port { x with
      delays := ((t4 : Int) - (own.getD t1 : Nat) - residence) :: x.delays.take 15, probes := SMap.put none x.probes seq none })

/-! ### Edges (R351, R353) -/

/-- The edge offset after one more edge: the latest o at the first edge, and afterwards at most 500 ns nearer to it (R351). -/
def stepHat (s : State) : Int :=
  match s.stk.oHat with
  | none => s.stk.o
  | some h => h + max (-(500 * ns : Nat) : Int) (min (500 * ns : Nat) (s.stk.o - h))

/-- The next edge placed from its EDGE message at E + ô (R351). -/
def placeNext (s : State) (e : Time) : State :=
  let h := stepHat s
  { s with stk := { s.stk with oHat := some h }, frm := { s.frm with next := max (s.frm.last + 1) ((e : Int) + h).toNat } }

/-- A member's edges start with the one that an EDGE message names (R351). -/
def followFrom (s : State) (k : Nat) (e : Time) : State :=
  let at_ := max s.tim.now ((e : Int) + s.stk.o).toNat
  beginEdges { timedBegin s with stk := { s.stk with oHat := some s.stk.o } } k at_ 0

/-- An EDGE message (Table 15-3). -/
def edgeBody (k : Nat) (e : Time) (holdover : Bool) : List Byte := leBytes 8 k ++ stampBytes e ++ leBytes 1 (b2n holdover)

/-- The node takes EDGE messages: a member, or a unit whose mirror link carries those of the active (R351, R363). -/
def hearsEdges (s : State) : Bool := isMember s || (s.dev.state == .shadow && s.red.pair && s.red.takenAt.isNone)

/-- EDGE_RECEIVED (R351, R353, R360): kept for its frame, it places the next edge where it names that one; it goes on downward. A member
of a detached section learns of it by HOLDOVER. -/
def execEdgeReceived (k : Nat) (e : Time) (holdover crcOk : Bool) (s : State) : Host.Outcome State Fault Refusal :=
  .next (if !crcOk then timeCrc s (timePort s)
    else if !hearsEdges s then s
    else
      let s1 := { s with stk := { s.stk with edges := if nextNum s ≤ k then SMap.put none s.stk.edges k (some e) else s.stk.edges } }
      let s2 := if holdover ∧ !s1.stk.detached then
          logEv { s1 with stk := { s1.stk with detached := true, reach := s1.stk.reach / 2 * 2 } } 0x0908 0 0 0
        else if !holdover ∧ s1.stk.detached ∧ casUp s1 (timePort s1) then { s1 with stk := { s1.stk with detached := false } }
        else s1
      let s3 := if s2.frm.running then (if k = nextNum s2 ∧ SMap.get none s.stk.edges k = none then placeNext s2 e else s2)
        else if isMember s2 ∧ s2.dev.state.live then followFrom s2 k e
        else s2
      if s.dev.stackEn then casTime s3 1 4 (edgeBody k e holdover) else s3)

/-- EDGE messages for the edge now fixed, from the node that originates them: the master, the head of a detached section in its own
estimate, and the active to the shadow (R351, R360, R363). -/
def sendEdge (s : State) : State :=
  let head := isMember s && s.stk.detached && !casUp s 0
  let e : Time := if head then ((s.frm.next : Int) - s.stk.oHat.getD 0).toNat else s.frm.next
  ([0, 1] : List Nat).foldl (fun a p =>
    if sendsTime s p ∧ (head ∨ !follows s) then casTime a p 4 (edgeBody (nextNum s) e head) else a) s

/-- What a follower does at an edge: a missed EDGE message is counted; the next edge is placed from its message where that is here already
(R351). -/
def followEdge (s : State) (k : Nat) : State :=
  if hearsEdges s = false ∨ (!isMember s ∧ s.stk.oHat = none ∧ s.stk.edges = []) then s
  else
    let got := (SMap.get none s.stk.edges k).isSome
    let s1 := if got then { s with stk := { s.stk with missed := 0 } }
      else casCount { s with stk := { s.stk with missed := s.stk.missed + 1 } } (timePort s) 5 1
    let s2 := { s1 with stk := { s1.stk with edges := s1.stk.edges.filter fun x => decide (k < x.1) } }
    match SMap.get none s2.stk.edges (k + 1) with
    | some e => placeNext s2 e
    | none => s2

/-- EDGE_HOLDOVER (R351, R360): after four consecutive misses the member is in holdover. -/
def execEdgeHoldover (s : State) : Host.Outcome State Fault Refusal :=
  .next (if hearsEdges s ∧ 4 ≤ s.stk.missed ∧ !s.stk.detached then
      let s1 := { s with stk := { s.stk with detached := true } }
      logEv (losesSource s1) 0x0908 0 0 0
    else s)

/-- A frame slips (R49, R50): it is counted and logged with the node that detected it, once. -/
def slipFrame (s : State) (k node : Nat) : State :=
  match frameOf s k with
  | none => s
  | some f =>
    if f.stage = .slipped ∨ f.stage = .idle then s
    else
      logEv { putFrame s { f with stage := .slipped } with frm := { (putFrame s { f with stage := .slipped }).frm with slips := sat32 s.frm.slips 1 } }
        0x0101 (k % 2 ^ 32) (k / 2 ^ 32) node

/-- A slip token of this node, both ways but never over a mirror link (R51, R363). -/
def sendSlip (s : State) (k : Nat) : State :=
  let body := leBytes 8 k ++ leBytes 1 s.stk.index
  let one (a : State) (p : Nat) : State := if casMode s p = 1 then casTime a p 5 body else a
  if s.dev.stackEn ∧ s.cfg.v frmSlipScope = 1 then one (one s 0) 1 else s

/-- SLIP_RECEIVED (R51, R353): the token goes on, and the node repeats frame k − 1. -/
def execSlipReceived (port k node : Nat) (s : State) : Host.Outcome State Fault Refusal :=
  .next (if s.dev.stackEn = false ∨ 2 ≤ port then s
    else
      let s1 := if casMode s (1 - port) = 1 then casTime s (1 - port) 5 (leBytes 8 k ++ leBytes 1 node) else s
      slipFrame { s1 with stk := { s1.stk with slips := if s1.stk.slips.elem k then s1.stk.slips else (k :: s1.stk.slips).take 16 } } k node)

/-- TXN_DISCARDED for a transaction (Table 13-12). -/
def noteDiscarded (s : State) (x : AccTxn) : State := notify s 0x0002 (leBytes 2 x.id ++ leBytes 6 0 ++ leBytes 8 x.frame)

/-- Staged transactions that no COMMIT has confirmed by the latch of their frame are discarded (R353). -/
def commitMissing (s : State) (j : Nat) : State :=
  let late := s.stk.staged.filter fun x => x.frame ≠ 0 ∧ x.frame ≤ j
  (late.filter fun x => !x.items.any fun i => i.op == 0x62).foldl noteDiscarded { s with stk := { s.stk with staged := s.stk.staged.filter fun x => !(decide (x.frame ≠ 0) && decide (x.frame ≤ j)) } }

/-! ### Packets (R347, R348) -/

/-- CREDIT_RECEIVED (R348): packets up to SEQ are acknowledged, credit is granted, and packets that waited go out. -/
def execCreditReceived (port cls seq credits : Nat) (s : State) : Host.Outcome State Fault Refusal :=
  let x := casClass s port cls
  let left := match x.unacked.findIdx? (·.1 = seq) with
    | some i => x.unacked.drop (i + 1)
    | none => x.unacked
  .next (if 2 ≤ port ∨ cls < 1 ∨ 3 < cls then s
    else casPump x.waiting.length (casClassPut s port cls { x with unacked := left, credit := x.credit + credits }) port cls)

/-- CMD_RETRANSMIT (R348): the packets from the first unacknowledged one on go out again. -/
def execCmdRetransmit (port cls : Nat) (s : State) : Host.Outcome State Fault Refusal :=
  let x := casClass s port cls
  .next (if 2 ≤ port ∨ x.unacked = [] ∨ !casUp s port ∨ cls = 2 then s
    else x.unacked.foldl (fun a m => emit a (.cascade port cls (packetBlocks m.1 m.2))) (casCount s port 2 1))

/-! ### Checks (R358) -/

/-- Content streams that a transaction changes, or whose layer it enables or disables (R358). -/
def checkStreams (s : State) (o c : Store) : List Err :=
  stkContent.all.flatMap fun i =>
    let r := c.row stkContent i
    let on (d : Store) : Nat := d.val layEnable (bitsAt r 14 2 * 16 + bitsAt r 8 4)
    if bitAt r 0 ∧ (r ≠ o.row stkContent i ∨ on c ≠ on o) then
      errIf (on c == 0 || bitAt (u32At r 4) s.stk.index || decide (2 ^ s.stk.nodes ≤ u32At r 4))
        (viol .eParam stkContent.id i)
    else []

end Sys2Proof.Machine
end

