-- ==== Sys2Proof/Machine/Mirror.lean ====
section
/-! DEFINITION. Redundant pairs and the shadow (16): mirror messages, the lease, taking over and giving up, the reflection check, with the
commands that need no request; and link bring-up, which forms the pair. -/

namespace Sys2Proof.Machine

/-! ### Messages (R371) -/

/-- A counter of RED_COUNTERS advanced: 0 SWITCHES, 1 LEASE_LOST, 2 DIVERGE_FRAMES, 3 UNCOMPARED, 4 JOURNAL_LATE (Table 16-4). -/
def redCount (s : State) (k : Nat) : State := { s with red := { s.red with cnt := bump s.red.cnt k 1 } }

/-- A MIRROR message sent: by a master over the mirror link, by a member to its master; nothing waits for a link that is not UP (R369). -/
def mirSend (s : State) (mtype : Nat) (body : List Byte) : State :=
  let m := leBytes 1 mtype ++ leBytes 1 0 ++ leBytes 1 (if s.dev.stackEn then s.stk.index else 0) ++ leBytes 1 0 ++ leBytes 4 body.length ++ body
  if s.red.pair = false then s
  else if isMember s then (if casUp s 0 then casSend s 0 3 0 m else s)
  else if mirrorUp s then casSend s (mirrorPort s) 3 0 m
  else s

/-- A MIRROR message of so many body bytes that arrived over the mirror link, or at a member from its master, is acknowledged (R348, R371). -/
def mirTook (s : State) (len : Nat) : State :=
  if isMember s then casTook s 0 3 (8 + len) else if mirrorUp s then casTook s (mirrorPort s) 3 (8 + len) else s

/-- An Oxold request as it stands in its packet (Table 13-5). -/
def reqBytes (op : Nat) (r : Req) : List Byte :=
  leBytes 2 op ++ [r.flags, r.tag, r.epoch, r.target, r.status, r.reserved] ++ leBytes 8 r.zoneMask.toNat ++ leBytes 4 r.index.toNat
    ++ leBytes 2 r.length.toNat ++ leBytes 2 r.txnId.toNat ++ r.body

/-- The header of a request that the node itself writes. -/
def ownHeader (op index len : Nat) : List Byte :=
  leBytes 2 op ++ leBytes 6 0 ++ leBytes 8 0 ++ leBytes 4 index ++ leBytes 2 len ++ leBytes 2 0

/-- RESULT_LEVEL of the running image (Table 19-1). -/
def resultLevel (s : State) : Nat := leAt (runningManifest s) 18 2

/-- HELLO of a master (Table 16-5). -/
def sendHello (s : State) : State :=
  if isMaster s then
    mirSend s 1 (leBytes 16 Config.deviceId.toNat ++ leBytes 1 s.stk.nodes ++ leBytes 1 (b2n (s.red.role == 1)) ++ leBytes 2 (protoOf s)
      ++ leBytes 2 (resultLevel s) ++ leBytes 2 0)
  else s

/-- The node-local set, which is not mirrored, with what writes nothing that lasts (R368). -/
def nodeLocal (id : Nat) : Bool :=
  [0x6000, 0x6400, 0x6800, 0x7400, 0x7000, 0x6C00].elem (id / 0x400 * 0x400) || [0x5C00, 0x5003, 0x5400, 0x3804, 0x0815].elem id

/-- A parameter or table is mirrored. -/
def isMirrored (id : Nat) (ro wo : Bool) : Bool := !nodeLocal id && !ro && !wo

/-- A SET request for one value of a parameter. -/
def setBytes (s : State) (p : ParamRow) (i : Nat) : List Byte :=
  ownHeader 2 i (8 + up8 p.ty.len) ++ leBytes 2 p.id ++ leBytes 2 0 ++ leBytes 2 p.ty.len ++ leBytes 2 0
    ++ pad8 (leBytes p.ty.len ((if p.edge then s.cfg else s.imm).val p i))

/-- TABLE_WRITE requests for all of a table, as many records in each as its LENGTH holds (Table 13-5). -/
def tableBytes (s : State) (t : TableSpec) : List Byte :=
  let n := 65519 / max 1 t.size
  (List.range ((t.count + n - 1) / n)).flatMap fun k =>
    let m := min n (t.count - k * n)
    pad8 (ownHeader 0x20 (k * n) (16 + t.size * m) ++ leBytes 2 t.id ++ leBytes 2 0 ++ leBytes 4 m ++ leBytes 8 0
      ++ (List.range m).flatMap fun i => leBytes t.size ((if t.edge then s.cfg else s.imm).row t (k * n + i)))

/-- The requests of a SNAPSHOT: every mirrored parameter and table. -/
def snapshotBytes (s : State) : List Byte :=
  ((allParams.filter fun p => isMirrored p.id p.ro p.wo).flatMap fun p => (List.range (max 1 p.inst)).flatMap fun i => setBytes s p i)
  ++ ((allTables.filter fun t => isMirrored t.id t.ro false && t.id != cnvSceneStore.id).flatMap fun t => tableBytes s t)
  ++ s.cfg.scene.flatMap fun x =>
      pad8 (ownHeader 0x20 x.1 (16 + x.2.length) ++ leBytes 2 cnvSceneStore.id ++ leBytes 2 0 ++ leBytes 4 1 ++ leBytes 8 0 ++ x.2)

/-- SNAPSHOT in one part, to commit at the next edge still open (R368); the CONTINUITY that follows tells everything. -/
def sendSnapshot (s : State) : State :=
  mirSend { s with red := { s.red with contSacn := [], contFc := [], contNeigh := [], contCmd := [], told := false } } 4
    (leBytes 4 0 ++ leBytes 1 1 ++ leBytes 3 0 ++ leBytes 8 (nextFrame s) ++ snapshotBytes s)

/-- JOURNAL at the acceptance of a transaction (R369). -/
def sendJournal (s : State) (x : AccTxn) : State :=
  if s.red.role = 1 then
    mirSend s 5 (leBytes 8 x.frame ++ leBytes 2 x.id ++ leBytes 2 x.items.length ++ leBytes 4 0
      ++ x.items.flatMap fun i => pad8 (reqBytes i.op i.req))
  else s

/-! ### Links (R339, R340) -/

/-- A link comes UP: the master enumerates over CDN, and a mirror link forms the pair (R342, R367). -/
def linkUp (s : State) (p : Nat) : State :=
  let s1 := casPut s p { casGet s p with state := 2 }
  let s2 := setCond (setCond (setCond s1 0x0902 p false) 0x0903 p false) 0x0904 p false
  if casMode s2 p = 2 then sendHello s2
  else if p = 1 ∧ s2.stk.role = 1 then startEnum s2
  else s2

/-- CASCADE_LINK_SLOT (R339, R340, R342, R367): the LINK slots of both sides decide whether an ALIGNED link comes UP. -/
def execCascadeLinkSlot (port mode : Nat) (stackEn : Bool) (role devState : Nat) (s : State) : Host.Outcome State Fault Refusal :=
  let x := casGet s port
  let _ := (stackEn, devState)
  .next (if 2 ≤ port ∨ x.state ≠ 1 ∨ x.lanes ≠ 255 ∨ !casSpeaks s port then s
    else
      let s1 := casPut s port { x with partner := some (mode, role) }
      let d := delayPs s port
      let two : Bool := port == 0 && mode == 1 && s.dev.stackEn && s.stk.role == 1 && casMode s 0 == 1
      let s2 := logEntry s1 (mode != casMode s port) 0x0902 port port 0 0
      let s3 := logEntry s2 (!(x.delays == []) && decide (300000 < d)) 0x0903 port port d.toNat 0
      let s4 := sendLink (logEntry s3 two 0x0904 port 0 0 0) port
      if mode ≠ casMode s port ∨ x.delays = [] ∨ 300000 < d ∨ two then s4 else linkUp s4 port)

/-! ### The lease (R372 to R379) -/

/-- L and G (16.3). -/
def leaseL (c : Store) : Time := if c.v redLeaseLen = 0 then 3 * period c else c.v redLeaseLen * us

/-- RED_LEASE_GUARD. -/
def leaseG (c : Store) : Time := c.v redLeaseGuard * us

/-- D = r + L + G (R374), with L added once on the unit whose master has the higher device ID (R367). -/
def deadlineD (s : State) : Time :=
  let extra := match s.red.hello with
    | some (id, _) => if s.red.first ∧ id < Config.deviceId.toNat then leaseL s.cfg else 0
    | none => 0
  s.red.r + leaseL s.cfg + leaseG s.cfg + extra

/-- A change of role announced to the members of the unit and to the peer (R366, R367). -/
def announceRole (s : State) (k : Nat) : State :=
  let s1 := sendHello s
  if s1.dev.stackEn ∧ isMaster s1 then
    casSend { s1 with stk := { s1.stk with nextRelay := (s1.stk.nextRelay + 1) % 65536 } } 1 1 0x3F
      (relayHeader 6 0xFF 0 1 0 s1.stk.nextRelay 0 0 0x3F 16 ++ leBytes 1 s1.red.role ++ leBytes 7 0 ++ leBytes 8 k)
  else s1

/-- SHADOW is entered (R67, R367, R374): the node holds no lease and holds the active alive from now on, and PTP is no longer its source. -/
def enterShadow (s : State) (t : Time) (first : Bool) : State :=
  let fit := match s.red.hello with
    | some (_, _, active, _, _) => if active then 0 else 1
    | none => 3
  let s1 := ptpClear (if isMember s then s else losesSource s)
  { s1 with red := { s1.red with
      role := 2, actOut := false, r := t, first := first, released := none, release := false, takenAt := none, sAck := none, sent := []
      fit := if s.red.fit = 2 then 2 else if first then fit else s.red.fit
      snap := [], snapPart := 0, snapAt := none, snapDone := false, inputs := [], results := [], own := [], compared := none } }

/-- The active gives the lease up at E(k) (R373). -/
def giveUp (s : State) (k : Nat) : State :=
  let s1 := logEv (redCount (toState s .shadow) 1) 0x0A02 (k % 2 ^ 32) 0 0
  let s2 := enterShadow s1 s1.tim.now false
  announceRole (resetPoints { s2 with red := { s2.red with
    fit := 1, lastActive := s2.tim.now, holding := true, zeroed := s2.red.peerAct } }) k

/-- HEARTBEAT of an edge (R372). -/
def sendHeartbeat (s : State) (k : Nat) (e : Time) : State :=
  mirSend { s with red := { s.red with sent := SMap.put none s.red.sent k (some e) } } 2
    (leBytes 8 k ++ stampBytes e ++ leBytes 1 (b2n s.red.release) ++ leBytes 1 0)

/-- CONTINUITY of an edge: what changed since the last one (R371). -/
def sendContinuity (s : State) (k : Nat) : State :=
  let sq : SMap Nat := s.wired.sacnSeq.map fun x => (x.1, x.2 % 256)
  let nb : SMap (Nat × Nat) := s.rad.neigh.map fun x => (x.1, (x.2.dsn.getD 0, x.2.fc.getD 0))
  let cm : SMap (Option CmdEntry) := s.rad.ports.flatMap fun p => p.2.cmds.map fun e => (p.1 * 4096 + e.1, e.2)
  let dS := sq.filter fun x => SMap.get 256 s.red.contSacn x.1 ≠ x.2
  let dF := s.rad.fc.filter fun x => SMap.get 0 s.red.contFc x.1 ≠ x.2
  let dN := nb.filter fun x => SMap.get (256, 0) s.red.contNeigh x.1 ≠ x.2
  let dC := cm.filter fun x => SMap.get none s.red.contCmd x.1 ≠ x.2
  let cmdBytes (x : Nat × Option CmdEntry) : List Byte := match x.2 with
    | none => []
    | some e => leBytes 1 (x.1 / 4096) ++ leBytes 1 e.values.length ++ leBytes 2 (x.1 % 4096) ++ leBytes 5 e.act
        ++ leBytes 1 (if e.sent then e.left else e.left - 1) ++ leBytes 2 0
        ++ (((e.values ++ [0, 0, 0, 0]).take 4).flatMap fun v => leBytes 2 v) ++ leBytes 4 0
  mirSend { s with red := { s.red with contSacn := sq, contFc := s.rad.fc, contNeigh := nb, contCmd := cm } } 8
    (leBytes 8 k ++ leBytes 4 dS.length ++ leBytes 4 dF.length ++ leBytes 4 dN.length ++ leBytes 4 dC.length
      ++ (dS.flatMap fun x => leBytes 2 x.1 ++ leBytes 1 x.2 ++ leBytes 5 0)
      ++ (dF.flatMap fun x => leBytes 2 x.1 ++ leBytes 2 0 ++ leBytes 4 (min 0xFFFFFFFF x.2))
      ++ (dN.flatMap fun x => leBytes 1 (x.1 / 4096) ++ leBytes 1 0 ++ leBytes 2 (x.1 % 4096) ++ leBytes 1 x.2.1 ++ leBytes 3 0 ++ leBytes 4 x.2.2)
      ++ dC.flatMap cmdBytes)

/-- One gratuitous ARP, or one unsolicited Neighbour Advertisement where the port has no IPv4 address (R377). -/
def gratuitous (s : State) (p : Nat) : State :=
  let c := s.cfg
  let ip4 := ip4Of c (p * 2)
  let frame := if leNat ip4 ≠ 0 then arpPacket c (p * 2) 1 (beBytes 6 0xFFFFFFFFFFFF) (List.replicate 6 0) ip4
    else naPacket c (p * 2) 0x20000000 (ip6Of c (p * 2)) (beBytes 16 0xFF020000000000000000000000000001) (beBytes 6 0x333300000001)
  if modeOf (c.row ethPort p) ≠ 0 then qPush s (3 + 4 * p) false (txPacket 0 0 frame) else s

/-- The lease at an edge E(k) of which the next is fixed (R364, R372, R373, R377, R379): a new active enters RUN at E(s0), the active sends
HEARTBEAT and CONTINUITY (in RUN PTP is its source again, R67), and one whose lease does not cover E(k + 1), or that RED_SWITCH releases, gives up. -/
def leaseEdge (s : State) (k : Nat) : State :=
  if s.red.pair = false ∨ isMember s then s
  else
    let s1 := match s.red.takenAt with
      | some u =>
        if s.dev.state = .shadow ∧ u ≤ s.frm.last then
          let a := toState { s with red := { s.red with takenAt := none, holding := false, zeroed := false }, stk := { s.stk with oHat := none } } .run
          let a := ptpClear (losesSource a)
          gratuitous (gratuitous (openWindows (resetPoints a) a.frm.last) 0) 1
        else s
      | none => s
    if s1.red.role ≠ 1 then s1
    else
      let s2 := sendContinuity (sendHeartbeat s1 k s1.frm.last) k
      let lost : Bool := match s2.red.sAck with
        | some a => decide (a + leaseL s2.cfg < s2.frm.next)
        | none => false
      if s2.dev.state = .run ∧ (s2.red.release ∨ lost) then giveUp s2 k
      else { s2 with red := { s2.red with release := false, lastActive := s2.tim.now } }

/-- Every outgoing radio frame counter 65,536 above its mirrored value (R377): of key slots that hold a key or have counted. -/
def raiseCounters (s : State) : State :=
  let keys := (List.range 512).filter fun i => (SMap.get KeySlot.empty s.sec.slots i).state ≠ 0 ∨ SMap.get 0 s.rad.fc i ≠ 0
  { s with rad := { s.rad with fc := keys.foldl (fun m i => SMap.put 0 m i (SMap.get 0 m i + 65536)) s.rad.fc } }

/-- Every command entry is due to be sent again (R382). -/
def resendCommands (s : State) : State :=
  { s with rad := { s.rad with ports := s.rad.ports.map fun p =>
      (p.1, { p.2 with cmds := p.2.cmds.map fun e => (e.1, e.2.map fun x => { x with left := max 1 x.left }) }) } }

/-- A member's role change at its edge (R366, R377). -/
def roleEdge (s : State) (k : Nat) : State :=
  match s.red.roleAt with
  | some (role, e) =>
    if e ≤ k then
      let s1 := { s with red := { s.red with roleAt := none, role := role, actOut := role == 1 } }
      if role = 1 ∧ s.dev.state = .shadow then
        let s2 := resendCommands (raiseCounters (toState { s1 with red := { s1.red with holding := false, zeroed := false } } .run))
        gratuitous (gratuitous (openWindows (resetPoints s2) s2.frm.last) 0) 1
      else if role = 2 ∧ s.dev.state = .run then
        let s2 := enterShadow (toState s1 .shadow) s1.tim.now false
        resetPoints { s2 with red := { s2.red with holding := true, zeroed := s2.red.peerAct } }
      else s1
    else s
  | none => s

/-- HEARTBEAT_RECEIVED (R372, R374, R376): received before D it extends D and is acknowledged. -/
def execHeartbeatReceived (t : Time) (k : Nat) (sentAt : Time) (release : Bool) (s : State) : Host.Outcome State Fault Refusal :=
  let s1 := mirTook (advance s t) 24
  let _ := sentAt
  .next (if s1.dev.state = .shadow ∧ s1.red.pair ∧ s1.red.takenAt.isNone ∧ t < deadlineD s1 then
      let s2 := { s1 with red := { s1.red with r := t, first := false, released := if release then some t else none } }
      mirSend (setCond s2 0x0A04 0 false) 3
        (leBytes 8 k ++ leBytes 1 (fitOf s2) ++ leBytes 1 s2.dev.state.code ++ leBytes 6 0
          ++ ((List.range 5).flatMap fun i => leBytes 4 (SMap.get 0 s2.red.cnt i)) ++ leBytes 4 0)
    else s1)

/-- MIRROR_ACK_RECEIVED (R370, R373): the lease is renewed from the send instant of the HEARTBEAT acknowledged; a peer that has returned to
SYNCING is sent a snapshot (R368). -/
def execMirrorAckReceived (k fit devState : Nat) (counters : List Nat) (s0 : State) : Host.Outcome State Fault Refusal :=
  let s := mirTook s0 40
  .next (if s.red.role = 1 then
      let a := SMap.get none s.red.sent k
      let s1 := { s with red := { s.red with
        sAck := match a, s.red.sAck with
          | some x, some y => some (max x y)
          | some x, none => some x
          | none, y => y,
        sent := s.red.sent.filter fun x => decide (k < x.1)
        peer := (fit, devState, counters.take 5) } }
      if fit = 0 ∧ s.red.peer.1 ≠ 0 then sendSnapshot s1 else s1
    else s)

/-- The first edge, of those that follow, at or after an instant. -/
def edgeFrom (s : State) (t : Time) : Nat := if t ≤ s.frm.next then nextNum s else (segNow s).first t

/-- LEASE_TAKE (R364, R365, R376, R377): past D or released, with PEER_ACT low and fitness to act, the shadow takes the lease; one that
meets PEER_ACT high logs RED_PEER_HELD and waits. -/
def execLeaseTake (t : Time) (s : State) : Host.Outcome State Fault Refusal :=
  let s1 := advance s t
  let due := decide (deadlineD s1 ≤ t) || s1.red.released.isSome
  .next (if s1.dev.state ≠ .shadow ∨ s1.red.pair = false ∨ isMember s1 ∨ s1.red.role = 1 ∨ !due then s1
    else if s1.red.peerAct then logEntry s1 (decide (deadlineD s1 ≤ t)) 0x0A04 0 0 0 0
    else if s1.red.fit = 1 ∨ (s1.red.fit = 2 ∧ s1.cfg.v redUnfitTake = 1) then
      let s2 := { s1 with red := { s1.red with
        role := 1, actOut := true, takenAt := some (t + 200 * us), holding := false, zeroed := false, sAck := none, sent := [], lastActive := t
        released := none, first := false, peer := (3, 0, []) } }
      let s3 := resendCommands (raiseCounters (logEv (redCount s2 0) 0x0A03 ((s2.frm.num + 1) % 2 ^ 32) 0 0))
      announceRole s3 (edgeFrom s3 (t + 200 * us))
    else s1)

/-- PEER_ACT_CHANGE (R365, R373, R376): a rise drives held drive pins to 0; a shadow past D that meets it logs RED_PEER_HELD. -/
def execPeerActChange (level : Bool) (t : Time) (s : State) : Host.Outcome State Fault Refusal :=
  let s1 := advance s t
  let s2 := { s1 with red := { s1.red with peerAct := level, zeroed := s1.red.zeroed || (level && s1.red.holding) } }
  .next (if s2.dev.state = .shadow ∧ s2.red.pair ∧ s2.red.role ≠ 1 then
      logEntry s2 (level && decide (deadlineD s2 ≤ t)) 0x0A04 0 0 0 0
    else setCond s2 0x0A04 0 false)

/-- HELLO_RECEIVED (R366 to R368): the peer's identity and role; a shadow whose peer is active starts to synchronise, and an active sends
its snapshot to a peer that is not. -/
def execHelloReceived (deviceId nodes : Nat) (active : Bool) (proto resultLevel : Nat) (s0 : State) : Host.Outcome State Fault Refusal :=
  let s := mirTook s0 24
  .next (if s.red.pair = false then s
    else
      let s1 := { s with red := { s.red with hello := some (deviceId, nodes, active, proto, resultLevel) } }
      let bad := decide (nodes ≠ s1.stk.nodes)
      let s2 := logEntry s1 bad 0x0A06 0 s1.stk.nodes nodes 0
      if s2.red.role = 1 then (if active then s2 else sendSnapshot s2)
      else
        let fit := if bad ∨ s2.red.fit = 2 then 2 else if active then 0 else if s2.red.first ∧ s2.dev.state = .shadow then 1 else s2.red.fit
        { s2 with red := { s2.red with
            fit := fit, first := s2.red.first && !active
            snap := if active then [] else s2.red.snap, snapPart := if active then 0 else s2.red.snapPart
            snapAt := if active then none else s2.red.snapAt, snapDone := s2.red.snapDone && !active } })

/-- The transaction ID under which a shadow holds a snapshot until its edge; no transaction has it. -/
def snapId : Nat := 0

/-- SNAPSHOT_RECEIVED (R368): parts are collected in order, and the whole commits at E(j) where its latch has not passed. -/
def execSnapshotReceived (part : Nat) (last : Bool) (j : Nat) (items : List (Nat × Req)) (s0 : State) : Host.Outcome State Fault Refusal :=
  let s := mirTook s0 (16 + (items.map fun x => up8 (reqBytes x.1 x.2).length).sum)
  .next (if s.dev.state ≠ .shadow ∨ s.red.pair = false ∨ (part ≠ 0 ∧ part ≠ s.red.snapPart) then s
    else
      let xs := (if part = 0 then [] else s.red.snap) ++ items.map fun x => { op := x.1, req := x.2 }
      let s1 := { s with red := { s.red with snap := xs, snapPart := part + 1 } }
      if !last then s1
      else if j < nextLatch s1 then { s1 with red := { s1.red with snap := [], snapPart := 0 } }
      else { s1 with
        red := { s1.red with snap := [], snapPart := 0, snapAt := some j }
        ox := { s1.ox with accepted := s1.ox.accepted ++ [{ id := snapId, frame := j, tenant := 0, role := 1, items := xs, ordered := true }] } })

/-- JOURNAL_RECEIVED (R369): the transaction is latched at the same L(j); one that comes later makes the shadow UNFIT. -/
def execJournalReceived (t : Time) (j txnId : Nat) (items : List (Nat × Req)) (s : State) : Host.Outcome State Fault Refusal :=
  let s1 := mirTook (advance s t) (16 + (items.map fun x => up8 (reqBytes x.1 x.2).length).sum)
  .next (if s1.dev.state ≠ .shadow ∨ s1.red.pair = false then s1
    else if j < nextLatch s1 then redCount { s1 with red := { s1.red with fit := 2 } } 4
    else enlist s1 { id := txnId, frame := j, tenant := 0, role := 1, items := items.map fun x => { op := x.1, req := x.2 }, ordered := true })

/-! ### Frame inputs and the reflection check (R152, R380) -/

/-- The record of frame k put into the frame (R152, R391). -/
def applyInput (s : State) (f : Frame) : Frame :=
  match SMap.get none s.red.inputs f.num with
  | none => f
  | some x => { f with temp := x.temps, fault := x.faults, tsns := x.tsns, tsnsBad := List.replicate 8 false, plan := { f.plan with step := x.step } }

/-- A shadow computes a frame only once it holds its INPUT record (R380). -/
def inputHeld (s : State) (k : Nat) : Bool :=
  if s.dev.state = .shadow ∧ s.red.pair ∧ s.red.role ≠ 1 then (SMap.get none s.red.inputs k).isSome else true

/-- INPUT_RECEIVED (R152, R380): the frame's inputs as the active used them. -/
def execInputReceived (k step h : Nat) (rings : List Nat) (tsns : List Int) (fixtures : List (Nat × Int × Nat)) (s0 : State) :
    Host.Outcome State Fault Refusal :=
  let s := mirTook s0 (72 + 8 * fixtures.length)
  .next (if s.dev.state ≠ .shadow ∨ s.red.pair = false then s
    else
      let temps := fixtures.foldl (fun m x => SMap.put 0 m x.1 x.2.1) s.red.temps
      let faults := fixtures.foldl (fun m x => SMap.put 0 m x.1 x.2.2) s.red.faults
      let s1 := { s with red := { s.red with
        temps := temps, faults := faults
        inputs := SMap.put none s.red.inputs k (some { step := step, h := h, rings := rings, tsns := tsns, temps := temps, faults := faults }) } }
      match frameOf s1 k with
      | some f => putFrame s1 (applyInput s1 f)
      | none => s1)

/-- INPUT of a frame from the active, at its latch (R371). -/
def sendInput (s : State) (f : Frame) (h : Nat) (rings : List Nat) : State :=
  if s.red.role ≠ 1 ∨ s.red.pair = false then s
  else
    let xs := f.cfg.fixtures.filterMap fun x =>
      let t := SMap.get 0 f.temp x.1
      let b := SMap.get 0 f.fault x.1
      if !s.red.told then some (x.1, t, b)
      else if SMap.get 0 s.red.temps x.1 = t ∧ SMap.get 0 s.red.faults x.1 = b then none else some (x.1, t, b)
    mirSend { s with red := { s.red with temps := f.temp, faults := f.fault, told := true } } 6
      (leBytes 8 f.num ++ leBytes 1 f.plan.step ++ leBytes 1 h ++ leBytes 6 0 ++ (rings.flatMap fun n => leBytes 8 n)
        ++ ((List.range 8).flatMap fun i => leBytes 2 (patternOf 16 (f.tsns.getD i 0))) ++ leBytes 4 xs.length ++ leBytes 4 0
        ++ xs.flatMap fun x => leBytes 4 x.1 ++ leBytes 2 (patternOf 16 x.2.1) ++ leBytes 2 x.2.2)

/-- Bytes of a strand of a frame that its CRC-32 covers (R380). -/
def strandBytes (c : Store) (o : FrameOut) (i r : Nat) : List Byte :=
  if stType r = 6 then
    let port := stEnd r / 32768
    let rec_ := c.row rasPort port
    let g := c.row rasRegion (port * 16 + stEnd r % 16)
    let px := SMap.get [] o.canvases (bitsAt g 0 2)
    (List.range (u16At g 8)).flatMap fun y => (List.range (u16At g 6)).flatMap fun x =>
      rasPack rec_ (px.getD ((stY0 r + y) * c.val cnvWidth (bitsAt g 0 2) + stX0 r + x) 0)
  else if stPixel r then (SMap.get [] o.pixels i).flatMap fun p => p.flatMap fun v => leBytes 2 v
  else (strandDrives c o i 1).flatMap fun x => leBytes 2 x.2

/-- The CRC-32 of each strand of TYPE other than NONE, in ascending order (R380). -/
def strandCrcs (c : Store) (o : FrameOut) : List (Nat × Nat) :=
  c.strands.filterMap fun x => if stType x.2 = 0 then none else some (x.1, crc32 (strandBytes c o x.1 x.2))


/-- The reflection check of a frame of which both results are there (R368, R380); none is made where the RESULT_LEVELs differ (R449). -/
def reflect (s : State) (k : Nat) : State :=
  match SMap.get none s.red.own k, SMap.get none s.red.results k with
  | some a, some b =>
    let s1 := { s with red := { s.red with
      own := SMap.put none s.red.own k none, results := SMap.put none s.red.results k none, compared := some k } }
    let level : Bool := match s.red.hello with
      | some (_, _, _, _, l) => l == resultLevel s
      | none => true
    if !level then
      let s2 := redCount s1 3
      if s2.red.fit = 0 ∧ s2.red.snapDone then { s2 with red := { s2.red with fit := 1 } } else s2
    else
      let diff := a.filter fun x => !b.elem x
      match diff with
      | [] => if s1.red.fit = 0 ∧ s1.red.snapDone then { s1 with red := { s1.red with fit := 1 } } else s1
      | x :: _ =>
        redCount (logEv { s1 with red := { s1.red with fit := 2 } } 0x0A01 (k % 2 ^ 32) x.1 diff.length) 2
  | _, _ => s

/-- RESULT_RECEIVED (R380). -/
def execResultReceived (k : Nat) (crcs : List (Nat × Nat)) (s0 : State) : Host.Outcome State Fault Refusal :=
  let s := mirTook s0 (16 + 8 * crcs.length)
  .next (if s.dev.state = .shadow ∧ s.red.pair ∧ s.red.role ≠ 1 then
      reflect { s with red := { s.red with results := SMap.put none s.red.results k (some crcs) } } k
    else s)

/-- What a unit of a pair does when COMPUTE of a frame completes: the active sends RESULT, the shadow checks (R380). -/
def resultDone (s : State) (k : Nat) (c : Store) (o : FrameOut) : State :=
  if s.red.pair = false then s
  else if s.red.role = 1 then
    let xs := strandCrcs c o
    mirSend s 7 (leBytes 8 k ++ leBytes 4 xs.length ++ leBytes 4 0 ++ xs.flatMap fun x => leBytes 2 x.1 ++ leBytes 2 0 ++ leBytes 4 x.2)
  else if s.dev.state = .shadow then reflect { s with red := { s.red with own := SMap.put none s.red.own k (some (strandCrcs c o)) } } k
  else s

/-- At E(k) a frame that the shadow has not compared is counted, and what it holds of past frames goes (R380). -/
def reflectEdge (s : State) (k : Nat) : State :=
  if s.red.pair = false ∨ s.dev.state ≠ .shadow then s
  else
    let s1 := if s.red.compared = some k then s else redCount s 3
    { s1 with red := { s1.red with
        inputs := s1.red.inputs.filter fun x => decide (k < x.1), results := s1.red.results.filter fun x => decide (k < x.1)
        own := s1.red.own.filter fun x => decide (k < x.1) } }

/-- CONTINUITY_RECEIVED (R371, R382): what the new active needs to go on. -/
def execContinuityReceived (k : Nat) (sacn : List (Nat × Nat)) (counters : List (Nat × Nat)) (neighbours : List (Nat × Nat × Nat × Nat))
    (commands : List (Nat × Nat × Nat × Nat × List Nat)) (s0 : State) : Host.Outcome State Fault Refusal :=
  let s := mirTook s0 (24 + 8 * sacn.length + 8 * counters.length + 12 * neighbours.length + 24 * commands.length)
  .next (if s.dev.state ≠ .shadow ∨ s.red.pair = false then s
    else
      let s1 := { s with
        wired := { s.wired with sacnSeq := sacn.foldl (fun m x => SMap.put 0 m x.1 (x.2 % 256 + 256 * (k + 1))) s.wired.sacnSeq }
        rad := { s.rad with
          fc := counters.foldl (fun m x => SMap.put 0 m x.1 x.2) s.rad.fc
          neigh := neighbours.foldl (fun m x =>
            SMap.upd Neigh.empty m (x.1 * 4096 + x.2.1) fun n => { n with dsn := some x.2.2.1, fc := some x.2.2.2 }) s.rad.neigh } }
      commands.foldl (fun a x =>
        let fx := ((luminaires a.cfg x.1).find? (·.1 = x.2.1)).map fun l => (l.2.2.1, fxCivic l.2.2.2)
        let e : CmdEntry := {
          values := x.2.2.2.2, act := x.2.2.1, left := x.2.2.2.1, sent := true, civic := (fx.map (·.2)).getD false, rejoin := false,
          fixture := (fx.map (·.1)).getD 0, last := some (x.2.2.2.2, x.2.2.1) }
        radPut a x.1 { radGet a x.1 with cmds := SMap.put none (radGet a x.1).cmds x.2.1 (some e) }) s1)

/-- Days since RED_LAST_ACTIVE. -/
def daysSince (s : State) : Nat := (s.tim.now - s.red.lastActive) / (86400 * sec)

/-- RED_TEST_DUE (R381). -/
def execRedTestDue (t : Time) (s : State) : Host.Outcome State Fault Refusal :=
  let s1 := advance s t
  .next (if s1.dev.state.powered ∧ s1.red.pair then
      logEntry s1 (!s1.red.actOut && decide (s1.red.lastActive + s1.cfg.v redTestDays * 86400 * sec < s1.tim.now)) 0x0A05 0 (daysSince s1) 0 0
    else s1)

/-! ### Checks (R363, R375) -/

/-- The lease parameters of a store under the shorter and longer period of R58 (R375), and RED_MODE only in READY (R363). -/
def checkLease (s : State) (o c : Store) : List Err :=
  let t : Rat := max (exactT o) (exactT c)
  let l : Rat := if c.v redLeaseLen = 0 then 3 * exactT c else (c.v redLeaseLen * us : Nat)
  errIf (decide (l < 2 * t + (1000 * us : Nat))) (viol0 .eRange redLeaseLen.id)
  ++ errIf (decide ((leaseG c * 10000 : Nat) < (10 * us * 10000 : Nat) + l * 3)) (viol0 .eRange redLeaseGuard.id)
  ++ errIf (o.v redMode != c.v redMode && s.dev.state != .ready) (viol0 .eState redMode.id)

end Sys2Proof.Machine
end

