-- ==== Sys2Proof/Machine/Energy.lean ====
section
/-! DEFINITION. Energy ledger, planner and the guarantee ladder (17). -/

namespace Sys2Proof.Machine

/-- A counter of ENG_COUNTERS advanced: 0 SHED_FRAMES, 1 YIELD_FRAMES, 2 CAP_OVER_FRAMES, 3 BUDGET_OVER_FRAMES (Table 17-5). -/
def engCount (s : State) (k : Nat) : State := { s with eng := { s.eng with cnt := bump s.eng.cnt k 1 } }

/-- Power [mW] over `h` declared periods, as energy [µJ], truncated. -/
def capShare (c : Store) (mw h : Nat) : Nat := mw * 1000 * rateDen c * h / rateNum c

/-! ### Work (R389, Table 17-1) -/

/-- The bands of a canvas that a step composes in frame `k`: first and last line. -/
def bandsAt (c : Store) (step k canvas : Nat) : List (Nat × Nat) :=
  ((List.range ((c.val cnvHeight canvas + 63) / 64)).filter fun b => bandComposed c step k canvas b).map fun b =>
    (64 * b, min (c.val cnvHeight canvas) (64 * b + 64))

/-- Pixels of PIXEL strands that a step samples. -/
def pixelsAt (c : Store) (step k : Nat) : Nat :=
  ((c.strands.filter fun x => isPixelStrand x.2).map fun x =>
    ((List.range (stCount x.2)).filter fun i => bandComposed c step k (stCanvas x.2) ((pixelPos x.2 i).2.toNat / 64)).length).sum

/-- Footprint pixels of fixtures that a step samples. -/
def footprintAt (c : Store) (step k : Nat) : Nat :=
  ((c.fixtures.filter fun x => bitAt x.2 96 && (List.range (fxH x.2)).all fun j => bandComposed c step k (fxCanvas x.2) ((fxY x.2 + j) / 64)).map
    fun x => fxW x.2 * fxH x.2).sum

/-- Bytes that the encoders build for a frame: strand pins, DMX ports, sACN universes and drive channels. -/
def outputBytes (c : Store) (k : Nat) : Nat :=
  ((List.range 64).map fun p => if modeOf (c.row spnPin p) = 0 then 0 else (strandBits c FrameOut.empty p).length / 8).sum
  + ((List.range 16).map fun p => if modeOf (c.row dmxPort p) = 0 then 0 else 1 + u16At (c.row dmxPort p) 2).sum
  + 638 * (([0, 1] : List Nat).map fun p => (dueRecords c p k).length).sum + 2 * (channelsOn c).length

/-- Bytes carried in packets: line packets of the raster ports and sACN packets. -/
def laneBytes (c : Store) (k : Nat) : Nat :=
  (([0, 1] : List Nat).map fun p =>
    let r := c.row rasPort p
    if modeOf r = 0 then 0 else 32 * rsSlots r * rsH r).sum
  + 638 * (([0, 1] : List Nat).map fun p => (dueRecords c p k).length).sum

/-- The work of a frame at a step: layer pixels fetched, canvas pixels composed, pixels sampled, fixture solves, pixel-path pixels, output
bytes built, bytes carried in packets, and DRAM bytes moved. -/
def workOf (f : Frame) (step : Nat) : List Nat :=
  let c := f.cfg
  let on := canvasesOn c
  let fetched := (on.map fun k => ((bandsAt c step f.num k).map fun b => bandFetch (canvasLayers f k) (c.val cnvWidth k) b.1 b.2).sum).sum
  let done := (on.map fun k => ((bandsAt c step f.num k).map fun b => c.val cnvWidth k * (b.2 - b.1)).sum).sum
  let px := pixelsAt c step f.num
  let solves := (c.fixtures.filter fun x => fixSolved c step f.num x.1 x.2).length
  [fetched, done, px + footprintAt c step f.num, solves, px, outputBytes c f.num, laneBytes c f.num, 8 * fetched + f.ingress + 8 * presentWrite c]

/-! ### Forecast (R389) -/

/-- The coefficient of a work term [µJ per unit]. -/
def coefOf (s : State) (i : Nat) : Rat := (SMap.get none s.eng.coef i).getD ((Config.workCoef i : Rat) / 65536)

/-- The static term over `h` declared periods [µJ], at the present die temperature (R385). -/
def staticTerm (s : State) (c : Store) (h : Nat) : Nat :=
  ((List.range 7).map fun d => Config.staticUw d s.dev.dieTemp).sum * rateDen c * h / rateNum c

/-- The control domain's term: the mean of the last eight measured frames. -/
def controlTerm (s : State) : Nat := s.eng.control.sum / max 1 s.eng.control.length

/-- f(k, s): the forecast of a frame at a step under a divisor [µJ], truncated. -/
def forecast (s : State) (f : Frame) (step h : Nat) : Nat :=
  let w := workOf f step
  let d := (List.range 8).foldl (fun (a : Rat) i => a + coefOf s i * (w.getD i 0 : Nat)) 0
  d.floor.toNat + controlTerm s + staticTerm s f.cfg h

/-! ### Shares (R388) -/

/-- c(k), the carry [µJ]. -/
def carry (s : State) (c : Store) : Nat :=
  (((s.eng.frames.filterMap fun x => x.measured.map fun e => (e, x.h)).take 8).map fun x => x.1 - capShare c (c.v engCap) x.2).sum

/-- A(k), the window allowance [µJ]. -/
def allowance (s : State) (c : Store) (k : Nat) : Int :=
  let e := edgeAt s k
  let inside := s.eng.frames.filter fun x => decide (x.num ≠ k) && decide (x.edge ≤ e) && decide (e < x.edge + c.v engWindow * sec)
  ((c.v engBudget * c.v engWindow * 1000 : Nat) : Int) - ((inside.map fun x => x.measured.getD x.forecast).sum : Nat)

/-- A plan: step, forecast, whether the deepest step exceeds the cap share, and the three shares. -/
structure PlanOut where
  step : Nat
  f : Nat
  high : Bool
  s : Int
  cap : Int
  a : Int
  deriving DecidableEq, Repr

/-- The plan of a frame under a divisor (R388, R390). -/
def planUnder (s : State) (f : Frame) (h : Nat) : PlanOut :=
  let cap : Int := (capShare f.cfg (f.cfg.v engCap) h : Int) - carry s f.cfg
  let a := allowance s f.cfg f.num
  let share := min a cap
  let deep := deepest f.cfg
  let step := ((List.range deep).find? fun n => decide ((forecast s f n h : Int) ≤ share)).getD deep
  { step := step, f := forecast s f step h, high := decide (cap < (forecast s f deep h : Int)), s := share, cap := cap, a := a }

/-- The plan with the divisor doubled as far as the cap asks for it (R395). -/
def planLoop (s : State) (f : Frame) : Nat → Nat → Nat × PlanOut
  | 0, h => (h, planUnder s f h)
  | n + 1, h =>
    let p := planUnder s f h
    if p.high ∧ h < 8 then planLoop s f n (2 * h) else (h, p)

/-- Some step fits at half the divisor with a tenth to spare (R397). -/
def fitsHalf (s : State) (f : Frame) (h : Nat) : Bool :=
  let cap : Int := (capShare f.cfg (f.cfg.v engCap) (h / 2) : Int) - carry s f.cfg
  decide (1 < h) && (List.range (deepest f.cfg + 1)).any fun n => decide (10 * (forecast s f n (h / 2) : Int) ≤ 9 * cap)

/-- The source under which a cause that has one of several is in force. -/
def sourceIn (s : State) (code : Nat) : Option Nat := (s.eng.causes.find? fun k => k / 256 = code).map (· % 256)

/-- The shedding and yielding causes of a plan evaluated (R400, Table 17-3). -/
def planCauses (s : State) (c : Store) (step h : Nat) : State :=
  let s1 := setG (setG s (decide (1 ≤ step)) 6 0x0B17 0xFF 0) (decide (2 ≤ step)) 5 0x0B16 0xFF 0
  let s2 := (List.range 8).foldl (fun a t => setG a (((shedOrder c).take (step - 4)).elem t) 4 0x0B15 t 0) s1
  match sourceIn s2 0x0B14 with
  | some x => if h = 1 then restoreG s2 3 0x0B14 x else s2
  | none => if 1 < h then breakG s2 3 0x0B14 h 0 else s2

/-- The plan of a frame that the node plans itself, at its latch (R388 to R390, R395, R397). -/
def planOwn (s : State) (f : Frame) : State × Frame :=
  let h0 := if 16 ≤ s.eng.fits ∧ 1 < s.eng.h then s.eng.h / 2 else s.eng.h
  let r := planLoop s f 3 h0
  let h := r.1
  let p := r.2
  let deep := deepest f.cfg
  let s1 := { s with eng := { s.eng with
    planFrame := f.num, planF := p.f, planS := p.s, planCap := p.cap, planA := p.a, step := p.step, h := h
    fits := if h ≠ s.eng.h then 0 else if fitsHalf s f h then s.eng.fits + 1 else 0
    above := if h = 8 ∧ p.high then s.eng.above + 1 else 0
    skip := h - 1
    frames := { num := f.num, edge := edgeAt s f.num, h := h, forecast := p.f, measured := none } :: s.eng.frames
    work := SMap.put [] s.eng.work f.num (workOf f p.step) } }
  let s2 := if p.step = 0 then s1 else engCount s1 0
  let s3 := if p.s < (p.f : Int) then engCount s2 3 else s2
  let s4 := logEntry s3 (decide (p.step = deep) && decide (p.s < (p.f : Int))) 0x0B03 0 p.f (patternOf 32 p.s) 0
  (planCauses s4 f.cfg p.step h, { f with plan := { f.plan with step := p.step, forecast := p.f } })

/-- A shadow's frame whose own forecast at the active's decision exceeds its own cap share (R391). -/
def shadowOver (s : State) (f : Frame) (step h : Nat) : Bool :=
  decide ((capShare f.cfg (f.cfg.v engCap) h : Int) - carry s f.cfg < (forecast s f step h : Int))

/-- The node is past saving under its cap: it enters SAFE with cause ENG_CAP_UNHOLDABLE (R397, Table 21-5). -/
def unholdable (s : State) : Bool := decide (8 ≤ s.eng.above)

/-! ### Measuring (R386, R389) -/

/-- The seven domains' energies of a measured frame: work terms, control, and each domain's static term. -/
def domains (e : List Nat) : List Nat :=
  let g (i : Nat) : Nat := e.getD i 0
  [g 0 + g 1 + g 9, g 2 + g 10, g 3 + g 4 + g 11, g 5 + g 12, g 6 + g 13, g 7 + g 14, g 8 + g 15]

/-- A coefficient moved one eighth of the way to the energy measured per unit of work (R389). -/
def moveCoef (s : State) (work e : List Nat) (m : SMap (Option Rat)) (i : Nat) : SMap (Option Rat) :=
  let w := work.getD i 0
  if w = 0 then m else SMap.put none m i (some (coefOf s i + ((e.getD i 0 : Rat) / w - coefOf s i) / 8))

/-- The last interval booked to a frame ends with an edge: the frame is measured (R386, R388, R389, R400). -/
def measureEdge (s : State) (k : Nat) (e : List Nat) : State :=
  match s.eng.frames.find? fun x => decide (x.num + x.h = k + 1) && x.measured.isNone with
  | none => s
  | some x =>
    let tot := (domains e).sum
    let c := s.cfg
    let frames := (s.eng.frames.map fun y => if y.num = x.num then { y with measured := some tot } else y).filter
      fun y => decide (s.frm.last < y.edge + 86400 * sec)
    let s1 := { s with eng := { s.eng with
      frames := frames
      coef := (List.range 8).foldl (moveCoef s (SMap.get [] s.eng.work x.num) e) s.eng.coef
      work := SMap.put [] s.eng.work x.num []
      control := (e.getD 8 0 :: s.eng.control).take 8
      ledger := domains e ++ [tot]
      ledgerFrame := x.num
      minute := (s.eng.minute.1 + tot, max s.eng.minute.2.1 (tot * rateNum c / (1000 * rateDen c * x.h)),
        max s.eng.minute.2.2.1 s.eng.step, max s.eng.minute.2.2.2 x.h) } }
    let s2 := if capShare c (c.v engCap) x.h < tot then engCount s1 2 else s1
    let last8 := (s2.eng.frames.filterMap (·.measured)).take 8
    setG s2 (decide (8 ≤ last8.length) && decide (capShare c (c.v engCap) 8 < last8.sum)) 1 0x0B10 0xFF 0

/-- Frames before the entry into RUN no longer count (R388). -/
def engRun (s : State) (k : Nat) : State :=
  { s with eng := { s.eng with frames := s.eng.frames.filter fun x => decide (k ≤ x.num), fits := 0, above := 0 } }

/-! ### Civic causes (R401) -/

/-- A civic fixture that derating holds below its floor. -/
def civicDerated (f : SMap Int) (c : Store) (o : FrameOut) (i r : Nat) : Bool :=
  let scale := derScale (c.row modTable (fxModel r)) (SMap.get 0 f i)
  decide (scale < 65536) && decide (SMap.get 0 o.levels i * scale < fxFloor r * 65536)

/-- A civic fixture with no active emitter, or whose endpoint cannot carry its level. -/
def civicDark (s : State) (fault : SMap Nat) (c : Store) (i r : Nat) : Bool :=
  let all := 2 ^ mdEmitters (c.row modTable (fxModel r)) - 1
  let st := c.row stdTable (fxStrand r)
  decide (Nat.land (SMap.get 0 fault i) all = all)
  || (stType st == 4 && (SMap.get DaliState.empty s.wired.dali (stEnd st)).down)
  || (stType st == 5 && (neighOf s (stEnd st / 16384 * 4096 + fxSlot r)).state == 2)

/-- The civic causes evaluated at a computed frame (R400, R401). -/
def civicCauses (s : State) (c : Store) (o : FrameOut) : State :=
  let civ := c.fixtures.filter fun x => fxCivic x.2 && decide (0 < fxFloor x.2)
  let n1 := (civ.filter fun x => civicDerated s.fix.temps c o x.1 x.2).length
  let n2 := (civ.filter fun x => civicDark s s.fix.faults c x.1 x.2).length
  setG (setG s (decide (0 < n1)) 2 0x0B11 0xFF n1) (decide (0 < n2)) 2 0x0B12 0xFF n2

/-! ### Commands -/

/-- ENERGY_RETRIM (R387): while G6 is not shed, a class's calibrated energy is replaced, or the value is rejected where it differs by more
than a quarter. -/
def execEnergyRetrim (domain cls value : Nat) (s : State) : Host.Outcome State Fault Refusal :=
  let key := domain * 256 + cls
  let cur := (SMap.get none s.eng.trim key).getD (Config.workCoef key)
  .next (if s.dev.state.live = false ∨ g6Shed s ∨ 7 ≤ domain ∨ 256 ≤ cls then s
    else if cur < 4 * ((value : Int) - cur).natAbs then logEv s 0x0B04 domain cls 0
    else { s with eng := { s.eng with trim := SMap.put none s.eng.trim key (some value) } })

/-- ENG_HISTORY_MINUTE (R404): the record of the minute that ends. -/
def execEngHistoryMinute (t : Time) (s : State) : Host.Outcome State Fault Refusal :=
  let s1 := advance s t
  let m := s1.eng.minute
  let r := (t / sec / 60 - 1) % 2 ^ 32 + m.1 / 60000 % 2 ^ 32 * 2 ^ 32 + m.2.1 % 2 ^ 32 * 2 ^ 64 + m.2.2.1 * 2 ^ 96 + m.2.2.2 * 2 ^ 104
  .next (if s1.dev.state.powered then
      { s1 with eng := { s1.eng with
          history := (r :: s1.eng.history).take 10080, minute := (0, 0, s1.eng.step, s1.eng.h), minuteAt := s1.tim.up } }
    else s1)

/-! ### Checks (R402, R403, Table 14-5) -/

/-- A sum over tenants of the greater of use and reservation, at the declared rate of `r`, and the lowest tenant whose use lies below its
reservation (R403). -/
def reserveSum (c r : Store) (px : Bool) : Rat × Nat :=
  let use (t : Nat) : Rat := let u := tenantUse c r t; if px then u.1 else u.2
  let held (t : Nat) : Rat :=
    let x := c.row tenReserve t
    ((if byteAt x 1 = 0 then 0 else if px then u32At x 4 else u32At x 8 : Nat) : Rat)
  (((List.range 8).map fun t => max (use t) (held t)).sum, ((List.range 8).find? fun t => decide (use t < held t)).getD 0)

/-- Reservations (R402, R403) and the budget (Table 14-5). -/
def checkEnergy (o c : Store) : List Err :=
  let rows := tenReserve.all.map fun t => (t, c.row tenReserve t)
  let clash := rows.flatMap fun x => (rows.filter fun y => decide (y.1 < x.1) && Nat.land (bitsAt x.2 0 4) (bitsAt y.2 0 4) != 0).map fun y =>
    violO tenReserve.id x.1 tenReserve.id y.1
  let px := reserveSum c (faster o c) true
  let sa := reserveSum c (faster o c) false
  let own := clash
    ++ (rows.flatMap fun x => errIf (byteAt x.2 1 == 0 && x.2 != 0) (viol .eParam tenReserve.id x.1))
    ++ errIf (decide (1006632960 < (rows.map fun x => u32At x.2 4).sum) || decide (1966080 < (rows.map fun x => u32At x.2 8).sum))
        (viol0 .eCapacity tenReserve.id)
  own
  ++ (if checkCanvas o c = [] ∧ own = [] then
      errIf (decide (1006632960 < px.1)) (viol .eGuarantee tenReserve.id px.2) ++ errIf (decide (1966080 < sa.1)) (viol .eGuarantee tenReserve.id sa.2)
    else [])
  ++ errIf (decide (c.v engCap < c.v engBudget)) (viol0 .eRange engBudget.id)

end Sys2Proof.Machine
end

