-- ==== Sys2Proof/Machine/Sched.lean ====
section
/-! DEFINITION. Lamplighter (22.3): threads, the four cores, scheduling decisions and their trace on Q30. -/

namespace Sys2Proof.Machine

/-! ### The trace (R493, R494) -/

/-- A trace record of Table 22-2 at an instant. -/
def traceBytes (s : State) (ty core prio thread : Nat) (other : Option Nat) (cause : Nat) (t : Time) : List Byte :=
  leBytes 1 ty ++ leBytes 1 (core + prio * 4 + b2n other.isSome * 128) ++ leBytes 1 thread ++ leBytes 1 (other.getD 0) ++ leBytes 2 cause
    ++ leBytes 2 (if s.frm.begun then s.frm.num else 0) ++ leBytes 4 (t % sec / ns) ++ leBytes 4 (t / sec)

/-- The LOST record, once Q30 has room for it (R494). -/
def traceLost (s : State) : State :=
  if s.sch.lost = 0 ∨ qFree s 30 < 16 then s
  else qCommit { s with sch := { s.sch with lost := 0 } } 30 false (traceBytes s 7 0 0 0 none s.sch.lost s.tim.now)

/-- A decision passes the filter of DIA_TRACE; CORE_MASK is taken of the records that name a core. -/
def traced (s : State) (ty core prio : Nat) : Bool :=
  let r := s.imm.row diaTrace 0
  byteAt r 0 = 1 && bitAt (byteAt r 1) ty && (ty == 4 || bitAt (byteAt r 2) core) && decide (byteAt r 3 ≤ prio)

/-- A decision traced: none while G6 is shed; a record that finds no room counts as lost (R494). -/
def trace (s : State) (ty core thread : Nat) (other : Option Nat) (cause : Nat) (t : Time) : State :=
  let prio := (Config.threadPrio thread).val
  if g6Shed s || !traced s ty core prio then s
  else
    let s1 := traceLost s
    let r := qOffer s1 30 (traceBytes s1 ty core prio thread other cause t)
    if r.1 then r.2 else { r.2 with sch := { r.2.sch with lost := min 65535 (r.2.sch.lost + 1) } }

/-! ### Decisions (R491, R492) -/

/-- A thread. -/
def thGet (s : State) (n : Nat) : Thread := SMap.get Thread.unused s.sch.threads n

/-- The block with a thread replaced. -/
def thPut (s : State) (n : Nat) (x : Thread) : State :=
  { s with sch := { s.sch with threads := SMap.put Thread.unused s.sch.threads n x } }

/-- The thread that a core runs. -/
def onCore (s : State) (core : Nat) : Option Nat := (s.sch.threads.find? fun x => x.2.state = 2 ∧ x.2.core = core).map (·.1)

/-- A thread made ready: it joins the tail of its priority's list. -/
def makeReady (s : State) (n cause : Nat) (t : Time) : State :=
  let s1 := thPut s n { thGet s n with state := 1, core := 0xFF, since := t, order := s.sch.next, cause := cause }
  { s1 with sch := { s1.sch with next := s.sch.next + 1 } }

/-- The time a thread has run up to now is added to it, and it leaves its core in a state. -/
def stopRun (s : State) (n state : Nat) (t : Time) : State :=
  let x := thGet s n
  thPut s n { x with state := state, core := 0xFF, runNs := x.runNs + (t - x.since), since := t }

/-- A thread starts to run on a core. -/
def startRun (s : State) (n core : Nat) (t : Time) : State := thPut s n { thGet s n with state := 2, core := core, since := t }

/-- The better of two ready threads: the greater priority, then the longer ready. -/
def readier (a b : Nat × Thread) : Nat × Thread :=
  let pa := (Config.threadPrio a.1).val
  let pb := (Config.threadPrio b.1).val
  if pb < pa ∨ (pa = pb ∧ a.2.order < b.2.order) then a else b

/-- The ready thread that runs next. -/
def nextReady (s : State) : Option (Nat × Thread) :=
  (s.sch.threads.filter fun x => x.2.state = 1).foldl (fun a x => some (match a with
    | none => x
    | some y => readier y x)) none

/-- A core that has become free takes the next ready thread. -/
def dispatch (s : State) (core : Nat) (t : Time) : State :=
  match nextReady s with
  | none => s
  | some (n, x) => trace (startRun s n core t) 1 core n none x.cause t

/-- The core that a thread interrupts: the lowest priority, then the longest running, then the lowest number. -/
def victim (s : State) : Option (Nat × Nat) :=
  (List.range 4).foldl (fun a core => match onCore s core with
    | none => a
    | some n => match a with
      | none => some (core, n)
      | some (c0, m) =>
        let pn := (Config.threadPrio n).val
        let pm := (Config.threadPrio m).val
        if pn < pm ∨ (pn = pm ∧ (thGet s n).since < (thGet s m).since) then some (core, n) else some (c0, m)) none

/-- A thread displaced from its core: it is ready again, at the tail of its priority's list. -/
def displace (s : State) (n : Nat) (t : Time) : State :=
  let s1 := stopRun s n 1 t
  makeReady (thPut s1 n { thGet s1 n with preempts := sat32 (thGet s1 n).preempts 1 }) n 0 t

/-- THREAD_WAKE (R491, R492): the thread becomes ready, and takes a free core or that of a thread of lower priority. -/
def execThreadWake (thread causeKind causeValue : Nat) (waker : Option Nat) (t : Time) (s : State) : Host.Outcome State Fault Refusal :=
  let s1 := advance s t
  let x := thGet s1 thread
  let cause := causeKind % 16 * 4096 + causeValue % 4096
  .next (if 256 ≤ thread ∨ x.state = 1 ∨ x.state = 2 ∨ !s1.dev.state.powered then s1
    else
      let s2 := trace (makeReady s1 thread cause t) 4 0 thread waker cause t
      match (List.range 4).find? fun c => (onCore s2 c).isNone with
      | some core => dispatch s2 core t
      | none => match victim s2 with
        | none => s2
        | some (core, n) =>
          if (Config.threadPrio n).val < (Config.threadPrio thread).val then
            trace (startRun (displace s2 n t) thread core t) 2 core thread (some n) cause t
          else s2)

/-- THREAD_BLOCK (R492): the thread gives up its core to the next ready thread. -/
def execThreadBlock (core : Nat) (t : Time) (s : State) : Host.Outcome State Fault Refusal :=
  let s1 := advance s t
  .next (match onCore s1 core with
    | none => s1
    | some n => dispatch (trace (stopRun s1 n 3 t) 3 core n none 0 t) core t)

/-- THREAD_SLICE (R491): a thread that has run for 1 ms gives way to a ready thread of its priority. -/
def execThreadSlice (core : Nat) (t : Time) (s : State) : Host.Outcome State Fault Refusal :=
  let s1 := advance s t
  .next (match onCore s1 core, nextReady s1 with
    | some n, some (m, x) =>
      if Config.threadPrio n = Config.threadPrio m ∧ (thGet s1 n).since + ms ≤ t then
        trace (startRun (displace s1 n t) m core t) 5 core m (some n) x.cause t
      else s1
    | _, _ => s1)

/-- THREAD_EXIT (R492): the thread ends, and its core takes the next ready thread. -/
def execThreadExit (core : Nat) (t : Time) (s : State) : Host.Outcome State Fault Refusal :=
  let s1 := advance s t
  .next (match onCore s1 core with
    | none => s1
    | some n => dispatch (trace (stopRun s1 n 0 t) 6 core n none 0 t) core t)

end Sys2Proof.Machine
end

