-- ==== Sys2Proof/Machine/Queues.lean ====
section
/-! DEFINITION. The hardware queues as the host works them (12): the queue registers, flushes, watermarks on the flow pins. -/

namespace Sys2Proof.Machine

/-- What follows a pop or a flush of a queue: the loss marker and TIN captures of Q28, the reports that wait for Q29, and the PAUSE state
of an Ethernet receive queue, and the LOST record of Q30 (R83, R227, R274, R288, R494). -/
def afterPop (s : State) (q : Nat) : State :=
  if q = 28 then afterQ28 s
  else if q = 29 then afterQ29 s
  else if q = 30 then traceLost s
  else if 8 ≤ q ∧ q < 16 then pauseCheck s ((q - 8) / 4)
  else s

/-- `n` packets popped from a queue. -/
def popN : Nat → State → Nat → State
  | 0, s, _ => s
  | n + 1, s, q => popN n (qPop s q).2 q

/-- PTR_ERR of a queue's register set, with its interrupt source (Table 13-4). -/
def ptrErr (s : State) (q : Nat) : State := raise (qPut s q { qGet s q with ptrErr := true }) intPtr

/-- The W1C bit of a queue register write (Table 12-4, Table 12-5). -/
def ptrClear (s : State) (q v : Nat) : State := if bitAt v 62 then qPut s q { qGet s q with ptrErr := false } else s

/-- A flush requested; one requested while another is pending joins it (R286). -/
def reqFlush (s : State) (q : Nat) : State := qPut s q { qGet s q with flushing := true }

/-- The offsets that follow each committed packet, oldest first. -/
def boundaries (size : Nat) : Nat → List (List Byte) → List Nat
  | _, [] => []
  | off, p :: rest => ((off + p.length) % max 1 size) :: boundaries size ((off + p.length) % max 1 size) rest

/-- HEAD written: packets up to the boundary it names are popped; the current HEAD pops nothing; any other value is ignored with
PTR_ERR (R289). -/
def headWrite (s : State) (q h : Nat) : State :=
  let x := qGet s q
  if h = x.head then s
  else
    let bs := boundaries (qSize s q) x.head x.packets
    if bs.elem h then afterPop (popN (bs.idxOf h + 1) s q) q else ptrErr s q

/-- A write of a host-consumed queue's register (R289): the W1C bit acts, then FLUSH or HEAD. -/
def consumerWrite (s : State) (q v : Nat) : State :=
  let s1 := ptrClear s q v
  if bitAt v 63 then reqFlush s1 q else headWrite s1 q (v % 2 ^ 20)

/-- Bytes of a push slot (R279). -/
def slotSize (q : Nat) : Nat := if q < 8 then 16384 else 73728

/-- BAR0 offset of a queue's push slot (Table 13-2). -/
def slotBase (q : Nat) : Nat := 0x03000000 + q * 0x00020000

/-- PUSH_BUSY: a slot push waits (R290). -/
def pushBusy (s : State) (q : Nat) : Bool := (qGet s q).waiting.any (·.1)

/-- The packet in a push slot: its first `n` bytes. -/
def slotPacket (s : State) (q n : Nat) : List Byte := (List.range n).map fun k => SMap.get 0 s.que.slots (slotBase q + k)

/-- A write of a host-produced queue's register (R290, R295): the W1C bit acts, a FLUSH is requested, and a PUSH_LEN other than 0 starts a
blocking push of the slot, which waits behind the flush, or is ignored with PTR_ERR. -/
def producerWrite (s : State) (q v : Nat) : State :=
  let s1 := ptrClear s q v
  let s2 := if bitAt v 63 then reqFlush s1 q else s1
  let n := v % 2 ^ 17
  if n = 0 then s2
  else if n % 8 ≠ 0 ∨ slotSize q < n ∨ qSize s2 q < n ∨ pushBusy s2 q
      ∨ ((q = 24 ∨ q = 26) ∧ (s2.dev.state = .dawn ∨ s2.dev.state = .dusk)) then ptrErr s2 q
  else qPush s2 q true (if q < 8 then hostDesc (slotPacket s2 q n) else slotPacket s2 q n)

/-- The node's registers can be reached: it runs on its main rails and is not held in reset. -/
def hostUp (s : State) : Bool := s.dev.state.powered && s.dev.resetN

/-- A write of QREG_Qq (Table 13-3). -/
def qregWrite (s : State) (q v : Nat) : State :=
  if hostConsumed q then consumerWrite s q v else if hostProduced q then producerWrite s q v else s

/-- HEAD_WRITE (R289). -/
def execHeadWrite (q : Nat) (v : BitVec 64) (s : State) : Host.Outcome State Fault Refusal :=
  .next (if hostUp s ∧ hostConsumed q then consumerWrite s q v.toNat else s)

/-- QREG_FLUSH (R287): a register write with FLUSH set. -/
def execQregFlush (q : Nat) (v : BitVec 64) (s : State) : Host.Outcome State Fault Refusal :=
  .next (if hostUp s ∧ bitAt v.toNat 63 then qregWrite s q v.toNat else s)

/-- PUSH_LEN_WRITE (R290, R295). -/
def execPushLenWrite (q : Nat) (v : BitVec 64) (s : State) : Host.Outcome State Fault Refusal :=
  .next (if hostUp s ∧ hostProduced q then producerWrite s q v.toNat else s)

/-- A queue flushed: its committed packets are discarded, HEAD goes to TAIL, the counters advance, watermarks are evaluated, and waiting
pushes proceed (R286). -/
def flushQueue (s : State) (q : Nat) : State :=
  let x := qGet s q
  let s1 := watermark (qPut s q { x with
    packets := [], head := qTail s q, flushSeq := (x.flushSeq + 1) % 256, flushing := false, flushes := sat32 x.flushes 1 }) q
  let s2 := if q < 8 then txFlushed s1 q x.packets else s1
  afterPop (qResumeAll x.waiting.length s2 q) q

/-- The consumer of a queue stands at a packet boundary: a port does not send from it (R286). -/
def atBoundary (s : State) (q : Nat) : Bool :=
  if q < 8 then
    match (ethGet s (q / 4)).sending with
    | some (p, _) => p != q
    | none => true
  else true

/-- QUEUE_FLUSH_DONE (R286): a pending flush completes once the consumer is at a boundary. -/
def execQueueFlushDone (q : Nat) (s : State) : Host.Outcome State Fault Refusal :=
  .next (if (qGet s q).flushing ∧ atBoundary s q then flushQueue s q else s)

/-- QUEUE_PUSH_RESUME (R281): the first waiting push finds room. -/
def execQueuePushResume (q : Nat) (s : State) : Host.Outcome State Fault Refusal := .next (qResume s q)

/-- The flushes that a QUE_FLUSH mask requests (R287). -/
def queFlushMask (s : State) (mask : Nat) : State := (bitsSet 32 mask).foldl reqFlush s

/-- A QUE_FLUSH mask that names Q16, Q17, Q22 or Q23 (R287). -/
def flushBad (mask : Nat) : Bool := [16, 17, 22, 23].any (bitAt mask)

/-- At the edge at which a change of SIZE commits, the queue is flushed and takes its new size; a HEAD that lies past the new size is a
free value there (R279; the spec states no offset). -/
def resizeQueue (s : State) (old new : Store) (q : Nat) : State :=
  let a := u16At (old.row queConfig q) 0
  let b := u16At (new.row queConfig q) 0
  if a = b then s
  else
    let s1 := flushQueue s q
    let h := (qGet s1 q).head
    if h < b * 1024 then s1
    else
      let f := takeFree s1
      qPut f.2 q { qGet f.2 q with head := Config.freeNat f.1 % (b * 128) * 8 }

/-- FLOW0 to FLOW3 (R285): whether the pin is active; a disabled one is not. -/
def flowActive (s : State) (n : Nat) : Bool :=
  let r := s.cfg.row queFlow n
  bitAt r 32 && (bitsSet 32 (u32At r 0)).any fun q => (qGet s q).high

/-- The level of a FLOW pin in READY, RUN and SHADOW (R285). -/
def flowLevel (s : State) (n : Nat) : Bool := flowActive s n != bitAt (s.cfg.row queFlow n) 33

/-- The pool that a store's queue sizes and the push slots take lies within 3,072 KiB, and a SIZE changes only in READY (R279). -/
def checkQueues (s : State) (o c : Store) : List Err :=
  (queConfig.all.flatMap fun q =>
    errIf (u16At (o.row queConfig q) 0 != u16At (c.row queConfig q) 0 && s.dev.state != .ready) (viol .eState queConfig.id q))
  ++ errIf (decide (3072 < poolUsed c)) (viol0 .eCapacity queConfig.id)

end Sys2Proof.Machine
end

