-- ==== Sys2Proof/Machine/HostRegs.lean ====
section
/-! DEFINITION. The registers and windows of BAR0 over PCIe and QSPI (13.1, 13.2), and packets that no response answers. -/

namespace Sys2Proof.Machine

/-- The state a meaning leaves; the state before where it has none. -/
def outState (s : State) (o : Host.Outcome State Fault Refusal) : State :=
  match o with
  | .next t => t
  | _ => s

/-! ### Reads -/

/-- STATE (Table 13-3). MASTER reads 0 in DAWN on a standalone node, as its reset value says. -/
def stateWord (s : State) : Nat :=
  s.dev.state.code + b2n (s.stk.role == 1 || (!s.dev.stackEn && s.dev.state != .dawn)) * 2 ^ 4 + s.stk.index * 2 ^ 5

/-- DAWN_RESULT (Table 13-3). -/
def dawnWord (s : State) : Nat :=
  s.dev.dawnPassed % 256 + s.dev.dawnStep % 8 * 2 ^ 8 + b2n s.dev.dawnFail * 2 ^ 11 + s.dev.dawnCode * 2 ^ 16

/-- SAFE_STATUS (Table 13-3). -/
def safeWord (s : State) : Nat :=
  b2n (!safeNBall s) + s.dev.bootSrc * 2 + b2n s.dev.stackEn * 2 ^ 3 + b2n s.dev.safeSel * 2 ^ 4 + s.dev.safeCause * 2 ^ 8

/-- QREG_Qq (Table 12-4, Table 12-5). -/
def qregWord (s : State) (q : Nat) : Nat :=
  let x := qGet s q
  let common := b2n x.ptrErr * 2 ^ 62 + b2n x.high * 2 ^ 61 + b2n (x.packets == []) * 2 ^ 60 + x.flushSeq % 16 * 2 ^ 56
  if hostConsumed q then common + qTail s q * 2 ^ 32 + x.head
  else if hostProduced q then common + b2n (pushBusy s q) * 2 ^ 55 + qFree s q * 2 ^ 32
  else 0

/-- QINFO_Qq (Table 13-3). -/
def qinfoWord (s : State) (q : Nat) : Nat :=
  if q = 16 ∨ q = 17 ∨ q = 22 ∨ q = 23 ∨ 31 ≤ q then 0
  else qSize s q + byteAt (s.cfg.row queConfig q) 2 * 2 ^ 32 + byteAt (s.cfg.row queConfig q) 3 * 2 ^ 40

/-- A ring position as the registers show it. -/
def ringOff (s : State) (i pos : Nat) : Nat := pos % max 1 (ringSize s i)

/-- A byte of ring A as BAR2 shows it (R302): of an entry of the ring, or what BAR2 left where no doorbell has been rung; 0 elsewhere. -/
def ringByte (s : State) (off : Nat) : Byte :=
  let size := max 1 (ringSize s 0)
  let into (e : Entry) : Nat := (off + size - e.off % size) % size
  match s.con.ringA.entries.find? fun e => !e.dead && decide (into e < e.len) with
  | some e => (entryBytes e).getD (into e) 0
  | none => SMap.get 0 s.con.bar2 off

/-- A byte of BAR2 (R302): ring A, the captures held for the host as C64 pixels, and 0 elsewhere. -/
def bar2Window (s : State) (off : Nat) : Byte :=
  if off < ringSize s 0 then ringByte s off
  else
    let rel := off - 0x200000000
    match SMap.get none s.con.captures (rel / 0x20000000) with
    | some x =>
      if 0x200000000 ≤ off ∧ off < 0x280000000 then BitVec.ofNat 8 (x.2.getD (rel % 0x20000000 / 8) 0 / 2 ^ (8 * (off % 8))) else 0
    | none => 0

/-- Every register of Table 13-3 but the TIME_ and FRAME_NUM ones, by offset; what the table does not list reads 0 (R298).
The stepping, family, part code and device ID of R3 are read here alone: no table gives a DEV_ parameter for them (DESIGN CHOICE, log
entry 87). -/
def regWord (s : State) (off : Nat) : Nat :=
  if off = 0x000 then 0x17507200
  else if off = 0x008 then Config.deviceId.toNat % 2 ^ 64
  else if off = 0x010 then Config.deviceId.toNat / 2 ^ 64 % 2 ^ 64
  else if off = 0x018 then s.dev.fw
  else if off = 0x020 then stateWord s
  else if off = 0x028 then dawnWord s
  else if off = 0x030 then safeWord s
  else if off = 0x050 then s.host.intStatus
  else if off = 0x058 then s.host.intMask
  else if 0x060 ≤ off ∧ off ≤ 0x080 ∧ off % 8 = 0 then bitsAt s.host.intVec (8 * (off - 0x060)) 64
  else if off = 0x088 then s.host.dmaBase
  else if off = 0x090 then s.host.dmaSize
  else if off = 0x098 then s.host.dmaTail
  else if off = 0x0A0 then s.host.dmaHead
  else if off = 0x0A8 then b2n s.host.bar2Mode
  else if off = 0x0B0 then ringOff s 0 s.con.ringA.w
  else if off = 0x0B8 then ringOff s 0 s.con.ringA.c
  else if off = 0x0C0 then ringOff s 0 s.con.ringA.m
  else if off = 0x0C8 then ringOff s 1 s.con.ringB.w
  else if off = 0x0D0 then ringOff s 1 s.con.ringB.c
  else if off = 0x0D8 then ringOff s 1 s.con.ringB.m
  else if off = 0x0E0 then ((List.range 4).map fun c => b2n (SMap.get none s.con.captures c).isSome * 2 ^ c).sum
  else if 0x100 ≤ off ∧ off < 0x200 ∧ off % 8 = 0 then qregWord s ((off - 0x100) / 8)
  else if 0x200 ≤ off ∧ off < 0x300 ∧ off % 8 = 0 then qinfoWord s ((off - 0x200) / 8)
  else 0

/-- A path's latched TIME_NSEC and FRAME_NUM. -/
def latchOf (s : State) (qspi : Bool) : Nat × Nat := if qspi then s.host.latchQspi else s.host.latchPcie

/-- A read of TIME_SEC: the seconds, with TIME_NSEC and FRAME_NUM latched for the path at the same instant (R299). -/
def timeSecRead (s : State) (qspi : Bool) : Nat × State :=
  let l := (s.tim.now % sec / ns + s.tim.now % ns * 2 ^ 32, if s.frm.begun then s.frm.num else 0)
  (s.tim.now / sec,
   if qspi then { s with host := { s.host with latchQspi := l } } else { s with host := { s.host with latchPcie := l } })

/-- The bytes of a ring window: of committed packets, as far as they reach from an offset on. -/
def ringBytes (s : State) (q : Nat) : List Byte := (qGet s q).packets.flatten

/-- A byte of a ring window (Table 13-2): of a committed packet, a free value elsewhere within SIZE, and 0 beyond it. -/
def windowByte (s : State) (q off : Nat) : Byte :=
  let size := qSize s q
  if size ≤ off then 0
  else
    let k := (off + size - (qGet s q).head % size) % size
    if k < qFill (qGet s q) then (ringBytes s q).getD k 0 else BitVec.ofNat 8 (Config.freeNat (s.free + off))

/-- A byte of the windows and tables above the registers (Table 13-2). -/
def windowRead (s : State) (off : Nat) : Byte :=
  if 0x2000 ≤ off ∧ off < 0x2200 then BitVec.ofNat 8 (msixByte s (off - 0x2000))
  else if 0x3000 ≤ off ∧ off < 0x3008 then BitVec.ofNat 8 (s.host.msixPending / 2 ^ (8 * (off - 0x3000)))
  else if 0x01000000 ≤ off ∧ off < 0x03000000 then
    let q := (off - 0x01000000) / 0x00100000
    if hostConsumed q then windowByte s q ((off - 0x01000000) % 0x00100000) else 0
  else 0

/-- One 8-byte word read at an aligned BAR0 offset. -/
def wordRead (s : State) (qspi : Bool) (off : Nat) : List Byte × State :=
  if off = 0x038 then let r := timeSecRead s qspi; (leBytes 8 r.1, r.2)
  else if off = 0x040 then (leBytes 8 (latchOf s qspi).1, s)
  else if off = 0x048 then (leBytes 8 (latchOf s qspi).2, s)
  else if off < 0x1000 then (leBytes 8 (regWord s off), s)
  else ((List.range 8).map fun k => windowRead s (off + k), s)

/-- `n` words read in ascending order. -/
def wordsRead (qspi : Bool) : Nat → Nat → State → List Byte → List Byte × State
  | 0, _, s, acc => (acc, s)
  | n + 1, off, s, acc =>
    let r := wordRead s qspi off
    wordsRead qspi n (off + 8) r.2 (acc ++ r.1)

/-- A read over PCIe: the bytes from an offset on; a read of 4 bytes at a register's offset or offset + 4 returns that half of it (R297). -/
def pcieRead (s : State) (off len : Nat) : List Byte × State :=
  let a := off / 8 * 8
  let r := wordsRead false ((off - a + len + 7) / 8) a s []
  ((r.1.drop (off - a)).take len, r.2)

/-- The identity of the PCIe endpoint, the bytes of its two windows, and the places of its MSI-X structures in BAR0 (R292). -/
structure PcieEndpoint where
  deviceId : Nat
  classCode : Nat
  subclass : Nat
  progIf : Nat
  bar0 : Nat
  bar2 : Nat
  vectors : Nat
  msixTable : Nat
  msixPending : Nat
  deriving DecidableEq, Repr

/-- The endpoint of R292; the vendor ID is Camlia's own. -/
def pcieEndpoint : PcieEndpoint where
  deviceId := 0x7200
  classCode := 0x11
  subclass := 0x80
  progIf := 0x00
  bar0 := 64 * 2 ^ 20
  bar2 := 16 * 2 ^ 30
  vectors := 32
  msixTable := 0x2000
  msixPending := 0x3000

/-! ### Writes -/

/-- INT_MASK written: a set source that is unmasked sends one message (R300). -/
def maskWrite (s : State) (v : Nat) : State :=
  ((List.range 39).filter fun n => bitAt s.host.intStatus n && bitAt s.host.intMask n && !bitAt v n).foldl
    (fun a n => msixSend a (vectorOf a n)) { s with host := { s.host with intMask := v } }

/-- INT_STATUS written: sources whose bit is 1 are cleared (R300). -/
def statusClear (s : State) (v : Nat) : State := { s with host := { s.host with intStatus := s.host.intStatus - Nat.land s.host.intStatus v } }

/-- The vector bits of eight INT_VEC bytes; the reserved ones are dropped. -/
def vecMask (v : Nat) : Nat := Nat.land v 0x1F1F1F1F1F1F1F1F

/-- The offsets of Table 13-3: an access to one of them is an access to a register (R297). -/
def isReg (off : Nat) : Bool := decide (off ≤ 0x0E8) || (decide (0x100 ≤ off) && decide (off < 0x300))

/-- One 8-byte register write (Table 13-3); read-only registers and unlisted addresses ignore it. -/
def regWordWrite (s : State) (off v : Nat) : State :=
  let bv := BitVec.ofNat 64 v
  if off = 0x050 then statusClear s v
  else if off = 0x058 then maskWrite s v
  else if 0x060 ≤ off ∧ off ≤ 0x080 then
    { s with host := { s.host with intVec := putBits s.host.intVec (8 * (off - 0x060)) 64 (vecMask v) } }
  else if off = 0x088 then outState s (execDmaBaseWrite bv s)
  else if off = 0x090 then outState s (execDmaSizeWrite bv s)
  else if off = 0x098 then outState s (execDmaTailWrite bv s)
  else if off = 0x0A8 then outState s (execRingACtrlWrite bv s)
  else if off = 0x0B0 then outState s (execRingAWpWrite bv s)
  else if off = 0x0E8 then outState s (execCaptureRelWrite bv s)
  else if 0x100 ≤ off ∧ off < 0x200 then qregWrite s ((off - 0x100) / 8) v
  else s

/-- A byte written above the registers: the MSI-X table and the push slots take it, everything else ignores it (Table 13-2). -/
def windowWrite (s : State) (off : Nat) (b : Byte) : State :=
  if 0x2000 ≤ off ∧ off < 0x2200 then
    let i := off - 0x2000
    let dflt : Byte := if i % 16 = 12 then 1 else 0
    let s1 := { s with host := { s.host with msixTable := SMap.put dflt s.host.msixTable i b } }
    let v := i / 16
    if i % 16 = 12 ∧ bitAt s.host.msixPending v ∧ !msixMasked s1 v then
      emit { s1 with host := { s1.host with msixPending := putBit s1.host.msixPending v false } } (.msix v)
    else s1
  else if 0x03000000 ≤ off ∧ off < 0x03000000 + 32 * 0x00020000 then
    let q := (off - 0x03000000) / 0x00020000
    if hostProduced q ∧ off - slotBase q < slotSize q then { s with que := { s.que with slots := SMap.put 0 s.que.slots off b } } else s
  else s

/-- Bytes written above the registers. -/
def windowWrites : State → Nat → List Byte → State
  | s, _, [] => s
  | s, off, b :: bs => windowWrites (windowWrite s off b) (off + 1) bs

/-- Whole words written from an aligned offset on, each when its eighth byte arrives; what is left over of a register is too short and sets
REG_ERR (R293, R297). -/
def wordsWrite : Nat → State → Nat → List Byte → State
  | 0, s, _, _ => s
  | n + 1, s, off, bs =>
    if bs = [] then s
    else if off < 0x1000 then
      if bs.length < 8 then (if isReg off then raise s intReg else s)
      else wordsWrite n (regWordWrite s off (leAt bs 0 8)) (off + 8) (bs.drop 8)
    else windowWrites s off bs

/-- REG_WRITE (R297, R298): a PCIe write. One to a register that is shorter than 8 bytes or not aligned is ignored and sets REG_ERR. -/
def execRegWrite (offset : Nat) (bytes : List Byte) (s : State) : Host.Outcome State Fault Refusal :=
  .next (if hostUp s = false ∨ bytes = [] then s
    else if offset < 0x1000 ∧ offset % 8 ≠ 0 then (if isReg (offset / 8 * 8) then raise s intReg else s)
    else wordsWrite (bytes.length / 8 + 1) s offset bytes)

/-- An access of the QSPI port that keeps both rules of R293. -/
def qspiOk (offset len : Nat) : Bool := offset % 8 == 0 && len % 8 == 0 && decide (0 < len) && decide (len ≤ 65536)

/-- QSPI_READ (R293): the bytes from an aligned offset on; one that breaks a rule is ignored and sets REG_ERR. -/
def execQspiRead (offset len : Nat) (s : State) : Host.Outcome State Fault Refusal :=
  .next (if hostUp s = false then s
    else if qspiOk offset len then
      let r := wordsRead true (len / 8) offset s []
      { r.2 with free := r.2.free + 1048576, host := { r.2.host with busData := r.1 } }
    else raise s intReg)

/-- QSPI_WRITE (R293). -/
def execQspiWrite (offset : Nat) (bytes : List Byte) (s : State) : Host.Outcome State Fault Refusal :=
  .next (if hostUp s = false then s
    else if qspiOk offset bytes.length then wordsWrite (bytes.length / 8) s offset bytes
    else raise s intReg)

/-- QSPI_STATUS (R293): [0] an interrupt is pending, [1] DAWN or DUSK. -/
def execQspiStatus (s : State) : Host.Outcome State Fault Refusal :=
  .next (if hostUp s then
      { s with host := { s.host with
          busData := leBytes 1 (b2n (irqPending s) + b2n (s.dev.state == .dawn || s.dev.state == .dusk) * 2) } }
    else s)

/-- TIME_SEC_READ (R299). -/
def execTimeSecRead (qspi : Bool) (t : Time) (s : State) : Host.Outcome State Fault Refusal :=
  let s1 := advance s t
  .next (if hostUp s1 then
      let r := timeSecRead s1 qspi
      { r.2 with host := { r.2.host with busData := leBytes 8 r.1 } }
    else s1)

/-- INT_STATUS_WRITE (R300). -/
def execIntStatusWrite (v : BitVec 64) (s : State) : Host.Outcome State Fault Refusal :=
  .next (if hostUp s then statusClear s v.toNat else s)

/-- INT_MASK_WRITE (R300). -/
def execIntMaskWrite (v : BitVec 64) (s : State) : Host.Outcome State Fault Refusal :=
  .next (if hostUp s then maskWrite s v.toNat else s)

/-! ### Mailbox packets (13.1, 13.3) -/

/-- The record of DEV_MB_COUNTERS that a path counts in (Table 13-14). -/
def pathRecord : Path → Nat
  | .mb0 => 0
  | .mb1 => 1
  | .mb2 .. => 2
  | .mb3 .. => 3
  | .console => 4

/-- A counter of a path: 0 REQUESTS, 1 DUPLICATES, 2 STALE, 3 MALFORMED, 4 MB2_NO_SESSION, 5 MB2_AUTH_FAIL, 6 MB2_REPLAY, 7
MB2_FRAGMENT. -/
def mbCount (s : State) (p : Path) (k : Nat) : State :=
  { s with ox := { s.ox with counters := bump s.ox.counters (pathRecord p * 8 + k) 1 } }

/-- The packet taken from the request queue of its path, where it stands at its head (Table 13-1). -/
def takePacket (s : State) (q : Nat) (pkt : List Byte) : State :=
  if (qGet s q).packets.head? = some pkt then (qPop s q).2 else s

/-- A request's packet leaves its queue. -/
def takeRequest (s : State) (p : Path) (pkt : List Byte) : State :=
  match p with
  | .mb0 => takePacket s 24 pkt
  | .mb1 => takePacket s 26 pkt
  | .mb3 .. => takePacket s 31 pkt
  | _ => s

/-- A message that cannot be answered: counted in MALFORMED, with MB_MALFORMED set (R304). -/
def malformed (s : State) (p : Path) : State := raise (mbCount s p 3) intMal

/-- MB_MALFORMED (R304): a packet shorter than 24 bytes is discarded; in DAWN and DUSK MB2 is not heard (R295). -/
def execMbMalformed (path : Path) (bytes : List Byte) (s : State) : Host.Outcome State Fault Refusal :=
  let deaf : Bool := match path with
    | .mb2 .. => s.dev.state == .dawn || s.dev.state == .dusk
    | _ => false
  .next (if hostUp s = false ∨ 24 ≤ bytes.length ∨ deaf then s else malformed (takeRequest s path bytes) path)

end Sys2Proof.Machine
end

