-- ==== Sys2Proof/Machine/Operands.lean ====
section
/-! DEFINITION. Oxold requests: who a request executes as, the checks that every request passes, duplicates, the relay of requests to other
nodes, and the answer (13.1, 13.3, 13.4, 15.6, 18.7, 21.5). Every request command runs through `serve`. -/

namespace Sys2Proof.Machine

/-! ### Fields of a request (Table 13-5, Table 13-9) -/

/-- An item of a SET: ID, the reserved halves, LEN, the value, and whether padding or a reserved byte is not zero. -/
structure SetItem where
  id : Nat
  len : Nat
  value : Nat
  dirty : Bool
  deriving DecidableEq, Repr

/-- The items of a SET payload, none where they do not fill it (Table 13-9). -/
def setItems : Nat → List Byte → Option (List SetItem)
  | 0, bs => if bs = [] then some [] else none
  | n + 1, bs =>
    if bs = [] then some []
    else if bs.length < 8 then none
    else
      let len := leAt bs 4 2
      if bs.length < 8 + up8 len then none
      else match setItems n (bs.drop (8 + up8 len)) with
        | some rest =>
          let pad := (bs.drop (8 + len)).take (up8 len - len)
          some ({ id := leAt bs 0 2, len := len, value := leAt bs 8 len, dirty := leAt bs 2 2 ≠ 0 || leAt bs 6 2 ≠ 0 || leNat pad ≠ 0 } :: rest)
        | none => none

end Sys2Proof.Machine

namespace Sys2Proof

open Machine

/-- The payload: LENGTH bytes. -/
def Req.payload (r : Req) : List Byte := r.body.take r.length.toNat

/-- TXN is set. -/
def Req.txn (r : Req) : Bool := bitAt r.flags.toNat 1

/-- Node index that TARGET names, 0x3F for every node. -/
def Req.node (r : Req) : Nat := r.target.toNat % 64

/-- SCOPE. -/
def Req.scope (r : Req) : Nat := r.target.toNat / 64

/-- The items of a SET request. -/
def Req.items (r : Req) : List SetItem := (setItems 257 r.payload).getD []

/-- The IDs of a GET request. -/
def Req.ids (r : Req) : List Nat := (List.range (r.payload.length / 2)).map fun i => leAt r.payload (2 * i) 2

end Sys2Proof

namespace Sys2Proof.Machine

/-! ### Callers (R296, R425 to R427, R476) -/

/-- Who a request executes as: tenant, role (Table 18-9) and dedupe identity (Table 13-1). -/
structure Caller where
  tenant : Nat
  role : Nat
  ident : Nat
  deriving DecidableEq, Repr

/-- The dedupe identity of a path (Table 13-1, R356, R476). -/
def identOf : Path → Nat
  | .mb0 => 0
  | .mb1 => 1
  | .console => 2
  | .mb2 n _ => 16 + n
  | .mb3 orig _ _ session _ => 2 ^ 40 + orig * 2 ^ 33 + session

/-- The number of a path in LOG_CLEARED and in relay headers (R461, Table 15-6). -/
def pathNo : Path → Nat
  | .mb0 => 0
  | .mb1 => 1
  | .mb2 .. => 2
  | .mb3 orig .. => orig
  | .console => 3

/-- The SEC_SESSION record that holds a session (R426). -/
def sessionIdx (s : State) (n : Nat) : Option Nat := secSession.all.find? fun i => bitAt (s.imm.row secSession i) 80 && u32At (s.imm.row secSession i) 0 == n

/-- The tenant and role of a request (R296, R427, R476). -/
def callerOf (s : State) (op : Nat) (p : Path) : Caller :=
  let ofPath (i : Nat) : Caller :=
    { tenant := bitsAt (s.imm.row tenPath i) 0 3, role := byteAt (s.imm.row tenPath i) 1, ident := identOf p }
  match p with
  | .mb0 => ofPath 0
  | .mb1 => ofPath 1
  | .mb2 0 _ => { tenant := 0, role := if op = 0x51 then 3 else 2, ident := identOf p }
  | .mb2 n _ =>
    let r := (sessionIdx s n).map fun i => s.imm.row secSession i
    { tenant := bitsAt (r.getD 0) 32 3, role := byteAt (r.getD 0) 5, ident := identOf p }
  | .mb3 _ tenant role _ _ => { tenant := tenant, role := role, ident := identOf p }
  | .console => { tenant := 0, role := 3, ident := identOf p }

/-- D3 serves MB0 from the boot ROM for a PCIe host load (R471). -/
def hostLoads (s : State) : Bool := s.dev.state == .dawn && s.dev.hostLoadAt.isSome

/-- The island performs no cryptographic operation (R407, R421). -/
def islandOut (s : State) : Bool := s.sec.error || s.sec.tampered

/-- A session is live (R426) or is the bootstrap session (R427). -/
def sessionOpen (s : State) (n : Nat) : Bool :=
  n == 0 || (match sessionIdx s n with
    | some i => s.sec.live.elem i
    | none => false)

/-- The Ethernet ports that a session uses. -/
def sessionPorts (s : State) (n : Nat) : List Nat :=
  match sessionIdx s n with
  | some i => (List.range 2).filter fun p => bitAt (s.imm.row secSession i) (82 + p)
  | none => []

/-- The path answers in the present state (Table 1-8, R295, R471, R476). -/
def answers (s : State) (p : Path) : Bool :=
  let up := s.dev.state.live || s.dev.state == .safe
  hostUp s && match p with
    | .mb0 => (up || hostLoads s) && s.dev.pcieUp
    | .mb1 => up
    | .mb2 n p => mb2Serves s p && !(s.dev.state == .safe && islandOut s) && sessionOpen s n && (n == 0 || (sessionPorts s n).elem p)
    | .mb3 .. => up && isMember s && s.stk.enumerated
    | .console => up

/-- A RESTART or a DUSK is heard in DAWN and in DUSK too, where it finds the state it asks for or one that it cannot change (R28, 21.5). -/
def diagHeard (s : State) (op : Nat) (r : Req) : Bool :=
  (s.dev.state == .dawn || s.dev.state == .dusk) && hostUp s && op == 0x30 && (byteOf r.payload 0 == 2 || byteOf r.payload 0 == 3)
    && match r.path with
      | .mb0 => s.dev.pcieUp
      | .mb1 => true
      | _ => false

/-- A response of the path waits for space in its response queue (R281, R294). -/
def respWaits (s : State) : Path → Bool
  | .mb0 => !((qGet s 25).waiting == [])
  | .mb1 => !((qGet s 27).waiting == [])
  | _ => false

/-- A request of the path is still executing, or its response is still to be posted, so that its next one waits (R281, R294). -/
def pathBusy (s : State) (p : Path) : Bool :=
  respWaits s p || (s.log.clearing.any fun x => match x.2 with
    | some c => (match c.req with
      | some r => identOf r.path == identOf p
      | none => false)
    | none => false)
  || s.stk.relays.any fun x => identOf x.req.path == identOf p

/-! ### Answers (R305) -/

/-- What a request is answered: a status with the transaction ID of a TXN_OPEN (0: the request's own) and a payload, an error, or nothing
yet. -/
inductive Answer where
  | done (st : Status) (txn : Nat) (payload : List Byte)
  | fail (e : Err)
  | wait
  deriving DecidableEq, Repr

/-- OK with a payload. -/
def okWith (payload : List Byte) : Answer := .done .ok 0 payload

/-- An error that names nothing. -/
def failWith (st : Status) : Answer := .fail { status := st }

/-- The detail block of Table 13-8. -/
def errBytes (s : State) (e : Err) : List Byte :=
  leBytes 2 e.item ++ leBytes 1 (e.node.getD s.stk.index) ++ leBytes 1 (e.cause.getD e.status).code ++ leBytes 2 e.param ++ leBytes 2 0
    ++ leBytes 4 e.record ++ leBytes 2 e.ownerParam ++ leBytes 2 0 ++ leBytes 4 e.ownerRecord ++ leBytes 4 0

/-- A response message (R305): the request's header with RESPONSE, the node's index, the status, and the payload. -/
def respBytes (s : State) (op : Nat) (r : Req) (st : Status) (txn : Nat) (payload : List Byte) : List Byte :=
  leBytes 2 op ++ leBytes 1 (1 + b2n (bitAt r.flags.toNat 1) * 2) ++ [r.tag, r.epoch]
    ++ leBytes 1 (s.stk.index % 64 + r.target.toNat / 64 * 64) ++ leBytes 1 st.code ++ leBytes 1 0 ++ leBytes 8 r.zoneMask.toNat
    ++ leBytes 4 r.index.toNat ++ leBytes 2 payload.length ++ leBytes 2 (if txn = 0 then r.txnId.toNat else txn) ++ payload

/-- The message that an answer posts, none while there is no answer. -/
def answerBytes (s : State) (op : Nat) (r : Req) : Answer → Option (List Byte)
  | .done st txn payload => some (respBytes s op r st txn payload)
  | .fail e => some (respBytes s op r e.status 0 (errBytes s e))
  | .wait => none

/-- Largest Oxold message of a port's datagrams (R317). -/
def mb2Max (s : State) (p : Nat) : Nat := epMax (s.cfg.row ethPort p) - (if leNat (ip4Of s.cfg (2 * p + 1)) = 0 then 102 else 82)

/-- A response fits its path (R305, R317). -/
def respFits (s : State) (p : Path) (m : List Byte) : Bool :=
  decide (m.length ≤ 24 + 65535) && match p with
    | .mb2 _ p => decide (m.length ≤ mb2Max s p)
    | _ => true

/-- A SLIP frame of RFC 1055 (R476). -/
def slipBytes (m : List Byte) : List Byte :=
  [0xC0#8] ++ (m.flatMap fun b => if b = 0xC0#8 then [0xDB#8, 0xDC#8] else if b = 0xDB#8 then [0xDB#8, 0xDD#8] else [b]) ++ [0xC0#8]

/-- A response posted on its path (Table 13-1, R317, R354, R476). -/
def sendResp (s : State) (p : Path) (m : List Byte) : State :=
  match p with
  | .mb0 => qPush s 25 false (pad8 m)
  | .mb1 => qPush s 27 false (pad8 m)
  | .mb2 n p => sendMb2 s p n m
  | .mb3 orig tenant role session relay =>
    casSend s 0 1 0 (relayHeader 2 orig tenant role session relay 0 0 s.stk.index m.length ++ m)
  | .console => emit s (.console (slipBytes (m ++ leBytes 2 (crc16 m))))

/-! ### Dedupe (R306, R307) -/

/-- The key of a dedupe entry. -/
def dedupeKey (r : Req) : Nat := identOf r.path * 256 + r.tag.toNat

/-- The live entry of a request's tag; a relayed request has none (R356). -/
def liveEntry (s : State) (r : Req) : Option Dedupe :=
  match r.path with
  | .mb3 .. => none
  | _ => match SMap.get none s.ox.dedupe (dedupeKey r) with
    | some d => if s.tim.up < d.until_ then some d else none
    | none => none

/-- The CRC-32 of the request packet. -/
def reqCrc (op : Nat) (r : Req) : Nat := crc32 (reqBytes op r)

/-- A message with STATUS DUPLICATE in place of a status that is no error. -/
def asDuplicate (m : List Byte) : List Byte := if byteOf m 6 < 0x10 then m.take 6 ++ leBytes 1 2 ++ m.drop 7 else m

/-- The entry of a request that has been answered. -/
def setEntry (s : State) (op : Nat) (r : Req) (m : List Byte) : State :=
  match r.path with
  | .mb3 .. => s
  | _ =>
    let d : Dedupe := {
      epoch := r.epoch.toNat, crc := reqCrc op r, resp := if m.length ≤ 24 + 256 then some m else none
      until_ := s.tim.up + s.imm.v devDedupeMs * ms }
    { s with ox := { s.ox with dedupe := SMap.put none s.ox.dedupe (dedupeKey r) (some d) } }

/-- The answer to a request posted, and its entry set; the answer of a request executed again says DUPLICATE (R307). -/
def finish (s : State) (op : Nat) (r : Req) (m : List Byte) : State :=
  let again : Bool := match liveEntry s r with
    | some d => d.epoch == r.epoch.toNat && d.crc == reqCrc op r
    | none => false
  setEntry (sendResp s r.path (if again then asDuplicate m else m)) op r m

/-- What R306 says of a request before it executes: nothing, the stored response, or that it is stale. -/
inductive Seen where
  | fresh
  | stored (m : List Byte)
  | again
  | stale
  deriving DecidableEq, Repr

/-- The first matching row of R306. -/
def seenOf (s : State) (op : Nat) (r : Req) : Seen :=
  match liveEntry s r with
  | none => .fresh
  | some d =>
    let age := (d.epoch + 256 - r.epoch.toNat) % 256
    if 1 ≤ age ∧ age ≤ 128 then .stale
    else if age = 0 then
      if d.crc = reqCrc op r then match d.resp with
        | some m => .stored m
        | none => .again
      else .stale
    else .fresh

/-! ### Checks of every request (R303) -/

/-- The opcodes of Table 13-6 that a host may send. -/
def opcodes : List Nat :=
  [0x01, 0x02, 0x03, 0x10, 0x11, 0x12, 0x20, 0x21, 0x22, 0x23, 0x30, 0x40, 0x41, 0x42, 0x43, 0x50, 0x51, 0x60, 0x61, 0x62, 0x63]

/-- The opcodes that are transaction items (R303). -/
def itemOps : List Nat := [0x02, 0x20, 0x22, 0x23]

/-- LENGTH is right for the opcode's payload (R303). -/
def lengthOk (op : Nat) (r : Req) : Bool :=
  let n := r.payload.length
  if op = 0x01 ∨ op = 0x03 then n % 2 == 0 && decide (2 ≤ n) && decide (n ≤ 512)
  else if op = 0x02 then match setItems 257 r.payload with
    | some xs => decide (1 ≤ xs.length) && decide (xs.length ≤ 256)
    | none => false
  else if op = 0x20 then decide (16 ≤ n)
  else if op = 0x21 ∨ op = 0x23 ∨ op = 0x30 ∨ op = 0x51 then n == 16
  else if op = 0x10 ∨ op = 0x12 ∨ op = 0x61 then n == 0
  else if op = 0x11 ∨ op = 0x40 ∨ op = 0x62 then n == 24
  else if op = 0x22 then n == 48
  else if op = 0x41 ∨ op = 0x42 ∨ op = 0x43 then n == 8
  else if op = 0x60 then decide (9 ≤ n) && decide (n ≤ 8 + 32768)
  else if op = 0x63 then n == 32
  else true

/-- A parameter named without instances, under a non-zero INDEX. -/
def indexIdle (op : Nat) (r : Req) : Bool :=
  let bare (id : Nat) : Bool := match findParam id with
    | some p => p.inst == 0
    | none => false
  r.index != 0 && (if op = 0x01 ∨ op = 0x03 then r.ids.any bare else if op = 0x02 then r.items.any fun x => bare x.id else false)

/-- The packet of a queue is padded with zeros to 8 bytes; a datagram and a console frame carry the message alone (R280, R317, R476). -/
def bodyOk (r : Req) : Bool :=
  match r.path with
  | .mb2 .. => r.body.length == r.length.toNat
  | .console => r.body.length == r.length.toNat
  | _ => r.body.length == up8 r.length.toNat && leNat (r.body.drop r.length.toNat) == 0

/-- A reserved bit or a field that does not fit the rest of the header (R303). -/
def headerBad (op : Nat) (r : Req) : Bool :=
  r.flags.toNat / 4 != 0 || bitAt r.flags.toNat 0 || r.reserved != 0 || r.status != 0
  || (r.txn && !itemOps.elem op) || (r.txnId != 0 && !r.txn && op != 0x11 && op != 0x12)
  || (if r.scope = 1 then r.zoneMask == 0 else r.zoneMask != 0)
  || (r.index != 0 && (r.scope == 1 || r.scope == 2)) || indexIdle op r

/-- The first check of R303 that a request fails. A KEY_UPDATE in SAFE is judged by the envelope (R410). -/
def requestErr (s : State) (op : Nat) (r : Req) : Option Status :=
  if !opcodes.elem op then some .eOpcode
  else if s.dev.state = .safe ∧ ¬ (op = 0x30 ∨ op = 0x40 ∨ op = 0x50) then some .eState
  else if (s.dev.state = .dawn ∨ s.dev.state = .dusk) ∧ ¬ (hostLoads s ∧ (op = 0x60 ∨ op = 0x61)) then some .eState
  else if !bodyOk r then some .eSize
  else if r.scope = 3 ∨ (0x20 ≤ r.node ∧ r.node ≠ 0x3F) then some .eRange
  else if headerBad op r then some .eParam
  else if !lengthOk op r then some .eSize
  else if r.node = 0x3F ∨ r.node = s.stk.index then none
  else if !isMaster s then some .eState
  else if s.stk.nodes ≤ r.node then some .eParam
  else none

/-- Roles that may send an opcode at all (Table 18-9, R460, R462); the rest is judged where the opcode's chapter says. -/
def rolesOf (op : Nat) : List Nat :=
  if op = 0x02 ∨ op = 0x20 then [1, 2, 4]
  else if op = 0x10 ∨ op = 0x11 ∨ op = 0x12 ∨ op = 0x22 ∨ op = 0x23 then [1, 2]
  else if op = 0x42 ∨ op = 0x43 then [4]
  else [1, 2, 3, 4]

/-! ### Where a request executes (R354, R355) -/

/-- The request touches an EDGE parameter or table, or is itself an item. -/
def edgeWrite (op : Nat) (r : Req) : Bool :=
  if op = 0x22 ∨ op = 0x23 then true
  else if op = 0x02 then r.items.any fun x => match findParam x.id with
    | some p => p.edge
    | none => false
  else if op = 0x20 then match findTable (leAt r.payload 0 2) with
    | some t => t.edge
    | none => false
  else false

/-- The opcode's own rule says how it acts on every node: transactions, SNAPSHOT_GET, GET, and activation and confirmation of an update
(R308, R312, R439, R447). -/
def ownSpread (op : Nat) (r : Req) : Bool :=
  op == 0x01 || op == 0x03 || op == 0x62 || op == 0x63 || op == 0x10 || op == 0x11 || op == 0x12 || r.txn || edgeWrite op r

/-- Where a request executes. -/
inductive Way where
  | here
  | send
  | spread
  deriving DecidableEq, Repr

/-- The transaction that a request names is open on this node for its path. -/
def txnHere (s : State) (r : Req) : Bool := s.ox.open_.any fun x => x.id == r.txnId.toNat && x.ident == identOf r.path

/-- Where a request executes: items of a transaction stay where it is open (R312). -/
def wayOf (s : State) (op : Nat) (r : Req) : Way :=
  if !(s.dev.stackEn && s.stk.role == 1) || s.stk.nodes ≤ 1 || r.node = s.stk.index then .here
  else if r.txn ∧ txnHere s r then .here
  else if r.node = 0x3F then (if ownSpread op r then .here else .spread)
  else .send

/-- Nodes of a mask. -/
def reachNodes (m : Nat) : List Nat := bitsSet 32 m

/-- A request sent down as MB3 traffic, and the relay noted (R354, R356, Table 15-6). -/
def relayDown (s : State) (op : Nat) (r : Req) (c : Caller) (waiting : Nat) (answers : List (Nat × List Byte)) (failed : List (Nat × Err)) :
    State :=
  let id := s.stk.nextRelay
  let m := reqBytes op r
  let session := match r.path with
    | .mb2 n _ => n
    | _ => 0
  let s1 := { s with stk := { s.stk with
    nextRelay := (id + 1) % 65536
    relays := s.stk.relays ++ [{
      id := id, op := op, req := r, target := r.node, stage := none, waiting := waiting, answers := answers, failed := failed }] } }
  casSend s1 1 1 r.node (relayHeader 1 (pathNo r.path) c.tenant c.role session id 0 0 0x3F m.length ++ m)

/-- A request run on this node: the answer and the state it leaves. A handler that fails leaves the state as it was (R305), but for what its
chapter counts and logs of a rejection. -/
def runHere (op : Nat) (handle : Caller → Req → State → Answer × State) (r : Req) (s : State) : Answer × State :=
  match requestErr s op r with
  | some st => (failWith st, s)
  | none =>
    let c := callerOf s op r.path
    let zero : Bool := match r.path with
      | .mb2 0 _ => op != 0x50 && op != 0x51
      | _ => false
    if zero ∨ !(rolesOf op).elem c.role then (failWith .eAuth, s)
    else match wayOf s op r with
      | .here =>
        let a := handle c r s
        let over_ : Bool := match answerBytes a.2 op r a.1 with
          | some m => !respFits s r.path m
          | none => false
        match a.1 with
        | .fail e => (.fail e, a.2)
        | x => if over_ then (failWith .eSize, s) else (x, a.2)
      | .send =>
        if bitAt s.stk.reach r.node then (.wait, relayDown s op r c (2 ^ r.node) [] [])
        else (.fail { status := .eState, node := some r.node }, s)
      | .spread =>
        let a := handle c r s
        let own := s.stk.index
        let rest := s.stk.reach - Nat.land s.stk.reach (2 ^ own)
        match a.1 with
        | .fail e => (.wait, relayDown a.2 op r c rest [] [(own, { e with node := some own })])
        | x => (.wait, relayDown a.2 op r c rest (((answerBytes a.2 op r x).map fun m => (own, m)).toList) [])

/-- A request served (13.1 to 13.4): on a path that does not answer it is not heard; while an earlier request of its path executes it waits
in its queue; a duplicate is answered from its entry; otherwise it is checked, executed and answered. -/
def serve (op : Nat) (handle : Caller → Req → State → Answer × State) (r : Req) (s0 : State) : State :=
  let s := advance s0 r.t
  if !(answers s r.path || diagHeard s op r) ∨ pathBusy s r.path then s
  else
    let s1 := mbCount (takeRequest s r.path (reqBytes op r)) r.path 0
    match seenOf s1 op r with
    | .stored m => sendResp (mbCount s1 r.path 1) r.path (asDuplicate m)
    | .stale => sendResp (mbCount s1 r.path 2) r.path (respBytes s1 op r .eStale 0 (errBytes s1 { status := .eStale }))
    | seen =>
      let s2 := if seen = .again then mbCount s1 r.path 1 else s1
      let s3 := { s2 with ox := { s2.ox with open_ := s2.ox.open_.map fun x =>
        if x.id = r.txnId.toNat ∧ x.ident = identOf r.path then { x with at_ := s2.tim.up } else x } }
      let a := runHere op handle r s3
      match answerBytes a.2 op r a.1 with
      | some m => finish a.2 op r m
      | none => a.2

/-! ### Unknown opcodes, console frames, expiry of entries (R303, R306, R476) -/

/-- UNKNOWN_OPCODE_REQUEST (R303). -/
def execUnknownOpcodeRequest (opcode : Nat) (r : Req) (s : State) : Host.Outcome State Fault Refusal :=
  .next (serve opcode (fun _ _ s => (failWith .eOpcode, s)) r s)

/-- CONSOLE_FRAME_ERROR (R476): a frame whose CRC-16 is bad is discarded and counted in MALFORMED of the console's record. -/
def execConsoleFrameError (bytes : List Byte) (s : State) : Host.Outcome State Fault Refusal :=
  let m := bytes.take (bytes.length - 2)
  .next (if answers s .console ∧ (bytes.length < 2 ∨ leNat (bytes.drop (bytes.length - 2)) ≠ crc16 m) then mbCount s .console 3 else s)

/-- DEDUPE_EXPIRY (R306): entries whose DEV_DEDUPE_MS has passed are dropped. -/
def execDedupeExpiry (t : Time) (s : State) : Host.Outcome State Fault Refusal :=
  let s1 := advance s t
  .next { s1 with ox := { s1.ox with dedupe := s1.ox.dedupe.filter fun x => match x.2 with
    | some d => decide (s1.tim.up < d.until_)
    | none => false } }

end Sys2Proof.Machine
end

