-- ==== Sys2Proof/Machine/Security.lean ====
section
/-! DEFINITION. The security island (18): the life cycle and its roots, key slots, key-update envelopes, tamper and self-test responses,
attestation, sessions, and the checks of SEC_ writes. -/

namespace Sys2Proof.Machine

/-! ### Slots and sessions (18.3, 18.7) -/

/-- A key slot. -/
def slotOf (s : State) (i : Nat) : KeySlot := SMap.get KeySlot.empty s.sec.slots i

/-- The block with a key slot replaced. -/
def slotPut (s : State) (i : Nat) (k : KeySlot) : State := { s with sec := { s.sec with slots := SMap.put KeySlot.empty s.sec.slots i k } }

/-- A counter of SEC_COUNTERS advanced: 0 ENV_OK, 1 ENV_REJECT, 2 ATTESTS, 3 NOISE_FAIL. -/
def secCount (s : State) (k : Nat) : State := { s with sec := { s.sec with cnt := bump s.sec.cnt k 1 } }

/-- A slot that may key a direction of a session of a tenant (R426). -/
def sessionKey (s : State) (tenant i : Nat) : Bool :=
  keyState s i == 1 && (slotOf s i).ty == 2 && bitAt (slotOf s i).usage 1 && (slotOf s i).owner == tenant

/-- A session is live (R426): its record is enabled and both keys serve it; none is with the island in error or TAMPERED (R476). -/
def sessionLive (s : State) (i : Nat) : Bool :=
  let r := s.imm.row secSession i
  bitAt r 80 && !islandOut s && sessionKey s (bitsAt r 32 3) (u16At r 6) && sessionKey s (bitsAt r 32 3) (u16At r 8)

/-- SEC_EVAL is set. -/
def evaluated (s : State) : Bool := s.imm.v secEval == 1

/-- Which sessions are live, evaluated again after a change; each one going live is logged under SEC_EVAL (R428). -/
def refreshLive (s : State) : State :=
  let now := secSession.all.filter (sessionLive s)
  let fresh := now.filter fun i => !s.sec.live.elem i
  fresh.foldl (fun a i =>
      if evaluated a then logEv a 0x0D06 (u32At (a.imm.row secSession i) 0) (byteAt (a.imm.row secSession i) 5) 0 else a)
    { s with sec := { s.sec with live := now } }

/-- Both counters of every session that a slot keys restart (R426). -/
def restartSessions (s : State) (slot : Nat) : State :=
  (secSession.all.filter fun i => u16At (s.imm.row secSession i) 6 = slot ∨ u16At (s.imm.row secSession i) 8 = slot).foldl (fun a i =>
      let n := u32At (a.imm.row secSession i) 0
      { a with sec := { a.sec with rx := SMap.put 0 a.sec.rx n 0, tx := SMap.put 0 a.sec.tx n 0 } }) s

/-- A slot invalidated (R414, R415): its generation advances and its key goes; at 65,535 it becomes SPENT. -/
def dropSlot (k : KeySlot) : KeySlot :=
  if k.state = 3 then k
  else if k.gen = 65535 then { KeySlot.empty with gen := 65535, state := 3 }
  else { KeySlot.empty with gen := k.gen + 1 }

/-- A key written into a slot (R414, R415, R419): the generation advances, and the slot's outgoing frame counter and its sessions'
counters restart. -/
def installSlot (s : State) (i : Nat) (k : KeySlot) : State :=
  let old := slotOf s i
  if old.gen = 65535 then slotPut s i (dropSlot old)
  else
    let s1 := slotPut s i { k with gen := old.gen + 1, state := 1 }
    restartSessions (setCond { s1 with rad := { s1.rad with fc := SMap.put 0 s1.rad.fc i 0 } } 0x0703 i false) i

/-- Slots of a mask invalidated, of those that hold anything. -/
def dropSlots (s : State) (f : Nat → Bool) : State :=
  { s with sec := { s.sec with slots := s.sec.slots.map fun x => (x.1, if f x.1 ∧ x.2.state ≠ 0 then dropSlot x.2 else x.2) } }

/-- At dawn every slot with SESSION usage is invalidated (R419). -/
def dropSessions (s : State) : State :=
  let f (i : Nat) : Bool := bitAt (slotOf s i).usage 1 && (slotOf s i).state == 1
  { dropSlots s f with sec := { (dropSlots s f).sec with live := [] } }

/-! ### Roots (18.2) -/

/-- The public key of the root in force with its curve (Table 18-2): AUTH 2 for P-256, 3 for P-384; none where there is none. -/
def rootKey (s : State) : Option (Nat × List Byte) :=
  if s.sec.lifecycle ≤ 1 then some (3, Config.fuseKeys 0)
  else if s.sec.lifecycle = 2 then
    if keyState s 2 = 1 then some (if (slotOf s 2).ty = 4 then 2 else 3, (slotOf s 2).key) else none
  else if s.sec.lifecycle = 3 then some (3, Config.fuseKeys 1)
  else none

/-- The wrap secret in force (Table 18-2). -/
def wrapSecret (s : State) : List Byte :=
  if s.sec.lifecycle ≤ 1 then Config.fuseKeys 2 else if s.sec.lifecycle = 2 then (slotOf s 3).key else Config.fuseKeys 3

/-! ### Envelopes (18.4) -/

/-- OP of an envelope. -/
def envOp (b : List Byte) : Nat := byteOf b 3
/-- AUTH. -/
def envAuth (b : List Byte) : Nat := byteOf b 4
/-- AUTH_SLOT. -/
def envAuthSlot (b : List Byte) : Nat := leAt b 6 2
/-- TARGET. -/
def envTarget (b : List Byte) : Nat := leAt b 32 2
/-- TYPE. -/
def envType (b : List Byte) : Nat := byteOf b 36
/-- USAGE. -/
def envUsage (b : List Byte) : Nat := byteOf b 37
/-- PARENT. -/
def envParent (b : List Byte) : Nat := leAt b 40 2
/-- BODY_LEN. -/
def envBodyLen (b : List Byte) : Nat := leAt b 42 2

/-- The length of an authenticator; a reserved AUTH has none. -/
def authLen (auth : Nat) : Option Nat :=
  if auth = 1 then some 32 else if auth = 2 then some 64 else if auth = 3 then some 96 else none

/-- Check 1 of Table 18-7. -/
def envSizeOk (b : List Byte) : Bool :=
  decide (64 ≤ b.length) && leAt b 0 2 == 0xC1E7 && byteOf b 2 == 1 && match authLen (envAuth b) with
    | some n => b.length == 64 + up8 (envBodyLen b) + 16 + n
    | none => true

/-- INSTALL or INVALIDATE. -/
def envSlotOp (b : List Byte) : Bool := envOp b == 1 || envOp b == 2

/-- Check 2 of Table 18-7: fields that are reserved or that the OP leaves 0, then reserved values (R11, R12). -/
def envFields (b : List Byte) : Option Status :=
  let pad := (b.drop (64 + envBodyLen b)).take (up8 (envBodyLen b) - envBodyLen b)
  let zeros : Bool := byteOf b 5 == 0 && byteOf b 39 == 0 && leAt b 56 8 == 0 && leNat pad == 0
    && (envSlotOp b || (leAt b 32 4 == 0 && envParent b == 0))
    && (envOp b == 1 || leAt b 36 3 == 0)
    && decide (envUsage b < 8) && decide (byteOf b 38 < 8) && (envParent b == 0xFFFF || byteOf b 38 == 0)
  if !zeros then some .eParam
  else if !(([1, 2, 0x10, 0x11, 0x12, 0x13, 0x14] : List Nat).elem (envOp b)) ∨ authLen (envAuth b) = none ∨ 4096 < envBodyLen b
    ∨ (envOp b = 1 ∧ (envType b = 0 ∨ 7 ≤ envType b)) then some .eRange
  else none

/-- The KEY_UPDATE requests that a node in SAFE accepts (R410). -/
def safeEnvelope (s : State) (p : Path) (b : List Byte) : Bool :=
  (s.sec.lifecycle == 0 && envOp b == 0x10 && (p == .mb1 || (p == .mb0 && s.dev.pcieUp)))
  || (envOp b == 1 && decide (16 ≤ envTarget b) && decide (envTarget b < 512) && envUsage b == 2)

/-- The authenticator's bytes, and what they cover. -/
def envSplit (b : List Byte) : List Byte × List Byte :=
  let n := (authLen (envAuth b)).getD 0
  (b.take (b.length - n), b.drop (b.length - n))

/-- Check 4 of Table 18-7. -/
def envAuthOk (s : State) (b : List Byte) : Bool :=
  let x := envSplit b
  if envAuth b = 1 then
    envSlotOp b && envParent b == envAuthSlot b && keyState s (envAuthSlot b) == 1 && bitAt (slotOf s (envAuthSlot b)).usage 2
      && hmac (slotOf s (envAuthSlot b)).key x.1 == x.2
  else
    envAuthSlot b == 0xFFFF && (!envSlotOp b || envParent b == 0xFFFF) && match rootKey s with
      | some (a, k) => a == envAuth b && ecdsaVerify k x.1 x.2
      | none => false

/-- The wrap key W of an envelope (R416). -/
def envKey (s : State) (b : List Byte) : List Byte :=
  hmac (if envAuth b = 1 then (slotOf s (envAuthSlot b)).key else wrapSecret s) ((b.drop 8).take 24)

/-- The body as it decrypts, none where the tag fails (R416). -/
def envBody (s : State) (b : List Byte) : Option (List Byte) :=
  let ct := (b.drop 64).take (envBodyLen b)
  gcmOpen (envKey s b) ((b.drop 44).take 12) (b.take 64) (ct ++ (b.drop (64 + up8 (envBodyLen b))).take 16)

/-- The life-cycle state in which a life-cycle OP is permitted (Table 18-3). -/
def opPermitted (life op : Nat) : Bool :=
  if op = 0x10 then life == 0 else if op = 0x11 then life == 1 else if op = 0x12 then life == 2 else if op = 0x13 then life == 3
  else decide (life ≤ 3)

/-- The length of a key value of a type (18.4). -/
def keyLen (ty : Nat) : Nat :=
  if ty = 1 then 16 else if ty = 2 ∨ ty = 3 then 32 else if ty = 4 then 65 else 97

/-- USAGE goes with TYPE (Table 18-5). -/
def usageOk (ty usage : Nat) : Bool :=
  decide (usage < 8) && (!bitAt usage 0 || ty == 1) && (!bitAt usage 1 || ty == 2) && (!bitAt usage 2 || ty == 3)

/-- An item of a life-cycle body: slot, TYPE, USAGE and key. -/
structure LifeItem where
  slot : Nat
  ty : Nat
  usage : Nat
  key : List Byte
  deriving DecidableEq, Repr

/-- The items of a life-cycle body, none where they do not fill it. -/
def lifeItems : Nat → List Byte → Option (List LifeItem)
  | 0, b => if b = [] then some [] else none
  | n + 1, b =>
    if b = [] then some []
    else
      let len := leAt b 4 2
      if b.length < 8 + up8 len ∨ leAt b 6 2 ≠ 0 then none
      else match lifeItems n (b.drop (8 + up8 len)) with
        | some rest => some ({ slot := leAt b 0 2, ty := byteOf b 2, usage := byteOf b 3, key := (b.drop 8).take len } :: rest)
        | none => none

/-- The types that the class A slots of a life-cycle OP take (Table 18-3, Table 18-4), and whether the slot may be left out. -/
def lifeSlots (op : Nat) : List (Nat × List Nat × Bool) :=
  if op = 0x10 then [(4, [5], false)]
  else if op = 0x11 then [(2, [4, 5], false), (3, [2, 3], false), (5, [4, 5], true), (6, [3], false)]
  else []

/-- A life-cycle body installs what its OP installs, each slot once. -/
def lifeBodyOk (op : Nat) (xs : List LifeItem) : Bool :=
  (xs.all fun x => (lifeSlots op).any fun y => y.1 == x.slot && y.2.1.elem x.ty && x.usage == 0 && x.key.length == keyLen x.ty)
  && (lifeSlots op).all fun y => (xs.filter fun x => x.slot == y.1).length == 1 || (y.2.2 && !xs.any fun x => x.slot == y.1)

/-- Check 8 of Table 18-7. -/
def envTargetErr (s : State) (b body : List Byte) : Option Status :=
  let k := slotOf s (envTarget b)
  if !envSlotOp b then
    match lifeItems 16 body with
    | some xs => if lifeBodyOk (envOp b) xs then none else some .eParam
    | none => some .eParam
  else if ¬ (16 ≤ envTarget b ∧ envTarget b < 512) then some .eParam
  else if k.state = 3 then some .eCapacity
  else if envOp b = 1 then
    if envType b = 6 ∨ !usageOk (envType b) (envUsage b) ∨ body.length ≠ keyLen (envType b) then some .eParam
    else if envParent b ≠ 0xFFFF ∧ 3 ≤ (slotOf s (envParent b)).depth then some .eRange
    else none
  else if envParent b = k.parent ∨ envParent b = 0xFFFF then none
  else some .eParam

/-- The first failing check of Table 18-7, from a caller's role and path. -/
def envErr (s : State) (c : Caller) (p : Path) (b : List Byte) : Option Status :=
  if !envSizeOk b then some .eSize
  else match envFields b with
    | some st => some st
    | none =>
      if c.role = 3 then some .eAuth
      else if islandOut s ∨ (s.dev.state = .safe ∧ !safeEnvelope s p b) then some .eState
      else if !envAuthOk s b then some .eAuth
      else if leAt b 8 16 ≠ Config.deviceId.toNat ∨ leAt b 24 8 ≠ s.sec.counter + 1 then some .eAuth
      else match envBody s b with
        | none => some .eAuth
        | some body =>
          if (!envSlotOp b ∧ !opPermitted s.sec.lifecycle (envOp b)) ∨ s.sec.lifecycle = 4 then some .eState
          else match envTargetErr s b body with
            | some st => some st
            | none => if envSlotOp b ∧ leAt b 34 2 ≠ (slotOf s (envTarget b)).gen then some .eStale else none

/-! ### Effects of envelopes (R409, R413, R418) -/

/-- A log erased, with LOG_CLEARED and P0 0xFF in its first slot (R451, R461). -/
def eraseLog (s : State) (log : Nat) : State :=
  let n := logUsed s log
  let s1 := { s with log := { s.log with
    slots := s.log.slots.filter (fun x => x.1 / 4096 ≠ log), clearing := SMap.put none s.log.clearing log none } }
  logCount (writeSlot s1 log 0 (recordBytes 1 0 0 (optimeNow s1) s1.log.cycles 0 0 0xFF 0 n)) log 3 1

/-- Both settings copies erased. -/
def eraseSettings (s : State) : State := { s with upd := { s.upd with copies := [] } }

/-- A change of the life-cycle state, logged and notified (R409). -/
def toLife (s : State) (new : Nat) : State :=
  notify (logEv { s with sec := { s.sec with lifecycle := new } } 0x0D05 s.sec.lifecycle new 0) 0x0006
    (leBytes 1 s.sec.lifecycle ++ leBytes 1 new ++ leBytes 6 0)

/-- The slots of a life-cycle body written. -/
def installItems (s : State) (xs : List LifeItem) : State :=
  xs.foldl (fun a x => installSlot a x.slot { KeySlot.empty with ty := x.ty, usage := x.usage, key := x.key }) s

/-- The identity key pair, generated in the island (R409); its public point is what SEC_IDENTITY shows. -/
def makeIdentity (s : State) : State :=
  let f := takeFree s
  installSlot f.2 0 { KeySlot.empty with ty := 6, key := 4#8 :: (Config.freeBytes f.1 96 ++ List.replicate 96 0).take 96 }

/-- INSTALL (R413, R414, R419). -/
def envInstall (s : State) (b body : List Byte) : State :=
  let p := envParent b
  let k : KeySlot :=
    if p = 0xFFFF then { KeySlot.empty with ty := envType b, usage := envUsage b, owner := byteOf b 38, key := body }
    else { KeySlot.empty with
      ty := envType b, usage := envUsage b, owner := (slotOf s p).owner, depth := (slotOf s p).depth + 1, parent := p
      parentGen := (slotOf s p).gen, key := body }
  installSlot s (envTarget b) k

/-- INVALIDATE (R414). -/
def envInvalidate (s : State) (b : List Byte) : State := slotPut s (envTarget b) (dropSlot (slotOf s (envTarget b)))

/-- PROVISION (Table 18-3). -/
def envProvision (s : State) (body : List Byte) : State := toLife (installItems (makeIdentity s) ((lifeItems 16 body).getD [])) 1

/-- TAKE_OWNERSHIP (Table 18-3). -/
def envTakeOwnership (s : State) (body : List Byte) : State := toLife (installItems s ((lifeItems 16 body).getD [])) 2

/-- RETURN (Table 18-3). -/
def envReturn (s : State) : State :=
  let s1 := eraseSettings (dropSlots s fun i => i = 2 || i = 3 || i = 5 || i = 6 || decide (16 ≤ i))
  toLife ([0, 1, 2, 3, 4, 5].foldl eraseLog s1) 3

/-- SEC_EVAL cleared (R428). -/
def clearEval (s : State) : State := { s with imm := s.imm.setVal secEval 0 0 }

/-- REPROVISION (Table 18-3, R415, R450): logs 6 and 7 go once their final record is written; slots 0 and 4 stay. -/
def envReprovision (s : State) : State :=
  let s1 := toLife (clearEval s) 1
  let s2 := eraseLog (eraseLog s1 6) 7
  { s2 with
    sec := { s2.sec with slots := s2.sec.slots.filter fun x => x.1 = 0 ∨ x.1 = 4 }
    upd := { s2.upd with state := 0 } }

/-- RETIRE (Table 18-3). -/
def envRetire (s : State) : State :=
  let s1 := eraseSettings (clearEval s)
  toLife { s1 with sec := { s1.sec with slots := [], fuseLocked := true } } 4

/-- The effect of an accepted envelope, by OP (R418): the counter moves with it as one change. -/
def envEffect (s : State) (b body : List Byte) : State :=
  let s1 := { s with sec := { s.sec with counter := s.sec.counter + 1 } }
  let op := envOp b
  if op = 1 then envInstall s1 b body
  else if op = 2 then envInvalidate s1 b
  else if op = 0x10 then envProvision s1 body
  else if op = 0x11 then envTakeOwnership s1 body
  else if op = 0x12 then envReturn s1
  else if op = 0x13 then envReprovision s1
  else envRetire s1

/-- KEY_UPDATE (18.4): the checks of Table 18-7, then the effect. A rejection changes nothing but its count and its record in log 6; under
SEC_EVAL acceptance is recorded too (R417, R428). -/
def keyUpdate (c : Caller) (r : Req) (s : State) : Answer × State :=
  let b := r.payload
  match envErr s c r.path b with
  | some st => (failWith st, logEv (secCount s 1) 0x0D03 (envOp b) (envTarget b) st.code)
  | none =>
    let s1 := envEffect (secCount s 0) b ((envBody s b).getD [])
    let s2 := if evaluated s then logEv s1 0x0D04 (envOp b) (envTarget b) (s.sec.counter + 1) else s1
    (okWith [], refreshLive s2)

/-- KEY_UPDATE_INSTALL (R413, R414, R418, R419). -/
def execKeyUpdateInstall (r : Req) (s : State) : Host.Outcome State Fault Refusal := .next (serve 0x50 keyUpdate r s)

/-- KEY_UPDATE_INVALIDATE (R414, R415). -/
def execKeyUpdateInvalidate (r : Req) (s : State) : Host.Outcome State Fault Refusal := .next (serve 0x50 keyUpdate r s)

/-- KEY_UPDATE_PROVISION (R409, R410). -/
def execKeyUpdateProvision (r : Req) (s : State) : Host.Outcome State Fault Refusal := .next (serve 0x50 keyUpdate r s)

/-- KEY_UPDATE_TAKE_OWNERSHIP (R409). -/
def execKeyUpdateTakeOwnership (r : Req) (s : State) : Host.Outcome State Fault Refusal := .next (serve 0x50 keyUpdate r s)

/-- KEY_UPDATE_RETURN (R409). -/
def execKeyUpdateReturn (r : Req) (s : State) : Host.Outcome State Fault Refusal := .next (serve 0x50 keyUpdate r s)

/-- KEY_UPDATE_REPROVISION (R409, R415). -/
def execKeyUpdateReprovision (r : Req) (s : State) : Host.Outcome State Fault Refusal := .next (serve 0x50 keyUpdate r s)

/-- KEY_UPDATE_RETIRE (R409). -/
def execKeyUpdateRetire (r : Req) (s : State) : Host.Outcome State Fault Refusal := .next (serve 0x50 keyUpdate r s)

/-! ### Attestation (R424) -/

/-- The manifest hash of an image set, zero where it is empty (Table 18-8). -/
def setHash (s : State) (i : Nat) : List Byte :=
  let m := (SMap.get ImageSet.empty s.upd.sets i).manifest
  if m = [] then List.replicate 32 0 else manifestHash m

/-- Bytes 0 to 95 of the attestation response (Table 18-8). -/
def attestBytes (s : State) : List Byte :=
  leBytes 16 Config.deviceId.toNat ++ leBytes 1 s.sec.lifecycle
    ++ leBytes 1 (b2n s.sec.tampered + b2n (evaluated s) * 2 + b2n (s.upd.sel.set == 1) * 4) ++ leBytes 1 s.upd.state ++ leBytes 5 0
    ++ leBytes 8 s.sec.counter ++ setHash s (runningSet s) ++ setHash s (1 - s.upd.sel.set)

/-- ATTEST (R424). -/
def attestOp (_c : Caller) (r : Req) (s : State) : Answer × State :=
  if keyState s 6 ≠ 1 ∨ islandOut s then (failWith .eState, s)
  else
    let a := attestBytes s
    (okWith (a ++ hmac (slotOf s 6).key (r.payload ++ a)), secCount s 2)

/-- ATTEST (R424). -/
def execAttest (r : Req) (s : State) : Host.Outcome State Fault Refusal := .next (serve 0x51 attestOp r s)

/-! ### Tamper and self-tests (R407, R421, R422) -/

/-- The monitor watches an input: the shield mesh always, a TAMP input by its MODE or as the one that reads a MESH back (R420). -/
def tamperWatched (s : State) (input : Nat) : Bool :=
  input == 4 || (decide (input < 4) && (byteAt (s.imm.row secTamper input) 0 != 0
    || (input % 2 == 1 && byteAt (s.imm.row secTamper (input - 1)) 0 == 3)))

/-- TAMPER_EVENT (R29, R421): the KEK goes, TAMPERED is set with its latch, no session is live, and a node in DAWN, READY, RUN or SHADOW
enters SAFE. -/
def execTamperEvent (input : Nat) (t : Time) (s : State) : Host.Outcome State Fault Refusal :=
  let s1 := advance s t
  .next (if s1.dev.state = .off ∨ !tamperWatched s1 input then s1
    else
      let s2 := { s1 with sec := { s1.sec with
        kek := false, tampered := true, live := []
        tamperAt := if s1.sec.tampered then s1.sec.tamperAt else some (input, t) } }
      match s2.dev.state with
      | .dawn => raise (enterSafe s2 2) intDawn
      | .safe => { s2 with dev := { s2.dev with safeCause := 2 } }
      | .off => s2
      | .standby => s2
      | .dusk => s2
      | .ready => enterSafe s2 2
      | .run => enterSafe s2 2
      | .shadow => enterSafe s2 2)

/-- SELFTEST_FAILURE (R407): a continuous or consistency test fails; the island enters its error state and the node SAFE. A failure in D0 is
the dawn's. -/
def execSelftestFailure (test : Nat) (noise : Bool) (s : State) : Host.Outcome State Fault Refusal :=
  .next (if !s.dev.state.powered ∨ s.dev.state = .dawn then s
    else
      let s1 := if noise then secCount s 3 else s
      let s2 := logEv { s1 with sec := { s1.sec with error := true, live := [] } } 0x0D02 test 0 0
      if s2.dev.state.live then enterSafe s2 3 else s2)

/-- What D0 does of the island (R407, R419, R422): the error state ends, slots with SESSION usage go, and with TAMPERED set every slot is
overwritten with zeros and SEC_TAMPER logged. -/
def islandDawn (s : State) : State :=
  let s1 := { s with sec := { s.sec with error := false, live := [], rx := [], tx := [], peer := [], cnt := [] } }
  if s1.sec.tampered then
    let x := s1.sec.tamperAt.getD (4, 0)
    logEv { s1 with sec := { s1.sec with slots := [], kek := false } } 0x0D01 x.1 (x.2 / sec) (x.2 % sec / ns)
  else dropSessions s1

/-! ### Writes of SEC_ parameters and TEN_PATH (R296, R420, R425, R426, R428) -/

/-- A role may write a SEC_ parameter (R425). -/
def secRoleOk (s : State) (role id : Nat) : Bool :=
  role == 4 || (role == 1 && s.sec.lifecycle == 1 && (id == 0x6005 || id == 0x6006 || id == 0x6007))

/-- Conflicts between enabled SEC_SESSION records (R426). -/
def checkSessions (c : Store) : List Err :=
  let on := secSession.all.filter fun i => u32At (c.row secSession i) 0 != 0
  let slots (i : Nat) : List Nat := [u16At (c.row secSession i) 6, u16At (c.row secSession i) 8]
  on.filterMap fun i =>
    (on.find? fun j => j < i ∧ (u32At (c.row secSession i) 0 = u32At (c.row secSession j) 0
        ∨ (slots i).any fun k => (slots j).elem k)).map fun j => violO 0x6005 i 0x6005 j

/-- MESH stands on an even input whose partner is OFF (R420). -/
def checkTamper (c : Store) : List Err :=
  secTamper.all.filterMap fun i =>
    if byteAt (c.row secTamper i) 0 ≠ 3 then none
    else if i % 2 = 1 ∨ byteAt (c.row secTamper (i + 1)) 0 ≠ 0 then
      some { status := .eConflict, param := 0x6006, record := i, ownerParam := 0x6006, ownerRecord := if i % 2 = 1 then i - 1 else i + 1 }
    else none

/-- A write of IMMEDIATE security values or paths, from the old store to the new, by a caller: what it breaks (R296, R420, R425, R426,
R428). -/
def secWriteErrs (s : State) (c : Caller) (id : Nat) (n : Store) : List Err :=
  if id = 0x5C00 then
    errIf (c.tenant != 0) (viol0 .eAuth id)
    ++ errIf (evaluated s && tenPath.all.any fun i => n.row tenPath i != s.imm.row tenPath i && byteAt (n.row tenPath i) 1 != 2
        && byteAt (n.row tenPath i) 1 != 3) (viol0 .eAuth id)
  else if id / 0x400 ≠ 0x18 then []
  else
    errIf (!secRoleOk s c.role id) (viol0 .eAuth id)
    ++ errIf ((id == 0x6006 || id == 0x6007) && decide (2 ≤ s.sec.lifecycle)) (viol0 .eState id)
    ++ errIf (id == 0x6008 && ((n.v secEval == 1 && s.sec.lifecycle != 1) || (n.v secEval == 0 && evaluated s))) (viol0 .eState id)
    ++ (if id = 0x6005 then checkSessions n else [])
    ++ (if id = 0x6006 then checkTamper n else [])

/-- What follows a write of IMMEDIATE values: role changes are logged under SEC_EVAL, and sessions judged again (R428). -/
def secWritten (s : State) (old : Store) : State :=
  let changed := tenPath.all.filter fun i => byteAt (old.row tenPath i) 1 ≠ byteAt (s.imm.row tenPath i) 1
  let s1 := if evaluated s then
      changed.foldl (fun a i => logEv a 0x0D07 i (byteAt (old.row tenPath i) 1) (byteAt (a.imm.row tenPath i) 1)) s
    else s
  refreshLive s1

end Sys2Proof.Machine
end

