-- ==== Sys2Proof/Machine/Update.lean ====
section
/-! DEFINITION. Firmware update (19): download, verification, arming, confirmation and the records of fallback, with the settings copies. -/

namespace Sys2Proof.Machine

/-! ### Sets, copies and states (19.1, 19.2) -/

/-- The set that is not active (R430). -/
def otherSet (s : State) : Nat := 1 - s.upd.sel.set

/-- A set of the boot flash. -/
def imageOf (s : State) (i : Nat) : ImageSet := SMap.get ImageSet.empty s.upd.sets i

/-- The block with a set replaced. -/
def imagePut (s : State) (i : Nat) (x : ImageSet) : State := { s with upd := { s.upd with sets := SMap.put ImageSet.empty s.upd.sets i x } }

/-- A settings copy. -/
def copyOf (s : State) (i : Nat) : Settings := SMap.get Settings.empty s.upd.copies i

/-- The block with a settings copy replaced. -/
def copyPut (s : State) (i : Nat) (x : Settings) : State := { s with upd := { s.upd with copies := SMap.put Settings.empty s.upd.copies i x } }

/-- The copy that committed changes are written to: the new copy during TRIAL (R444). -/
def copyInForce (s : State) : Nat := if s.upd.sel.trial then 1 - s.upd.sel.settings else s.upd.sel.settings

/-- The settings schema in force: that of a valid copy in force, otherwise the SCHEMA that the running set writes. -/
def schemaInForce (s : State) : Nat :=
  let x := copyOf s (copyInForce s)
  if x.valid then x.schema else leAt (runningManifest s) 12 2

/-- A counter of UPD_COUNTERS advanced: 0 SEG_FAIL, 1 VERIFY_FAIL, 2 FALLBACKS, 3 CONFIRMS. -/
def updCount (s : State) (k : Nat) : State := { s with upd := { s.upd with cnt := bump s.upd.cnt k 1 } }

/-- A transition of UPD_STATE, logged with the SET_VERSION of the set concerned (R433). -/
def toUpd (s : State) (new : Nat) (manifest : List Byte) : State :=
  if s.upd.state = new then s
  else logEv { s with upd := { s.upd with state := new } } 0x0C01 s.upd.state new (leAt manifest 8 4)

/-- The committed values written to the copy in force, with its mark (R444; 01 1.6). -/
def saveSettings (s : State) : State :=
  copyPut s (copyInForce s)
    { schema := leAt (runningManifest s) 12 2, hash := manifestHash (runningManifest s), valid := true, edge := s.cfg, imm := s.imm }

/-! ### Manifests (Table 19-2, R432, R437) -/

/-- The length of a manifest. -/
def manifestLen (m : List Byte) : Nat := 144 + 32 * leAt m 22 2 + 104 * byteOf m 3

/-- Bytes of a set. -/
def setLen (m : List Byte) : Nat := leAt m 24 4

/-- The node's stepping, as ID_PART [39:32] gives it: A0. -/
def stepping : Nat := 0

/-- The SHA-256 of a segment as the manifest has it. -/
def segHash (m : List Byte) (i : Nat) : List Byte := (m.drop (144 + 32 * i)).take 32

/-- Bytes of a segment of a set. -/
def segLen (m : List Byte) (i : Nat) : Nat := min 65536 (setLen m - i * 65536)

/-- A component record is well formed and its steppings take in the node's. -/
def componentBad (m : List Byte) (i : Nat) : Option Nat :=
  let o := 64 + 16 * i
  let ty := byteOf m o
  if ty = 0 ∨ 6 ≤ ty ∨ (List.range i).any (fun j => byteOf m (64 + 16 * j) == ty) then some o
  else if byteOf m (o + 1) ≠ 0 then some (o + 1)
  else if stepping < byteOf m (o + 2) then some (o + 2)
  else if byteOf m (o + 3) < stepping then some (o + 3)
  else none

/-- The offset of a signature block. -/
def sigAt (m : List Byte) (i : Nat) : Nat := hashedLen m + 104 * i

/-- A signature block is well formed. -/
def sigBad (m : List Byte) (i : Nat) : Option Nat :=
  let o := sigAt m i
  let slot := byteOf m o
  let curve := byteOf m (o + 1)
  if (slot ≠ 4 ∧ slot ≠ 5) ∨ (List.range i).any (fun j => byteOf m (sigAt m j) == slot) then some o
  else if curve ≠ 1 ∧ curve ≠ 2 then some (o + 1)
  else if leAt m (o + 2) 6 ≠ 0 then some (o + 2)
  else if curve = 1 ∧ leAt m (o + 72) 32 ≠ 0 then some (o + 72)
  else none

/-- The manifest carries a valid signature by the key of a slot. -/
def signedBy (s : State) (m : List Byte) (slot : Nat) : Bool :=
  let k := slotOf s slot
  (List.range (byteOf m 3)).any fun i =>
    let o := sigAt m i
    byteOf m o == slot && keyState s slot == 1 && k.ty == 3 + byteOf m (o + 1)
      && ecdsaVerify k.key (m.take (hashedLen m)) ((m.drop (o + 8)).take (if byteOf m (o + 1) = 1 then 64 else 96))

/-- The byte offset of the first field that breaks a rule of Table 19-2, R432, or the PART, stepping and SVN rules of R437. -/
def manifestBad (s : State) (m : List Byte) : Option Nat :=
  if leAt m 0 2 ≠ 0xC1F0 then some 0
  else if byteOf m 2 ≠ 1 then some 2
  else if byteOf m 3 ≠ 1 ∧ byteOf m 3 ≠ 2 then some 3
  else if leAt m 4 2 ≠ 0x7200 then some 4
  else if stepping < byteOf m 6 then some 6
  else if byteOf m 7 < stepping then some 7
  else if leAt m 20 2 < s.upd.svnFloor then some 20
  else if leAt m 22 2 ≠ (setLen m + 65535) / 65536 ∨ leAt m 22 2 = 0 ∨ 256 < leAt m 22 2 then some 22
  else if setLen m < 65536 ∨ 16777216 < setLen m then some 24
  else if leAt m 28 36 ≠ 0 then some 28
  else match firstSome (componentBad m) (List.range 5) with
    | some o => some o
    | none => match firstSome (sigBad m) (List.range (byteOf m 3)) with
      | some o => some o
      | none =>
        if !signedBy s m 4 ∨ (keyState s 5 = 1 ∧ !signedBy s m 5) then some (sigAt m 0) else none

/-- The settings schema in force is one that the set takes over (R437). -/
def schemaBad (s : State) (m : List Byte) : Option Nat :=
  if schemaInForce s < leAt m 14 2 then some 14 else if leAt m 12 2 < schemaInForce s then some 12 else none

/-! ### Download (R434, R435, R471) -/

/-- The download that IMAGE_BLOCK works on: that of a host load in D3. -/
def dlOf (s : State) : Download := if hostLoads s then s.upd.load else s.upd.dl

/-- The download replaced. -/
def dlPut (s : State) (d : Download) : State :=
  if hostLoads s then { s with upd := { s.upd with load := d } } else { s with upd := { s.upd with dl := d } }

/-- The set that a download writes (R430, R471). -/
def dlSet (s : State) : Nat := if hostLoads s then 2 else otherSet s

/-- A transition of UPD_STATE, which a host load does not touch (R471). -/
def dlState (s : State) (new : Nat) (m : List Byte) : State := if hostLoads s then s else toUpd s new m

/-- Segments of a manifest that are verified. -/
def dlDone (d : Download) : Nat := (bitsSet 256 d.progress).length

/-- The lowest segment not yet verified. -/
def dlNext (d : Download) : Nat := ((List.range 257).find? fun i => bitAt d.progress i = false).getD 256

/-- The response of IMAGE_BLOCK: 0 nothing hashed, 1 the segment was verified, 2 it was discarded; the segments verified; the lowest that
is not (R435). -/
def blockReply (d : Download) (what : Nat) : Answer := okWith (leBytes 2 what ++ leBytes 2 (dlDone d) ++ leBytes 2 (dlNext d) ++ leBytes 2 0)

/-- A manifest chunk (R434). -/
def manifestChunk (s : State) (off : Nat) (data : List Byte) : Answer × State :=
  let d := dlOf s
  if !hostLoads s ∧ 4 ≤ s.upd.state ∧ s.upd.state ≤ 6 then (failWith .eState, s)
  else if off ≠ 0 ∧ (d.complete ∨ off ≠ d.manifest.length) then (failWith .eRange, s)
  else
    let m := (if off = 0 then [] else d.manifest) ++ data
    let full : Bool := decide (24 ≤ m.length) && decide (manifestLen m ≤ m.length)
    if data.length < 8 ∨ 32768 < data.length ∨ (data.length % 8 ≠ 0 ∧ !full) then (failWith .eSize, s)
    else if full ∧ manifestLen m < m.length then (failWith .eRange, s)
    else
      let s1 := if off = 0 then
          let a := imagePut (dlState s 1 m) (dlSet s) ImageSet.empty
          dlPut { a with upd := { a.upd with before := if hostLoads s then a.upd.before else s.upd.state } } Download.empty
        else s
      let d1 := { dlOf s1 with manifest := m, complete := full }
      if full then
        match manifestBad s1 m with
        | some _ => (failWith .eVerify, dlPut (dlState s1 s1.upd.before m) { dlOf s1 with manifest := [], complete := false })
        | none => (blockReply d1 0, dlPut s1 d1)
      else (blockReply d1 0, dlPut s1 d1)

/-- Blocks of 1,024 bytes of a chunk put into the segment in assembly. -/
def putBlocks (d : Download) (blk : Nat) (data : List Byte) : Download :=
  { d with blocks := ((chunks 1024 33 data).foldl (fun (a : SMap (List Byte) × Nat) x => (SMap.put [] a.1 a.2 x, a.2 + 1)) (d.blocks, blk)).1 }

/-- The bytes of the segment in assembly, once all have arrived. -/
def segBytes (d : Download) (i : Nat) : Option (List Byte) :=
  let n := (segLen d.manifest i + 1023) / 1024
  let b := (List.range n).flatMap fun k => SMap.get [] d.blocks k
  if (List.range n).all (fun k => SMap.get [] d.blocks k != []) then some b else none

/-- A data chunk (R435). -/
def dataChunk (s : State) (off : Nat) (data : List Byte) : Answer × State :=
  let d := dlOf s
  let m := d.manifest
  let i := off / 65536
  let n := data.length
  let head := m.length
  if (!hostLoads s ∧ s.upd.state ≠ 1) ∨ !d.complete then (failWith .eState, s)
  else if 32768 < n ∨ (¬ (off + n = setLen m) ∧ (n < 1024 ∨ n % 1024 ≠ 0)) then (failWith .eSize, s)
  else if off % 1024 ≠ 0 ∨ setLen m < off + n ∨ (off + n - 1) / 65536 ≠ i then (failWith .eRange, s)
  else if bitAt d.progress i then (blockReply d 0, s)
  else if off < head ∧ data.take (head - off) ≠ (m.drop off).take n then (failWith .eVerify, s)
  else
    let d1 := putBlocks (if d.seg = some i then d else { d with seg := some i, blocks := [] }) (off % 65536 / 1024) data
    match segBytes d1 i with
    | none => (blockReply d1 0, dlPut s d1)
    | some b =>
      let d2 := { d1 with seg := none, blocks := [] }
      if sha256 b = segHash m i then
        let x := imageOf s (dlSet s)
        let d3 := { d2 with progress := putBit d.progress i true }
        let whole := dlDone d3 = leAt m 22 2
        let s1 := imagePut (dlPut s d3) (dlSet s)
          { segs := SMap.put [] x.segs i b, manifest := if whole then m else x.manifest }
        (blockReply d3 1, if whole then dlState s1 2 m else s1)
      else (blockReply d2 2, updCount (dlPut s d2) 0)

/-- Who may send IMAGE_ opcodes, and when (R431, R471). -/
def imageErr (s : State) (c : Caller) : Option Status :=
  if hostLoads s then none
  else if c.tenant ≠ 0 ∨ (c.role ≠ 1 ∧ c.role ≠ 2) then some .eAuth
  else if s.dev.bootSrc = 2 then some .eState
  else none

/-- IMAGE_BLOCK (R434, R435, R471). -/
def imageBlock (c : Caller) (r : Req) (s : State) : Answer × State :=
  let b := r.payload
  match imageErr s c with
  | some st => (failWith st, s)
  | none =>
    let s1 := if hostLoads s then { s with dev := { s.dev with hostLoadAt := some s.tim.up } } else s
    if leAt b 1 3 ≠ 0 then (failWith .eParam, s)
    else if 2 ≤ byteOf b 0 then (failWith .eRange, s)
    else if byteOf b 0 = 0 then manifestChunk s1 (leAt b 4 4) (b.drop 8)
    else dataChunk s1 (leAt b 4 4) (b.drop 8)

/-- IMAGE_BLOCK with a manifest chunk (R434). -/
def execImageBlockManifest (r : Req) (s : State) : Host.Outcome State Fault Refusal := .next (serve 0x60 imageBlock r s)

/-- IMAGE_BLOCK with a data chunk (R435). -/
def execImageBlockData (r : Req) (s : State) : Host.Outcome State Fault Refusal := .next (serve 0x60 imageBlock r s)

/-! ### Verification (R436) -/

/-- The lowest segment of a set whose hash fails. -/
def segBad (x : ImageSet) : Option Nat :=
  (List.range (leAt x.manifest 22 2)).find? fun i => sha256 (SMap.get [] x.segs i) != segHash x.manifest i

/-- What is wrong with a set (R436): a segment, or 0x0001_0000 and the offset of a manifest field. -/
def setBad (s : State) (i : Nat) : Option Nat :=
  let x := imageOf s i
  match segBad x with
  | some k => some k
  | none => match manifestBad s x.manifest with
    | some o => some (0x10000 + o)
    | none => (schemaBad s x.manifest).map (0x10000 + ·)

/-- IMAGE_VERIFY (R436). -/
def imageVerify (c : Caller) (_r : Req) (s : State) : Answer × State :=
  match imageErr s c with
  | some st => (failWith st, s)
  | none =>
    if !hostLoads s ∧ s.upd.state ≠ 2 ∧ s.upd.state ≠ 8 then (failWith .eState, s)
    else
      let m := (imageOf s (dlSet s)).manifest
      match setBad s (dlSet s) with
      | some k => (.fail { status := .eVerify, record := k }, if hostLoads s then s else updCount s 1)
      | none => (okWith (manifestHash m), dlState s 3 m)

/-- IMAGE_VERIFY (R436). -/
def execImageVerify (r : Req) (s : State) : Host.Outcome State Fault Refusal := .next (serve 0x61 imageVerify r s)

/-! ### Arming (R438) -/

/-- An activation armed for a frame edge. -/
def armAt (s : State) (j : Nat) : State :=
  let s1 := toUpd s 4 (imageOf s (otherSet s)).manifest
  { s1 with upd := { s1.upd with armed := some j } }

/-- An armed activation cancelled. -/
def disarm (s : State) : State :=
  let s1 := toUpd s 3 (imageOf s (otherSet s)).manifest
  { s1 with upd := { s1.upd with armed := none } }

/-- The device time that an ARM names. -/
def armTime (b : List Byte) : Time := leAt b 8 8 * sec + leAt b 16 4 * ns

/-- What is wrong with the payload of an IMAGE_ARM (R11, R12, R438). -/
def armPayload (b : List Byte) : Option Status :=
  if leAt b 1 7 ≠ 0 ∨ leAt b 20 4 ≠ 0 then some .eParam
  else if (byteOf b 0 ≠ 1 ∧ byteOf b 0 ≠ 2) ∨ 1000000000 ≤ leAt b 16 4 then some .eRange
  else none

/-- Why ARM for a time or DISARM is refused on this node, none where it is not (R438). -/
def armErr (s : State) (b : List Byte) : Option Status :=
  let t := armTime b
  if byteOf b 0 = 1 then
    if t < s.tim.now + sec ∨ s.tim.now + 86400 * sec < t then some .eRange else if s.upd.state ≠ 3 then some .eState else none
  else if s.upd.state ≠ 4 then some .eState
  else
    let j := s.upd.armed.getD 0
    if j < nextLatch s ∨ latchTime s j ≤ s.tim.now then some .eLate else none

/-- IMAGE_ARM on this node alone (R438). -/
def imageArm (c : Caller) (r : Req) (s : State) : Answer × State :=
  let b := r.payload
  match imageErr s c with
  | some st => (failWith st, s)
  | none => match armPayload b with
    | some st => (failWith st, s)
    | none => match armErr s b with
      | some st => (failWith st, s)
      | none =>
        if byteOf b 0 = 1 then
          let j := edgeFrom s (armTime b)
          (okWith (leBytes 8 j), armAt s j)
        else (okWith [], disarm s)

/-! ### Confirmation and fallback (R442 to R446) -/

/-- The running set confirmed (R445): the SVN floor rises, and a selector record without TRIAL names the new copy. -/
def confirmSet (s : State) : State :=
  let m := runningManifest s
  let x := s.upd.sel
  let s1 := toUpd s 7 m
  updCount { s1 with upd := { s1.upd with
    svnFloor := max s1.upd.svnFloor (leAt m 20 2)
    sel := { x with seq := x.seq + 1, trial := false, count := 0, settings := 1 - x.settings, hash := manifestHash m }
    windowAt := none, trialTxns := 0, confirming := false } } 3

/-- A fallback record (R442, R446), with UPD_STATE FALLEN_BACK, logged with its cause: 1 TRIAL_BOOTS, 2 D3, 3 SETTINGS, 4 WINDOW, 5 ORDERED. -/
def fallback (s : State) (cause : Nat) : State :=
  let x := s.upd.sel
  let m := (imageOf s x.set).manifest
  let s1 := toUpd (logEv s 0x0C03 cause s.upd.trialTxns (leAt m 8 4)) 8 m
  updCount { s1 with upd := { s1.upd with
    sel := {
      seq := x.seq + 1, set := x.fbSet, trial := false, count := 0, settings := x.fbSettings, fbSet := x.fbSet
      fbSettings := x.fbSettings, hash := manifestHash (imageOf s x.fbSet).manifest }
    windowAt := none, trialTxns := 0, confirming := false } } 2

/-- IMAGE_CONFIRM on this node (R445). -/
def imageConfirm (c : Caller) (r : Req) (s : State) : Answer × State :=
  match imageErr s c with
  | some st => (failWith st, s)
  | none =>
    if s.upd.state ≠ 6 then (failWith .eState, s)
    else if r.payload ≠ manifestHash (runningManifest s) then (failWith .eVerify, s)
    else (okWith [], confirmSet s)

end Sys2Proof.Machine
end

