-- ==== Sys2Proof/Machine/Recorder.lean ====
section
/-! DEFINITION. The event recorder's commands (20): tokens, operating time, reading, clearing and the cursor window. -/

namespace Sys2Proof.Machine

/-! ### Tokens and operating time (R454, R457) -/

/-- LOG_SUPPRESSED, where a code has suppressed events; its count starts again (R457). -/
def flushSuppressed (s : State) (log code : Nat) : State :=
  let b := bucketOf s code
  if b.suppressed = 0 then s
  else
    let s1 := putBucket s code { b with suppressed := 0, firstAt := 0 }
    match clearingOf s1 log with
    | some c =>
      if c.held.length < 256 then
        { s1 with log := { s1.log with clearing := SMap.put none s1.log.clearing log (some { c with
            held := c.held ++ [{ code := 3, p0 := code, p1 := b.suppressed, p2 := b.firstAt % 4294967296 }] }) } }
      else logCount s1 log 1 1
    | none => writeEvent s1 log 3 0 8 code b.suppressed (b.firstAt % 4294967296)

/-- LOG_TOKEN_ADD (R457): at a multiple of the code's period its bucket gains a token, after LOG_SUPPRESSED where events were suppressed. -/
def execLogTokenAdd (code : Nat) (s : State) : Host.Outcome State Fault Refusal :=
  .next (match eventRow code with
    | some (log, _) =>
      if log ≤ 5 ∧ s.dev.state.powered then
        let s1 := flushSuppressed s log code
        putBucket s1 code { bucketOf s1 code with tokens := some (min (tokensOf s1 code + 1) (rateOf s1 code).1) }
      else s
    | none => s)

/-- OPTIME_WRITE (R454): the operating time is written to MRAM. -/
def execOptimeWrite (s : State) : Host.Outcome State Fault Refusal :=
  .next (if s.dev.state.powered then { s with log := { s.log with optime := optimeNow s } } else s)

/-! ### Reading (R453, R459, R462) -/

/-- The CRC of a record holds (R452). -/
def recordOk (r : List Byte) : Bool := leAt r 28 2 == crc16 (r.take 12 ++ (r.drop 14).take 14)

/-- Records found so far, the first slot not examined, and how many failed their CRC. -/
structure Found where
  records : List (List Byte)
  next : Nat
  bad : Nat
  deriving DecidableEq, Repr

/-- Slots examined in ascending order until `count` records are found or a slot has no VALID, `n` slots at most. -/
def scanSlots (at_ : Nat → List Byte) (keep : List Byte → Bool) (count : Nat) : Nat → Found → Found
  | 0, f => f
  | n + 1, f =>
    let r := at_ f.next
    if f.next = 4096 ∨ r = [] ∨ count ≤ f.records.length then f
    else if !recordOk r then scanSlots at_ keep count n { f with next := f.next + 1, bad := f.bad + 1 }
    else scanSlots at_ keep count n { f with next := f.next + 1, records := if keep r then f.records ++ [r] else f.records }

/-- The records that a read of a log sees: those of its slots, or while D1 has failed those held in SRAM (R455). -/
def slotsSeen (s : State) (log : Nat) : Nat → List Byte :=
  if s.log.volatile then
    let xs := (s.log.held.filter fun x => x.1 = log).map (·.2)
    fun i => xs.getD i []
  else slotAt s log

/-- The 8-byte prefix of R459; while only the records held in SRAM are returned, USED counts those (R455). -/
def readPrefix (s : State) (log next returned : Nat) : List Byte :=
  let used := if s.log.volatile then (s.log.held.filter fun x => x.1 = log).length else logRecords s log
  leBytes 2 next ++ leBytes 2 returned ++ leBytes 2 used
    ++ leBytes 1 (b2n (decide (4095 ≤ used)) + b2n s.log.volatile * 2 + b2n (clearingOf s log).isSome * 4) ++ leBytes 1 0

/-- What is wrong with a LOG_READ payload (20.5, R11, R12). -/
def logReadErr (b : List Byte) : Option Status :=
  if leAt b 2 2 ≠ 0 ∨ leAt b 13 3 ≠ 0 ∨ leAt b 21 3 ≠ 0 then some .eParam
  else if 8 ≤ byteOf b 0 then some .eRange
  else if 6 ≤ byteOf b 0 then some .eAuth
  else if 4 ≤ byteOf b 1 ∨ 4096 ≤ leAt b 4 2 ∨ leAt b 6 2 = 0 ∨ 256 < leAt b 6 2 then some .eRange
  else none

/-- LOG_READ (R459). -/
def logRead (_c : Caller) (r : Req) (s : State) : Answer × State :=
  let b := r.payload
  match logReadErr b with
  | some st => (failWith st, s)
  | none =>
    let log := byteOf b 0
    let from_ := leAt b 8 5
    let to_ := leAt b 16 5
    let keep (x : List Byte) : Bool :=
      decide (byteOf b 1 ≤ byteOf x 2 % 8) && decide (from_ ≤ leAt x 4 5) && (to_ == 0 || decide (leAt x 4 5 < to_))
    let f := scanSlots (slotsSeen s log) keep (leAt b 6 2) 4097 { records := [], next := leAt b 4 2, bad := 0 }
    (okWith (readPrefix s log f.next f.records.length ++ f.records.flatten), if f.bad = 0 then s else logCount s log 2 f.bad)

/-- LOG_READ (R459). -/
def execLogRead (r : Req) (s : State) : Host.Outcome State Fault Refusal := .next (serve 0x40 logRead r s)

/-! ### Clearing (R460, R461) -/

/-- Why a LOG_CLEAR is refused. -/
def logClearErr (s : State) (c : Caller) (b : List Byte) : Option Status :=
  let log := byteOf b 0
  if byteOf b 1 / 2 ≠ 0 ∨ leAt b 2 2 ≠ 0 ∨ leAt b 6 2 ≠ 0 then some .eParam
  else if 8 ≤ log then some .eRange
  else if log ≤ 5 ∧ (c.tenant ≠ 0 ∨ c.role ≠ 1) then some .eAuth
  else if 6 ≤ log ∧ c.role ≠ 4 then some .eAuth
  else if 6 ≤ log ∧ 2 ≤ s.sec.lifecycle then some .eState
  else if bitAt (byteOf b 1) 0 = false ∧ leAt b 4 2 ≠ (logRecords s log + 65535) % 65536 then some .eStale
  else if (clearingOf s log).isSome then some .eBusy
  else none

/-- The path of a clear in LOG_CLEARED (R461). -/
def clearPath : Path → Nat
  | .mb0 => 0
  | .mb1 => 1
  | .mb2 .. => 2
  | .mb3 .. => 3
  | .console => 3

/-- LOG_CLEAR (R460, R461): an accepted clear sets the log's flag; it is answered when it is done. -/
def logClear (c : Caller) (r : Req) (s : State) : Answer × State :=
  let b := r.payload
  match logClearErr s c b with
  | some st => (failWith st, s)
  | none =>
    let x : Clearing :=
      { path := clearPath r.path, tenant := c.tenant, role := c.role, used := logRecords s (byteOf b 0), req := some r, held := [] }
    (.wait, { s with log := { s.log with clearing := SMap.put none s.log.clearing (byteOf b 0) (some x) } })

/-- LOG_CLEAR (R460). -/
def execLogClear (r : Req) (s : State) : Host.Outcome State Fault Refusal := .next (serve 0x41 logClear r s)

/-- A held event written after LOG_CLEARED (R461). -/
def writeHeld (s : State) (log : Nat) (e : Event) : State :=
  if e.code = 3 then writeEvent s log 3 0 8 e.p0 e.p1 e.p2
  else match eventRow e.code with
    | some (_, sev) => recordEvent s log e.code sev e.p0 e.p1 e.p2
    | none => s

/-- A clear completed: every slot erased, LOG_CLEARED in slot 0, the flag gone, and the held events written (R461). -/
def clearLog (s : State) (log : Nat) (c : Clearing) : State :=
  let s1 := { s with log := { s.log with
    slots := s.log.slots.filter (fun x => x.1 / 4096 ≠ log), clearing := SMap.put none s.log.clearing log none } }
  let s2 := writeSlot s1 log 0 (recordBytes 1 0 0 (optimeNow s1) s1.log.cycles 0 0 c.path (c.tenant + c.role * 256) c.used)
  c.held.foldl (fun a e => writeHeld a log e) (logCount s2 log 3 1)

/-- LOG_CLEAR_DONE (R461). -/
def execLogClearDone (log : Nat) (t : Time) (s : State) : Host.Outcome State Fault Refusal :=
  let s1 := advance s t
  .next (match clearingOf s1 log with
    | some c =>
      let s2 := clearLog s1 log c
      match c.req with
      | some r => finish s2 0x41 r (respBytes s2 0x41 r .ok 0 [])
      | none => s2
    | none => s1)

/-! ### The cursor window (R462) -/

/-- A cursor of a path or session. -/
def cursorOf (s : State) (c : Caller) : Option Cursor := SMap.get none s.log.cursors c.ident

/-- The cursor set. -/
def cursorPut (s : State) (c : Caller) (x : Cursor) : State :=
  { s with log := { s.log with cursors := SMap.put none s.log.cursors c.ident (some x) } }

/-- CURSOR_SET (R462). -/
def cursorSet (c : Caller) (r : Req) (s : State) : Answer × State :=
  let b := r.payload
  if byteOf b 1 ≠ 0 ∨ leAt b 4 4 ≠ 0 then (failWith .eParam, s)
  else if (byteOf b 0 ≠ 6 ∧ byteOf b 0 ≠ 7) ∨ 4096 ≤ leAt b 2 2 then (failWith .eRange, s)
  else (okWith [], cursorPut s c { log := byteOf b 0, slot := leAt b 2 2, window := none })

/-- CURSOR_SET (R462). -/
def execCursorSet (r : Req) (s : State) : Host.Outcome State Fault Refusal := .next (serve 0x42 cursorSet r s)

/-- WINDOW_READ (R462). -/
def windowReadOp (c : Caller) (r : Req) (s : State) : Answer × State :=
  let b := r.payload
  let all (_ : List Byte) : Bool := true
  if byteOf b 1 ≠ 0 ∨ leAt b 4 4 ≠ 0 then (failWith .eParam, s)
  else if byteOf b 0 = 0 ∨ 16 < byteOf b 0 then (failWith .eRange, s)
  else match cursorOf s c with
    | none => (failWith .eRange, s)
    | some x =>
      if leAt b 2 2 = x.slot then
        let f := scanSlots (slotsSeen s x.log) all (byteOf b 0) 4097 { records := [], next := x.slot, bad := 0 }
        let s1 := cursorPut s c { x with slot := f.next, window := some (x.slot, f.next - x.slot) }
        (okWith (readPrefix s x.log f.next f.records.length ++ f.records.flatten), if f.bad = 0 then s1 else logCount s1 x.log 2 f.bad)
      else match x.window with
        | some (start, n) =>
          if leAt b 2 2 = start then
            let f := scanSlots (slotsSeen s x.log) all 16 n { records := [], next := start, bad := 0 }
            (okWith (readPrefix s x.log x.slot f.records.length ++ f.records.flatten), if f.bad = 0 then s else logCount s x.log 2 f.bad)
          else (failWith .eRange, s)
        | none => (failWith .eRange, s)

/-- WINDOW_READ (R462). -/
def execWindowRead (r : Req) (s : State) : Host.Outcome State Fault Refusal := .next (serve 0x43 windowReadOp r s)

end Sys2Proof.Machine
end

