-- ==== Sys2Proof/Machine/SacnOut.lean ====
section
/-! DEFINITION. sACN output (07 7.5): what an interval's packets carry, pacing, the quiet time and the synchronisation packet, termination,
with the commands. The SAC_ parameters of an interval are those of the frame whose data it carries (R160). -/

namespace Sys2Proof.Machine

/-- A record's sequence number for frame `n`: one more than the last, once per frame (R183). -/
def seqFor (s : State) (i n : Nat) : Nat :=
  let x := SMap.get 0 s.wired.sacnSeq i
  if x / 256 = n + 1 then x % 256 else (x + 1) % 256

/-- The sequence number of a record noted as sent in frame `n`. -/
def noteSeq (s : State) (i n : Nat) : State :=
  { s with wired := { s.wired with sacnSeq := SMap.put 0 s.wired.sacnSeq i (seqFor s i n + 256 * (n + 1)) } }

/-- The frame of a record's data packet on a port with the data of a frame (R181 to R185); `options` holds Stream_Terminated. -/
def dataFrame (s : State) (x : Store × FrameOut × Nat) (p i n options : Nat) : List Byte :=
  let c := x.1
  let r := c.row sacUniv i
  let u := u16At r 0
  let slots := slotData c x.2.1 3 u (u16At r 4) (bitAt r 48)
  let sync := if bitAt r 49 ∧ c.v sacRev = 0 then c.v sacSyncUniv else 0
  sacnFrame c s.cfg p u (u32At r 8) (e131Data c u (byteAt r 3) sync (seqFor s i n) options slots)

/-- At E(k − 1) each port takes the records due in frame `n` = k (R183). A synchronisation packet that a pause still holds is late
(R273). -/
def sacnEdge (s : State) (n : Nat) : State :=
  ([0, 1] : List Nat).foldl (fun a p =>
    let a1 := match (ethGet a p).syncHeld with
      | some _ => logEntry (ethCount (ethPut a p { ethGet a p with syncHeld := none }) p 17) true 0x0403 p p n 0
      | none => a
    if !transmits a then sacnPut a1 p SacnPort.empty
    else
      let due := dueRecords (sending a).1 p n
      sacnPut a1 p { SacnPort.empty with todo := due, count := due.length, frame := n }) s

/-- The earliest instant of the next packet of a port: its place among the packets spread over the interval (R183). -/
def paceAt (s : State) (port : Nat) : Time :=
  let x := sacnGet s port
  let span := period (sending s).1 - (sending s).1.v sacLead * us - quietTime (ethRec s port)
  max s.tim.now (s.frm.last + (x.count - x.todo.length) * span / max 1 x.count)

/-- SACN_DATA_PACKET: the next due record's packet goes into the port's queue of priority 2, Q02 or Q06, no earlier than its place in the
pacing and not in the quiet time (R183, R184). -/
def execSacnDataPacket (port : Nat) (s : State) : Host.Outcome State Fault Refusal :=
  let x := sacnGet s port
  .next (match x.todo with
    | [] => s
    | i :: rest =>
      if 2 ≤ port ∨ !transmits s ∨ s.frm.num + 1 ≠ x.frame ∨ x.quiet ∨ quietNow s port (paceAt s port) then s
      else
        let s0 := sacnPut (advance s (paceAt s port)) port { x with todo := rest }
        noteSeq (qPush s0 (2 + 4 * port) false
          (sacnPacket (bitAt ((sending s).1.row sacUniv i) 49) (dataFrame s (sending s) port i x.frame 0))) i x.frame)

/-- The sACN packets of a port's queue taken out of it unsent: how many, and the block without them. -/
def dropSacn (s : State) (port : Nat) : Nat × State :=
  let q := qGet s (2 + 4 * port)
  let late := (q.packets.filter isSacn).length + (q.waiting.filter fun w => !w.1 && isSacn w.2).length
  let s1 := watermark (qPut s (2 + 4 * port) { q with
    packets := q.packets.filter fun k => !isSacn k, waiting := q.waiting.filter fun w => w.1 || !isSacn w.2 }) (2 + 4 * port)
  (late, qResumeAll q.waiting.length s1 (2 + 4 * port))

/-- The quiet time of a port begins: packets not sent are discarded, counted in SAC_LATE and logged once per entry (R184). -/
def quietStart (s : State) (port : Nat) : State :=
  let x := sacnGet s port
  let d := dropSacn (sacnPut (advance s (quietAt s port)) port { x with todo := [], quiet := true }) port
  let late := x.todo.length + d.1
  if late = 0 then setCond d.2 0x0403 port false
  else logEntry { d.2 with wired := { d.2.wired with sacnLate := sat32 d.2.wired.sacnLate late } } true 0x0403 port port x.frame 0

/-- A port's quiet time has yet to begin. -/
def quietAhead (s : State) (port : Nat) : Bool := quietOn s port && !(sacnGet s port).quiet && (sacnGet s port).frame == s.frm.num + 1

/-- SACN_QUIET_START (R184). -/
def execSacnQuietStart (port : Nat) (s : State) : Host.Outcome State Fault Refusal :=
  .next (if quietAhead s port then quietStart s port else s)

/-- The synchronisation packet of a port is launched at E(k) − SAC_LEAD, or held by a pause (R184, R273). -/
def syncStart (s : State) (port : Nat) : State :=
  let x := sacnGet s port
  let c := (sending s).1
  let s0 := advance s (syncAt s)
  let u := c.v sacSyncUniv
  let f := sacnFrame c s.cfg port u 0 (e131Sync c u (seqFor s 65536 x.frame))
  let s1 := sacnPut (noteSeq s0 65536 x.frame) port { x with synced := true }
  if !(ethGet s1 port).up then ethCount s1 port 16
  else if (ethGet s1 port).pauseEnd.isSome then ethPut s1 port { ethGet s1 port with syncHeld := some f }
  else ethEmit s1 port 2 (syncAt s) f

/-- A port that carried a SYNC universe in this frame has yet to launch its synchronisation packet. -/
def syncAhead (s : State) (port : Nat) : Bool :=
  let x := sacnGet s port
  syncDue s port && x.quiet && x.carried && !x.synced && x.frame == s.frm.num + 1

/-- SACN_SYNC_PACKET (R184, R273). -/
def execSacnSyncPacket (port : Nat) (s : State) : Host.Outcome State Fault Refusal :=
  .next (if syncAhead s port then syncStart s port else s)

/-- What a port's interval still has to do before its edge: the quiet time and the synchronisation packet. -/
def sacnFinish (s : State) : State :=
  ([0, 1] : List Nat).foldl (fun a p =>
    let b := if quietAhead a p then quietStart a p else a
    if syncAhead b p then syncStart b p else b) s

/-- Three packets with Stream_Terminated for each universe on each of its ports, with the last values sent: those of `x` (R186). They leave
at once (log entry 95). -/
def sacnTerminate (s : State) (x : Store × FrameOut × Nat) : State :=
  let n := s.frm.num + 1
  ([n, n + 1, n + 2] : List Nat).foldl (fun a m =>
    ((x.1.listed sacUniv).filter fun i => u16At (x.1.row sacUniv i) 0 ≠ 0).foldl (fun a i =>
      let a1 := (([0, 1] : List Nat).filter fun p => bitAt (x.1.row sacUniv i) (16 + p) && (ethGet a p).up).foldl (fun a p =>
        ethEmit a p 2 a.tim.now (dataFrame a x p i m 0x40)) a
      noteSeq a1 i m) a)
    { s with wired := { s.wired with sacn := [] } }

end Sys2Proof.Machine
end

