-- ==== Sys2Proof/Machine/Startup.lean ====
section
/-! DEFINITION. Power, reset, the dawn sequence, dusk and standby (01 1.6, 21), the boot of an image set (19.5), and DIAG. -/

namespace Sys2Proof.Machine

/-! ### What a restart keeps -/

/-- The update machinery as it is kept through a restart (Table 19-3, Table 19-6). -/
def updKept (u : Update) : Update :=
  { u with
    state := if u.state = 3 ∨ u.state = 4 ∨ (u.state = 5 ∧ !u.sel.trial) then 2 else u.state
    dl := { u.dl with seg := none, blocks := [] }
    load := Download.empty, sets := SMap.del 2 u.sets, armed := none, windowAt := none, cnt := [], confirming := false, resetWanted := false }

/-- The recorder as it is kept through a restart (R453 to R457, R461): MRAM's slots, and clears that had begun. -/
def logKept (l : Recorder) : Recorder :=
  { l with
    counters := [], buckets := [], cursors := [], held := [], volatile := false, opBase := l.optime, cond := []
    clearing := l.clearing.map fun x => (x.1, x.2.map fun c => { c with req := none }) }

/-- The block at the start of a dawn: MRAM, the VBAT domain, the balls and the settings in force stay, and everything else is as at
reset, device time among it until D6 loads it (R65, TIME_SEC of Table 13-3). -/
def restart (s : State) : State :=
  let r := State.reset
  { r with
    pending := s.pending, out := s.out, free := s.free
    dev := { r.dev with
      vbat := s.dev.vbat, rails := s.dev.rails, resetN := s.dev.resetN, bootSrc := s.dev.bootSrc, stackEn := s.dev.stackEn
      safeSel := s.dev.safeSel, dieTemp := s.dev.dieTemp, railMv := s.dev.railMv, bankRange := s.dev.bankRange
      wakeMask := if s.dev.wakeRead then 0 else s.dev.wakeMask, wakeSec := if s.dev.wakeRead then 0 else s.dev.wakeSec }
    tim := { r.tim with rtc := s.tim.rtc, rtcAt := s.tim.rtcAt, rtcValid := s.tim.rtcValid }
    frm := { r.frm with cur := s.cfg }
    imm := s.imm
    src := { r.src with fault := s.src.fault }
    fix := { r.fix with ohms := s.fix.ohms, faults := s.src.fault }
    rad := { r.rad with
      fc := s.rad.fc, neigh := s.rad.neigh, cellGen := s.rad.cellGen
      ports := s.rad.ports.map fun x => (x.1, { RadioPort.empty with keyGen := x.2.keyGen }) }
    red := { r.red with peerAct := s.red.peerAct }
    eng := { r.eng with history := s.eng.history }
    sec := s.sec
    upd := updKept s.upd
    log := logKept s.log
    cal := { (calKeep s).cal with running := false, pos := [], spareFailed := [], now := [] } }

/-- The node enters DAWN and D0 begins. -/
def toDawn (s : State) : State := islandDawn (restart s)

/-- The node's main supplies are gone or the dusk is complete: STANDBY, with only the VBAT domain alive. -/
def toStandby (s : State) (dusk : Bool) : State :=
  let s1 := stopEdges (dropTxns s)
  { s1 with
    dev := { s1.dev with state := .standby, duskDone := dusk, duskWanted := false, pcieUp := false, hostLoadAt := none, safeCause := 0 }
    red := { s1.red with actOut := false }
    eth := s1.eth.map fun x => (x.1, { x.2 with up := false }) }

/-! ### Supplies and RESET_N (R26, R465 to R468, R479, R480) -/

/-- The node enters DAWN from STANDBY: CYCLES advances (R454). -/
def wakeToDawn (s : State) : State :=
  toDawn { s with log := { s.log with cycles := min 16777215 (s.log.cycles + 1) }, dev := { s.dev with duskDone := false } }

/-- VBAT_RISE (R26, R30): OFF ends, and where the main rails are in range already with RESET_N high, other than after a dusk, so does
STANDBY. -/
def execVbatRise (s : State) : Host.Outcome State Fault Refusal :=
  let s1 := { s with dev := { s.dev with vbat := true, state := if s.dev.state = .off then .standby else s.dev.state } }
  .next (if s1.dev.state = .standby ∧ s1.dev.rails ∧ s1.dev.resetN ∧ s1.dev.duskDone = false then wakeToDawn s1 else s1)

/-- VBAT_LOSS (R66, R480): TIM_RTC_VALID is cleared, the wake latch goes, and without its main rails the node goes to OFF. -/
def execVbatLoss (s : State) : Host.Outcome State Fault Refusal :=
  .next { s with
    dev := { s.dev with
      vbat := false, wakeMask := 0, wakeSec := 0, wakeRead := false, state := if s.dev.rails then s.dev.state else .off }
    tim := { s.tim with rtcValid := false } }

/-- The straps as sampled (R468). -/
def strapped (s : State) (bootSrc : Nat) (stackEn safeSel : Bool) : State :=
  { s with dev := { s.dev with bootSrc := bootSrc % 4, stackEn := stackEn, safeSel := safeSel } }

/-- MAIN_RAILS_IN_RANGE (R26, R30, R479): the node leaves STANDBY unless it waits there after a dusk with its rails applied throughout. -/
def execMainRailsInRange (bootSrc : Nat) (stackEn safeSel : Bool) (s : State) : Host.Outcome State Fault Refusal :=
  let s1 := { s with dev := { s.dev with rails := true } }
  .next (if s.dev.state = .standby ∧ s.dev.vbat ∧ s.dev.resetN ∧ !(s.dev.rails && s.dev.duskDone) then
      wakeToDawn (strapped s1 bootSrc stackEn safeSel)
    else s1)

/-- MAIN_RAIL_LOSS (R467, Table 1-9). -/
def execMainRailLoss (t : Time) (s : State) : Host.Outcome State Fault Refusal :=
  let s1 := advance s t
  let s2 := { s1 with dev := { s1.dev with rails := false, duskDone := false } }
  .next (if s1.dev.state.powered then toStandby s2 false
    else if s1.dev.vbat then s2
    else { s2 with dev := { s2.dev with state := .off } })

/-- RESET_N_ASSERT (R466, R475): the outputs go high-impedance, and the node starts again at DAWN on release. -/
def execResetNAssert (t : Time) (s : State) : Host.Outcome State Fault Refusal :=
  let s1 := advance s t
  let s2 := if s1.dev.state = .safe then logEv s1 0x0E02 0 0 0 else s1
  let s3 := { s2 with dev := { s2.dev with resetN := false } }
  .next (if s1.dev.state.powered then restart s3 else s3)

/-- RESET_N_RELEASE (R468, R479): the straps are sampled, and the dawn sequence begins. -/
def execResetNRelease (bootSrc : Nat) (stackEn safeSel : Bool) (s : State) : Host.Outcome State Fault Refusal :=
  let s1 := strapped { s with dev := { s.dev with resetN := true } } bootSrc stackEn safeSel
  .next (if s.dev.resetN then s
    else if s.dev.state.powered then toDawn s1
    else if s.dev.state = .standby ∧ s.dev.rails ∧ s.dev.vbat then wakeToDawn s1
    else s1)

/-- WAKE_EVENT (R479): an enabled edge that holds for its DEBOUNCE ends a standby after a dusk, or is latched while the rails are off. -/
def execWakeEvent (input : Nat) (rising : Bool) (heldMs rtcSec : Nat) (s : State) : Host.Outcome State Fault Refusal :=
  let r := s.cfg.row diaWake input
  let mode := byteAt r 0
  let on := decide (input < 4) && (mode == 3 || mode == (if rising then 1 else 2)) && decide (byteAt r 1 ≤ heldMs)
  .next (if !on ∨ s.dev.state ≠ .standby ∨ s.dev.vbat = false then s
    else if s.dev.rails ∧ s.dev.duskDone ∧ s.dev.resetN then wakeToDawn s
    else if s.dev.rails then s
    else { s with dev := { s.dev with
      wakeMask := putBit s.dev.wakeMask input true
      wakeSec := if s.dev.wakeMask = 0 ∨ s.dev.wakeRead then rtcSec else s.dev.wakeSec
      wakeRead := false } })

/-! ### The boot of a set (R432, R437, R441 to R443, R470) -/

/-- The dawn code of a manifest offset that breaks a rule: 0x0303 for PART, the steppings and the schema, 0x0301 for the rest. -/
def manifestCode (o : Nat) : Nat :=
  if o = 4 ∨ o = 6 ∨ o = 7 ∨ (64 ≤ o ∧ o < 144 ∧ ((o - 64) % 16 = 2 ∨ (o - 64) % 16 = 3)) then 0x0303 else 0x0301

/-- The code with which D3 fails on a set with its DETAIL, none where the set boots; the SVN floor takes no part (R442, R445). -/
def bootBad (s : State) (i : Nat) : Option (Nat × Nat) :=
  let x := imageOf s i
  if x.manifest = [] then some (0x0301, 0)
  else match manifestBad { s with upd := { s.upd with svnFloor := 0 } } x.manifest with
    | some o => some (manifestCode o, 0)
    | none => (segBad x).map fun k => (0x0302, k)

/-- A settings copy taken up: the committed values and the IMMEDIATE values. -/
def loadCopy (s : State) (x : Settings) : State := { s with frm := { s.frm with cur := x.edge }, imm := x.imm }

/-- A settings copy migrated to a schema (R443). -/
def migrateCopy (x : Settings) (to_ : Nat) (m : List Byte) : Option Settings :=
  if x.valid = false then some { schema := to_, hash := manifestHash m, valid := true, edge := Store.empty, imm := Store.empty }
  else if x.schema = to_ then some { x with hash := manifestHash m }
  else match Config.migrate x.schema to_ x.edge, Config.migrate x.schema to_ x.imm with
    | some e, some i => some { schema := to_, hash := manifestHash m, valid := true, edge := e, imm := i }
    | _, _ => none

/-- What D3 leaves: the node boots, fails with a code and DETAIL, or resets after a failed migration. -/
inductive Boot where
  | ok
  | bad (code detail : Nat)
  | again
  deriving DecidableEq, Repr

/-- The set of a selector without TRIAL, with the settings copy it names or, where that is not valid, the other one (R441, R470). -/
def bootPlain (s : State) : State × Boot :=
  match bootBad s s.upd.sel.set with
  | some (c, d) => (s, .bad c d)
  | none =>
    let x := copyOf s s.upd.sel.settings
    let y := copyOf s (1 - s.upd.sel.settings)
    let sch := leAt (imageOf s s.upd.sel.set).manifest 12 2
    (loadCopy s (if x.valid then x else if y.valid ∧ y.schema = sch then y else Settings.empty), .ok)

/-- A boot whose selector has TRIAL set (R442, R443). -/
def bootTrial (s : State) : State × Boot :=
  if 3 ≤ s.upd.sel.count then bootPlain (fallback s 1)
  else
    let s1 := { s with upd := { s.upd with sel := { s.upd.sel with count := s.upd.sel.count + 1 } } }
    let old := copyOf s1 s1.upd.sel.settings
    let n := 1 - s1.upd.sel.settings
    let m := (imageOf s1 s1.upd.sel.set).manifest
    let late : Bool := old.valid && (decide (old.schema < leAt m 14 2) || decide (leAt m 12 2 < old.schema))
    match bootBad s1 s1.upd.sel.set, late with
    | none, false =>
      let s2 := toUpd s1 6 m
      let new := copyOf s2 n
      if new.valid ∧ new.hash = manifestHash m then (loadCopy s2 new, .ok)
      else match migrateCopy old (leAt m 12 2) m with
        | some x => (loadCopy (copyPut s2 n x) x, .ok)
        | none => (fallback (logEv s2 0x0C02 old.schema (leAt m 12 2) 0) 3, .again)
    | _, _ => bootPlain (fallback s1 2)

/-- D3: image verification, boot and settings (Table 21-2, R471). -/
def bootD3 (s : State) : State × Boot :=
  if s.dev.bootSrc = 3 then (s, .bad 0x0305 0)
  else if keyState s 4 ≠ 1 then (s, .bad 0x0306 0)
  else if s.dev.bootSrc = 2 then
    match bootBad s 2 with
    | some (c, d) => (s, .bad c d)
    | none =>
      let x := copyOf s s.upd.sel.settings
      (loadCopy s (if x.valid then x else Settings.empty), .ok)
  else if s.upd.sel.trial then bootTrial s
  else bootPlain s

/-- A PCIe host load that still waits for its set (R471). -/
def loadWaits (s : State) : Bool :=
  s.dev.bootSrc == 2 && keyState s 4 == 1 && (imageOf s 2).manifest == []

/-! ### The end of the dawn sequence (R469) -/

/-- A held record written once D1 has passed (R455), with the operating time at which it was raised. -/
def writeHeldRecord (s : State) (x : Nat × List Byte) : State :=
  let r := x.2
  let at_ : State := { s with tim := { s.tim with up := (leAt r 4 5 - s.log.opBase) * ms } }
  { recordEvent at_ x.1 (leAt r 0 2) (byteOf r 2 % 8) (leAt r 16 4) (leAt r 20 4) (leAt r 24 4) with tim := s.tim }

/-- D1: interrupted log clears are completed, and the records held are written; where it has not passed they stay in SRAM (R455, R461). -/
def logD1 (s : State) (passed : Bool) : State :=
  if passed then
    let s1 := (List.range 8).foldl (fun a log => match clearingOf a log with
      | some c => clearLog a log c
      | none => a) s
    s1.log.held.foldl writeHeldRecord { s1 with log := { s1.log with held := [] } }
  else { s with log := { s.log with volatile := true } }

/-- The range of a VDD_IO bank found at dawn: 1 for 3.3 V, 0 for 1.8 V (R502). -/
def bankOf (mv : Nat) : Nat := if 2500 ≤ mv then 1 else 0

/-- The energy coefficients as D6 calibrates them (R387, R389). -/
def calibrated (xs : List Nat) : SMap (Option Rat) :=
  ((xs.foldl (fun (a : SMap (Option Rat) × Nat) x => (SMap.put none a.1 a.2 (some ((x : Rat) / 65536)), a.2 + 1)) ([], 0))).1

/-- Device time taken from the RTC (R65). -/
def loadTime (s : State) (ticks : Nat) : State :=
  let n := s.tim.rtc + ticks
  if s.tim.rtcValid then { s with tim := { s.tim with now := ofTicks n, rtc := n, rtcAt := ofTicks n } }
  else logEv { s with tim := { s.tim with now := 0, rtc := n, rtcAt := 0 } } 0x0105 0 0 0

/-- The VERSION of the ZHOTEX component of a manifest, which FW_VERSION reads (Table 13-3). -/
def zhotexVersion (m : List Byte) : Nat :=
  (firstSome (fun i => if byteOf m (64 + 16 * i) = 1 then some (leAt m (64 + 16 * i + 4) 4) else none) (List.range 5)).getD 0

/-- D6: lines, energy, margin and device time (R65, R387, R481, R489). -/
def dawnD6 (s : State) (i : DawnIn) : State :=
  let s1 := calDawn s i.badLines
  let s2 := { s1 with
    eng := { s1.eng with coef := calibrated i.calCoef, trim := [] }
    fab := { margin := i.margin % 65536, min := i.margin % 65536, low := 0 } }
  loadTime s2 i.rtcTicks

/-- DAWN_RESULT after the sequence: the steps before `step` passed (R469). -/
def dawnResult (s : State) (step : Nat) (fail : Bool) (code detail : Nat) : State :=
  { s with dev := { s.dev with
      dawnPassed := 2 ^ step - 1, dawnFail := fail, dawnStep := if fail then step else 0, dawnCode := code, detail := detail
      hostLoadAt := none } }

/-- The sequence fails at a step: SAFE with cause DAWN_FAIL; values that D3 did not load stand at reset, and a failed self-test of the
island is logged (R407, R469, R474). -/
def dawnFails (s : State) (step code detail : Nat) : State :=
  let s0 := if step = 0 ∧ 1 ≤ code ∧ code ≤ 3 then logEv s 0x0D02 code 0 0 else s
  let s1 := logD1 (dawnResult s0 step true code detail) (2 ≤ step)
  let s2 := if step ≤ 3 then { s1 with frm := { s1.frm with cur := Store.empty }, imm := Store.empty } else s1
  enterSafe (raise s2 intDawn) 1

/-- Every step has passed: READY, with the comparator units, timed outputs and alarms of the settings loaded, and with edges (R33, R50,
R78, R79, R84, R363, R444). -/
def dawnPasses (s : State) : State :=
  let s0 := { s with src := { s.src with schedRun := s.tim.rtcValid, schedUpTo := s.tim.now } }
  let s1 := logD1 (holdLog (dawnResult s0 8 false 0 0)) true
  let m := runningManifest s1
  let s2 := { s1 with
    dev := { s1.dev with
      fw := zhotexVersion m }
    red := { s1.red with pair := s1.cfg.v redMode == 1 }
    upd := { s1.upd with windowAt := if s1.upd.sel.trial then some s1.tim.up else none } }
  let s3 := timedBegin ({ s2 with tim := { s2.tim with cmp := (cmpStep [] (cmpUsers s2.cfg)).1 } })
  refreshLive (edgesUp (raise (toState (sacnJoins (radioDawn s3) Store.empty s3.cfg) .ready) intDawn))

/-- DAWN_END (R469): the first step that fails ends the sequence. The die temperature and the rails are those measured over it (R502, R513). -/
def execDawnEnd (i : DawnIn) (s : State) : Host.Outcome State Fault Refusal :=
  .next (if s.dev.state ≠ .dawn ∨ s.dev.resetN = false ∨ s.dev.rails = false then s
    else
      let s0 := { s with
        tim := { s.tim with up := s.tim.up + i.optimeMs * ms }
        dev := { s.dev with
          dieTemp := max (-640) (min 3200 i.dieTemp), railMv := (List.range 8).map fun n => i.rails.getD n 0 % 65536
          bankRange := ([5, 6, 7] : List Nat).map fun n => bankOf (i.rails.getD n 0) } }
      let given (step : Nat) : Option (Nat × Nat) := match i.fail with
        | some (n, c, d) => if n = step then some (c, d) else none
        | none => none
      let first : Option (Nat × Nat × Nat) :=
        if s0.sec.tampered then some (0, 0x0004, 0) else firstSome (fun n => (given n).map fun x => (n, x)) [0, 1, 2]
      match first with
      | some (n, c, d) => dawnFails s0 n c d
      | none =>
        match given 3 with
        | some (c, d) => dawnFails s0 3 c d
        | none =>
          if loadWaits s0 then s
          else
            let b := bootD3 s0
            match b.2 with
            | .bad c d => dawnFails b.1 3 c d
            | .again => toDawn b.1
            | .ok =>
              match firstSome (fun n => (given n).map fun x => (n, x)) [4, 5] with
              | some (n, c, d) => dawnFails b.1 n c d
              | none =>
                let s6 := dawnD6 b.1 i
                match given 6 with
                | some (c, d) => dawnFails s6 6 c d
                | none =>
                  if i.margin < 0x100 then dawnFails s6 6 0x0601 0
                  else match given 7 with
                    | some (c, d) => dawnFails s6 7 c d
                    | none => dawnPasses s6)

/-- HOST_LOAD_TIMEOUT (R471). -/
def execHostLoadTimeout (s : State) : Host.Outcome State Fault Refusal :=
  .next (if hostLoads s then dawnFails s 3 0x0304 0 else s)

/-- PCIE_LINK_CHANGE (R471, R476): the link decides whether MB0 answers, and starts the wait of a host load. -/
def execPcieLinkChange (up : Bool) (t : Time) (s : State) : Host.Outcome State Fault Refusal :=
  let s1 := advance s t
  .next (if !s1.dev.state.powered ∨ (up ∧ s1.dev.bootSrc ≠ 2 ∧ s1.dev.state ≠ .dusk ∧ bitAt s1.dev.dawnPassed 5 = false) then s1
    else { s1 with dev := { s1.dev with
      pcieUp := up
      hostLoadAt := if up ∧ s1.dev.state = .dawn ∧ s1.dev.bootSrc = 2 then some s1.tim.up else s1.dev.hostLoadAt } })

/-! ### Dusk (R477, R478) -/

/-- The unit gives the lease up as it enters DUSK, with RELEASE in its HEARTBEAT (R373, R477). -/
def duskLease (s : State) (k : Nat) : State :=
  if s.red.pair = false ∨ s.red.role ≠ 1 ∨ s.dev.state ≠ .run ∨ isMember s then s
  else
    let s1 := sendHeartbeat { s with red := { s.red with release := true } } k s.frm.last
    let s2 := logEv (redCount s1 1) 0x0A02 (k % 2 ^ 32) 0 0
    announceRole { s2 with red := { s2.red with role := 2, actOut := false, release := false, lastActive := s2.tim.now } } k

/-- The partial minute of ENG_HISTORY written (R477). -/
def partialMinute (s : State) : State :=
  let m := s.eng.minute
  let r := (s.tim.now / sec / 60) % 2 ^ 32 + m.1 / 60000 % 2 ^ 32 * 2 ^ 32 + m.2.1 % 2 ^ 32 * 2 ^ 64 + m.2.2.1 * 2 ^ 96 + m.2.2.2 * 2 ^ 104
  { s with eng := { s.eng with history := (r :: s.eng.history).take 10080 } }

/-- Entry into DUSK at the edge of frame `k` or in SAFE, with the first five of its steps (R477); sACN ends with the values last sent (R186). -/
def enterDusk (s : State) (k : Nat) (last : Store × FrameOut × Nat) : State :=
  let s1 := if s.dev.state = .run then sacnTerminate s last else s
  let s2 := stopEdges (dropTxns (duskLease s1 k))
  let s3 := { s2 with
    rad := { s2.rad with ports := s2.rad.ports.map fun x => (x.1, { x.2 with slot := none, queue := [], cmds := [], built := none }) }
    wired := { s2.wired with dali := s2.wired.dali.map fun x => (x.1, { x.2 with pending := [], seq := [], seqFor := none }), sacn := [] }
    red := { s2.red with actOut := false }
    dev := { s2.dev with duskWanted := false, safeCause := 0 }
    log := { s2.log with optime := optimeNow s2 } }
  partialMinute (toState (loadRtc s3 (if s3.tim.disc = .free then s3.tim.now else ((s3.tim.now : Int) - s3.tim.lastO).toNat)) .dusk)

/-- The next edge reached: device time and the edge's number. -/
def reachEdge (s : State) : State := advance s s.frm.next

/-- DUSK_ENTRY (R477): in SAFE at once, otherwise at the next edge. -/
def execDuskEntry (s : State) : Host.Outcome State Fault Refusal :=
  .next (if s.dev.duskWanted = false then s
    else if s.dev.state = .safe then enterDusk s 0 (sending s)
    else if s.dev.state.live ∧ s.frm.running then
      let s1 := reachEdge s
      enterDusk { s1 with frm := { s1.frm with num := nextNum s, last := s.frm.next, begun := true } } (nextNum s) (sending s)
    else s)

/-- DUSK_COMPLETE (R477): STANDBY, with the operating time written (R454). -/
def execDuskComplete (t : Time) (s : State) : Host.Outcome State Fault Refusal :=
  let s1 := advance s t
  .next (if s1.dev.state = .dusk then toStandby { s1 with log := { s1.log with optime := optimeNow s1 } } true else s1)

/-! ### DIAG (Table 21-6) -/

/-- SUB of a DIAG request. -/
def diagSub (r : Req) : Nat := byteOf r.payload 0

/-- DIAG STATUS (R476). -/
def statusBytes (s : State) : List Byte :=
  leBytes 1 s.dev.state.code ++ leBytes 1 s.dev.safeCause ++ leBytes 2 s.dev.dawnCode ++ leBytes 2 s.dev.detail
    ++ leBytes 2 (patternOf 16 s.dev.dieTemp) ++ leBytes 8 (dawnWord s) ++ leBytes 8 (optimeNow s) ++ leBytes 4 s.log.cycles ++ leBytes 4 0

/-- What is wrong with a DIAG request: reserved bytes and ARG, then SUB, its states and its roles (R11, R12, Table 21-6). -/
def diagErr (c : Caller) (r : Req) (s : State) : Option Status :=
  let b := r.payload
  let sub := diagSub r
  if leAt b 1 7 ≠ 0 ∨ (sub ≠ 4 ∧ leAt b 8 8 ≠ 0) ∨ leAt b 12 4 ≠ 0 then some .eParam
  else if sub = 0 ∨ 5 ≤ sub then some .eRange
  else if (sub = 2 ∧ s.dev.state ≠ .safe) ∨ (!s.dev.state.live ∧ s.dev.state ≠ .safe) then some .eState
  else if (sub = 2 ∨ sub = 3) ∧ ¬ (c.role = 1 ∨ c.role = 2) then some .eAuth
  else if sub = 4 ∧ ¬ (c.role = 1 ∨ c.role = 4) then some .eAuth
  else if sub = 2 ∧ 1840 ≤ s.dev.dieTemp then some .eState
  else none

/-- DIAG by subfunction (Table 21-6, R428): a register is read once more at each request; a RESTART takes effect when it is answered. -/
def diag (c : Caller) (r : Req) (s : State) : Answer × State :=
  match diagErr c r s with
  | some st => (failWith st, s)
  | none =>
    if diagSub r = 1 then (okWith (statusBytes s), s)
    else if diagSub r = 2 then (okWith [], logEv s 0x0E02 1 0 0)
    else if diagSub r = 3 then
      if s.dev.state = .safe then (okWith [], enterDusk s 0 (sending s)) else (okWith [], { s with dev := { s.dev with duskWanted := true } })
    else
      let a := leAt r.payload 8 4
      if Config.islandAddr a ∧ s.imm.v secEval = 1 then (failWith .eAuth, s)
      else
        let f := takeFree s
        (okWith (leBytes 8 (Config.diagReg a f.1)), f.2)

/-- DIAG_STATUS (R476, Table 21-6). -/
def execDiagStatus (r : Req) (s : State) : Host.Outcome State Fault Refusal := .next (serve 0x30 diag r s)

/-- A request is executed at present and orders a RESTART (R475). -/
def diagRestarts (r : Req) (s : State) : Bool :=
  let s0 := advance s r.t
  answers s0 r.path && !pathBusy s0 r.path && (seenOf s0 0x30 r == .fresh || seenOf s0 0x30 r == .again)
    && requestErr s0 0x30 r == none && diagSub r == 2 && diagErr (callerOf s0 0x30 r.path) r s0 == none

/-- The OK of a RESTART reaches the host before the dawn resets its queue (Table 21-6). -/
def restartAnswer (r : Req) (s : State) : State :=
  let ok := pad8 (respBytes s 0x30 r .ok 0 [])
  match r.path with
  | .mb0 => emit s (.response 25 ok)
  | .mb1 => emit s (.response 27 ok)
  | _ => s

/-- DIAG_RESTART (R475): the answer goes out, and the node enters DAWN. -/
def execDiagRestart (r : Req) (s : State) : Host.Outcome State Fault Refusal :=
  let s1 := serve 0x30 diag r s
  .next (if diagRestarts r s then toDawn (restartAnswer r s1) else s1)

/-- DIAG_DUSK (R477). -/
def execDiagDusk (r : Req) (s : State) : Host.Outcome State Fault Refusal := .next (serve 0x30 diag r s)

/-- DIAG_REG_READ (Table 21-6). -/
def execDiagRegRead (r : Req) (s : State) : Host.Outcome State Fault Refusal := .next (serve 0x30 diag r s)

/-! ### Activation and the confirm window (R440, R444) -/

/-- SELECTOR_WRITE_RESET (R440): the selector names the new set in TRIAL, and the node resets. -/
def execSelectorWriteReset (s : State) : Host.Outcome State Fault Refusal :=
  .next (if s.upd.state ≠ 5 ∨ s.upd.sel.trial ∨ !s.dev.state.powered then s
    else
      let x := s.upd.sel
      let n := otherSet s
      toDawn { s with upd := { s.upd with sel := {
        seq := x.seq + 1, set := n, trial := true, count := 0, settings := x.settings, fbSet := x.set, fbSettings := x.settings
        hash := manifestHash (imageOf s n).manifest } } })

/-- CONFIRM_WINDOW_EXPIRY (R444): a fallback record, and at the next edge the safe set and a reset. -/
def execConfirmWindowExpiry (t : Time) (s : State) : Host.Outcome State Fault Refusal :=
  let s1 := advance s t
  .next (match s1.upd.windowAt with
    | some a =>
      if s1.upd.state = 6 ∧ a + s1.cfg.v updConfirmS * sec ≤ s1.tim.up then
        let s2 := fallback s1 4
        { s2 with upd := { s2.upd with resetWanted := true } }
      else s1
    | none => s1)

end Sys2Proof.Machine
end

