-- ==== Sys2Proof/Machine/Thermal.lean ====
section
/-! DEFINITION. Temperatures (06 6.7) and the die's and rails' measurements (21, 23): thermistor inputs, the temperature of every fixture
at a latch, the thermal models, the die temperature with OVERTEMP, and the rail readings. -/

namespace Sys2Proof.Machine

/-- The reading of a thermistor input in 1/16 °C under a store: DER_FALLBACK_TEMP where it is faulted (R150, R518). -/
def tsnsNow (s : State) (c : Store) (i : Nat) : Int :=
  let r := c.row derTsns i
  if tsnsFaulted r (s.fix.ohms.getD i 0) then c.vs derFallbackTemp 0 else tsnsTemp (u16At r 0) (u16At r 2) (s.fix.ohms.getD i 0)

/-- TSNS_READ (R509, R518): the inputs' resistances, and TSNS_FAULT once per entry of an input into the fault (R150), one whose BETA is 0
included. -/
def execTsnsRead (ohms : List Nat) (s : State) : Host.Outcome State Fault Refusal :=
  .next (if !s.dev.state.powered then s
    else
      let s1 := { s with fix := { s.fix with ohms := (List.range 8).map fun i => ohms.getD i 0 } }
      (List.range 8).foldl (fun a i =>
        logEntry a (tsnsFaulted (a.cfg.row derTsns i) (ohms.getD i 0)) 0x0305 i i (ohms.getD i 0 / 10) 0) s1)

/-- The ambient of a thermal model in °C (R151). -/
def ambientOf (s : State) (c : Store) (tm : Nat) : F64 :=
  let r := c.row derThermal tm
  F64.scale (fi (if bitAt (byteAt r 6) 3 then s16At r 8 else tsnsNow s c (bitsAt (byteAt r 6) 0 3))) (-4)

/-- The ambient of each fixture that uses a thermal model, from which θ starts on entry into RUN or SHADOW; telemetry starts anew
(R150, R151). -/
def thermalStart (s : State) (c : Store) : State :=
  { s with
    fix := { s.fix with theta := c.fixtures.foldl (fun m x =>
      if fxTsrc x.2 = 2 then SMap.put F64.nan m x.1 (ambientOf s c (fxTmodel x.2)) else m) [] }
    src := { s.src with temp := [] } }

/-- θ after a step of a thermal model (R151): the old value, the model's record, and the powers and derated drives of the
active emitters. -/
def thetaStep (s : State) (c : Store) (i r : Nat) : F64 :=
  let tm := c.row derThermal (fxTmodel r)
  let amb := ambientOf s c (fxTmodel r)
  let old := SMap.get F64.nan s.fix.theta i
  let th := if old = .nan then amb else old
  let model := c.row modTable (fxModel r)
  let dd := SMap.get [] s.fix.derated i
  let pw := fsum (((List.range (mdEmitters model)).filter fun n => !bitAt (SMap.get 0 s.src.fault i) n).map fun n =>
    F64.div (F64.mul (fi (u16At (emitter model n) 6)) (frac24 (dd.getD n 0))) (fi 1000))
  let tss := F64.add amb (F64.mul (F64.div (fi (u16At tm 4)) (fi 256)) pw)
  let alpha := F64.min f1 (F64.div (F64.ratio (rateDen c * 1000) (rateNum c)) (fi (u32At tm 0)))
  F64.add th (F64.mul (F64.sub tss th) alpha)

/-- θ as a temperature in 1/16 °C (R151). -/
def thetaTemp (th : F64) : Int := max (-640) (min 3200 (F64.add (F64.mul th (fi 16)) (F64.ratio 1 2)).floor)

/-- A telemetry source with no value in the last DER_TEL_STALE seconds (R150). -/
def telStale (s : State) (c : Store) (i : Nat) : Bool :=
  match SMap.get none s.src.temp i with
  | none => true
  | some (_, t) => decide (t + c.v derTelStale * sec < s.tim.now)

/-- The temperature of a fixture for a frame, at its latch, with the thermal model moved on and TEMP_STALE once per entry (R150, R151). -/
def fixtureTemp (s : State) (c : Store) (i r : Nat) : State × Int :=
  if fxTsrc r = 0 then
    let stale := telStale s c i
    let t := if stale then c.vs derFallbackTemp 0 else ((SMap.get none s.src.temp i).map (·.1)).getD 0
    (logEntry s stale 0x0304 i i 0 0, max (-640) (min 3200 t))
  else if fxTsrc r = 1 then (s, tsnsNow s c (fxTsns r))
  else if fxTsrc r = 2 then
    let th := thetaStep s c i r
    ({ s with fix := { s.fix with theta := SMap.put F64.nan s.fix.theta i th } }, thetaTemp th)
  else (s, s16At r 26)

/-- The temperatures, FAULT masks and thermistor readings in force at the latch of a frame (R142, R150, R151). -/
def latchThermal (s : State) (f : Frame) : State × Frame :=
  let r := f.cfg.fixtures.foldl (fun (a : State × SMap Int) x =>
    let b := fixtureTemp a.1 f.cfg x.1 x.2
    (b.1, SMap.put 0 a.2 x.1 b.2)) (s, [])
  (r.1, { f with
    temp := r.2
    fault := f.cfg.fixtures.foldl (fun m x => SMap.put 0 m x.1 (SMap.get 0 s.src.fault x.1)) []
    tsns := (List.range 8).map (tsnsNow s f.cfg)
    tsnsBad := (List.range 8).map fun i => tsnsFaulted (f.cfg.row derTsns i) (s.fix.ohms.getD i 0) })

/-! ### Die and rails -/

/-- DIE_TEMP_SAMPLE (R513): the hottest sensor, and for how many milliseconds it has stood at or above 125 °C (Table 21-5). -/
def execDieTempSample (sensors : List Int) (s : State) : Host.Outcome State Fault Refusal :=
  .next (match sensors with
    | [] => s
    | x :: xs =>
      if !s.dev.state.powered then s
      else
        let t := max (-640) (min 3200 (xs.foldl max x))
        { s with dev := { s.dev with dieTemp := t, hotMs := if 2000 ≤ t then s.dev.hotMs + 1 else 0 } })

/-- OVERTEMP (R474, Table 21-5): ten consecutive milliseconds at or above 125 °C. -/
def execOvertemp (s : State) : Host.Outcome State Fault Refusal :=
  .next (if s.dev.state.live ∧ 10 ≤ s.dev.hotMs then enterSafe s 5 else s)

/-- RAIL_MEASURE (R502). -/
def execRailMeasure (mv : List Nat) (s : State) : Host.Outcome State Fault Refusal :=
  .next (if s.dev.rails then { s with dev := { s.dev with railMv := (List.range 8).map fun i => mv.getD i 0 % 65536 } } else s)

end Sys2Proof.Machine
end

