-- ==== Sys2Proof/Machine/Rights.lean ====
section
/-! DEFINITION. Who may write what (05 R126 to R128, 14.7): the rights of classes, of objects with an owner, of shared records, and the
protection of civic fixtures. Each check answers every violation, judged by the values in a store `o`. -/

namespace Sys2Proof.Machine

/-! ### Classes (Table 14-1, R331) -/

/-- The write rights of Table 14-1. -/
inductive Right where
  | own | grant | obj | byRole
  deriving DecidableEq, Repr

/-- The write right of a class. -/
def rightOf (cls : Nat) : Right :=
  if ([4, 5, 8, 9, 10, 11, 12, 13, 15, 16, 17] : List Nat).elem cls then .grant
  else if cls = 6 ∨ cls = 7 then .obj
  else if cls = 24 then .byRole
  else .own

/-- A tenant holds the bit of a class (R331, R332). -/
def granted (o : Store) (tenant cls : Nat) : Bool := tenant == 0 || bitAt (o.row tenRights tenant) cls

/-! ### Objects with an owner (R127) -/

/-- Where a record has OWNER, DELEG_V and DELEG. -/
structure ObjBits where
  owner : Nat
  dv : Nat
  deleg : Nat
  deriving DecidableEq, Repr

/-- FIX_TABLE (Table 5-1). -/
def fixBits : ObjBits := { owner := 44, dv := 155, deleg := 152 }
/-- STD_TABLE (Table 5-2). -/
def stdBits : ObjBits := { owner := 8, dv := 11, deleg := 12 }
/-- FIX_ZONE (Table 5-9). -/
def zoneBits : ObjBits := { owner := 0, dv := 3, deleg := 4 }

/-- The record belongs to a tenant, or is delegated to it. -/
def ObjBits.mine (b : ObjBits) (tenant r : Nat) : Bool := mayWrite tenant (bitsAt r b.owner 3) (bitsAt r b.dv 1) (bitsAt r b.deleg 3)

/-- A record without its OWNER. -/
def ObjBits.dropOwner (b : ObjBits) (r : Nat) : Nat := putBits r b.owner 3 0

/-- A record without its delegation. -/
def ObjBits.dropDeleg (b : ObjBits) (r : Nat) : Nat := putBits (putBits r b.dv 1 0) b.deleg 3 0

/-- A tenant may turn a record into another (R127). -/
def ObjBits.allowed (b : ObjBits) (tenant old new : Nat) : Bool :=
  let owns := bitsAt old b.owner 3 == tenant
  let sameOwner := bitsAt old b.owner 3 == bitsAt new b.owner 3
  let sameDeleg := bitsAt old b.dv 1 == bitsAt new b.dv 1 && bitsAt old b.deleg 3 == bitsAt new b.deleg 3
  if tenant = 0 then
    owns || (if b.mine 0 old then sameDeleg else b.dropOwner (b.dropDeleg old) == b.dropOwner (b.dropDeleg new))
  else sameOwner && (owns || (b.mine tenant old && sameDeleg))

/-! ### Civic fixtures (R126) -/

/-- A change that R126 keeps from every tenant but the owner of a civic fixture. -/
def civicBreak (tenant old new : Nat) : Bool :=
  fxCivic old && fxOwner old != tenant
    && ((fxEnable old && !fxEnable new) || !fxCivic new || decide (fxFloor new < fxFloor old) || fxStrand new != fxStrand old
      || fxSlot new != fxSlot old || fxModel new != fxModel old)

/-- The first civic fixture of another owner on the strands of a list. -/
def civicOn (o : Store) (tenant : Nat) (strands : List Nat) : Option Nat :=
  (o.listed fixTable).find? fun f =>
    let r := o.row fixTable f
    fxCivic r && fxOwner r != tenant && strands.elem (fxStrand r)

/-- E_GUARANTEE naming a fixture. -/
def guardErr (f : Option Nat) : List Err :=
  match f with
  | some i => [viol .eGuarantee fixTable.id i]
  | none => []

/-! ### Shared records (R333) -/

/-- The strands whose endpoint a record of an endpoint table is. -/
def endpointStrands (o : Store) (t i : Nat) : List Nat :=
  let on (p : Nat → Bool) : List Nat := (o.strands.filter fun x => p x.2).map (·.1)
  if t = spnPin.id then on fun r => stType r == 1 && stEnd r == i
  else if t = dmxPort.id then on fun r => stType r == 2 && stEnd r == i
  else if t = sacUniv.id then on fun r => stType r == 3 && u16At (o.row sacUniv i) 0 != 0 && stEnd r == u16At (o.row sacUniv i) 0
  else if t = dalBus.id then on fun r => stType r == 4 && stEnd r == i
  else if t = radPort.id then on fun r => stType r == 5 && stEnd r / 16384 == i
  else if t = rasRegion.id then on fun r => stType r == 6 && stEnd r / 32768 * 16 + stEnd r % 16 == i
  else if t = drvChan.id then on fun r => stType r == 7 && stEnd r == i
  else []

/-- A pixel path that names a curve. -/
def pathCurve (p curve : Nat) : Bool :=
  byteAt p 29 == curve || (List.range 4).any fun k => bitAt p (224 + k) && byteAt p (24 + k) == curve

/-- The enabled fixtures and the strands that name a shared record (Table 14-4), as (table, record). -/
def referrers (o : Store) (t i : Nat) : List (Nat × Nat) :=
  let fx (p : Nat → Bool) : List (Nat × Nat) := (o.fixtures.filter fun x => p x.2).map fun x => (fixTable.id, x.1)
  let px (p : Nat → Bool) : List (Nat × Nat) :=
    (o.strands.filter fun x => stPixel x.2 && stType x.2 != 6 && p x.2).map fun x => (stdTable.id, x.1)
  let path (r : Nat) : Nat := o.row stdPixpath (stPixpath r)
  let curve (n : Nat) : List (Nat × Nat) := fx (fun r => fxCurve r == n) ++ px (fun r => pathCurve (path r) n)
  if t = modTable.id then fx (fun r => fxModel r == i) ++ px (fun r => stModel r == i)
  else if t = curDef.id then curve i
  else if t = curData.id then curve (i / 4096)
  else if t = derThermal.id then fx fun r => fxTsrc r == 2 && fxTmodel r == i
  else if t = derTsns.id then
    fx (fun r => (fxTsrc r == 1 && fxTsns r == i)
      || (fxTsrc r == 2 && !bitAt (o.row derThermal (fxTmodel r)) 51 && bitsAt (o.row derThermal (fxTmodel r)) 48 3 == i))
    ++ px (fun r => bitAt (path r) 228 && bitsAt (path r) 229 3 == i)
  else if t = stdPixpath.id then px fun r => stPixpath r == i
  else if t = fixSacnSet.id then fx fun r => bitAt r 97 && fxSacnSet r == i
  else (endpointStrands o t i).map fun x => (stdTable.id, x)

/-- A tenant other than T0 may change a shared record only where it may write everything that names it; and a civic fixture of another
owner keeps its model and its endpoint (R126, R333; which changes take a fixture below its floor is a DESIGN CHOICE, log entry 50). -/
def sharedErrs (o : Store) (tenant t i : Nat) : List Err :=
  if tenant = 0 then []
  else
    let bad := (referrers o t i).find? fun x =>
      if x.1 = fixTable.id then !fixWritable o tenant x.2 else !stdBits.mine tenant (o.row stdTable x.2)
    match bad with
    | some x => [viol .eAuth x.1 x.2]
    | none =>
      guardErr (if t = modTable.id then
          (o.listed fixTable).find? fun f =>
            let r := o.row fixTable f
            fxCivic r && fxOwner r != tenant && fxModel r == i
        else civicOn o tenant (endpointStrands o t i))

/-! ### One record (R127, R331 to R334) -/

/-- A cue item or a schedule entry may be turned into another by a tenant (R334). -/
def listAllowed (tenant : Nat) (oldUse : Bool) (oldOwner new newOwner : Nat) : Bool :=
  tenant == 0 || ((!oldUse || oldOwner == tenant) && ((oldUse && new == 0) || newOwner == tenant))

/-- Whether a tenant may change a record of a table from one value to another. -/
def recordErrs (o : Store) (tenant : Nat) (t : TableSpec) (i old new : Nat) : List Err :=
  let no : List Err := [viol .eAuth t.id i]
  let cls := classOf t.id
  if t.id = fixTable.id then
    if !fixBits.allowed tenant old new then no else guardErr (if civicBreak tenant old new then some i else none)
  else if t.id = stdTable.id then
    if !stdBits.allowed tenant old new then no
    else if stType old ≠ 0 ∧ (stType new ≠ stType old ∨ stEnd new ≠ stEnd old) then guardErr (civicOn o tenant [i])
    else []
  else if t.id = fixZone.id then (if zoneBits.allowed tenant old new then [] else no)
  else if t.id = fixZoneset.id then (if tenant = 0 then [] else no)
  else if t.id = fixCue.id then
    (if listAllowed tenant (fixCue.inUse old) (bitsAt old 160 3) new (bitsAt new 160 3) then [] else no)
  else if t.id = fixSchedule.id then
    (if listAllowed tenant (fixSchedule.inUse old) (bitsAt old 40 3) new (bitsAt new 40 3) then [] else no)
  else if rightOf cls = .own then (if tenant = 0 then [] else no)
  else if rightOf cls = .byRole then []
  else if !granted o tenant cls then no
  else if old = new then []
  else sharedErrs o tenant t.id i

/-! ### Single values (R331) and zones (R128) -/

/-- Whether a tenant may write a parameter. -/
def parErrs (o : Store) (tenant : Nat) (p : ParamRow) (v : Nat) : List Err :=
  let no : List Err := [viol0 .eAuth p.id]
  if p.id = fixFaultClear.id then (if fixWritable o tenant v then [] else [viol .eAuth fixTable.id v])
  else if p.id = fixSceneRecall.id ∨ p.zone then []
  else match rightOf (classOf p.id) with
    | .byRole => []
    | .own => if tenant = 0 then [] else no
    | .obj => if tenant = 0 then [] else no
    | .grant => if tenant = 0 ∨ (p.inst ≠ 0 ∧ granted o tenant (classOf p.id)) then [] else no

/-- The fixtures, and the strands, whose zone set meets a mask, in ascending index. -/
def zoneFixtures (o : Store) (mask : Nat) : List Nat :=
  (o.listed fixTable).filter fun f => Nat.land (zonesOf o (fxZoneset (o.row fixTable f))) mask != 0
/-- The strands whose zone set meets a mask. -/
def zoneStrands (o : Store) (mask : Nat) : List Nat :=
  (o.listed stdTable).filter fun i => Nat.land (zonesOf o (stZoneset (o.row stdTable i))) mask != 0

/-- A ZONE request needs every zone of its mask and every member (R128); the first object refused is named. -/
def zoneErrs (o : Store) (tenant mask : Nat) : List Err :=
  match (bitsSet 64 mask).find? fun z => !zoneBits.mine tenant (o.row fixZone z) with
  | some z => [viol .eAuth fixZone.id z]
  | none => match (zoneFixtures o mask).find? fun f => !fixWritable o tenant f with
    | some f => [viol .eAuth fixTable.id f]
    | none => match (zoneStrands o mask).find? fun i => !stdBits.mine tenant (o.row stdTable i) with
      | some i => [viol .eAuth stdTable.id i]
      | none => []

/-- A fixture record with the floor or the enable of a ZONE write (R324). -/
def zonePut (p : ParamRow) (v r : Nat) : Nat :=
  if p.id = fixFloorSet.id then (if fxCivic r then putBits r 160 16 v else r) else putBit r 40 (v == 1)

/-- R126 on every member of a ZONE write. -/
def zoneCivic (o : Store) (tenant mask : Nat) (p : ParamRow) (v : Nat) : List Err :=
  guardErr ((zoneFixtures o mask).find? fun f => civicBreak tenant (o.row fixTable f) (zonePut p v (o.row fixTable f)))

end Sys2Proof.Machine
end

