-- ==== Sys2Proof/Machine/Items.lean ====
section
/-! DEFINITION. The items of transactions (13.5 to 13.7, 14.3, 14.4): what each writes, the checks of an item by itself, and the checks
against the node's state and rights. -/

namespace Sys2Proof.Machine

/-! ### Fields -/

/-- A TABLE_WRITE or TABLE_READ names a table, a count and a first record (Table 13-9). -/
def tblId (r : Req) : Nat := leAt r.payload 0 2
/-- COUNT. -/
def tblCount (r : Req) : Nat := leAt r.payload 4 4
/-- A reserved byte of the 16-byte prefix is not zero. -/
def tblDirty (r : Req) : Bool := leAt r.payload 2 2 != 0 || leAt r.payload 8 8 != 0
/-- Record `k` of a TABLE_WRITE's data. -/
def tblRec (t : TableSpec) (r : Req) (k : Nat) : Nat := leAt r.payload (16 + k * t.size) t.size
/-- The first record. -/
def firstIdx (r : Req) : Nat := r.index.toNat

/-- A record as a write leaves it: the node keeps its own fields (R107, R237, R325), and GEN is no stored field of a cell (R235). -/
def writtenRow (t : TableSpec) (old new : Nat) : Nat :=
  if t.id = radCell.id then new / 65536 * 65536 else new - Nat.land new (t.kept new) + Nat.land old (t.kept new)

/-- The layer that a STREAM_BIND names (Table 13-10). -/
def bindLayer (b : List Byte) : Nat := byteOf b 1 / 64 * 16 + byteOf b 1 % 16

/-- The instances that a request writes or reads of a parameter (R323). -/
def instancesOf (p : ParamRow) (r : Req) : List Nat := if r.scope = 2 then List.range (max 1 p.inst) else [firstIdx r]

/-! ### The effect of an item on a store -/

/-- One item of a SET on the committed values; what a write-only parameter does besides happens at its edge. -/
def putPar (r : Req) (c : Store) (x : SetItem) : Store :=
  match findParam x.id with
  | none => c
  | some p =>
    if p.zone then (zoneFixtures c r.zoneMask.toNat).foldl (fun a f => a.setRow fixTable f (zonePut p x.value (a.row fixTable f))) c
    else if p.wo ∨ p.ro then c
    else (instancesOf p r).foldl (fun a i => a.setVal p i x.value) c

/-- A TABLE_WRITE on the committed values; a curve that is not CUSTOM is filled (R154). -/
def putTable (r : Req) (c : Store) : Store :=
  match findTable (tblId r) with
  | none => c
  | some t =>
    if t.id = cnvSceneStore.id then { c with scene := SMap.put [] c.scene (firstIdx r) (r.payload.drop 16) }
    else (List.range (tblCount r)).foldl (fun a k =>
      let i := firstIdx r + k
      let old := a.row t i
      let new := writtenRow t old (tblRec t r k)
      let b := a.setRow t i new
      if t.id = curDef.id ∧ old ≠ new then b.fillCurve i else b) c

/-- An item on the committed values. -/
def putItem (c : Store) (x : Item) : Store :=
  if x.op = 0x02 then x.req.items.foldl (putPar x.req) c
  else if x.op = 0x20 then putTable x.req c
  else if x.op = 0x22 then
    { c with binds := SMap.put [] c.binds (bindLayer x.req.payload) (if byteOf x.req.payload 0 = 0 then [] else x.req.payload) }
  else c

/-- The items of a list on the committed values, in order (R55). -/
def putItems (c : Store) (xs : List Item) : Store := xs.foldl putItem c

/-! ### What items touch -/

/-- The records of a table that an item writes. -/
def rowsOf (t : Nat) (x : Item) : List Nat :=
  if x.op = 0x20 ∧ tblId x.req = t then (List.range (tblCount x.req)).map (firstIdx x.req + ·) else []

/-- An item writes a parameter. -/
def setsPar (id : Nat) (x : Item) : Bool := x.op == 0x02 && x.req.items.any fun y => y.id == id

/-- The values of a write-only parameter among items, in order. -/
def valuesOf (id : Nat) (xs : List Item) : List Nat :=
  xs.flatMap fun x => if x.op = 0x02 then (x.req.items.filter fun y => y.id == id).map (·.value) else []

/-- An item names a parameter or table, and a record where the table is one. -/
def touches (x : Item) (e : Err) : Bool :=
  if x.op = 0x02 then x.req.items.any fun y => y.id == e.param && (e.record == 0xFFFFFFFF || match findParam y.id with
    | some p => (instancesOf p x.req).elem e.record || p.inst == 0
    | none => false)
  else if x.op = 0x20 then tblId x.req == e.param && (e.record == 0xFFFFFFFF || (decide (firstIdx x.req ≤ e.record) &&
    decide (e.record < firstIdx x.req + tblCount x.req)))
  else false

/-- An error named by the first item that touches what it names (Table 13-8). -/
def named (xs : List Item) (e : Err) : Err :=
  if e.item ≠ 0xFFFF then e
  else match (numbered xs).find? fun x => touches x.2 e with
    | some x => { e with item := x.1 }
    | none => e

/-- Of several violations the one with the lowest table ID and record (R130). -/
def worst : List Err → Option Err
  | [] => none
  | e :: es => match worst es with
    | none => some e
    | some f => if f.param < e.param ∨ (f.param = e.param ∧ f.record < e.record) then some f else some e

/-! ### An item by itself (R11, R12, R14, R15, R98, R314, R320 to R325) -/

/-- A scope that the parameter does not take, or an instance it does not have (R14, R323). -/
def scopeErr (p : ParamRow) (r : Req) : Option Status :=
  if r.scope = 1 then (if p.zone then none else some .eParam)
  else if p.zone then some .eParam
  else if r.scope = 2 then (if p.all then none else some .eParam)
  else if max 1 p.inst ≤ firstIdx r then some .eRange
  else none

/-- A value of the wrong length, with a reserved bit, or out of range (R11, R15, R321). RAD_TX has a record of its own length. -/
def valueErr (p : ParamRow) (x : SetItem) : Option Status :=
  if p.id = radTx.id then none
  else if x.len ≠ p.ty.len then some .eSize
  else if p.id = fixSceneRecall.id ∧ bitsAt x.value 10 5 ≠ 0 then some .eParam
  else if p.id = cnvBg.id ∧ bitsAt x.value 48 16 ≠ 0 then some .eParam
  else p.check x.value

/-- A SET item by itself. -/
def setItemErr (r : Req) (x : SetItem) : Option Status :=
  if x.dirty then some .eParam
  else match findParam x.id with
    | none => some .eParam
    | some p =>
      if p.ro then some .eParam
      else match scopeErr p r with
        | some st => some st
        | none => valueErr p x

/-- A TABLE_WRITE by itself: the status and the record. -/
def tableErr (r : Req) : Option (Status × Nat) :=
  let none_ : Nat := 0xFFFFFFFF
  if tblDirty r ∨ r.scope ≠ 0 then some (.eParam, none_)
  else match findTable (tblId r) with
    | none => some (.eParam, none_)
    | some t =>
      if t.ro then some (.eParam, none_)
      else if t.id = cnvSceneStore.id then
        let e := r.payload.drop 16
        if tblCount r ≠ 1 ∨ e.length < 64 ∨ e.length ≠ leAt e 32 4 then some (.eSize, none_)
        else if t.count ≤ firstIdx r then some (.eRange, none_)
        else (sceneFault e).map fun st => (st, firstIdx r)
      else if tblCount r = 0 ∨ t.count < tblCount r ∨ t.count < firstIdx r + tblCount r then some (.eRange, none_)
      else if r.payload.length ≠ 16 + tblCount r * t.size then some (.eSize, none_)
      else firstSome (fun k => (t.check (firstIdx r + k) (let v := tblRec t r k; v - Nat.land v (t.kept v))).map fun st => (st, firstIdx r + k))
        (List.range (tblCount r))

/-- A STREAM_BIND by itself (Table 13-10). -/
def bindErr (b : List Byte) : Option Status :=
  let kind := byteOf b 0
  let zero (i n : Nat) : Bool := leAt b i n == 0
  let offset := signedOf 32 (leAt b 28 4)
  if bitsAt (byteOf b 1) 4 2 ≠ 0 ∨ leAt b 36 12 ≠ 0 ∨ byteOf b 3 / 4 ≠ 0 ∨ byteOf b 26 % 2 ≠ 0 ∨ 8 ≤ byteOf b 26 then some .eParam
  else if 3 < kind then some .eRange
  else if kind = 1 then
    if 3 < byteOf b 2 ∨ zero 4 2 ∨ 4094 < leAt b 6 2 ∨ (!bitAt (byteOf b 3) 1 ∧ !zero 12 12) ∨ !(([4, 10, 1, 9] : List Nat).elem (byteOf b 24))
      ∨ 3 < byteOf b 25 ∨ byteOf b 27 < 96 ∨ 127 < byteOf b 27 ∨ offset < -1000000000 ∨ 1000000000 < offset then some .eRange else none
  else if !zero 3 29 ∨ (kind ≠ 3 ∧ !zero 2 1) ∨ (kind = 0 ∧ !zero 32 4) then some .eRange
  else none

/-- A REWIND by itself (4.3.1). -/
def rewindErr (b : List Byte) : Option Status := if leAt b 1 7 ≠ 0 then some .eParam else if 1 < byteOf b 0 then some .eRange else none

/-- What is wrong with an item by itself. -/
def itemForm (x : Item) : Option Err :=
  if x.op = 0x02 then firstSome (fun y => (setItemErr x.req y.2).map fun st => { status := st, item := y.1, param := y.2.id }) (numbered x.req.items)
  else if x.op = 0x20 then (tableErr x.req).map fun e => { status := e.1, item := 0, param := tblId x.req, record := e.2 }
  else if x.op = 0x22 then (bindErr x.req.payload).map fun st => { status := st, item := 0 }
  else (rewindErr x.req.payload).map fun st => { status := st, item := 0 }

/-! ### Rights (R331 to R335) -/

/-- The rights of an item, by the values in a store. SECURITY_OFFICER writes SEC_ alone (Table 18-9); a binding is a write of its layer
(DEDUCED, log entry 51). -/
def itemRights (o : Store) (tenant role : Nat) (x : Item) : List Err :=
  let officer (id : Nat) : List Err := errIf (role == 4 && classOf id != 24) (viol0 .eAuth id)
  if x.op = 0x02 then
    x.req.items.flatMap fun y => match findParam y.id with
      | none => []
      | some p => officer p.id ++ (if p.zone then
            zoneErrs o tenant x.req.zoneMask.toNat ++ zoneCivic o tenant x.req.zoneMask.toNat p y.value
          else parErrs o tenant p y.value)
  else if x.op = 0x20 then
    match findTable (tblId x.req) with
    | none => []
    | some t => officer t.id ++ (if t.id = cnvSceneStore.id then errIf (!granted o tenant (classOf t.id)) (viol .eAuth t.id (firstIdx x.req))
        else (List.range (tblCount x.req)).flatMap fun k =>
          let i := firstIdx x.req + k
          recordErrs o tenant t i (o.row t i) (writtenRow t (o.row t i) (tblRec t x.req k)))
  else if x.op = 0x22 then errIf (!granted o tenant 5) { status := .eAuth, item := 0 }
  else errIf (tenant != 0) { status := .eAuth, item := 0 }

/-! ### The node's state -/

/-- The stack-wide parameters of R40. -/
def stackWide (id : Nat) : Bool :=
  ([frmSource.id, frmRateNum.id, frmRateDen.id, frmAnchor.id, frmGenDelay.id, frmGenTol.id, frmWclkDiv.id, frmPenLen.id, frmMargin.id,
    frmSlipScope.id] : List Nat).elem id

/-- A shadow refuses a write of anything but the node-local set (R370). -/
def shadowRefuses (s : State) (id : Nat) : Bool := s.dev.state == .shadow && s.red.pair && !nodeLocal id

/-- What the node's state refuses a SET item for (R40, R74, R97, R232, R363, R370, R379, R490). -/
def parState (s : State) (o : Store) (r : Req) (x : SetItem) : Option Status :=
  let id := x.id
  if shadowRefuses s id then some .eState
  else if isMember s ∧ stackWide id ∧ r.node = s.stk.index then some .eState
  else if isMember s ∧ id = timPtpMode.id ∧ x.value ≠ 0 ∧ x.value ≠ 3 then some .eState
  else if (id = cnvRingAMib.id ∨ id = cnvRingBMib.id ∨ id = cnvSceneMib.id ∨ id = redMode.id) ∧ s.dev.state ≠ .ready then some .eState
  else if (id = radTimeslot.id ∨ id = radAsnEpoch.id) ∧ radPort.all.any (fun p => modeOf (o.row radPort p) ≠ 0) then some .eState
  else if id = redSwitchP.id ∧ (s.red.role ≠ 1 ∨ s.red.peer.1 ≠ 1) then some .eState
  else if id = calStartP.id then (if s.cal.running then some .eBusy else if g6Shed s then some .eState else none)
  else none

/-- The generation that a cell has at an edge: that now, and the writes of it accepted before (R235). -/
def cellGenAt (s : State) (before : List Item) (i : Nat) : Nat :=
  (SMap.get 0 s.rad.cellGen i + ((before.flatMap (rowsOf radCell.id)).filter (· == i)).length) % 65536

/-- The Ethernet port that carried a request (R260). -/
def ethPathPort : Path → Option Nat
  | .mb2 _ p => some p
  | _ => none

/-- The addresses of an ETH_IP record: its IPv4 and its global IPv6 address (R275). -/
def ipAddrs (r : Nat) : Nat × Nat := (u32At r 0, bitsAt r 128 128)

/-- What the node's state refuses a written record for (R97, R235, R260, R370). -/
def rowState (s : State) (o : Store) (before : List Item) (t : TableSpec) (r : Req) (k : Nat) : Option Status :=
  let i := firstIdx r + k
  let new := tblRec t r k
  let old := o.row t i
  if shadowRefuses s t.id then some .eState
  else if t.id = ethPort.id then
    if modeOf old ≠ modeOf new ∧ s.dev.state ≠ .ready then some .eState
    else if ethPathPort r.path = some i ∧ (modeOf old ≠ modeOf new ∨ epMgmt old ≠ epMgmt new) then some .eState else none
  else if t.id = ethIp.id ∧ i % 2 = 1 ∧ ethPathPort r.path = some (i / 2) ∧ ipAddrs old ≠ ipAddrs new then some .eState
  else if t.id = radCell.id ∧ u16At new 0 ≠ cellGenAt s before i then some .eStale
  else none

/-- What the node's state refuses an item for. -/
def itemState (s : State) (o : Store) (before : List Item) (x : Item) : List Err :=
  if x.op = 0x02 then
    (numbered x.req.items).filterMap fun y => (parState s o x.req y.2).map fun st => { status := st, param := y.2.id }
  else if x.op = 0x20 then
    match findTable (tblId x.req) with
    | none => []
    | some t =>
      if t.id = cnvSceneStore.id then errIf (shadowRefuses s t.id) (viol0 .eState t.id)
      else (List.range (tblCount x.req)).filterMap fun k => (rowState s o before t x.req k).map fun st => viol st t.id (firstIdx x.req + k)
  else errIf (shadowRefuses s 0x1000) { status := .eState, item := 0 }

end Sys2Proof.Machine
end

