-- ==== Sys2Proof/Machine/Validate.lean ====
section
/-! DEFINITION. The validation of a whole transaction for an edge (02 2.6, 05 R129 and R130, 14.6, 14.7): the state it is judged in, the
edges that pending transactions will give, and every check on what it leaves. -/

namespace Sys2Proof.Machine

/-! ### Pending transactions and their states (R55) -/

/-- A transaction put after those of its edge and of earlier edges. -/
def insTxn (x : AccTxn) : List AccTxn → List AccTxn
  | [] => [x]
  | y :: ys => if x.frame < y.frame then x :: y :: ys else y :: insTxn x ys

/-- Transactions in the order in which they apply: by edge, and within one by acceptance. -/
def byFrame (l : List AccTxn) : List AccTxn := l.foldl (fun a x => insTxn x a) []

/-- The values of the frame latched last. -/
def latchedStore (s : State) : Store :=
  match s.frm.frames.getLast? with
  | some f => f.cfg
  | none => s.cfg

/-- The state at E(j) that all transactions accepted for it and for earlier edges give. -/
def storeAt (s : State) (j : Nat) : Store :=
  ((byFrame s.ox.accepted).filter fun x => decide (x.frame ≤ j)).foldl (fun c x => putItems c x.items) (latchedStore s)

/-- Items of transactions accepted for E(j) or an earlier edge and not yet presented. -/
def itemsBefore (s : State) (j : Nat) : List Item := ((allAccepted s).filter fun x => decide (x.frame ≤ j)).flatMap (·.items)

/-- The store after each transaction of a list, from a store on. -/
def storesAfter (c : Store) : List AccTxn → List Store
  | [] => []
  | x :: xs => let d := putItems c x.items; d :: storesAfter d xs

/-! ### Edges to come (R35, R53, R57) -/

/-- Items rewrite FRM_ANCHOR, or a store differs from another in its source or declared rate. -/
def reanchors (o c : Store) (xs : List Item) : Bool :=
  o.v frmSource != c.v frmSource || o.v frmRateNum != c.v frmRateNum || o.v frmRateDen != c.v frmRateDen || xs.any (setsPar frmAnchor.id)

/-- E(j) + T_new: the exact bound of R35, rounded up to a whole unit. -/
def rebaseFrom (c : Store) (e : Time) : Int := e + ((rateDen c * sec + rateNum c - 1) / rateNum c : Nat)

/-- The stretch of edges that follows a change at E(m) (R35, R37). -/
def segAfter (g : Seg) (m : Nat) (c : Store) : Seg :=
  let e := g.edge m
  if c.v frmSource = 0 then
    let i := gridFirst c (rebaseFrom c e)
    { start := m + 1, at_ := (gridAt c i).toNat, grid := true, store := c, delta := (m : Int) + 1 - i, step := period c }
  else { start := m, at_ := e, grid := false, store := c, delta := 0, step := period c }

/-- The stretches that pending transactions begin, each with the last frame of the one before. -/
def segChain (g : Seg) (c : Store) : List AccTxn → List (Nat × Seg)
  | [] => []
  | x :: xs =>
    let d := putItems c x.items
    if reanchors c d x.items then let h := segAfter g x.frame d; (x.frame, h) :: segChain h d xs else segChain g d xs

/-- The instant of an edge along stretches. -/
def edgeIn (g : Seg) : List (Nat × Seg) → Nat → Time
  | [], n => g.edge n
  | (m, h) :: rest, n => if n ≤ m then g.edge n else edgeIn h rest n

/-- The first edge at or after an instant along stretches. -/
def firstIn (g : Seg) : List (Nat × Seg) → Time → Nat
  | [], t => g.first t
  | (m, h) :: rest, t => if t ≤ g.edge m then g.first t else firstIn h rest t

/-- The stretches to come; a follower's edges are not its own to place. -/
def segments (s : State) : List (Nat × Seg) := if follows s then [] else segChain (segNow s) s.cfg (byFrame (allAccepted s))

/-- The predicted instant of an edge. -/
def edgeOf (s : State) (j : Nat) : Time := if j < nextNum s then s.frm.last else edgeIn (segNow s) (segments s) j

/-- L(j) as predicted. -/
def latchPred (s : State) (j : Nat) : Time := edgeOf s (j - 2) - penumbra s.cfg

/-- The frame of the first edge at or after an instant (R53, R57). -/
def frameFor (s : State) (t : Time) : Nat := firstIn (segNow s) (segments s) t

/-- The first frame at or after `j` whose latch instant lies at least `lead` after now, looking at most `n` frames on. -/
def openEdge (s : State) (lead : Nat) : Nat → Nat → Nat
  | 0, j => j
  | n + 1, j => if s.tim.now + lead ≤ latchPred s j then j else openEdge s lead n (j + 1)

/-- The frame that a NEXT transaction commits at (R53), with the master's lead over the latch in a stack (R54). -/
def commitNext (s : State) (lead : Nat) : Nat := openEdge s lead 64 (nextLatch s)

/-- Why a named edge cannot be met: its latch has passed, or it lies more than a day ahead (R53, R56). -/
def edgeErr (s : State) (j : Nat) : Option Status :=
  if j < nextLatch s ∨ latchPred s j ≤ s.tim.now then some .eLate
  else if s.tim.now + 86400 * sec < edgeOf s j then some .eRange
  else none

/-! ### Checks that look at the items (R4, R98, R129, R154) -/

/-- How many records of a table differ between two stores. -/
def changedRows (o c : Store) (t : TableSpec) : Nat :=
  let now := (c.listed t).foldl (fun (m : SMap Nat) i => SMap.put 0 m i 1) []
  ((c.listed t).filter fun i => o.row t i != c.row t i).length
    + ((o.listed t).filter fun i => SMap.get 0 now i == 0 && o.row t i != c.row t i).length

/-- How many curves have a table that differs between two stores (R154). -/
def changedCurves (o c : Store) : Nat :=
  ((c.listed curData ++ o.listed curData).foldl (fun (m : SMap Nat) i =>
    if o.row curData i = c.row curData i then m else SMap.put 0 m (i / 4096) 1) []).length

/-- The limits of one transaction (R129, R154). -/
def countErrs (o c : Store) : List Err :=
  let over_ (t : TableSpec) (n : Nat) : List Err := errIf (decide (n < changedRows o c t)) (viol0 .eCapacity t.id)
  over_ fixTable 16384 ++ over_ stdTable 8192 ++ ([fixZoneset, fixZone, fixSacnSet, fixCue, fixSchedule].flatMap fun t => over_ t 1024)
  ++ errIf (decide (16 < changedCurves o c)) (viol0 .eCapacity curData.id)

/-- CUR_DATA of a curve that the transaction leaves other than CUSTOM (R154). -/
def curveErrs (c : Store) (xs : List Item) : List Err :=
  (xs.flatMap (rowsOf curData.id)).filterMap fun i => if byteAt (c.row curDef (i / 4096)) 0 = 0 then none else some (viol .eState curData.id i)

/-- Bytes of the scene entries that items write. -/
def sceneBytes (xs : List Item) : Nat :=
  (xs.map fun x => if rowsOf cnvSceneStore.id x = [] then 0 else x.req.payload.length - 16).sum

/-- The free scene store holds what is written beside what is stored and staged (R98). -/
def sceneErrs (s : State) (c : Store) (xs : List Item) : List Err :=
  let stored := (s.cfg.scene.map fun x => x.2.length).sum
  errIf ((decide (0 < sceneBytes xs) || xs.any (setsPar cnvSceneMib.id)) && decide (c.v cnvSceneMib * 1048576 < stored + sceneBytes ((allAccepted s).flatMap (·.items)) + sceneBytes xs))
    (viol0 .eCapacity cnvSceneStore.id)

/-! ### Time and frames (R32, R34, R57, R81, R232) -/

/-- The declared rate, the anchor, the epoch and TOUT records at the commit edge. -/
def timeErrs (s : State) (o c : Store) (j : Nat) (xs : List Item) : List Err :=
  let e := edgeOf s j
  let rated := o.v frmRateNum != c.v frmRateNum || o.v frmRateDen != c.v frmRateDen
  let touts := xs.flatMap (rowsOf timTout.id)
  errIf (decide (1001 * rateNum c < 24000 * rateDen c) || decide (240 * rateDen c < rateNum c)) (viol0 .eRange frmRateNum.id)
  ++ errIf (xs.any (setsPar frmAnchor.id) && decide (e < anchor c)) (viol0 .eRange frmAnchor.id)
  ++ errIf ((reanchors o c [] || o.v frmAnchor != c.v frmAnchor) && (allAccepted s).any fun x => decide (j < x.frame)) (viol0 .eState frmSource.id)
  ++ errIf (xs.any (setsPar radAsnEpoch.id) && decide (e < timeDec (c.v radAsnEpoch))) (viol0 .eRange radAsnEpoch.id)
  ++ (timTout.all.flatMap fun i =>
    let r := c.row timTout i
    let locked := modeOf r == 3 && (touts.elem i || rated)
    errIf (touts.elem i && (modeOf r == 1 || modeOf r == 2) && decide (toutStart r < e)) (viol .eRange timTout.id i)
    ++ errIf (locked && (decide (shortT o c ≤ (u32At r 4 * ns : Nat)) || decide (shortT o c ≤ (2 * ((s32At r 24).natAbs * ns) : Nat)))) (viol .eRange timTout.id i))

/-! ### Ingress (R85, R95, R314, R315) -/

/-- The retained entries of a ring. -/
def retained (r : Ring) : List Entry := r.entries.filter fun e => decide (e.off < r.c)

/-- A REWIND for E(j) (R95). -/
def rewindBad (s : State) (j : Nat) (b : List Byte) : Bool :=
  let f := leAt b 8 8
  let r := ringGet s (byteOf b 0)
  decide (j < f) || (decide (f < j) && match retained r with
    | [] => true
    | e :: _ => decide ((f : Int) < frameAt s e.pt))

/-- Bits a second of media payload of a receiver (R85). -/
def streamRate (c : Store) (b : List Byte) : Rat :=
  let bpp : Nat := if byteOf b 24 = 4 then 30 else if byteOf b 24 = 1 then 24 else if byteOf b 24 = 10 then 20 else 16
  (leAt b 32 2 * leAt b 34 2 * bpp * rateNum c : Nat) / (rateDen c : Rat)

/-- A binding and its layer in the state left (R314). -/
def bindErrs (c : Store) (b : List Byte) : Option Status :=
  let l := bindLayer b
  if byteOf b 0 = 0 then none
  else if c.val laySource l ≠ 2 then some .eParam
  else if leAt b 32 2 ≠ c.val layWidth l ∨ leAt b 34 2 ≠ c.val layHeight l then some .eRange
  else none

/-- The receivers bound in a store: layer and payload. -/
def receivers (c : Store) : List (Nat × List Byte) := c.binds.filter fun x => byteOf x.2 0 == 1

/-- Receivers that clash, and their number and rate (R85, R315). -/
def receiverErrs (c : Store) : List Err :=
  let rs := receivers c
  (rs.flatMap fun x => (rs.filter fun y => decide (y.1 < x.1) && (byteOf y.2 2 == byteOf x.2 2
      || (leAt y.2 3 1 == leAt x.2 3 1 && leAt y.2 4 2 == leAt x.2 4 2 && leAt y.2 8 16 == leAt x.2 8 16))).map fun y =>
    ({ status := .eConflict, record := x.1, ownerRecord := y.1 } : Err))
  ++ errIf (decide (4 < rs.length) || decide (16000000000 < (rs.map fun x => streamRate c x.2).sum)) { status := .eCapacity }

/-- REWIND and STREAM_BIND items, each named by its place in the transaction. -/
def ingressErrs (s : State) (c : Store) (j : Nat) (xs : List Item) : List Err :=
  ((numbered xs).flatMap fun x =>
    if x.2.op = 0x23 then errIf (rewindBad s j x.2.req.payload) { status := .eRange, item := x.1 }
    else if x.2.op = 0x22 then ((bindErrs c x.2.req.payload).map fun st => ({ status := st, item := x.1 } : Err)).toList
    else [])
  ++ (if xs.any (fun x => x.op == 0x22) then receiverErrs c else [])

/-! ### Resources (R78, R329, R330) -/

/-- A pin claimed twice in the state left, or in the state that a transaction accepted for a later edge will leave. Of two records of the
transaction the later one claims, and otherwise the one that did not hold the pin (R330). -/
def pinErrs (o c : Store) (later : List Store) (xs : List Item) : List Err :=
  let mine (a : Claim) : Bool := xs.any fun x => (rowsOf a.2.1 x).elem a.2.2
  let conflict (old : List Claim) (d : Store) : List Err :=
    match doubleClaim (pinClaims d) with
    | none => []
    | some (a, b) =>
      let x := if old.elem a && !old.elem b && !(mine a && mine b) then (b, a) else (a, b)
      [violO x.1.2.1 x.1.2.2 x.2.2.1 x.2.2.2]
  let held := pinClaims c
  conflict (pinClaims o) c ++ later.flatMap fun d =>
    match doubleClaim (pinClaims d) with
    | none => []
    | some (a, b) =>
      let x := if held.elem a then (a, b) else (b, a)
      [violO x.1.2.1 x.1.2.2 x.2.2.1 x.2.2.2]

/-- Comparator units along the states that pending transactions give: a user that finds none, with the owner of CMP15 (R78). -/
def cmpErrs (m : SMap (Nat × Nat)) : List Store → List Err
  | [] => []
  | c :: cs =>
    match cmpStep m (cmpUsers c) with
    | (m2, none) => cmpErrs m2 cs
    | (m2, some u) => [violO u.1 u.2 (SMap.get (0, 0) m2 15).1 (SMap.get (0, 0) m2 15).2]

/-- TH_HI above the usable SNS range of bank 2 (R508). -/
def senseErrs (s : State) (xs : List Item) (c : Store) : List Err :=
  let top := if s.dev.bankRange.getD 2 1 = 0 then 150 else 255
  (drvChan.all.flatMap fun i => errIf (xs.any (fun x => (rowsOf drvChan.id x).elem i) && decide (top < byteAt (c.row drvChan i) 9)) (viol .eRange drvChan.id i))
  ++ errIf (xs.any (fun x => (rowsOf drvMatrix.id x).elem 0) && decide (top < byteAt (c.row drvMatrix 0) 11)) (viol .eRange drvMatrix.id 0)

/-- A code that two LOG_RATE records name, at the higher of the two (Table 20-3). -/
def rateErrs (o c : Store) : List Err :=
  if o.tab.filter (fun x => x.1 / 2 ^ 32 == logRate.id) = c.tab.filter (fun x => x.1 / 2 ^ 32 == logRate.id) then []
  else logRate.all.flatMap fun i =>
    let code := u16At (c.row logRate i) 0
    errIf (code ≠ 0 ∧ (List.range i).any (fun j => u16At (c.row logRate j) 0 == code)) (viol .eParam logRate.id i)

/-! ### The whole -/

/-- The fixtures that items write, for the budget of R250. -/
def fixturesOf (c : Store) (xs : List Item) : List Nat :=
  xs.flatMap fun x =>
    rowsOf fixTable.id x ++ (if x.op = 0x02 ∧ x.req.items.any (fun y => y.id == fixFloorSet.id || y.id == fixEnableSet.id) then
      zoneFixtures c x.req.zoneMask.toNat else [])

/-- Every violation of a transaction at E(j) (R55, R129, R130, R326, R330, R335). -/
def txnErrs (s : State) (tenant role j : Nat) (xs : List Item) : List Err :=
  let o := storeAt s j
  let c := putItems o xs
  let me : AccTxn := { id := 0, frame := j, tenant := tenant, role := role, items := xs, ordered := true }
  let later := (byFrame s.ox.accepted).filter fun x => decide (j < x.frame)
  let own (x : Nat × Item) (es : List Err) : List Err := es.map fun e => { e with item := x.1 }
  ((numbered xs).flatMap fun x =>
    own x ((itemForm x.2).toList ++ itemRights o tenant role x.2 ++ itemState s o (itemsBefore s j) x.2))
  ++ countErrs o c ++ curveErrs c xs ++ sceneErrs s c xs ++ timeErrs s o c j xs ++ ingressErrs s c j xs
  ++ pinErrs o c (storesAfter c later) xs ++ cmpErrs s.tim.cmp (storesAfter s.cfg (insTxn me (byFrame (allAccepted s)))) ++ senseErrs s xs c
  ++ checkContent o c (xs.flatMap (rowsOf cnvSacnMap.id)) ++ checkWired o c ++ checkRaster o c ++ checkDrive o c ++ checkRadio o c ++ checkBudget s c (fixturesOf c xs)
  ++ checkQueues s o c ++ checkStreams s o c ++ checkLease s o c ++ checkEnergy o c ++ rateErrs o c

/-- What a transaction is refused for at E(j), none where it is valid: more than 64 pending (R56), or its worst violation (R130). -/
def txnErr (s : State) (tenant role j : Nat) (xs : List Item) : Option Err :=
  if 64 ≤ (allAccepted s).length then some { status := .eCapacity }
  else (worst (txnErrs s tenant role j xs)).map (named xs)

end Sys2Proof.Machine
end

