-- ==== Sys2Proof/Machine/Txn.lean ====
section
/-! DEFINITION. Transactions (13.6): IDs and limits, the edge a commit names, acceptance on one node, and the two phases of a commit in a
stack as its master runs them (R310 to R312, R353, R439). -/

namespace Sys2Proof.Machine

/-! ### IDs and limits (R309, R310) -/

/-- Transaction IDs in use on the node. -/
def usedIds (s : State) : List Nat :=
  s.ox.open_.map (·.id) ++ (allAccepted s).map (·.id) ++ s.stk.staged.map (·.id) ++ s.stk.relays.filterMap fun x => x.stage.map (·.1)

/-- The first ID from `n` on, 65,535 followed by 1, that is not in use, looking at most `fuel` further. -/
def freeId (used : List Nat) : Nat → Nat → Nat
  | 0, n => n
  | fuel + 1, n => if used.elem n then freeId used fuel (n % 65535 + 1) else n

/-- The ID of a new transaction. -/
def newId (s : State) : Nat := freeId (usedIds s) (usedIds s).length (max 1 s.ox.nextId)

/-- The block with the ID to try next. -/
def noteId (s : State) (id : Nat) : State := { s with ox := { s.ox with nextId := id % 65535 + 1 } }

/-- Payload bytes of the items of open and accepted transactions (R310). -/
def heldBytes (s : State) : Nat :=
  ((s.ox.open_.flatMap (·.items) ++ (allAccepted s).flatMap (·.items)).map fun x => x.req.length.toNat).sum

/-- An item finds room within the 8 MiB (R310). -/
def roomFor (s : State) (r : Req) : Bool := decide (heldBytes s + r.length.toNat ≤ 8388608)

/-- The open transaction that a request names, or why there is none (R310). -/
def openOf (s : State) (c : Caller) (r : Req) : Except Status OpenTxn :=
  match s.ox.open_.find? fun x => x.id == r.txnId.toNat && x.ident == c.ident with
  | none => .error .eTxn
  | some x => if x.tenant = c.tenant then .ok x else .error .eAuth

/-- Open transactions without one. -/
def closeTxn (s : State) (id : Nat) : State := { s with ox := { s.ox with open_ := s.ox.open_.filter fun x => !decide (x.id = id) } }

/-! ### The edge that a commit names (R53, R311) -/

/-- MODE of a TXN_COMMIT_AT payload, with what is wrong with the payload (R11, R12, R311). -/
def commitForm (b : List Byte) : Option Status :=
  let m := byteOf b 0
  if leAt b 1 7 ≠ 0 ∨ leAt b 22 2 ≠ 0 then some .eParam
  else if 2 < m then some .eRange
  else if (m ≠ 1 ∧ (leAt b 16 4 ≠ 0 ∨ leAt b 20 2 ≠ 0)) ∨ (m = 2 ∧ leAt b 8 8 ≠ 0) then some .eParam
  else if m = 1 ∧ 1000000000 ≤ leAt b 16 4 then some .eRange
  else none

/-- The frame that a commit names; 0 under NEXT. -/
def commitFrame (s : State) (b : List Byte) : Nat :=
  if byteOf b 0 = 0 then leAt b 8 8
  else if byteOf b 0 = 1 then frameFor s (leAt b 8 8 * sec + leAt b 16 4 * ns + leAt b 20 2)
  else 0

/-- Why the edge that a commit names cannot be met; NEXT always can, where edges run. -/
def commitEdgeErr (s : State) (b : List Byte) : Option Status :=
  if s.frm.running = false then some .eState
  else if byteOf b 0 = 2 then none
  else edgeErr s (commitFrame s b)

/-! ### Acceptance (R52, R309, R311) -/

/-- A transaction accepted on this node, and journalled to a shadow (R369). -/
def accept (s : State) (x : AccTxn) : State := sendJournal (enlist s x) x

/-- The payload of ACCEPTED: the frame, and for a request that forms its own transaction the ID (R309, R311). -/
def acceptedBytes (own : Bool) (j id : Nat) : List Byte := leBytes 8 j ++ if own then leBytes 2 id ++ leBytes 6 0 else []

/-- An error of a request that is its own transaction, named by the item within the request (Table 13-8). -/
def inRequest (r : Req) (op : Nat) (e : Err) : Err :=
  if op ≠ 0x02 then e
  else match (numbered r.items).find? fun y => y.2.id == e.param with
    | some y => { e with item := y.1 }
    | none => { e with item := 0xFFFF }

/-- The transaction of a node validated and accepted for E(j), or what it is refused for. -/
def commitHere (s : State) (c : Caller) (id j : Nat) (xs : List Item) : Except Err State :=
  match txnErr s c.tenant c.role j xs with
  | some e => .error e
  | none => .ok (accept s { id := id, frame := j, tenant := c.tenant, role := c.role, items := xs, ordered := true })

/-! ### What a stack's nodes get (R40, R312) -/

/-- An item of a SET as it stands in a payload. -/
def setItemBytes (x : SetItem) : List Byte := leBytes 2 x.id ++ leBytes 2 0 ++ leBytes 2 x.len ++ leBytes 2 0 ++ pad8 (leBytes x.len x.value)

/-- The stack-wide parameters among the items of a SET to the master, as a SET to every node (R40). -/
def stackPart (x : Item) : Option Item :=
  let ys := if x.op = 0x02 then x.req.items.filter fun y => stackWide y.id else []
  let b := ys.flatMap setItemBytes
  if ys = [] then none
  else some { x with req := { x.req with
    target := BitVec.ofNat 8 (x.req.target.toNat / 64 * 64 + 0x3F), length := BitVec.ofNat 16 b.length, body := b } }

/-- The items of a transaction that a node gets, by their place in the whole. -/
def itemsFor (s : State) (n : Nat) (xs : List Item) : List (Nat × Item) :=
  (numbered xs).filterMap fun x =>
    if x.2.req.node = n ∨ x.2.req.node = 0x3F then some x
    else if x.2.req.node = s.stk.index then (stackPart x.2).map fun y => (x.1, y)
    else none

/-- The other nodes that a transaction concerns: those it names, and every node in reach for what goes to all. -/
def involved (s : State) (xs : List Item) : List Nat :=
  if s.dev.stackEn = false ∨ s.stk.role ≠ 1 then []
  else (List.range 32).filter fun n =>
    n != s.stk.index && (xs.any (fun x => x.req.node == n) || (bitAt s.stk.reach n && itemsFor s n xs != []))

/-- An error of a node as E_TXN reports it (R312, Table 13-8): the node's CAUSE, ITEM as its place in the whole transaction, and RECORD. -/
def asTxn (n : Nat) (idx : List Nat) (e : Err) : Err :=
  { e with status := .eTxn, node := some n, cause := some (e.cause.getD e.status), item := idx.getD e.item 0xFFFF }

/-- Items of one node validated there (R312). -/
def nodeErr (s : State) (c : Caller) (n j : Nat) (xs : List Item) : Option Err :=
  let mine := itemsFor s n xs
  (txnErr s c.tenant c.role j (mine.map (·.2))).map (asTxn n (mine.map (·.1)))

/-! ### Two phases (R54, R312, R353, R439) -/

/-- The body of a STAGE: frame, MODE and the node's items (Table 15-7). -/
def stageBody (j mode : Nat) (xs : List Item) : List Byte :=
  leBytes 8 j ++ leBytes 1 mode ++ leBytes 7 0 ++ xs.flatMap fun x => pad8 (reqBytes x.op x.req)

/-- STAGE messages sent to nodes, and the relay noted; `answers` holds each node's RELAY_ID. -/
def sendStages (s : State) (op : Nat) (r : Req) (c : Caller) (id j mode : Nat) (nodes : List Nat) (itemsOf : Nat → List Item) : State :=
  let k := s.stk.nextRelay
  let session := match r.path with
    | .mb2 n _ => n
    | _ => 0
  let ids := (numbered nodes).map fun x => (x.2, (k + x.1) % 65536)
  let x : Relay := {
    id := k, op := op, req := r, target := 0x3F, stage := some (id, j), waiting := (nodes.map (2 ^ ·)).sum
    answers := ids.map fun y => (y.1, leBytes 2 y.2), failed := [] }
  let s1 := { s with stk := { s.stk with nextRelay := (k + nodes.length) % 65536, relays := s.stk.relays ++ [x] } }
  ids.foldl (fun a y =>
    let b := stageBody j mode (itemsOf y.1)
    casSend a 1 1 y.1 (relayHeader 3 (pathNo r.path) c.tenant c.role session y.2 id 0 0x3F b.length ++ b)) s1

/-- DISCARD of a transaction to every node (R312). -/
def sendDiscard (s : State) (r : Req) (c : Caller) (id : Nat) : State :=
  let k := s.stk.nextRelay
  casSend { s with stk := { s.stk with nextRelay := (k + 1) % 65536 } } 1 1 0x3F (relayHeader 5 (pathNo r.path) c.tenant c.role 0 k id 0 0x3F 0)

/-- The first phase of a transaction that concerns other nodes: the master's own part is judged, then every node is sent its items. -/
def startStage (s : State) (op : Nat) (r : Req) (c : Caller) (id j mode : Nat) (xs : List Item) : Answer × State :=
  let nodes := involved s xs
  let at_ := if mode = 2 then commitNext s (20 * us) else j
  match nodes.find? fun n => !bitAt s.stk.reach n with
  | some n => (.fail { status := .eTxn, node := some n, cause := some .eState }, s)
  | none => match nodeErr s c s.stk.index at_ xs with
    | some e => (.fail e, s)
    | none => (.wait, sendStages s op r c id (if mode = 2 then 0 else j) mode nodes fun n => (itemsFor s n xs).map (·.2))

/-- The items that a relay stages: those of its open transaction, or the request itself. -/
def relayItems (s : State) (x : Relay) : List Item :=
  if x.op = 0x11 then ((s.ox.open_.find? fun t => t.id == (x.stage.getD (0, 0)).1).map (·.items)).getD [] else [{ op := x.op, req := x.req }]

/-- The block with a relay ended. -/
def endRelay (s : State) (x : Relay) : State := { s with stk := { s.stk with relays := s.stk.relays.filter fun y => !decide (y = x) } }

/-- The lowest-indexed of the nodes that failed. -/
def firstFailed (l : List (Nat × Err)) : Option Err :=
  (l.foldl (fun (a : Option (Nat × Err)) x => match a with
    | none => some x
    | some y => if x.1 < y.1 then some x else some y) none).map (·.2)

/-- An answer to a request posted on its path. -/
def giveAnswer (x : Relay) (a : Answer × State) : State :=
  match answerBytes a.2 x.op x.req a.1 with
  | some m => if respFits a.2 x.req.path m then finish a.2 x.op x.req m
    else finish a.2 x.op x.req (respBytes a.2 x.op x.req .eSize 0 (errBytes a.2 { status := .eSize }))
  | none => a.2

/-- The staged commits that no longer can go out in time for frame `j` or an earlier one: those a node has not judged yet are rejected with
E_LATE and discarded (R54). One under NEXT goes on to a later edge. -/
def expireStages (s : State) (j : Nat) : State :=
  (s.stk.relays.filter fun x => x.op != 0x62 && (match x.stage with
      | some (_, n) => n != 0 && decide (n ≤ j)
      | none => false)).foldl (fun a x =>
    let c := callerOf a x.op x.req.path
    giveAnswer x (.fail { status := .eLate }, sendDiscard (endRelay a x) x.req c (x.stage.getD (0, 0)).1)) s

/-- The second phase: the commit order where every node has validated in time, otherwise DISCARD (R54, R312). -/
def endStage (s0 : State) (x : Relay) : Answer × State :=
  let s := endRelay s0 x
  let id := (x.stage.getD (0, 0)).1
  let named := (x.stage.getD (0, 0)).2
  let c := callerOf s x.op x.req.path
  let xs := relayItems s x
  let stop (e : Err) : Answer × State := (.fail e, sendDiscard s x.req c id)
  let j := if named = 0 then commitNext s (20 * us) else named
  match firstFailed x.failed with
  | some e => stop e
  | none =>
    if s.frm.running = false then stop { status := .eState }
    else if latchPred s j < s.tim.now + 20 * us ∨ j < nextLatch s then stop { status := .eLate }
    else match nodeErr s c s.stk.index j xs with
      | some e => stop e
      | none =>
        let s1 := casTime s 1 6 (leBytes 2 id ++ leBytes 1 s.stk.index ++ leBytes 8 j)
        let mine := (itemsFor s s.stk.index xs).map (·.2)
        let s2 := accept (closeTxn s1 id) { id := id, frame := j, tenant := c.tenant, role := c.role, items := mine, ordered := true }
        (.done .accepted 0 (acceptedBytes (x.op != 0x11) j id), s2)

/-! ### Arming a stack (R439) -/

/-- The manifest hash of a set that is VERIFIED or ARMED, as the carrier item of a staged IMAGE_ARM. -/
def armHash (s : State) : List Byte := manifestHash (imageOf s (otherSet s)).manifest

/-- The carrier item of the hash that a staged ARM demands: an IMAGE_CONFIRM request that holds it (DESIGN CHOICE, log entry 53). -/
def hashItem (s : State) (r : Req) : Item := { op := 0x63, req := { r with length := 32#16, body := armHash s } }

/-- Why a staged IMAGE_ARM fails on this node (R438, R439): its state, or a hash other than the master's. -/
def armStageErr (s : State) (arm : Req) (hash : List Byte) : Option Status :=
  match armErr s arm.payload with
  | some st => some st
  | none => if armHash s ≠ hash then some .eVerify else none

/-- ARM or DISARM carried out for E(j). -/
def armDone (s : State) (arm : Req) (j : Nat) : State := if byteOf arm.payload 0 = 1 then armAt s j else disarm s

/-- IMAGE_ARM to every node of a stack: staged like a transaction (R439). -/
def startArm (s : State) (r : Req) (c : Caller) : Answer × State :=
  let nodes := (List.range 32).filter fun n => n != s.stk.index && bitAt s.stk.reach n
  let j := if byteOf r.payload 0 = 1 then edgeFrom s (armTime r.payload) else s.upd.armed.getD 0
  match armErr s r.payload with
  | some st => (.fail { status := .eTxn, node := some s.stk.index, cause := some st }, s)
  | none =>
    if nodes = [] then (okWith (if byteOf r.payload 0 = 1 then leBytes 8 j else []), armDone s r j)
    else
      let id := newId s
      (.wait, sendStages (noteId s id) 0x62 r c id j 0 nodes fun _ => [{ op := 0x62, req := r }, hashItem s r])

/-- The end of a staged IMAGE_ARM. -/
def endArm (s0 : State) (x : Relay) : Answer × State :=
  let s := endRelay s0 x
  let id := (x.stage.getD (0, 0)).1
  let j := (x.stage.getD (0, 0)).2
  let c := callerOf s x.op x.req.path
  match firstFailed x.failed with
  | some e => (.fail e, sendDiscard s x.req c id)
  | none => match armErr s x.req.payload with
    | some st => (.fail { status := .eTxn, node := some s.stk.index, cause := some st }, sendDiscard s x.req c id)
    | none =>
      let s1 := casTime s 1 6 (leBytes 2 id ++ leBytes 1 s.stk.index ++ leBytes 8 j)
      (okWith (if byteOf x.req.payload 0 = 1 then leBytes 8 j else []), armDone s1 x.req j)

/-! ### Requests that form a transaction of their own, and items (R309, R310) -/

/-- A request that touches EDGE items with TXN 0: a transaction of its own, committed under NEXT. -/
def ownTxn (op : Nat) (c : Caller) (r : Req) (s : State) : Answer × State :=
  let x : Item := { op := op, req := r }
  if s.frm.running = false then (failWith .eState, s)
  else if !roomFor s r then (failWith .eCapacity, s)
  else
    let id := newId s
    if involved s [x] ≠ [] then
      match startStage (noteId s id) op r c id 0 2 [x] with
      | (.fail e, _) => (.fail e, s)
      | a => a
    else
      let j := commitNext s 1
      match commitHere (noteId s id) c id j [x] with
      | .error e => (.fail (inRequest r op e), s)
      | .ok s1 => (.done .accepted 0 (acceptedBytes true j id), s1)

/-- The class of what an item writes is EDGE (R309). -/
def edgeItem (x : Item) : Bool :=
  if x.op = 0x02 then x.req.items.all fun y => match findParam y.id with
    | some p => p.edge
    | none => true
  else if x.op = 0x20 then match findTable (tblId x.req) with
    | some t => t.edge
    | none => true
  else true

/-- What the rights of its sender refuse an item for as it is added, by the values at the edge that NEXT would name now; an item for
another node is judged there (R335; DESIGN CHOICE, log entry 51). -/
def addErrs (s : State) (c : Caller) (x : Item) : Option Err :=
  if itemsFor s s.stk.index [x] = [] then none
  else worst (itemRights (storeAt s (commitNext s 1)) c.tenant c.role x)

/-- An item added to an open transaction (R310, R335). -/
def addItem (op : Nat) (c : Caller) (r : Req) (s : State) : Answer × State :=
  let x : Item := { op := op, req := r }
  match openOf s c r with
  | .error st => (failWith st, s)
  | .ok t =>
    match itemForm x with
    | some e => (.fail e, s)
    | none =>
      if !edgeItem x then (failWith .eParam, s)
      else match addErrs s c x with
      | some e => (.fail (inRequest r op e), s)
      | none =>
      if !roomFor s r then (failWith .eCapacity, s)
      else
        let open1 := s.ox.open_.map fun y => if y.id = t.id then { y with items := y.items ++ [x] } else y
        (okWith [], { s with ox := { s.ox with open_ := open1 } })

end Sys2Proof.Machine
end

