-- ==== Sys2Proof/Machine/Latch.lean ====
section
/-! DEFINITION. From the latch of a frame to the end of its COMPUTE (02 2.3, 2.5, 2.6): FRAME_LATCH, COMPOSER_BAND, COMPUTE_COMPLETE and
COMPUTE_DEADLINE. -/

namespace Sys2Proof.Machine

/-! ### The latch (R43, R50, R52) -/

/-- Fixtures whose MODEL differs between two stores, enabled or not. -/
def remodelled (o c : Store) : List Nat :=
  (c.listed fixTable ++ (o.listed fixTable).filter fun i => c.row fixTable i == 0).filter fun i =>
    fxModel (o.row fixTable i) != fxModel (c.row fixTable i)

/-- FAULT bits of fixtures cleared (R107, R223). -/
def clearFaults (s : State) (l : List Nat) : State := { s with src := { s.src with fault := l.foldl (fun m i => SMap.put 0 m i 0) s.src.fault } }

/-- REWIND items that commit at frame `j`: the replay offset d = j − f of their rings (R95). -/
def replays (s : State) (j : Nat) (xs : List Item) : State :=
  xs.foldl (fun a x =>
    if x.op ≠ 0x23 then a
    else
      let i := byteOf x.req.payload 0
      ringPut a i { ringGet a i with replay := (j : Int) - leAt x.req.payload 8 8 }) s

/-- A shadow that takes its plan from the active (R391). -/
def shadowing (s : State) : Bool := s.dev.state == .shadow && s.red.pair && s.red.role != 1

/-- Frames still to be skipped at the latch of frame `j`: the planner's own, or what the active's last divisor says (R391, R395). -/
def skipLeft (s : State) (j : Nat) : Nat :=
  if shadowing s then match SMap.get none s.red.inputs (j - 1) with
    | some x => x.h - 1
    | none => s.eng.skip
  else s.eng.skip

/-- The frame of a ring's entry at a position, the frame being latched where there is none (Table 16-5). -/
def frameAtPos (s : State) (r : Ring) (j pos : Nat) : Nat :=
  match r.entries.find? fun e => decide (pos ≤ e.off) with
  | some e => (frameAt s e.pt).toNat
  | none => j

/-- Frame numbers of C and M of ring A and of ring B. -/
def ringFrames (s : State) (j : Nat) : List Nat :=
  [frameAtPos s s.con.ringA j s.con.ringA.c, frameAtPos s s.con.ringA j s.con.ringA.m, frameAtPos s s.con.ringB j s.con.ringB.c,
   frameAtPos s s.con.ringB j s.con.ringB.m]

/-- A frame latched with its inputs, before its plan. -/
def frameInputs (s : State) (c : Store) (j : Nat) (stage : FrameStage) (txns : List AccTxn) (layers : SMap (Option Entry × Nat))
    (ingress : Nat) : Frame := {
  num := j, cfg := c, stage := stage, latchAt := s.tim.now, txns := txns, layers := layers, sacn := s.con.closed, scene := s.src.scene
  sched := s.src.sched, temp := [], fault := [], tsns := [], tsnsBad := [], canvas := 0, lines := 0, pix := [], fetched := 0
  ingress := ingress, plan := { step := 0, record := 0, forecast := 0 }, out := FrameOut.empty }

/-- Whether a frame latched under a store is computed, and the frames left to skip (R50, R395). -/
def stageOf (s : State) (c : Store) (j : Nat) : FrameStage × Nat :=
  let k := skipLeft s j
  if c.v devRun ≠ 1 ∨ !s.dev.state.live then (.idle, 0) else if k ≠ 0 then (.idle, k - 1) else (.computing, 0)

/-- A latched frame that is computed gets its plan: the planner's, or that of the active's input record where it is there already
(R390, R391). -/
def planFrame (s : State) (f : Frame) : State × Frame :=
  if f.stage ≠ .computing then (s, f)
  else if shadowing s then (s, applyInput s f)
  else planOwn s f

/-- The transactions of a frame taken out of those accepted, their rings' marks given up (R52, R96). -/
def takeTxns (s : State) (txns : List AccTxn) : State :=
  txns.foldl (fun a x => dropHolds a x.id)
    { s with ox := { s.ox with accepted := s.ox.accepted.filter fun x => !txns.elem x } }

/-- The parameter set of frame `j` and what its transactions do to the level sources (R52, R121, R123, R223). -/
def latchStore (s : State) (o : Store) (j : Nat) (txns : List AccTxn) : State × Store :=
  let xs := txns.flatMap (·.items)
  let c1 := txns.foldl (fun c x => putItems c x.items) o
  let a := latchSchedule s c1 j
  let s1 := latchScenes (replays a.1 j xs) a.2 j (valuesOf fixSceneRecall.id xs)
  let cleared := valuesOf fixFaultClear.id xs
  (clearFaults (cleared.foldl (fun b i => clearPoints b a.2 i) s1) (cleared ++ remodelled o a.2), a.2)

/-- L(j): frame `j` latches its transactions and inputs, W(j) opens, and it is planned (R43, R52, R94, R142, R151, R353, R390);
a commit of the stack that could not be ordered in time is given up (R54). -/
def latchFrame (s : State) : State :=
  let j := nextLatch s
  let s0 := expireStages s j
  let o := latchedStore s0
  let txns := (byFrame s0.ox.accepted).filter fun x => decide (x.frame ≤ j)
  let a := latchStore (commitMissing (takeTxns s0 txns) j) o j txns
  let c := a.2
  let st := stageOf a.1 c j
  let s1 := { a.1 with eng := { a.1.eng with skip := st.2 } }
  let l := latchLayers s1 o c j
  let f := frameInputs l.1 c j st.1 txns l.2.1 l.2.2
  let b := if c.v devRun = 1 ∧ s0.dev.state.live then latchThermal l.1 f else (l.1, f)
  let p := planFrame b.1 b.2
  let s2 := { p.1 with frm := { p.1.frm with frames := p.1.frm.frames ++ [p.2] } }
  let s3 := if st.1 = .computing then sendInput s2 p.2 s2.eng.h (ringFrames s2 j) else s2
  if unholdable s3 then enterSafe { s3 with eng := { s3.eng with above := 0 } } 4 else s3

/-- The instant of the next latch, while the frame two edges before it is the next one or has passed. -/
def latchInstant (s : State) : Time := if s.frm.frames.length = 2 then s.frm.next - penumbra s.cfg else s.frm.last

/-- A frame's latch instant lies before the edge after the next: fewer than three frames are latched and not presented. -/
def latchReady (s : State) : Bool := s.frm.running && decide (s.frm.frames.length < 3)

/-- FRAME_LATCH (R52): L(k) of the next frame. -/
def execFrameLatch (s : State) : Host.Outcome State Fault Refusal :=
  .next (if latchReady s then latchFrame (advance s (latchInstant s)) else s)

/-! ### COMPUTE (R44, R48, R49, R100, R380) -/

/-- The frame whose work is served: the oldest in COMPUTE (R44). -/
def working (s : State) : Option Frame := s.frm.frames.find? fun f => decide (f.stage = .computing)

/-- The band buffers after the next band of a frame, which goes into the buffer that does not hold the band before (R100). Its consumers
take it within the same command, so that a buffer is always free in time (DESIGN CHOICE, log entry 90). -/
def fillBand (s : State) (f : Frame) : State :=
  match nextCanvas f.cfg f.canvas f.lines with
  | some (k, y) => { s with con := { s.con with
      bands := SMap.put none s.con.bands s.con.bandNext (some (f.num, k, y / 64)), bandNext := 1 - s.con.bandNext } }
  | none => s

/-- COMPOSER_BAND (R44, R99 to R101, R393): one more band of the frame served. -/
def execComposerBand (s : State) : Host.Outcome State Fault Refusal :=
  .next (match working s with
    | some f => if s.frm.running ∧ inputHeld s f.num then putFrame (fillBand s f) (composeBand s f) else s
    | none => s)

/-- The deadline of a frame: E(k − 1) − M (R48). -/
def deadline (s : State) (k : Nat) : Time := edgeAt s (k - 1) - margin s.cfg

/-- A frame slips on this node: its work is abandoned, it is counted and logged, and in a stack the token goes out (R49 to
R51). -/
def slipOwn (s : State) (k : Nat) : State :=
  match frameOf s k with
  | none => s
  | some f =>
    if f.stage ≠ .computing then s
    else
      sendSlip (slipFrame s k s.stk.index) k

/-- COMPUTE of a frame ends: what the outputs take from it, and what the units of a pair tell each other (R16, R48, R380, R391). -/
def completeFrame (s : State) (f : Frame) : State :=
  if shadowing s ∧ shadowOver s f f.plan.step (((SMap.get none s.red.inputs f.num).map (·.h)).getD 1) then
    putFrame s { f with stage := .idle }
  else
    let r := computeFrame s f
    resultDone (putFrame r.1 { f with stage := .complete, out := r.2 }) f.num f.cfg r.2

/-- COMPUTE_COMPLETE (R48): the frame served hands over its data; stamped at E(k − 1) − M or later it has slipped. -/
def execComputeComplete (t : Time) (s : State) : Host.Outcome State Fault Refusal :=
  let s1 := advance s t
  .next (match working s1 with
    | none => s1
    | some f =>
      if s1.frm.running = false ∨ !composed f ∨ !inputHeld s1 f.num then s1
      else if s1.tim.now < deadline s1 f.num then completeFrame s1 f
      else slipOwn s1 f.num)

/-- The frame whose deadline comes before the next edge. -/
def dueFrame (s : State) : Nat := nextNum s + 1

/-- COMPUTE_DEADLINE (R49): E(k − 1) − M passes with frame k in COMPUTE. -/
def execComputeDeadline (s : State) : Host.Outcome State Fault Refusal :=
  .next (match frameOf s (dueFrame s) with
    | some f => if s.frm.running ∧ f.stage = .computing then slipOwn (advance s (s.frm.next - margin s.cfg)) f.num else s
    | none => s)

end Sys2Proof.Machine
end

