-- ==== Sys2Proof/Machine/Edge.lean ====
section
/-! DEFINITION. The frame edge (02 2.1, 2.4, 2.6): FRAME_EDGE fixes the next edge, commits the frame's transactions, applies the changes
of device state that fall on it, and hands the frame to the outputs. -/

namespace Sys2Proof.Machine

/-! ### What the edge finds undone -/

/-- A latch whose instant has passed, carried out (R52). -/
def lateLatch (s : State) : State := if latchReady s then latchFrame (advance s (latchInstant s)) else s

/-- The latches, the slips, and the quiet times and synchronisation packets that lie before the next edge (R48, R52, R184). -/
def beforeEdge (s : State) : State :=
  let s1 := lateLatch (lateLatch (lateLatch s))
  sacnFinish (slipOwn (slipOwn s1 (nextNum s1)) (dueFrame s1))

/-! ### The next edge (R33, R35 to R38, R351) -/

/-- The next edge after E(k), and what the loop and the offset become: `o` was in force before it, `c` is from it on, and `xs` commit. -/
def fixNext (s : State) (k : Nat) (e : Time) (o c : Store) (xs : List Item) : State :=
  let last := lastInterval s
  let set (next : Time) (delta : Int) (l : LockLoop) : State := { s with frm := { s.frm with next := max (e + 1) next, delta := delta, lock := l } }
  let l := s.frm.lock
  if follows s then set (e + last) s.frm.delta l
  else if c.v frmSource = 0 then
    if reanchors o c xs then
      let i := gridFirst c (rebaseFrom c e)
      set (gridAt c i).toNat ((k : Int) + 1 - i) l
    else set (gridAt c ((k : Int) + 1 - s.frm.delta)).toNat s.frm.delta l
  else if o.v frmSource ≠ c.v frmSource then set (e + period c) s.frm.delta State.reset.frm.lock
  else if reanchors o c [] then set (e + period c) s.frm.delta l
  else if l.state = .locked then
    set ((e + period c + l.lengthen : Int) + l.steer).toNat s.frm.delta { l with lengthen := 0, steer := 0 }
  else set (e + last) s.frm.delta l

/-- The edge itself: its number and instant, the parameter set in force from it on, the frames that remain, and the label (R36, R41, R59,
R60). -/
def passEdge (s : State) (f : Frame) (e : Time) : State :=
  let k := f.num
  let s1 := fixNext s k e s.cfg f.cfg (f.txns.flatMap (·.items))
  { s1 with frm := { s1.frm with
      past := if s.frm.begun then ((s.frm.num, s.frm.last) :: s.frm.past).take 1024 else s.frm.past
      num := k, last := e, begun := true, cur := f.cfg, shownDelta := s.frm.delta
      frames := s.frm.frames.filter fun g => decide (k < g.num)
      ltc := labelEdge f.cfg s.frm.ltc e } }

/-! ### Committed changes (R52, R59, R78, R82, R84, R97, R107, R223, R235, R237, R279) -/

/-- IMMEDIATE values of a snapshot's item, which take effect with it (R368). -/
def putImm (c : Store) (x : Item) : Store :=
  if x.op = 0x02 then
    x.req.items.foldl (fun a y => match findParam y.id with
      | some p => if p.edge ∨ p.wo ∨ p.ro then a else (instancesOf p x.req).foldl (fun b i => b.setVal p i y.value) a
      | none => a) c
  else if x.op = 0x20 then
    match findTable (tblId x.req) with
    | some t => if t.edge then c else (List.range (tblCount x.req)).foldl (fun a k => a.setRow t (firstIdx x.req + k) (tblRec t x.req k)) c
    | none => c
  else c

/-- What the changes of time-based records do (R67, R78, R82, R84). -/
def timeChanges (s : State) (o c : Store) (k : Nat) (e : Time) (txns : List AccTxn) : State :=
  let s1 := (List.range 8).foldl (fun a n => toutChanged a o c k n) s
  let s2 := (List.range 4).foldl (fun a n => alarmChanged a o c e n) s1
  let cmp := (storesAfter o txns).foldl (fun m d => (cmpStep m (cmpUsers d)).1) s2.tim.cmp
  let s3 := { s2 with tim := { s2.tim with cmp := cmp } }
  let same (p : ParamRow) : Bool := o.v p == c.v p
  if o.v timPtpMode ≠ 0 ∧ c.v timPtpMode = 0 then toFree (ptpClear s3)
  else if !(same timPtpMode && same timPtpProfile && same timPtpDomain && same timPtpTransport) then ptpDecide (ptpClear s3) none
  else if !(same timPtpPrio1 && same timPtpPrio2 && same timPtpSlaveOnly) then ptpDecide s3 none
  else s3

/-- Rings and queues whose sizes change (R97, R279). -/
def sizeChanges (s : State) (o c : Store) : State :=
  let s1 := if o.v cnvRingAMib ≠ c.v cnvRingAMib then emptyRing s 0 else s
  let s2 := if o.v cnvRingBMib ≠ c.v cnvRingBMib then emptyRing s1 1 else s1
  ((List.range 32).filter fun q => !([16, 17, 22, 23] : List Nat).elem q).foldl (fun a q => resizeQueue a o c q) s2

/-- Radio records written (R235, R237, R238). -/
def radioChanges (s : State) (e : Time) (xs : List Item) : State :=
  let s1 := (xs.flatMap (rowsOf radPort.id)).foldl portCommitted s
  let s2 := (xs.flatMap (rowsOf radNeigh.id)).foldl (fun a i => neighCommitted a i e) s1
  (xs.flatMap (rowsOf radCell.id)).foldl cellCommitted s2

/-- Fixtures whose faults are cleared, by FIX_FAULT_CLEAR or a change of MODEL (R107, R222, R223). -/
def faultChanges (s : State) (o c : Store) (xs : List Item) : State :=
  let moved := remodelled o c
  clearFaults ((valuesOf fixFaultClear.id xs ++ moved).foldl (fun a i => unforce a c i) s) moved

/-- The action parameters of a pair (R379, R380). -/
def pairChanges (s : State) (xs : List Item) : State :=
  let s1 := if valuesOf redSwitchP.id xs ≠ [] ∧ s.red.role = 1 then { s with red := { s.red with release := true } } else s
  if valuesOf redUnfitClearP.id xs ≠ [] ∧ shadowing s1 ∧ s1.red.fit = 2 then
    { s1 with red := { s1.red with fit := 0, snapDone := false, snap := [], snapPart := 0, snapAt := none } }
  else s1

/-- The snapshot of a shadow commits (R368). -/
def snapChanges (s : State) (txns : List AccTxn) : State :=
  let xs := (txns.filter fun x => x.id == snapId).flatMap (·.items)
  if txns.any fun x => x.id == snapId then
    let s1 := { s with imm := xs.foldl putImm s.imm, red := { s.red with snapDone := true, snapAt := none } }
    secWritten s1 s.imm
  else s

/-- TXN_COMMITTED for each transaction of the frame, timed E(j) (R52, Table 13-12). -/
def noteCommits (s : State) (k : Nat) (e : Time) (txns : List AccTxn) : State :=
  (txns.filter fun x => x.id != snapId).foldl (fun a x => notifyAt a 0x0001 e (leBytes 2 x.id ++ leBytes 6 0 ++ leBytes 8 k)) s

/-- The transactions of a frame take effect. -/
def commitEdge (s : State) (o : Store) (f : Frame) (e : Time) : State :=
  let xs := f.txns.flatMap (·.items)
  let s1 := snapChanges (pairChanges (faultChanges (radioChanges (sizeChanges (timeChanges s o f.cfg f.num e f.txns) o f.cfg) e xs) o f.cfg xs) xs)
    f.txns
  let s2 := sacnJoins (noteCommits s1 f.num e f.txns) o f.cfg
  let n := (f.txns.filter fun x => x.id != snapId).length
  let s3 := if s2.upd.sel.trial then { s2 with upd := { s2.upd with trialTxns := s2.upd.trialTxns + n } } else s2
  if o = f.cfg ∧ f.txns = [] then s3 else saveSettings s3

/-! ### Device state (R26, R27, R124, R150, R151, R186, R224, R379, R388) -/

/-- DEV_RUN 0 commits in RUN or SHADOW: sACN is terminated, the lease is given up, and nothing is presented any more. -/
def leaveRun (s : State) (k : Nat) : State :=
  let s1 := if s.dev.state = .run then sacnTerminate s (s.frm.shownCfg, s.frm.shown, s.frm.shownNum) else s
  let s2 := if s.red.pair ∧ s.red.role = 1 then
      logEv { redCount s1 1 with red := { (redCount s1 1).red with lastActive := s1.tim.now } } 0x0A02 (k % 2 ^ 32) 0 0
    else s1
  let s3 := toState { s2 with red := { s2.red with
    role := 0, actOut := false, release := false, released := none, takenAt := none, holding := false, zeroed := false, sAck := none, sent := [] } } .ready
  if s.red.pair ∧ s.red.role = 1 then announceRole s3 k else s3

/-- DEV_RUN as the frame has it: READY to RUN or SHADOW with the first frame computed, and back (R26, R50, R367). -/
def runEdge (s : State) (f : Frame) : State :=
  let on := f.cfg.v devRun == 1
  if s.dev.state = .ready ∧ on ∧ f.stage ≠ .idle then
    resetPoints (if s.red.pair then announceRole (enterShadow (toState s .shadow) s.tim.now true) f.num else toState s .run)
  else if (s.dev.state = .run ∨ s.dev.state = .shadow) ∧ !on then leaveRun s f.num
  else s

/-- What every entry into RUN or SHADOW begins anew (R124, R150, R151, R388). -/
def entryEdge (s : State) (before : DevState) (k : Nat) : State :=
  let s1 := if s.dev.state ≠ before ∧ (s.dev.state = .run ∨ s.dev.state = .shadow) then
      let a := thermalStart s s.cfg
      if a.src.schedRun then catchUpRun a else a
    else s
  if s.dev.state ≠ before ∧ s.dev.state = .run then engRun s1 k else s1

/-- The changes of device state at an edge, the lease before DEV_RUN (R27). -/
def stateEdge (s : State) (f : Frame) : State :=
  let s1 := runEdge (roleEdge (leaseEdge s f.num) f.num) f
  entryEdge s1 s.dev.state f.num

/-! ### Presentation (R47, R49, R103 to R105) -/

/-- Pixels that a frame wrote into presentation buffers: those of the bands composed, also where it slipped (R103). -/
def frameWrites (f : Frame) : Nat :=
  ((List.range 4).map fun k => if presentBuffers f.cfg k = 0 then 0 else (SMap.get [] f.pix k).length).sum

/-- Pixels that the raster ports scan out from this edge on (R103). -/
def frameReads (s : State) : Nat :=
  (([0, 1] : List Nat).map fun p =>
    if (rasGet s p).scanning then ((s.frm.shownCfg.regions p).map fun x => u16At x.2.2 6 * u16At x.2.2 8).sum else 0).sum

/-- Pixel bytes booked to a frame at its edge (R103). -/
def frameBytes (s : State) (f : Frame) : Nat := f.ingress + 8 * (f.fetched + frameWrites f + frameReads s)

/-- CNV_DRAM_PIX of a presented frame, and CNV_DRAM_OVER with the event once per entry into the condition; `len` is T(k) (R97, R103). -/
def dramEdge (s : State) (f : Frame) (len : Time) : State :=
  let n := frameBytes s f
  let over_ := decide (100000000000 * len < n * sec)
  let shown := decide (f.stage = .complete) && (s.dev.state == .run || s.dev.state == .shadow)
  logEntry { s with con := { s.con with
      dramPix := if shown then n else s.con.dramPix, dramOver := if over_ then sat32 s.con.dramOver 1 else s.con.dramOver } } over_ 0x0203 0
    (n % 2 ^ 32) (n / 2 ^ 32) 0

/-- The front buffer of a canvas replaced; the one before goes to the host as a capture where it takes one (R104, R105). -/
def swapFront (s : State) (f : Frame) (e : Time) (k : Nat) : State :=
  if presentBuffers f.cfg k = 0 then { s with con := { s.con with front := SMap.put none s.con.front k none } }
  else
    let s1 := match SMap.get none s.con.front k with
      | none => s
      | some x =>
        if f.cfg.val cnvCapture k ≠ 1 then s
        else if (SMap.get none s.con.captures k).isSome then { s with con := { s.con with captureMissed := sat32 s.con.captureMissed 1 } }
        else notifyAt { s with con := { s.con with captures := SMap.put none s.con.captures k (some x) } } 0x0012 e
          (leBytes 1 k ++ leBytes 7 0 ++ leBytes 8 x.1)
    { s1 with con := { s1.con with front := SMap.put none s1.con.front k (some (f.num, SMap.get [] f.out.canvases k)) } }

/-- A frame presented: its values, front buffers, temperatures and faults in force (R47, R104, R107). -/
def present (s : State) (f : Frame) (e : Time) : State :=
  let s1 := (List.range 4).foldl (fun a k => swapFront a f e k) s
  { s1 with
    frm := { s1.frm with shown := f.out, shownCfg := f.cfg, shownNum := f.num, repeat_ := false }
    fix := { s1.fix with temps := f.temp, faults := f.fault } }

/-- What the frame's edge shows: the frame itself where it is complete, the one before again where it is not, and nothing in READY (R47,
R49, R396). -/
def showEdge (s : State) (f : Frame) (e : Time) : State :=
  let on := s.dev.state == .run || s.dev.state == .shadow
  if on ∧ f.stage = .complete then present s f e
  else if on then { s with frm := { s.frm with repeat_ := true } }
  else { s with frm := { s.frm with
    shown := { FrameOut.empty with unconv := s.frm.shown.unconv, clipped := s.frm.shown.clipped, dark := s.frm.shown.dark }
    shownCfg := f.cfg, repeat_ := false } }

/-- Frames left out under the rate divisor (R396). -/
def yieldEdge (s : State) (f : Frame) : State :=
  if f.stage = .idle ∧ f.cfg.v devRun = 1 ∧ (s.dev.state = .run ∨ s.dev.state = .shadow) then engCount s 1 else s

/-- What is handed to the outputs at E(k): frame k presented, and frame k + 1 for the outputs that send from now on (Table 2-5). `was` was committed before the edge, and `o` is the set of the frame shown before it. -/
def outputEdge (s : State) (f : Frame) (was o : Store) (len : Time) : State :=
  let slipped := s.frm.repeat_
  let c := s.frm.shownCfg
  let k := f.num
  let s1 := ([0, 1] : List Nat).foldl (fun a p => rasEdge a o c slipped len p) s
  let s2 := if s1.dev.state = .run ∨ s1.dev.state = .shadow then drvEdge s1 was f.cfg c s1.frm.shown slipped
    else drvRest s1
  let s3 := if transmits s2 ∧ !slipped then daliEdge s2 c s2.frm.shown else s2
  let s4 := match frameOf s3 (k + 1) with
    | some g =>
      if transmits s3 ∧ g.stage = .complete then radioEdge s3 s3.frm.next g.cfg g.out else s3
    | none => s3
  sacnEdge (if transmits s4 then dmxEdge s4 (k + 1) else s4) (k + 1)

/-- Causes of the ladder that a computed frame's fixtures give (R400, R401). -/
def civicEdge (s : State) (f : Frame) : State :=
  if s.frm.repeat_ = false ∧ f.stage = .complete then civicCauses s f.cfg f.out else s

/-- A calibration pass that CAL_START asks for (R490). -/
def calStartEdge (s : State) (xs : List Item) : State := if valuesOf calStartP.id xs ≠ [] ∧ !s.cal.running then calStartPass s else s

/-! ### The edge -/

/-- The activation edge: nothing is presented from it on, and sACN stops without termination (R440). -/
def activate (s : State) : State :=
  let s1 := toUpd (stopEdges (dropTxns s)) 5 (imageOf s (otherSet s)).manifest
  { s1 with upd := { s1.upd with armed := none }, wired := { s1.wired with sacn := [] } }

/-- The edge of frame `f` in a node that goes on. -/
def edgeOn (s : State) (f : Frame) (e : Time) (i : EdgeIn) : State :=
  let o := s.cfg
  let shownO := s.frm.shownCfg
  let len := e - s.frm.last
  let xs := f.txns.flatMap (·.items)
  let s1 := sendEdge (followEdge (passEdge s f e) f.num)
  let s2 := stateEdge (commitEdge s1 o f e) f
  let s3 := yieldEdge (showEdge s2 f e) f
  let s4 := civicEdge (dramEdge (outputEdge s3 f o shownO len) f len) f
  let s5 := measureEdge s4 f.num i.energy
  let s6 := if s.dev.state = .shadow then reflectEdge s5 f.num else s5
  calStartEdge (calEdge (fabricEdge s6 i.margin (f.stage == .complete))) xs

/-- The frame at the next edge; one that is not computed where none is latched. -/
def nextUp (s : State) : Frame := (frameOf s (nextNum s)).getD (idleFrame s (nextNum s))

/-- FRAME_EDGE (R27, R36, R47, R52, R313, R440, R444): a dusk request, an activation or a reset that falls on the edge takes its place. -/
def execFrameEdge (i : EdgeIn) (s : State) : Host.Outcome State Fault Refusal :=
  .next (if !s.frm.running then s
    else
      let s1 := beforeEdge s
      if !s1.frm.running then s1
      else
        let e := s1.frm.next
        let k := nextNum s1
        let s2 := advance s1 e
        if s2.upd.resetWanted then toDawn s2
        else if s2.dev.duskWanted then
          enterDusk { s2 with frm := { s2.frm with num := k, last := e, begun := true } } k (sending s1)
        else if s2.upd.state = 4 ∧ decide (s2.upd.armed.getD 0 ≤ k) then activate s2
        else edgeOn s2 (nextUp s2) e i)

end Sys2Proof.Machine
end

