-- ==== Sys2Proof/Machine/FrameLock.lean ====
section
/-! DEFINITION. The commands of the frame lock loop and of timecode (02 2.1, 2.2). -/

namespace Sys2Proof.Machine

/-- GENLOCK_PULSE (R37): a pulse is used while the source is GENLOCK. -/
def execGenlockPulse (t : Time) (s : State) : Host.Outcome State Fault Refusal :=
  let s1 := advance s t
  .next (if s1.frm.running ∧ source s1 = 1 then usePulse s1 t else s1)

/-- The window of the edge that came last has passed without a pulse and has not been counted. -/
def windowMissed (s : State) : Bool :=
  s.frm.lock.missed != some s.frm.last && match s.frm.lock.window with
    | some w => decide (w < s.frm.last)
    | none => true

/-- GENLOCK_PULSE_MISSING (R37): one more expected window, that of the edge that came last, ends without a pulse. Windows are expected from
the first lock on (DEDUCED, log entry 19). -/
def execGenlockPulseMissing (s : State) : Host.Outcome State Fault Refusal :=
  let l := s.frm.lock
  .next (if s.frm.running ∧ (source s = 1 ∨ source s = 2) ∧ l.everLocked ∧ l.state ≠ .holdover ∧ windowMissed s then
      { s with frm := { s.frm with lock := { l with missing := l.missing + 1, missed := some s.frm.last } } }
    else s)

/-- GENLOCK_LOST (R37): after four consecutive missing pulses the loop is in HOLDOVER. -/
def execGenlockLost (s : State) : Host.Outcome State Fault Refusal :=
  let l := s.frm.lock
  .next (if l.state ≠ .holdover ∧ 4 ≤ l.missing then
      logEv { s with frm := { s.frm with lock := { l with state := .holdover, good := 0, steer := 0, lengthen := 0 } } } 0x0102
        (s.cfg.v frmSource) 0 0
    else s)

/-- WCLK_PULSE (R37, R39): a rising edge of WCLK; every FRM_WCLK_DIV-th since acquisition began is a reference pulse. -/
def execWclkPulse (t : Time) (s : State) : Host.Outcome State Fault Refusal :=
  let s1 := advance s t
  .next (if s1.frm.running ∧ source s1 = 2 then
      let n := s1.frm.lock.wclk + 1
      if s1.cfg.v frmWclkDiv ≤ n then usePulse { s1 with frm := { s1.frm with lock := { s1.frm.lock with wclk := 0 } } } t
      else { s1 with frm := { s1.frm with lock := { s1.frm.lock with wclk := n } } }
    else s1)

/-- LTC frames from the last valid word to one that starts `d` later: by the frame digits where both carry one second, else by the period
measured before, and otherwise one (R41, R42; DESIGN CHOICE, log entry 14). -/
def ltcGone (l : Ltc) (d code : Nat) : Nat :=
  if l.code / 256 = code / 256 ∧ bcd (l.code % 256) < bcd (code % 256) then bcd (code % 256) - bcd (l.code % 256)
  else if l.period = 0 then 1
  else max 1 ((2 * d + l.period) / (2 * l.period))

/-- LTC_WORD (R41): a valid word that started at `t`; decoding resumes and VALID is set again (R42). -/
def execLtcWord (t : Time) (timecode : BitVec 32) (drop : Bool) (s : State) : Host.Outcome State Fault Refusal :=
  let s1 := advance s t
  let l := s1.frm.ltc
  .next { s1 with frm := { s1.frm with ltc := { l with
    start := some t
    code := timecode.toNat
    drop := drop
    period := match l.start with
      | some u => if l.counting ∨ t ≤ u then l.period else (t - u) / ltcGone l (t - u) timecode.toNat
      | none => l.period
    counting := false
    counted := 0
    lost := false
    sub := 0 } } }

/-- Edges that lie at or after an instant. -/
def edgesSince (s : State) (t : Time) : Nat :=
  if s.frm.begun then ((s.frm.last :: s.frm.past.map (·.2)).filter fun e => decide (t ≤ e)).length else 0

/-- LTC_WORD_MISSING (R42): eight LTC frame periods without a valid word; labels go on by counting, SUBIDX with the edges of the LTC frame
counted. -/
def execLtcWordMissing (t : Time) (s : State) : Host.Outcome State Fault Refusal :=
  let s1 := advance s t
  let l := s1.frm.ltc
  .next (match l.start with
    | some u =>
      if l.period ≠ 0 ∧ u + 8 * l.period ≤ t ∧ l.counting = false then
        let n := (t - u) / l.period
        { s1 with frm := { s1.frm with ltc := { l with counting := true, counted := n, sub := edgesSince s1 (u + n * l.period) } } }
      else s1
    | none => s1)

/-- LTC_LOST (R42): after 25 counted LTC frames the valid bit of FRM_TC is cleared. They are counted from the last valid word (DESIGN CHOICE,
log entry 14). -/
def execLtcLost (s : State) : Host.Outcome State Fault Refusal :=
  let l := s.frm.ltc
  .next (if l.counting ∧ 25 ≤ l.counted ∧ l.lost = false then
      logEv { s with frm := { s.frm with ltc := { l with lost := true, tc := putBit l.tc 63 false } } } 0x0104 0 0 0
    else s)

end Sys2Proof.Machine
end

