-- ==== Sys2Proof/Machine/Requests.lean ====
section
/-! DEFINITION. The requests of 13.5 to 13.7: reads, writes, transactions, bindings and rewinds, with the commands that stand for one
parameter's write, and the arming and confirmation of an update (19). -/

namespace Sys2Proof.Machine

/-! ### Reads (R308, Table 13-9) -/

/-- What a GET of an ID is refused for: unknown IDs, tables, write-only parameters and scopes (R308, R323). -/
def getErr (r : Req) (id : Nat) : Option Status :=
  match findParam id with
  | none => some .eParam
  | some p => if p.wo ∨ r.scope = 1 then some .eParam else scopeErr p r

/-- The bytes of the value that a GET of an ID returns; under scope ALL every instance in index order within one item (R308). -/
def getValue (s : State) (r : Req) (id : Nat) : List Byte :=
  match findParam id with
  | none => []
  | some p => (instancesOf p r).flatMap fun i => leBytes p.ty.len (readPar s s.cfg p i)

/-- An item of a GET response. -/
def getItem (s : State) (r : Req) (id : Nat) : List Byte :=
  let v := getValue s r id
  leBytes 2 id ++ leBytes 2 0 ++ leBytes 2 v.length ++ leBytes 2 0 ++ pad8 v

/-- The GET items of a request, or its first failing one. -/
def getItems (s : State) (r : Req) : Except Err (List Byte) :=
  match firstSome (fun x => (getErr r x.2).map fun st => ({ status := st, item := x.1, param := x.2 } : Err)) (numbered r.ids) with
  | some e => .error e
  | none => .ok (r.ids.flatMap (getItem s r))

/-- GET (R60, R308). -/
def getOp (_c : Caller) (r : Req) (s : State) : Answer × State :=
  if r.node = 0x3F then (failWith .eParam, s)
  else match getItems s r with
    | .error e => (.fail e, s)
    | .ok b => (okWith b, s)

/-- A node's block of a SNAPSHOT_GET response. -/
def nodeBlock (s : State) (b : List Byte) : List Byte := leBytes 1 s.stk.index ++ leBytes 1 0 ++ leBytes 2 b.length ++ leBytes 4 0 ++ b

/-- SNAPSHOT_GET (R61, R308). With TARGET 0x3F a master asks every node in reach. -/
def snapshotGetOp (c : Caller) (r : Req) (s : State) : Answer × State :=
  match getItems s r with
  | .error e => (.fail e, s)
  | .ok b =>
    let all := leBytes 8 s.frm.num ++ nodeBlock s b
    let others := s.stk.reach - Nat.land s.stk.reach (2 ^ s.stk.index)
    if r.node = 0x3F ∧ s.dev.stackEn ∧ s.stk.role = 1 ∧ others ≠ 0 then (.wait, relayDown s 0x03 r c others [(s.stk.index, all)] [])
    else (okWith all, s)

/-- Bytes of a record of a table as a read returns them. -/
def readRecord (s : State) (t : TableSpec) (i : Nat) : List Byte := leBytes t.size (readTab s s.cfg t i)

/-- What a TABLE_READ is refused for. -/
def tableReadErr (s : State) (c : Caller) (r : Req) : Option Status :=
  if tblDirty r ∨ r.scope ≠ 0 then some .eParam
  else match findTable (tblId r) with
    | none => some .eParam
    | some t =>
      if t.id = secSession.id ∧ c.role ≠ 1 ∧ c.role ≠ 4 then some .eAuth
      else if tblCount r = 0 ∨ t.count ≤ firstIdx r then some .eRange
      else if t.id = cnvSceneStore.id then (if tblCount r ≠ 1 then some .eSize else
        if 65535 < 16 + (SMap.get [] s.cfg.scene (firstIdx r)).length then some .eSize else none)
      else if t.count < firstIdx r + tblCount r then some .eRange
      else if 65535 < 16 + tblCount r * t.size then some .eSize
      else none

/-- The records that a TABLE_READ returns; an empty scene slot reads as 64 zero bytes. -/
def tableReadData (s : State) (r : Req) : List Byte :=
  match findTable (tblId r) with
  | none => []
  | some t =>
    if t.id = cnvSceneStore.id then
      match SMap.get [] s.cfg.scene (firstIdx r) with
      | [] => List.replicate 64 0
      | e => e
    else (List.range (tblCount r)).flatMap fun k => readRecord s t (firstIdx r + k)

/-- TABLE_READ (R60, R308, R325). A read of DIA_WAKE_LATCH lets the next power-up clear it (R479). -/
def tableReadOp (c : Caller) (r : Req) (s : State) : Answer × State :=
  match tableReadErr s c r with
  | some st => (.fail { status := st, param := tblId r }, s)
  | none =>
    (okWith (r.payload ++ tableReadData s r), if tblId r = 0x7002 then { s with dev := { s.dev with wakeRead := true } } else s)

/-! ### IMMEDIATE writes (R309) -/

/-- What a write to a parameter that acts at once is refused for (R171, R172, R180, R255, R287). -/
def actionErr (s : State) (p : ParamRow) (x : SetItem) : Option Status :=
  if p.id = dmxRdmReq.id then rdmReqFault s x.value
  else if p.id = dmxRdmDisc.id then (if discBusy s x.value then some .eBusy else none)
  else if p.id = dalCmd.id then dalCmdFault s x.value
  else if p.id = dalAddressRun.id then dalRunFault s x.value
  else if p.id = radTx.id then radTxFault s (leBytes x.len x.value)
  else if p.id = queFlush.id then (if flushBad x.value then some .eParam else none)
  else none

/-- What such a write does: a request queued, a run begun, flushes requested, or the RTC loaded with the truncated value (R66). -/
def actionDo (s : State) (p : ParamRow) (x : SetItem) : State :=
  if p.id = dmxRdmReq.id then rdmSubmit s x.value
  else if p.id = dmxRdmDisc.id then discStart s x.value
  else if p.id = dalCmd.id then dalSubmit s x.value
  else if p.id = dalAddressRun.id then dalRunStart s x.value
  else if p.id = radTx.id then radTxSubmit s (leBytes x.len x.value)
  else if p.id = queFlush.id then queFlushMask s x.value
  else if p.id = timRtcSet.id then
    let s1 := loadRtc s (timeDec x.value)
    holdCheck { s1 with tim := { s1.tim with rtcValid := true } }
  else s

/-- One item of an IMMEDIATE SET, with its place; an item that fails stops the rest. -/
def immItem (c : Caller) (r : Req) (acc : Except Err State) (y : Nat × SetItem) : Except Err State :=
  match acc, findParam y.2.id with
  | .error e, _ => .error e
  | .ok s, none => .ok s
  | .ok s, some p =>
    let no (st : Status) : Except Err State := .error { status := st, item := y.1, param := p.id }
    match actionErr s p y.2 with
    | some st => no st
    | none =>
      if p.wo ∨ p.id = timRtcSet.id then .ok (actionDo s p y.2)
      else
        let n := (instancesOf p r).foldl (fun a i => a.setVal p i y.2.value) s.imm
        match secWriteErrs s c p.id n with
        | e :: _ => .error { e with item := y.1 }
        | [] => .ok { s with imm := n }

/-- What a write to IMMEDIATE parameters or records is refused for before its values are judged: rights and the node's state. -/
def immErr (s : State) (c : Caller) (x : Item) : Option Err :=
  ((itemRights s.cfg c.tenant c.role x ++ itemState s s.cfg [] x).head?).map (inRequest x.req x.op)

/-- What follows an IMMEDIATE write: the settings, and what sessions and roles make of it. -/
def immWritten (old : Store) (s : State) : State := saveSettings (secWritten s old)

/-- A SET of IMMEDIATE parameters (R309). -/
def setNow (c : Caller) (r : Req) (s : State) : Answer × State :=
  match immErr s c { op := 0x02, req := r } with
  | some e => (.fail e, s)
  | none => match (numbered r.items).foldl (immItem c r) (.ok s) with
    | .error e => (.fail e, s)
    | .ok s1 => (okWith [], immWritten s.imm s1)

/-- A parameter's class is EDGE; an unknown ID is judged elsewhere. -/
def edgeId (id : Nat) : Bool :=
  match findParam id with
  | some p => p.edge
  | none => true

/-- SET (R309, R310). -/
def setOp (c : Caller) (r : Req) (s : State) : Answer × State :=
  if r.txn then addItem 0x02 c r s
  else match itemForm { op := 0x02, req := r } with
    | some e => (.fail e, s)
    | none =>
      if r.items.all fun y => edgeId y.id then ownTxn 0x02 c r s
      else if r.items.any fun y => edgeId y.id then (failWith .eParam, s)
      else setNow c r s

/-- A TABLE_WRITE of an IMMEDIATE table (R296, R309, R420, R426). -/
def tableNow (c : Caller) (r : Req) (t : TableSpec) (s : State) : Answer × State :=
  match immErr s c { op := 0x20, req := r } with
  | some e => (.fail e, s)
  | none =>
    let n := (List.range (tblCount r)).foldl (fun a k => a.setRow t (firstIdx r + k) (tblRec t r k)) s.imm
    match secWriteErrs s c t.id n with
    | e :: _ => (.fail e, s)
    | [] => (okWith [], immWritten s.imm { s with imm := n })

/-- TABLE_WRITE (R309, R310, R325). -/
def tableWriteOp (c : Caller) (r : Req) (s : State) : Answer × State :=
  if r.txn then addItem 0x20 c r s
  else match itemForm { op := 0x20, req := r } with
    | some e => (.fail e, s)
    | none => match findTable (tblId r) with
      | none => (failWith .eParam, s)
      | some t => if t.edge then ownTxn 0x20 c r s else tableNow c r t s

/-! ### Transactions (R310, R311) -/

/-- TXN_OPEN: OK with the new transaction's ID (R310). -/
def txnOpenOp (c : Caller) (_r : Req) (s : State) : Answer × State :=
  if 32 ≤ s.ox.open_.length then (failWith .eCapacity, s)
  else
    let id := newId s
    let t : OpenTxn := { id := id, ident := c.ident, tenant := c.tenant, role := c.role, items := [], at_ := s.tim.up }
    let s1 := noteId s id
    (.done .ok id [], { s1 with ox := { s1.ox with open_ := s1.ox.open_ ++ [t] } })

/-- TXN_COMMIT_AT (R53 to R57, R311, R312). -/
def txnCommitOp (c : Caller) (r : Req) (s : State) : Answer × State :=
  let b := r.payload
  match openOf s c r with
  | .error st => (failWith st, s)
  | .ok t => match commitForm b with
    | some st => (failWith st, s)
    | none => match commitEdgeErr s b with
      | some st => (failWith st, s)
      | none =>
        let next := byteOf b 0 == 2
        if involved s t.items ≠ [] then startStage s 0x11 r c t.id (commitFrame s b) (byteOf b 0) t.items
        else
          let j := if next then commitNext s 1 else commitFrame s b
          match commitHere (closeTxn s t.id) c t.id j t.items with
          | .error e => (.fail e, s)
          | .ok s1 => (.done .accepted 0 (acceptedBytes false j t.id), s1)

/-- TXN_ABORT: E_STATE where the transaction is accepted already (R56, R311). -/
def txnAbortOp (c : Caller) (r : Req) (s : State) : Answer × State :=
  match openOf s c r with
  | .ok t => (okWith [], closeTxn s t.id)
  | .error .eTxn => (failWith (if (allAccepted s).any fun x => x.id == r.txnId.toNat then .eState else .eTxn), s)
  | .error st => (failWith st, s)

/-- STREAM_BIND (R314). -/
def streamBindOp (c : Caller) (r : Req) (s : State) : Answer × State :=
  if r.txn then addItem 0x22 c r s
  else match itemForm { op := 0x22, req := r } with
    | some e => (.fail e, s)
    | none => ownTxn 0x22 c r s

/-- REWIND (R95). -/
def rewindOp (c : Caller) (r : Req) (s : State) : Answer × State :=
  if r.txn then addItem 0x23 c r s
  else match itemForm { op := 0x23, req := r } with
    | some e => (.fail e, s)
    | none => ownTxn 0x23 c r s

/-- A transaction is being staged to the nodes of a stack. -/
def stagedNow (s : State) (id : Nat) : Bool := s.stk.relays.any fun x => x.op == 0x11 && (x.stage.map (·.1)) == some id

/-- The open transactions whose DEV_TXN_IDLE has passed (R310). -/
def idleTxns (s : State) : List OpenTxn :=
  s.ox.open_.filter fun x => decide (x.at_ + s.imm.v devTxnIdle * sec ≤ s.tim.up) && !stagedNow s x.id

/-- TXN_IDLE_EXPIRY (R310). -/
def execTxnIdleExpiry (t : Time) (s : State) : Host.Outcome State Fault Refusal :=
  let s1 := advance s t
  .next ((idleTxns s1).foldl (fun a x => notify (closeTxn a x.id) 0x0003 (leBytes 2 x.id ++ leBytes 6 0)) s1)

/-! ### Arming and confirmation (R438, R439, R445, R447) -/

/-- The request goes to every node of a stack that this node is master of. -/
def toStack (s : State) (r : Req) : Bool := r.node == 0x3F && s.dev.stackEn && s.stk.role == 1

/-- IMAGE_ARM (R438, R439). -/
def armOp (c : Caller) (r : Req) (s : State) : Answer × State :=
  if toStack s r then
    match imageErr s c with
    | some st => (failWith st, s)
    | none => match armPayload r.payload with
      | some st => (failWith st, s)
      | none => startArm s r c
  else imageArm c r s

/-- The master orders its set back with cause ORDERED, to reset at the next edge (R447). -/
def orderBack (s : State) : State :=
  if s.upd.state = 6 then
    let s1 := fallback s 5
    { s1 with upd := { s1.upd with resetWanted := true } }
  else s

/-- A node that is not in TRIAL for the hash confirmed: E_TXN names it, and the master orders back (R447). -/
def confirmFails (n : Nat) (st : Status) (s : State) : Answer × State :=
  (.fail { status := .eTxn, node := some n, cause := some st }, orderBack s)

/-- IMAGE_CONFIRM (R445, R447, R448): in a stack the members confirm first and the master last. -/
def confirmOp (c : Caller) (r : Req) (s : State) : Answer × State :=
  if toStack s r then
    match imageErr s c with
    | some st => (failWith st, s)
    | none =>
      let others := s.stk.reach - Nat.land s.stk.reach (2 ^ s.stk.index)
      if s.upd.state ≠ 6 then confirmFails s.stk.index .eState s
      else if r.payload ≠ manifestHash (runningManifest s) then confirmFails s.stk.index .eVerify s
      else if others = 0 then (okWith [], confirmSet s)
      else (.wait, { relayDown s 0x63 r c others [] [] with upd := { s.upd with confirming := true } })
  else imageConfirm c r s

/-! ### The commands -/

/-- GET (R60, R308). -/
def execGet (r : Req) (s : State) : Host.Outcome State Fault Refusal := .next (serve 0x01 getOp r s)

/-- SET (R309). -/
def execSet (r : Req) (s : State) : Host.Outcome State Fault Refusal := .next (serve 0x02 setOp r s)

/-- SNAPSHOT_GET (R61). -/
def execSnapshotGet (r : Req) (s : State) : Host.Outcome State Fault Refusal := .next (serve 0x03 snapshotGetOp r s)

/-- TABLE_WRITE (R309, R325). -/
def execTableWrite (r : Req) (s : State) : Host.Outcome State Fault Refusal := .next (serve 0x20 tableWriteOp r s)

/-- TABLE_READ (R308, R325). -/
def execTableRead (r : Req) (s : State) : Host.Outcome State Fault Refusal := .next (serve 0x21 tableReadOp r s)

/-- TXN_OPEN (R310). -/
def execTxnOpen (r : Req) (s : State) : Host.Outcome State Fault Refusal := .next (serve 0x10 txnOpenOp r s)

/-- TXN_COMMIT_AT (R311). -/
def execTxnCommitAt (r : Req) (s : State) : Host.Outcome State Fault Refusal := .next (serve 0x11 txnCommitOp r s)

/-- TXN_ABORT (R311). -/
def execTxnAbort (r : Req) (s : State) : Host.Outcome State Fault Refusal := .next (serve 0x12 txnAbortOp r s)

/-- STREAM_BIND (R314). -/
def execStreamBind (r : Req) (s : State) : Host.Outcome State Fault Refusal := .next (serve 0x22 streamBindOp r s)

/-- REWIND (R95). -/
def execRewind (r : Req) (s : State) : Host.Outcome State Fault Refusal := .next (serve 0x23 rewindOp r s)

/-- TIM_RTC_SET (R66): a SET that names it. -/
def execTimRtcSet (r : Req) (s : State) : Host.Outcome State Fault Refusal := .next (serve 0x02 setOp r s)

/-- FIX_SCENE_RECALL (R121): a SET that recalls a cue; the values take hold from its commit frame. -/
def execFixSceneRecall (r : Req) (s : State) : Host.Outcome State Fault Refusal := .next (serve 0x02 setOp r s)

/-- FIX_SCENE_RELEASE (R120): a SET that releases a cue. -/
def execFixSceneRelease (r : Req) (s : State) : Host.Outcome State Fault Refusal := .next (serve 0x02 setOp r s)

/-- FIX_FAULT_CLEAR (R223): a SET that names it. -/
def execFixFaultClear (r : Req) (s : State) : Host.Outcome State Fault Refusal := .next (serve 0x02 setOp r s)

/-- FIX_FLOOR_SET (R324): a ZONE-scope SET. -/
def execFixFloorSet (r : Req) (s : State) : Host.Outcome State Fault Refusal := .next (serve 0x02 setOp r s)

/-- FIX_ENABLE_SET (R324): a ZONE-scope SET. -/
def execFixEnableSet (r : Req) (s : State) : Host.Outcome State Fault Refusal := .next (serve 0x02 setOp r s)

/-- DMX_RDM_REQ (R171): a SET that queues an RDM request. -/
def execDmxRdmReq (r : Req) (s : State) : Host.Outcome State Fault Refusal := .next (serve 0x02 setOp r s)

/-- DMX_RDM_DISC (R172): a SET that starts discovery. -/
def execDmxRdmDisc (r : Req) (s : State) : Host.Outcome State Fault Refusal := .next (serve 0x02 setOp r s)

/-- DAL_CMD (R180): a SET that queues a forward frame. -/
def execDalCmd (r : Req) (s : State) : Host.Outcome State Fault Refusal := .next (serve 0x02 setOp r s)

/-- DAL_ADDRESS_RUN (R180): a SET that starts address allocation. -/
def execDalAddressRun (r : Req) (s : State) : Host.Outcome State Fault Refusal := .next (serve 0x02 setOp r s)

/-- RAD_TX (R255): a SET that queues a radio frame. -/
def execRadTx (r : Req) (s : State) : Host.Outcome State Fault Refusal := .next (serve 0x02 setOp r s)

/-- QUE_FLUSH (R287): a SET that requests flushes. -/
def execQueFlush (r : Req) (s : State) : Host.Outcome State Fault Refusal := .next (serve 0x02 setOp r s)

/-- RED_SWITCH (R379): a SET whose transaction makes the active release the lease at its edge. -/
def execRedSwitch (r : Req) (s : State) : Host.Outcome State Fault Refusal := .next (serve 0x02 setOp r s)

/-- RED_UNFIT_CLEAR (R380): a SET whose transaction returns an UNFIT shadow to SYNCING. -/
def execRedUnfitClear (r : Req) (s : State) : Host.Outcome State Fault Refusal := .next (serve 0x02 setOp r s)

/-- CAL_START (R490): a SET whose transaction starts a calibration pass at its edge. -/
def execCalStart (r : Req) (s : State) : Host.Outcome State Fault Refusal := .next (serve 0x02 setOp r s)

/-- IMAGE_ARM (R438). -/
def execImageArm (r : Req) (s : State) : Host.Outcome State Fault Refusal := .next (serve 0x62 armOp r s)

/-- IMAGE_DISARM (R438): IMAGE_ARM with ACTION 0x02. -/
def execImageDisarm (r : Req) (s : State) : Host.Outcome State Fault Refusal := .next (serve 0x62 armOp r s)

/-- IMAGE_CONFIRM (R445). -/
def execImageConfirm (r : Req) (s : State) : Host.Outcome State Fault Refusal := .next (serve 0x63 confirmOp r s)

end Sys2Proof.Machine
end

