-- ==== Sys2Proof/Machine/Relay.lean ====
section
/-! DEFINITION. Relay messages (15.6): requests executed on a member, answers collected by the master, staged transactions and their verdicts,
the commit order, and notifications on their way up. -/

namespace Sys2Proof.Machine

/-! ### Headers (Table 15-6) -/

/-- A relay message passed on out of a port that is UP, as it came: from the master to a node or to all, or from a member to the master (R343,
R344). -/
def passOn (s : State) (port kind src dst : Nat) (h : RelayHdr) (body : List Byte) : State :=
  if casUp s port then
    casQueue s port 1 (packetsOf 1 src dst 0
      (relayHeader kind h.path h.tenant h.role h.session h.relayId h.txnId h.status h.node body.length ++ body))
  else s

/-- A relay message of so many body bytes that arrived from above, or from below, is acknowledged (R348, R357). -/
def tookDown (s : State) (len : Nat) : State := if isMember s then casTook s 0 1 (16 + len) else s

/-- One that arrived from below. -/
def tookUp (s : State) (len : Nat) : State := if s.dev.stackEn then casTook s 1 1 (16 + len) else s

/-- The path under which a relayed request executes (R356). -/
def relayPath (h : RelayHdr) : Path := .mb3 h.path h.tenant h.role h.session h.relayId

/-- The node executes what the master sends down: an enumerated member (R343). -/
def takesRelay (s : State) : Bool := isMember s && s.stk.enumerated

/-- What an error response or a verdict says (Table 13-8). -/
def errOf (st : Nat) (node : Nat) (b : List Byte) : Err := {
  status := Status.ofCode st, item := leAt b 0 2, node := some node, cause := some (Status.ofCode (byteOf b 3)), param := leAt b 4 2
  record := leAt b 8 4, ownerParam := leAt b 12 2, ownerRecord := leAt b 16 4 }

/-! ### Requests (R354 to R357) -/

/-- What carries out an opcode on a node. -/
def handlerOf (op : Nat) : Caller → Req → State → Answer × State :=
  if op = 0x01 then getOp
  else if op = 0x02 then setOp
  else if op = 0x03 then snapshotGetOp
  else if op = 0x10 then txnOpenOp
  else if op = 0x11 then txnCommitOp
  else if op = 0x12 then txnAbortOp
  else if op = 0x20 then tableWriteOp
  else if op = 0x21 then tableReadOp
  else if op = 0x22 then streamBindOp
  else if op = 0x23 then rewindOp
  else if op = 0x30 then diag
  else if op = 0x40 then logRead
  else if op = 0x41 then logClear
  else if op = 0x42 then cursorSet
  else if op = 0x43 then windowReadOp
  else if op = 0x50 then keyUpdate
  else if op = 0x51 then attestOp
  else if op = 0x60 then imageBlock
  else if op = 0x61 then imageVerify
  else if op = 0x62 then armOp
  else if op = 0x63 then confirmOp
  else fun _ _ s => (failWith .eOpcode, s)

/-- A relayed request executed on this node; one that its state does not permit is answered E_STATE (R344). -/
def runRelayed (op : Nat) (r : Req) (s : State) : State :=
  if answers s r.path then
    let s1 := serve op (handlerOf op) r s
    if op = 0x30 ∧ diagRestarts r s then toDawn s1 else s1
  else sendResp s r.path (respBytes s op r .eState 0 (errBytes s { status := .eState }))

/-- RELAY_REQUEST (R343, R355 to R357): passed on downward unless it is for this node alone, and executed where it is for this node. -/
def execRelayRequest (h : RelayHdr) (opcode : Nat) (r : Req) (s : State) : Host.Outcome State Fault Refusal :=
  let s1 := tookDown (advance s r.t) (reqBytes opcode r).length
  let s2 := if r.node = s1.stk.index ∧ s1.stk.enumerated then s1 else passOn s1 1 1 0 r.node h (reqBytes opcode r)
  .next (if isMember s = false then s
    else if takesRelay s1 ∧ (r.node = s1.stk.index ∨ r.node = 0x3F) then runRelayed opcode { r with path := relayPath h } s2
    else s2)

/-- Blocks of a SNAPSHOT_GET in ascending index, after the frame of the master's own (R308). -/
def joinBlocks (l : List (Nat × List Byte)) : List Byte :=
  (((l.find? fun x => x.2 != []).map fun x => x.2.take 8).getD (leBytes 8 0))
    ++ (List.range 32).flatMap fun n => ((l.find? fun x => x.1 == n).map fun x => x.2.drop 8).getD []

/-- The blocks of a SNAPSHOT_GET name one frame (R61). -/
def sameFrame (l : List (Nat × List Byte)) : Bool := l.all fun x => l.all fun y => x.2.take 8 == y.2.take 8

/-- All nodes have answered a request for every node (R308, R355, R447). A SNAPSHOT_GET whose nodes answered from different frames is
asked again (R61; DESIGN CHOICE, log entry 84). -/
def endSpread (s0 : State) (x : Relay) : State :=
  let s := endRelay s0 x
  let bad := firstFailed x.failed
  if x.op = 0x63 then
    match bad with
    | some e => giveAnswer x (confirmFails (e.node.getD 0) e.status s)
    | none => giveAnswer x (if s.upd.state = 6 then (okWith [], confirmSet s) else if s.upd.state = 7 then (okWith [], s)
      else confirmFails s.stk.index .eState s)
  else match bad with
    | some e => giveAnswer x (.fail e, s)
    | none =>
      if x.op = 0x03 then
        if sameFrame x.answers then giveAnswer x (okWith (joinBlocks x.answers), s)
        else giveAnswer x (snapshotGetOp (callerOf s x.op x.req.path) x.req s)
      else match x.answers.find? fun y => y.1 == s.stk.index with
        | some y => finish s x.op x.req y.2
        | none => giveAnswer x (okWith [], s)

/-- RELAY_RESPONSE (R308, R354, R355, R357): passed on upward by a member; the master posts the response of the one node asked, or collects
those of all. -/
def execRelayResponse (h : RelayHdr) (body : List Byte) (s0 : State) : Host.Outcome State Fault Refusal :=
  let s := tookUp s0 body.length
  .next (if isMember s then passOn s 0 2 h.node 0 h body
    else match s.stk.relays.find? fun x => x.id == h.relayId && x.stage.isNone && bitAt x.waiting h.node with
      | none => s
      | some x =>
        if x.target ≠ 0x3F then finish (endRelay s x) x.op x.req body
        else
          let payload := body.drop 24
          let st := byteOf body 6
          let y : Relay := { x with
            waiting := x.waiting - 2 ^ h.node
            answers := if st < 0x10 then x.answers ++ [(h.node, if x.op = 0x03 then payload else body)] else x.answers
            failed := if st < 0x10 then x.failed else x.failed ++ [(h.node, errOf st h.node payload)] }
          let s1 := { s with stk := { s.stk with relays := s.stk.relays.map fun z => if z = x then y else z } }
          if y.waiting = 0 then endSpread s1 y else s1)

/-! ### Staged transactions (R312, R353, R439) -/

/-- What a member makes of a STAGE: the frame it judged it for, and why it fails. -/
def stageErr (s : State) (h : RelayHdr) (frame mode : Nat) (xs : List Item) : Nat × Option Err :=
  match xs with
  | [a, b] =>
    if a.op = 0x62 ∧ b.op = 0x63 then (frame, (armStageErr s a.req b.req.payload).map fun st => { status := st })
    else stageItems xs
  | _ => stageItems xs
where
  stageItems (xs : List Item) : Nat × Option Err :=
    let j := if mode = 2 then commitNext s (20 * us) else frame
    if s.frm.running = false then (j, some { status := .eState })
    else match if mode = 2 then none else edgeErr s j with
      | some st => (j, some { status := st })
      | none => (j, txnErr s h.tenant h.role j xs)

/-- RELAY_STAGE (R312, R353, R356, R357): validated against this node's state and staged, and one VERDICT sent up. -/
def execRelayStage (h : RelayHdr) (frame mode : Nat) (items : List (Nat × Req)) (s0 : State) :
    Host.Outcome State Fault Refusal :=
  let s := tookDown s0 (16 + (items.map fun x => up8 (reqBytes x.1 x.2).length).sum)
  let xs : List Item := items.map fun x => { op := x.1, req := { x.2 with path := relayPath h } }
  .next (if takesRelay s = false ∨ s.stk.detached then s
    else
      let v := stageErr s h frame mode xs
      let rest := s.stk.staged.filter fun x => !decide (x.id = h.txnId)
      let x : AccTxn := {
        id := h.txnId, frame := if mode = 2 then 0 else frame, tenant := h.tenant, role := h.role, items := xs, ordered := false }
      let s1 := { s with stk := { s.stk with staged := if v.2.isSome then rest else rest ++ [x] } }
      let st : Nat := match v.2 with
        | some e => e.status.code
        | none => 0
      let body := leBytes 8 v.1 ++ match v.2 with
        | some e => errBytes s e
        | none => []
      casSend s1 0 1 0 (relayHeader 4 h.path h.tenant h.role h.session h.relayId h.txnId st s.stk.index body.length ++ body))

/-- RELAY_VERDICT (R312, R439): passed on upward by a member; the master commits when every node has validated, or rejects with E_TXN. -/
def execRelayVerdict (h : RelayHdr) (frame : Nat) (detail : List Byte) (s0 : State) : Host.Outcome State Fault Refusal :=
  let s := tookUp s0 (8 + detail.length)
  .next (if isMember s then passOn s 0 4 h.node 0 h (leBytes 8 frame ++ detail)
    else match s.stk.relays.find? fun x =>
        (x.stage.map (·.1)) == some h.txnId && bitAt x.waiting h.node && x.answers.elem (h.node, leBytes 2 h.relayId) with
      | none => s
      | some x =>
        let e := errOf h.status h.node detail
        let places := (itemsFor s h.node (relayItems s x)).map (·.1)
        let y : Relay := { x with
          waiting := x.waiting - 2 ^ h.node
          failed := if h.status < 0x10 then x.failed
            else x.failed ++ [(h.node, asTxn h.node (if x.op = 0x62 then [] else places) { e with cause := some (Status.ofCode h.status) })] }
        let s1 := { s with stk := { s.stk with relays := s.stk.relays.map fun z => if z = x then y else z } }
        if y.waiting ≠ 0 then s1
        else giveAnswer y (if y.op = 0x62 then endArm s1 y else endStage s1 y))

/-- COMMIT_RECEIVED (R353, R439): the staged transaction commits at E(j), a staged ARM or DISARM is carried out; one whose latch has passed
is discarded. The order goes on downward. -/
def execCommitReceived (txnId node j : Nat) (s : State) : Host.Outcome State Fault Refusal :=
  .next (if !isMember s then s
    else
      let s1 := casTime s 1 6 (leBytes 2 txnId ++ leBytes 1 node ++ leBytes 8 j)
      match s1.stk.staged.find? (·.id = txnId) with
      | none => s1
      | some x =>
        let s2 := { s1 with stk := { s1.stk with staged := s1.stk.staged.filter fun y => !decide (y = x) } }
        match x.items.find? fun i => i.op == 0x62 with
        | some a => if armErr s2 a.req.payload = none then armDone s2 a.req j else s2
        | none => if j < nextLatch s2 then noteDiscarded s2 { x with frame := j } else accept s2 { x with frame := j, ordered := true })

/-- RELAY_DISCARD (R312): the staged items of the transaction are discarded, and the message goes on downward. -/
def execRelayDiscard (h : RelayHdr) (s0 : State) : Host.Outcome State Fault Refusal :=
  let s := tookDown s0 0
  .next (if isMember s then
      let s1 := passOn s 1 5 0 0x3F h []
      { s1 with stk := { s1.stk with staged := s1.stk.staged.filter fun x => !decide (x.id = h.txnId) } }
    else s)

/-- RELAY_ROLE (R366): the member changes role at the edge named, at once where that edge has passed, and the message goes on downward. -/
def execRelayRole (h : RelayHdr) (role edge : Nat) (s0 : State) : Host.Outcome State Fault Refusal :=
  let s := tookDown s0 16
  .next (if isMember s then
      let s1 := passOn s 1 6 0 0x3F h (leBytes 1 role ++ leBytes 7 0 ++ leBytes 8 edge)
      let s2 := { s1 with red := { s1.red with roleAt := some (role, edge) } }
      if s2.frm.running then roleEdge s2 s2.frm.num else s2
    else s)

/-! ### What an enumeration finds (R342, R354, R447, R448) -/

/-- Requests that wait for a node that has been reset are never answered, but for a confirmation (R354, R448). -/
def dropAsked (s : State) (node : Nat) : State :=
  { s with stk := { s.stk with relays := s.stk.relays.filter fun x => !(x.stage.isNone && bitAt x.waiting node && x.op != 0x63) } }

/-- The confirmation sent again to a node that has not answered it (R448). -/
def askAgain (s : State) (node : Nat) : State :=
  match s.stk.relays.find? fun x => x.op == 0x63 && x.stage.isNone && bitAt x.waiting node with
  | none => s
  | some x =>
    let r := { x.req with target := BitVec.ofNat 8 node }
    let c := callerOf s 0x63 r.path
    let session := match r.path with
      | .mb2 n _ => n
      | _ => 0
    casSend s 1 1 node (relayHeader 1 (pathNo r.path) c.tenant c.role session x.id 0 0 0x3F (reqBytes 0x63 r).length ++ reqBytes 0x63 r)

/-- What the master does about a member: in TRIAL, one that is CONFIRMED under the master's own hash confirms the master, one that has
fallen back makes the master order back, and one in TRIAL again is asked again (R354, R447, R448). -/
def memberFound (s : State) (m : MemberIn) : State :=
  let s1 := if m.wasReset then dropAsked s m.node else s
  if s1.upd.state ≠ 6 ∨ m.hash ≠ manifestHash (runningManifest s1) then s1
  else if m.updState = 7 then confirmSet s1
  else if m.updState = 8 then orderBack s1
  else if m.updState = 6 ∧ m.wasReset ∧ s1.upd.confirming then askAgain s1 m.node
  else s1

/-- REPORT_RECEIVED (R342, R354, R447, R448): the master closes the enumeration and acts on what it finds of the members; a member passes
the report upstream. -/
def execReportReceived (x : ReportIn) (s : State) : Host.Outcome State Fault Refusal :=
  .next (if s.dev.stackEn = false then s
    else if isMember s then casTime s 0 8 (leBytes 1 x.index)
    else if s.stk.role = 1 then
      let n := min 32 (x.index + 1)
      x.found.foldl memberFound
        (casTime { s with stk := { s.stk with nodes := n, reach := reachAll n } } 1 7 (enumBody 0 true n (protoOf s)))
    else s)

/-! ### Notifications (R316, R357) -/

/-- A member's notification as the master pushes it: under its own SEQ, NODE naming the member. -/
def renumbered (s : State) (node : Nat) (b : List Byte) : List Byte :=
  b.take 4 ++ leBytes 4 s.que.seq ++ (b.drop 8).take 14 ++ leBytes 1 (node % 64) ++ b.drop 23

/-- RELAY_NOTIFY (R316, R357): passed on upward by a member; the master pushes it onto its own Q28. -/
def execRelayNotify (h : RelayHdr) (bytes : List Byte) (s0 : State) : Host.Outcome State Fault Refusal :=
  let s := tookUp s0 bytes.length
  .next (if isMember s then passOn s 0 7 h.node 0 h bytes
    else if s.dev.stackEn = false ∨ bytes.length < 24 then s
    else notifyBytes { s with que := { s.que with seq := (s.que.seq + 1) % 4294967296 } } (renumbered s h.node bytes))

end Sys2Proof.Machine
end

