-- ==== Sys2Proof/Machine/Dispatch.lean ====
section
/-! DEFINITION. Which meaning a command has: one arm per constructor of `Instr`, each a direct call. -/

namespace Sys2Proof.Machine

/-- The effect of a command on everything but the queue of commands. -/
def exec (i : Instr) (s : State) : Host.Outcome State Fault Refusal :=
  match i with
  | .vbatRise => Sys2Proof.Machine.execVbatRise s
  | .vbatLoss => Sys2Proof.Machine.execVbatLoss s
  | .mainRailsInRange bootSrc stackEn safeSel => Sys2Proof.Machine.execMainRailsInRange bootSrc stackEn safeSel s
  | .mainRailLoss t => Sys2Proof.Machine.execMainRailLoss t s
  | .resetNAssert t => Sys2Proof.Machine.execResetNAssert t s
  | .resetNRelease bootSrc stackEn safeSel => Sys2Proof.Machine.execResetNRelease bootSrc stackEn safeSel s
  | .dawnEnd inp => Sys2Proof.Machine.execDawnEnd inp s
  | .hostLoadTimeout => Sys2Proof.Machine.execHostLoadTimeout s
  | .duskEntry => Sys2Proof.Machine.execDuskEntry s
  | .duskComplete t => Sys2Proof.Machine.execDuskComplete t s
  | .wakeEvent input rising heldMs rtcSec => Sys2Proof.Machine.execWakeEvent input rising heldMs rtcSec s
  | .dieTempSample sensors => Sys2Proof.Machine.execDieTempSample sensors s
  | .overtemp => Sys2Proof.Machine.execOvertemp s
  | .railMeasure mv => Sys2Proof.Machine.execRailMeasure mv s
  | .tsnsRead ohms => Sys2Proof.Machine.execTsnsRead ohms s
  | .frameEdge inp => Sys2Proof.Machine.execFrameEdge inp s
  | .frameLatch => Sys2Proof.Machine.execFrameLatch s
  | .computeComplete t => Sys2Proof.Machine.execComputeComplete t s
  | .computeDeadline => Sys2Proof.Machine.execComputeDeadline s
  | .composerBand => Sys2Proof.Machine.execComposerBand s
  | .genlockPulse t => Sys2Proof.Machine.execGenlockPulse t s
  | .genlockPulseMissing => Sys2Proof.Machine.execGenlockPulseMissing s
  | .genlockLost => Sys2Proof.Machine.execGenlockLost s
  | .wclkPulse t => Sys2Proof.Machine.execWclkPulse t s
  | .ltcWord t timecode drop => Sys2Proof.Machine.execLtcWord t timecode drop s
  | .ltcWordMissing t => Sys2Proof.Machine.execLtcWordMissing t s
  | .ltcLost => Sys2Proof.Machine.execLtcLost s
  | .ptpOffsetSample t o source smp => Sys2Proof.Machine.execPtpOffsetSample t o source smp s
  | .syncSampleTimeout t => Sys2Proof.Machine.execSyncSampleTimeout t s
  | .holdoverExpiry t => Sys2Proof.Machine.execHoldoverExpiry t s
  | .rtcUpdate t => Sys2Proof.Machine.execRtcUpdate t s
  | .timRtcSet r => Sys2Proof.Machine.execTimRtcSet r s
  | .txTimestampCapture port tag ptp t => Sys2Proof.Machine.execTxTimestampCapture port tag ptp t s
  | .txTimestampPop port => Sys2Proof.Machine.execTxTimestampPop port s
  | .toutPulse n => Sys2Proof.Machine.execToutPulse n s
  | .timAlarmFire n => Sys2Proof.Machine.execTimAlarmFire n s
  | .tinCapture n rising t => Sys2Proof.Machine.execTinCapture n rising t s
  | .dmaTailWrite v => Sys2Proof.Machine.execDmaTailWrite v s
  | .dmaDescriptorRead desc => Sys2Proof.Machine.execDmaDescriptorRead desc s
  | .dmaEntryWritten t pcieError map data => Sys2Proof.Machine.execDmaEntryWritten t pcieError map data s
  | .ringSpaceFreed ring => Sys2Proof.Machine.execRingSpaceFreed ring s
  | .sacnClose => Sys2Proof.Machine.execSacnClose s
  | .layerSourceLost layer => Sys2Proof.Machine.execLayerSourceLost layer s
  | .contentStreamReceived t stream complete e => Sys2Proof.Machine.execContentStreamReceived t stream complete e s
  | .bar2RingWrite offset bytes => Sys2Proof.Machine.execBar2RingWrite offset bytes s
  | .ringAWpWrite v => Sys2Proof.Machine.execRingAWpWrite v s
  | .ringACtrlWrite v => Sys2Proof.Machine.execRingACtrlWrite v s
  | .captureRelWrite v => Sys2Proof.Machine.execCaptureRelWrite v s
  | .dramGrant requests => Sys2Proof.Machine.execDramGrant requests s
  | .scheduleFire entry => Sys2Proof.Machine.execScheduleFire entry s
  | .solarCompute date => Sys2Proof.Machine.execSolarCompute date s
  | .fixSceneRecall r => Sys2Proof.Machine.execFixSceneRecall r s
  | .fixSceneRelease r => Sys2Proof.Machine.execFixSceneRelease r s
  | .fixFaultClear r => Sys2Proof.Machine.execFixFaultClear r s
  | .fixFloorSet r => Sys2Proof.Machine.execFixFloorSet r s
  | .fixEnableSet r => Sys2Proof.Machine.execFixEnableSet r s
  | .strandTxStart pin => Sys2Proof.Machine.execStrandTxStart pin s
  | .dmxPacketStart port => Sys2Proof.Machine.execDmxPacketStart port s
  | .rdmTransactionStart port t => Sys2Proof.Machine.execRdmTransactionStart port t s
  | .rdmResponse port t respType checksumOk pd => Sys2Proof.Machine.execRdmResponse port t respType checksumOk pd s
  | .rdmResponseTimeout port t => Sys2Proof.Machine.execRdmResponseTimeout port t s
  | .dmxRdmReq r => Sys2Proof.Machine.execDmxRdmReq r s
  | .dmxRdmDisc r => Sys2Proof.Machine.execDmxRdmDisc r s
  | .rdmDiscDone port t uids => Sys2Proof.Machine.execRdmDiscDone port t uids s
  | .rdmTelemetryPoll record => Sys2Proof.Machine.execRdmTelemetryPoll record s
  | .daliFrameSend bus => Sys2Proof.Machine.execDaliFrameSend bus s
  | .daliCollision bus => Sys2Proof.Machine.execDaliCollision bus s
  | .daliBackwardFrame bus value t => Sys2Proof.Machine.execDaliBackwardFrame bus value t s
  | .daliPoll bus address => Sys2Proof.Machine.execDaliPoll bus address s
  | .daliReplyTimeout bus t => Sys2Proof.Machine.execDaliReplyTimeout bus t s
  | .daliBusDown bus => Sys2Proof.Machine.execDaliBusDown bus s
  | .daliBusRestored bus => Sys2Proof.Machine.execDaliBusRestored bus s
  | .dalCmd r => Sys2Proof.Machine.execDalCmd r s
  | .dalAddressRun r => Sys2Proof.Machine.execDalAddressRun r s
  | .dalAddressDone bus t found => Sys2Proof.Machine.execDalAddressDone bus t found s
  | .sacnDataPacket port => Sys2Proof.Machine.execSacnDataPacket port s
  | .sacnQuietStart port => Sys2Proof.Machine.execSacnQuietStart port s
  | .sacnSyncPacket port => Sys2Proof.Machine.execSacnSyncPacket port s
  | .rasterLineStart port fetched => Sys2Proof.Machine.execRasterLineStart port fetched s
  | .rasterPhaseStep port forward => Sys2Proof.Machine.execRasterPhaseStep port forward s
  | .rasterFetchAdvance port => Sys2Proof.Machine.execRasterFetchAdvance port s
  | .pwmPeriodStart channel => Sys2Proof.Machine.execPwmPeriodStart channel s
  | .pdmSlot channel => Sys2Proof.Machine.execPdmSlot channel s
  | .matrixRowSlot => Sys2Proof.Machine.execMatrixRowSlot s
  | .msyncEdge t => Sys2Proof.Machine.execMsyncEdge t s
  | .msyncLost => Sys2Proof.Machine.execMsyncLost s
  | .snsSample point t tenMv probe => Sys2Proof.Machine.execSnsSample point t tenMv probe s
  | .diagStaleExpiry point => Sys2Proof.Machine.execDiagStaleExpiry point s
  | .glintProbe point => Sys2Proof.Machine.execGlintProbe point s
  | .radioCellPrepare port scriptUs => Sys2Proof.Machine.execRadioCellPrepare port scriptUs s
  | .radioSlotStart port => Sys2Proof.Machine.execRadioSlotStart port s
  | .radioTxtrig port => Sys2Proof.Machine.execRadioTxtrig port s
  | .radioSfdStamp port t => Sys2Proof.Machine.execRadioSfdStamp port t s
  | .radioRxFetch port complete => Sys2Proof.Machine.execRadioRxFetch port complete s
  | .radioFrameReceived port f => Sys2Proof.Machine.execRadioFrameReceived port f s
  | .radioAckReceived port sfd correctionUs => Sys2Proof.Machine.execRadioAckReceived port sfd correctionUs s
  | .radioAckTimeout port => Sys2Proof.Machine.execRadioAckTimeout port s
  | .radioGuardEval port neigh t => Sys2Proof.Machine.execRadioGuardEval port neigh t s
  | .commandFrameBuild port => Sys2Proof.Machine.execCommandFrameBuild port s
  | .radioCivicDeferred port t => Sys2Proof.Machine.execRadioCivicDeferred port t s
  | .radTx r => Sys2Proof.Machine.execRadTx r s
  | .ethRxFrame port t f => Sys2Proof.Machine.execEthRxFrame port t f s
  | .pauseExpiry port => Sys2Proof.Machine.execPauseExpiry port s
  | .pauseWatchdog port => Sys2Proof.Machine.execPauseWatchdog port s
  | .pauseIgnoreEnd port => Sys2Proof.Machine.execPauseIgnoreEnd port s
  | .pauseRefresh port => Sys2Proof.Machine.execPauseRefresh port s
  | .ethTxFrameStart port t => Sys2Proof.Machine.execEthTxFrameStart port t s
  | .ethTxComplete port t => Sys2Proof.Machine.execEthTxComplete port t s
  | .ethLinkChange port up => Sys2Proof.Machine.execEthLinkChange port up s
  | .headWrite q v => Sys2Proof.Machine.execHeadWrite q v s
  | .qregFlush q v => Sys2Proof.Machine.execQregFlush q v s
  | .queFlush r => Sys2Proof.Machine.execQueFlush r s
  | .queueFlushDone q => Sys2Proof.Machine.execQueueFlushDone q s
  | .pushLenWrite q v => Sys2Proof.Machine.execPushLenWrite q v s
  | .queuePushResume q => Sys2Proof.Machine.execQueuePushResume q s
  | .qspiRead offset len => Sys2Proof.Machine.execQspiRead offset len s
  | .qspiWrite offset bytes => Sys2Proof.Machine.execQspiWrite offset bytes s
  | .qspiStatus => Sys2Proof.Machine.execQspiStatus s
  | .timeSecRead qspi t => Sys2Proof.Machine.execTimeSecRead qspi t s
  | .intStatusWrite v => Sys2Proof.Machine.execIntStatusWrite v s
  | .intMaskWrite v => Sys2Proof.Machine.execIntMaskWrite v s
  | .dmaBaseWrite v => Sys2Proof.Machine.execDmaBaseWrite v s
  | .dmaSizeWrite v => Sys2Proof.Machine.execDmaSizeWrite v s
  | .regWrite offset bytes => Sys2Proof.Machine.execRegWrite offset bytes s
  | .mbMalformed path bytes => Sys2Proof.Machine.execMbMalformed path bytes s
  | .consoleFrameError bytes => Sys2Proof.Machine.execConsoleFrameError bytes s
  | .get r => Sys2Proof.Machine.execGet r s
  | .set r => Sys2Proof.Machine.execSet r s
  | .snapshotGet r => Sys2Proof.Machine.execSnapshotGet r s
  | .tableWrite r => Sys2Proof.Machine.execTableWrite r s
  | .tableRead r => Sys2Proof.Machine.execTableRead r s
  | .txnOpen r => Sys2Proof.Machine.execTxnOpen r s
  | .txnCommitAt r => Sys2Proof.Machine.execTxnCommitAt r s
  | .txnAbort r => Sys2Proof.Machine.execTxnAbort r s
  | .streamBind r => Sys2Proof.Machine.execStreamBind r s
  | .rewind r => Sys2Proof.Machine.execRewind r s
  | .dedupeExpiry t => Sys2Proof.Machine.execDedupeExpiry t s
  | .txnIdleExpiry t => Sys2Proof.Machine.execTxnIdleExpiry t s
  | .cascadeLaneLock port lane goodHeaders => Sys2Proof.Machine.execCascadeLaneLock port lane goodHeaders s
  | .cascadeLockLoss port lane => Sys2Proof.Machine.execCascadeLockLoss port lane s
  | .cascadeAlignSlot port counts => Sys2Proof.Machine.execCascadeAlignSlot port counts s
  | .cascadeLinkSlot port mode stackEn role devState => Sys2Proof.Machine.execCascadeLinkSlot port mode stackEn role devState s
  | .stkRoleDecide => Sys2Proof.Machine.execStkRoleDecide s
  | .enumReceived index final nodes proto => Sys2Proof.Machine.execEnumReceived index final nodes proto s
  | .reportReceived candidate => Sys2Proof.Machine.execReportReceived candidate s
  | .syncSend t => Sys2Proof.Machine.execSyncSend t s
  | .probeSend t => Sys2Proof.Machine.execProbeSend t s
  | .syncReceived tRx tSync crcOk => Sys2Proof.Machine.execSyncReceived tRx tSync crcOk s
  | .probeReceived t seq residence crcOk => Sys2Proof.Machine.execProbeReceived t seq residence crcOk s
  | .echoReceived port t1 t4 seq residence crcOk => Sys2Proof.Machine.execEchoReceived port t1 t4 seq residence crcOk s
  | .edgeReceived k e holdover crcOk => Sys2Proof.Machine.execEdgeReceived k e holdover crcOk s
  | .edgeHoldover => Sys2Proof.Machine.execEdgeHoldover s
  | .slipReceived port k node => Sys2Proof.Machine.execSlipReceived port k node s
  | .commitReceived txnId node j => Sys2Proof.Machine.execCommitReceived txnId node j s
  | .creditReceived port cls seq credits => Sys2Proof.Machine.execCreditReceived port cls seq credits s
  | .cmdRetransmit port cls => Sys2Proof.Machine.execCmdRetransmit port cls s
  | .relayRequest h opcode r => Sys2Proof.Machine.execRelayRequest h opcode r s
  | .relayResponse h body => Sys2Proof.Machine.execRelayResponse h body s
  | .relayStage h frame mode items => Sys2Proof.Machine.execRelayStage h frame mode items s
  | .relayVerdict h frame detail => Sys2Proof.Machine.execRelayVerdict h frame detail s
  | .relayDiscard h => Sys2Proof.Machine.execRelayDiscard h s
  | .relayRole h role edge => Sys2Proof.Machine.execRelayRole h role edge s
  | .relayNotify h bytes => Sys2Proof.Machine.execRelayNotify h bytes s
  | .heartbeatReceived t k smp release => Sys2Proof.Machine.execHeartbeatReceived t k smp release s
  | .mirrorAckReceived k fit devState counters => Sys2Proof.Machine.execMirrorAckReceived k fit devState counters s
  | .leaseTake t => Sys2Proof.Machine.execLeaseTake t s
  | .peerActChange level t => Sys2Proof.Machine.execPeerActChange level t s
  | .helloReceived deviceId nodes active proto resultLevel => Sys2Proof.Machine.execHelloReceived deviceId nodes active proto resultLevel s
  | .snapshotReceived part last j items => Sys2Proof.Machine.execSnapshotReceived part last j items s
  | .journalReceived t j txnId items => Sys2Proof.Machine.execJournalReceived t j txnId items s
  | .inputReceived k step h rings tsns fixtures => Sys2Proof.Machine.execInputReceived k step h rings tsns fixtures s
  | .resultReceived k crcs => Sys2Proof.Machine.execResultReceived k crcs s
  | .continuityReceived k sacn counters neighbours commands => Sys2Proof.Machine.execContinuityReceived k sacn counters neighbours commands s
  | .redSwitch r => Sys2Proof.Machine.execRedSwitch r s
  | .redUnfitClear r => Sys2Proof.Machine.execRedUnfitClear r s
  | .redTestDue t => Sys2Proof.Machine.execRedTestDue t s
  | .energyRetrim domain cls value => Sys2Proof.Machine.execEnergyRetrim domain cls value s
  | .engHistoryMinute t => Sys2Proof.Machine.execEngHistoryMinute t s
  | .keyUpdateInstall r => Sys2Proof.Machine.execKeyUpdateInstall r s
  | .keyUpdateInvalidate r => Sys2Proof.Machine.execKeyUpdateInvalidate r s
  | .keyUpdateProvision r => Sys2Proof.Machine.execKeyUpdateProvision r s
  | .keyUpdateTakeOwnership r => Sys2Proof.Machine.execKeyUpdateTakeOwnership r s
  | .keyUpdateReturn r => Sys2Proof.Machine.execKeyUpdateReturn r s
  | .keyUpdateReprovision r => Sys2Proof.Machine.execKeyUpdateReprovision r s
  | .keyUpdateRetire r => Sys2Proof.Machine.execKeyUpdateRetire r s
  | .attest r => Sys2Proof.Machine.execAttest r s
  | .tamperEvent input t => Sys2Proof.Machine.execTamperEvent input t s
  | .selftestFailure test noise => Sys2Proof.Machine.execSelftestFailure test noise s
  | .imageBlockManifest r => Sys2Proof.Machine.execImageBlockManifest r s
  | .imageBlockData r => Sys2Proof.Machine.execImageBlockData r s
  | .imageVerify r => Sys2Proof.Machine.execImageVerify r s
  | .imageArm r => Sys2Proof.Machine.execImageArm r s
  | .imageDisarm r => Sys2Proof.Machine.execImageDisarm r s
  | .imageConfirm r => Sys2Proof.Machine.execImageConfirm r s
  | .selectorWriteReset => Sys2Proof.Machine.execSelectorWriteReset s
  | .confirmWindowExpiry t => Sys2Proof.Machine.execConfirmWindowExpiry t s
  | .logTokenAdd code => Sys2Proof.Machine.execLogTokenAdd code s
  | .optimeWrite => Sys2Proof.Machine.execOptimeWrite s
  | .logRead r => Sys2Proof.Machine.execLogRead r s
  | .logClear r => Sys2Proof.Machine.execLogClear r s
  | .logClearDone log t => Sys2Proof.Machine.execLogClearDone log t s
  | .cursorSet r => Sys2Proof.Machine.execCursorSet r s
  | .windowRead r => Sys2Proof.Machine.execWindowRead r s
  | .diagStatus r => Sys2Proof.Machine.execDiagStatus r s
  | .diagRestart r => Sys2Proof.Machine.execDiagRestart r s
  | .diagDusk r => Sys2Proof.Machine.execDiagDusk r s
  | .diagRegRead r => Sys2Proof.Machine.execDiagRegRead r s
  | .calPassStart => Sys2Proof.Machine.execCalPassStart s
  | .calLineCalibrate line attempts => Sys2Proof.Machine.execCalLineCalibrate line attempts s
  | .calStart r => Sys2Proof.Machine.execCalStart r s
  | .threadWake thread causeKind causeValue waker t => Sys2Proof.Machine.execThreadWake thread causeKind causeValue waker t s
  | .threadBlock core t => Sys2Proof.Machine.execThreadBlock core t s
  | .threadSlice core t => Sys2Proof.Machine.execThreadSlice core t s
  | .threadExit core t => Sys2Proof.Machine.execThreadExit core t s
  | .ptpMessageInterval port master t => Sys2Proof.Machine.execPtpMessageInterval port master t s
  | .pcieLinkChange up t => Sys2Proof.Machine.execPcieLinkChange up t s
  | .unknownOpcodeRequest opcode r => Sys2Proof.Machine.execUnknownOpcodeRequest opcode r s
  | .daliDeviceFrame bus => Sys2Proof.Machine.execDaliDeviceFrame bus s

end Sys2Proof.Machine
end

