-- ==== Sys2Proof/Machine/Balls.lean ====
section
/-! DEFINITION. What the output balls do in each device state: high-impedance, the safe set, or their own unit's levels (R466, 21.4). -/

namespace Sys2Proof.Machine

/-- The groups of output balls of Table 21-3 and Table 21-4, and two of bank 0 (Table 23-2). -/
inductive Ball where
  | str (n : Nat)
  | dmxTx (n : Nat)
  | dmxDe (n : Nat)
  | daliTx (n : Nat)
  | rpClk (n : Nat)
  | rpDo (n : Nat)
  | rpTxtrig (n : Nat)
  | rpRxen (n : Nat)
  | rpCsN (n : Nat)
  | drv (n : Nat)
  | tout (n : Nat)
  | flow (n : Nat)
  | rasLanes (port : Nat)
  | actOut
  | ready
  | safeN
  | hqIrqN
  | testDo
  deriving DecidableEq, Repr

/-- What a ball does: a level held, high-impedance, or the level that its unit drives from committed frames and parameters. -/
inductive Level where
  | low
  | high
  | highZ
  | driven
  /-- Lanes that run but carry IDLE and ALIGN blocks only, with their forwarded clock (R196). -/
  | idleBlocks
  /-- Lanes that do not run. -/
  | stopped
  deriving DecidableEq, Repr

/-- A level from a Bool. -/
def heldLevel (b : Bool) : Level := if b then .high else .low

/-- The safe set of a ball under the SAFE_SEL strap (Table 21-3). -/
def safeSet (sel : Bool) : Ball → Level
  | .rpCsN _ => .high
  | .actOut => .low
  | .rasLanes _ => .idleBlocks
  | _ => if sel then .highZ else .low

/-- The balls that Table 21-3 keeps in the safe set while the node is READY: the light outputs. In SHADOW their units transmit
nothing (R373). -/
def lightBall : Ball → Bool
  | .str _ | .dmxTx _ | .dmxDe _ | .daliTx _ | .drv _ => true
  | _ => false

/-- The level of a strand pin in RUN or SHADOW (R166): its data line or, under a CLOCKED even pin, the clock. -/
def strLevel (s : State) (n : Nat) : Level :=
  let row (p : Nat) := (sending s).1.row spnPin p
  let tx (p : Nat) := SMap.get none s.wired.strands p
  if modeOf (row n) ≠ 0 then heldLevel (dataLevel (row n) (tx n) s.tim.now)
  else if n % 2 = 1 ∧ modeOf (row (n - 1)) = 2 then heldLevel (clockLevel (row (n - 1)) (tx (n - 1)) s.tim.now)
  else .driven

/-- The level of a DMX line in RUN or SHADOW: its packet, and mark between packets (R168). -/
def dmxLevel (s : State) (n : Nat) : Level :=
  if modeOf ((sending s).1.row dmxPort n) = 0 then .driven
  else heldLevel (((dmxGet s n).tx.map fun x => x.level s.tim.now).getD true)

/-- The level of DMXn_DE: asserted, but released from the end of a request to the next packet or request (R171). -/
def deLevel (s : State) (n : Nat) : Level :=
  if modeOf ((sending s).1.row dmxPort n) = 0 then .driven
  else heldLevel (((dmxGet s n).deOff.map fun t => decide (s.tim.now < t)).getD true)

/-- What the lanes of a raster port and its forwarded clock do in READY, RUN and SHADOW: they stop while the port is OFF (R195), and carry
line packets in RUN only. -/
def lanesLevel (s : State) (p : Nat) : Level :=
  if modeOf (rasRec s p) = 0 then .stopped else if (rasGet s p).scanning then .driven else .idleBlocks

/-- The level of a ball where the supplies and RESET_N let it be driven (R472, R473, Table 21-3, Table 21-4). ACT_OUT is low while the
PEER_ACT input is high, whatever the node's role (R364, R365). -/
def poweredBall (s : State) (b : Ball) : Level :=
  match b with
  | .ready => heldLevel (readyBall s)
  | .safeN => heldLevel (safeNBall s)
  | _ =>
    match s.dev.state with
    | .off | .standby => .highZ
    | .dawn | .safe | .dusk => safeSet s.dev.safeSel b
    | .ready | .run | .shadow =>
      match b with
      | .actOut => heldLevel (s.red.actOut && s.dev.state != .ready && !s.red.peerAct)
      | .flow n => heldLevel (flowLevel s n)
      | .tout n => heldLevel (toutLevel s n)
      | .rasLanes p => lanesLevel s p
      | _ =>
        if lightBall b ∧ s.dev.state = .ready then safeSet s.dev.safeSel b
        else match b with
          | .str n => strLevel s n
          | .dmxTx n => dmxLevel s n
          | .dmxDe n => deLevel s n
          | _ => .driven

/-- The level of a ball: high-impedance while RESET_N is low or a main rail is out of range (R466), as TEST_DO always is, whose TEST_EN is
tied low (R498). HQ_IRQ_N follows the interrupts that are pending (R300). -/
def ballLevel (s : State) (b : Ball) : Level :=
  if s.dev.rails = false ∨ s.dev.resetN = false ∨ b = .testDo then .highZ
  else if b = .hqIrqN ∧ s.dev.state.powered then heldLevel (!irqPending s)
  else poweredBall s b

end Sys2Proof.Machine
end

