-- ==== Sys2Proof/Safety.lean ====
section
/-! DEFINITION. The terms that claims about the block are stated in: a step that goes on, the parts of the state that a command leaves
alone, a request that is served on this node, and the invariants of the block. -/

namespace Sys2Proof.Machine

/-- The outcome is a next state: no command of this block stops it with a fault, and none is refused. -/
def Goes (o : Host.Outcome State Fault Refusal) : Prop := ∃ t, o = .next t

/-! ### Frames -/

/-- The parts of the state, one for each of its fields. -/
inductive Part where
  | pending | dev | tim | frm | con | src | fix | wired | ras | drv | rad | eth | que | host | ox | stk | red | eng | sec | upd | log | cal
  | sch | fab | imm | free | out
  deriving DecidableEq, Repr

/-- Two states agree in a part. -/
def agree (s t : State) : Part → Prop
  | .pending => t.pending = s.pending
  | .dev => t.dev = s.dev
  | .tim => t.tim = s.tim
  | .frm => t.frm = s.frm
  | .con => t.con = s.con
  | .src => t.src = s.src
  | .fix => t.fix = s.fix
  | .wired => t.wired = s.wired
  | .ras => t.ras = s.ras
  | .drv => t.drv = s.drv
  | .rad => t.rad = s.rad
  | .eth => t.eth = s.eth
  | .que => t.que = s.que
  | .host => t.host = s.host
  | .ox => t.ox = s.ox
  | .stk => t.stk = s.stk
  | .red => t.red = s.red
  | .eng => t.eng = s.eng
  | .sec => t.sec = s.sec
  | .upd => t.upd = s.upd
  | .log => t.log = s.log
  | .cal => t.cal = s.cal
  | .sch => t.sch = s.sch
  | .fab => t.fab = s.fab
  | .imm => t.imm = s.imm
  | .free => t.free = s.free
  | .out => t.out = s.out

/-- `t` differs from `s` in no part but the listed ones. -/
def ChangesOnly (ps : List Part) (s t : State) : Prop := ∀ p, p ∉ ps → agree s t p

/-- A command, in every state in which it goes on, changes no part but the listed ones. -/
def Frames (ps : List Part) (i : Instr) : Prop := ∀ s t, exec i s = .next t → ChangesOnly ps s t

/-! ### Requests -/

/-- The block when the own rules of a request are run: time has reached the request, its packet is counted and taken from its queue, and
the transaction that it names is not idle. -/
def inService (op : Nat) (r : Req) (s : State) : State :=
  let s1 := mbCount (takeRequest (advance s r.t) r.path (reqBytes op r)) r.path 0
  { s1 with ox := { s1.ox with open_ := s1.ox.open_.map fun x =>
    if x.id = r.txnId.toNat ∧ x.ident = identOf r.path then { x with at_ := s1.tim.up } else x } }

/-- The request is heard on its path, which is not busy, is no duplicate, passes the checks of every request (R303), comes from a role that
may send its opcode, and executes on this node. -/
def Heard (op : Nat) (r : Req) (s : State) : Prop :=
  answers (advance s r.t) r.path = true ∧ pathBusy (advance s r.t) r.path = false
  ∧ seenOf (mbCount (takeRequest (advance s r.t) r.path (reqBytes op r)) r.path 0) op r = .fresh
  ∧ requestErr (inService op r s) op r = none
  ∧ (match r.path with
    | .mb2 0 _ => op != 0x50 && op != 0x51
    | _ => false) = false
  ∧ (rolesOf op).elem (callerOf (inService op r s) op r.path).role = true
  ∧ wayOf (inService op r s) op r = .here

/-- Who a request in service executes as. -/
def by_ (op : Nat) (r : Req) (s : State) : Caller := callerOf (inService op r s) op r.path

/-- The block after a request's rules left `u` and its response of a status, a transaction and a payload is posted. -/
def answered (op : Nat) (r : Req) (u : State) (st : Status) (txn : Nat) (payload : List Byte) : State :=
  finish u op r (respBytes u op r st txn payload)

/-- The rules of a request in service answer it with a status and a payload, leaving the block as `u`, and the response fits its path. -/
def Fits (op : Nat) (r : Req) (s u : State) (st : Status) (txn : Nat) (payload : List Byte) : Prop :=
  respFits (inService op r s) r.path (respBytes u op r st txn payload) = true

/-- The accepted transaction that a request of EDGE items forms by itself: for the frame that NEXT names (R52, R309). -/
def ownAcc (op : Nat) (r : Req) (s : State) : AccTxn :=
  { id := newId (inService op r s), frame := commitNext (inService op r s) 1, tenant := (by_ op r s).tenant, role := (by_ op r s).role
    items := [{ op := op, req := r }], ordered := true }

/-- A request of EDGE items outside a transaction, heard, well-formed, with room, concerning this node alone and valid at the frame that
NEXT names, which leaves the block as `v`. -/
def EdgeReady (op : Nat) (r : Req) (s v : State) : Prop :=
  let u := inService op r s
  let x := ownAcc op r s
  Heard op r s ∧ r.txn = false ∧ itemForm { op := op, req := r } = none ∧ u.frm.running = true ∧ roomFor u r = true
  ∧ involved u [{ op := op, req := r }] = [] ∧ txnErr (noteId u x.id) x.tenant x.role x.frame x.items = none ∧ v = accept (noteId u x.id) x
  ∧ Fits op r s v .accepted 0 (acceptedBytes true x.frame x.id)

/-- The block after the answer ACCEPTED to such a request. -/
def edgeAnswered (op : Nat) (r : Req) (s v : State) : State :=
  answered op r v .accepted 0 (acceptedBytes true (ownAcc op r s).frame (ownAcc op r s).id)

/-- A SET of one acting IMMEDIATE parameter, heard, well-formed and not refused, which leaves the block as `v`. -/
def ActsReady (p : ParamRow) (r : Req) (s v : State) : Prop :=
  let u := inService 0x02 r s
  ∃ y, r.items = [y] ∧ y.id = p.id ∧ findParam p.id = some p ∧ Heard 0x02 r s ∧ r.txn = false ∧ itemForm { op := 0x02, req := r } = none
    ∧ immErr u (by_ 0x02 r s) { op := 0x02, req := r } = none ∧ actionErr u p y = none ∧ v = immWritten u.imm (actionDo u p y)
    ∧ Fits 0x02 r s v .ok 0 []

/-- A KEY_UPDATE of an OP with its envelope `b`, heard, with room for its answer, whose envelope passes the checks of Table 18-7 and holds
`body`; `u` is the block in service. -/
def KeyReady (op : Nat) (r : Req) (s u : State) (b body : List Byte) : Prop :=
  u = inService 0x50 r s ∧ Heard 0x50 r s ∧ b = r.payload ∧ envOp b = op ∧ envErr u (by_ 0x50 r s) r.path b = none
  ∧ envBody u b = some body ∧ Fits 0x50 r s u .ok 0 []

/-! ### Invariants -/

/-- The node shows a SAFE cause in SAFE and in no other state (Table 13-3, R474), edges run in READY, RUN and SHADOW only (Table 1-8), and a
state that needs the main supplies has them (R26, R467). -/
def PowerInv (s : State) : Prop :=
  (s.dev.state = .safe ↔ s.dev.safeCause ≠ 0) ∧ (s.frm.running = true → s.dev.state.live = true)
  ∧ (s.dev.state.powered = true → s.dev.rails = true)

/-- DIA_FABRIC: the lowest margin since the dawn is never above the margin last measured, and both fit their 16 bits (R481). -/
def MarginInv (s : State) : Prop := s.fab.min ≤ s.fab.margin ∧ s.fab.margin < 65536

end Sys2Proof.Machine
end

