-- ==== Sys2Proof/Certificates/Slice0/Obligations.lean ====
section
/-! DEFINITION. The statements about the block that the provers are asked for. -/

open Sys2Proof Sys2Proof.Machine

/-- A step carries out the command at the front of the queue, and an idle block stays as it is. For every command c, queue rest and state s,
step of s with c at the front of its queue is exec of c on s with the rest; on an empty queue the step answers the state unchanged (the
model's own choice, log entry 2). (13_host_interfaces_oxold.md, 95_what_each_step_holds.md) -/
def Obligations.StepRunsFrontCommand : Prop :=
  (∀ (c : Instr) (rest : List Instr) (s : State),
    step { s with pending := c :: rest } = exec c { s with pending := rest })
  ∧ ∀ s : State, s.pending = [] → step s = .next s

/-- Every command ends in a next state and leaves the waiting commands alone. For every command and every state, exec answers a next state,
never a fault or a refusal, and the queue of waiting commands is in it what it was. (95_what_each_step_holds.md,
01_node_architecture.md) -/
def Obligations.EveryCommandGoesOn : Prop :=
  ∀ (i : Instr) (s : State), ∃ t, exec i s = .next t ∧ t.pending = s.pending

/-- The power invariant and the margin invariant hold after reset. State.reset shows no SAFE cause, runs no edges, has its main rails, and
reads a fabric margin whose minimum is not above it. (01_node_architecture.md, 21_startup_safe_standby.md) -/
def Obligations.PowerInvariantAtReset : Prop :=
  PowerInv State.reset ∧ MarginInv State.reset

/-- Every step keeps: a SAFE cause is shown in SAFE alone, edges run in READY, RUN and SHADOW alone, powered states have their rails. For
every state s with PowerInv s, if step answers next t then PowerInv t: the SAFE cause is non-zero exactly in SAFE, edges run in READY,
RUN and SHADOW only, and the states DAWN to DUSK have the main rails in range. (R26, R25, R474, 21_startup_safe_standby.md) -/
def Obligations.StepKeepsPowerInvariant : Prop :=
  ∀ s t : State, PowerInv s → step s = .next t → PowerInv t

/-- Every step keeps the lowest fabric margin at or below the margin last measured. For every state s with MarginInv s, if step answers next
t then MarginInv t: DIA_FABRIC MIN is never above NOW, and NOW fits its 16 bits. (R481, R482) -/
def Obligations.StepKeepsMarginInvariant : Prop :=
  ∀ s t : State, MarginInv s → step s = .next t → MarginInv t

/-- Only a frame edge and a dawn change the fabric readings. Every command other than FRAME_EDGE and those that begin or end a dawn
(DAWN_END, VBAT_RISE, MAIN_RAILS_IN_RANGE, RESET_N_ASSERT, RESET_N_RELEASE, WAKE_EVENT, DIAG_RESTART, SELECTOR_WRITE_RESET, and the
relayed form of a request) leaves DIA_FABRIC as it is. (R481, R482) -/
def Obligations.FabricMarginChangesOnlyAtDawnAndEdges : Prop :=
  ∀ (i : Instr) (s t : State), exec i s = .next t →
    (match i with
      | .frameEdge _ | .dawnEnd _ | .vbatRise | .mainRailsInRange .. | .resetNAssert _ | .resetNRelease .. | .wakeEvent .. | .diagRestart _
      | .selectorWriteReset | .relayRequest .. => False
      | _ => True) → t.fab = s.fab

/-- VBAT and the main rails move the node between OFF, STANDBY and DAWN. VBAT_RISE takes OFF to STANDBY, and to DAWN with CYCLES one higher
where the main rails are in range already with RESET_N high; VBAT_LOSS clears TIM_RTC_VALID and takes a node without main rails to OFF;
MAIN_RAIL_LOSS takes every state from DAWN to DUSK to STANDBY with no edge running and no SAFE cause; MAIN_RAILS_IN_RANGE takes a node
in STANDBY, whose rails were out of range, to DAWN with CYCLES one higher (saturating). (R26, R66, R467, R480) -/
def Obligations.SuppliesMoveTheNodeBetweenOffAndStandby : Prop :=
  (∀ s : State, s.dev.state = .off → s.dev.rails = false →
    exec .vbatRise s = .next { s with dev := { s.dev with vbat := true, state := .standby } })
  ∧ (∀ s : State, s.dev.state = .off → s.dev.rails = true → s.dev.resetN = true → s.dev.duskDone = false →
    ∃ t, exec .vbatRise s = .next t ∧ t.dev.state = .dawn ∧ t.dev.vbat = true ∧ t.log.cycles = min 16777215 (s.log.cycles + 1))
  ∧ (∀ s : State, s.dev.rails = false → ∃ t, exec .vbatLoss s = .next t ∧ t.dev.state = .off ∧ t.dev.vbat = false
      ∧ t.tim = { s.tim with rtcValid := false } ∧ ChangesOnly [.dev, .tim] s t)
  ∧ (∀ (s : State) (u : Time), s.dev.state.powered = true → ∃ t, exec (.mainRailLoss u) s = .next t ∧ t.dev.state = .standby
      ∧ t.dev.rails = false ∧ t.dev.safeCause = 0 ∧ t.frm.running = false ∧ ChangesOnly [.dev, .tim, .frm, .con, .eth, .ox, .stk, .red] s t)
  ∧ ∀ (s : State) (b : Nat) (k x : Bool), s.dev.state = .standby → s.dev.vbat = true → s.dev.resetN = true → s.dev.rails = false →
      ∃ t, exec (.mainRailsInRange b k x) s = .next t ∧ t.dev.state = .dawn ∧ t.dev.rails = true ∧ t.dev.bootSrc = b % 4
        ∧ t.dev.stackEn = k ∧ t.dev.safeSel = x ∧ t.log.cycles = min 16777215 (s.log.cycles + 1) ∧ t.frm.running = false

/-- RESET_N and wake events begin a dawn, with the straps sampled at the rising edge. RESET_N_ASSERT in a state from DAWN to DUSK stops the
edges and puts every output ball at high impedance; RESET_N_RELEASE then begins DAWN with the straps as sampled and CYCLES unchanged;
WAKE_EVENT of an enabled edge, held for its DEBOUNCE, takes a node that waits in STANDBY after a dusk with its rails applied to DAWN.
(R466, R468, R475, R479) -/
def Obligations.ResetAndWakeBeginADawn : Prop :=
  (∀ (s : State) (u : Time), s.dev.state.powered = true → ∃ t, exec (.resetNAssert u) s = .next t ∧ t.dev.state = .dawn
      ∧ t.dev.resetN = false ∧ t.frm.running = false ∧ t.tim.now = 0 ∧ t.host.intMask = State.reset.host.intMask
      ∧ t.pending = s.pending ∧ ∀ b, ballLevel t b = .highZ)
  ∧ (∀ (s : State) (b : Nat) (k x : Bool), s.dev.state.powered = true → s.dev.resetN = false →
      ∃ t, exec (.resetNRelease b k x) s = .next t ∧ t.dev.state = .dawn ∧ t.dev.resetN = true ∧ t.dev.bootSrc = b % 4
        ∧ t.dev.stackEn = k ∧ t.dev.safeSel = x ∧ t.log.cycles = s.log.cycles)
  ∧ ∀ (s : State) (n ms_ at_ : Nat) (rising : Bool), n < 4 → s.dev.state = .standby → s.dev.vbat = true → s.dev.rails = true →
      s.dev.duskDone = true → s.dev.resetN = true →
      (byteAt (s.cfg.row diaWake n) 0 = 3 ∨ byteAt (s.cfg.row diaWake n) 0 = (if rising then 1 else 2)) →
      byteAt (s.cfg.row diaWake n) 1 ≤ ms_ →
      ∃ t, exec (.wakeEvent n rising ms_ at_) s = .next t ∧ t.dev.state = .dawn ∧ t.log.cycles = min 16777215 (s.log.cycles + 1)

/-- The dawn sequence ends in READY, or in SAFE at its first failing step. DAWN_END in DAWN whose steps all pass (no failure reported, an
image set that boots without TRIAL, a margin of at least one) leads to READY with DAWN_RESULT showing eight steps passed and no FAIL, no
SAFE cause, the margin in DIA_FABRIC, device time loaded from a valid RTC, and edges running on a node outside a stack. Where the
outside reports a step failed with a code (at D0 to D3, or later where the set boots), it leads to SAFE with cause DAWN_FAIL, FAIL set,
the step and the code in DAWN_RESULT, the steps before it passed, and no edge running; so does a margin below one at D6 with code
0x0601, and a tampered island at D0 with code 0x0004. HOST_LOAD_TIMEOUT of a host load leads to SAFE with step D3 and code 0x0304.
PCIE_LINK_CHANGE in a powered node takes the link down. (R469, R470, R474, R471, R65, R33) -/
def Obligations.DawnEndsInReadyOrSafe : Prop :=
  (∀ (s : State) (i : DawnIn), s.dev.state = .dawn → s.dev.resetN = true → s.dev.rails = true → s.sec.tampered = false →
      s.dev.bootSrc < 2 → keyState s 4 = 1 → s.upd.sel.trial = false → bootBad s s.upd.sel.set = none → i.fail = none →
      0x100 ≤ i.margin → i.margin < 65536 →
      ∃ t, exec (.dawnEnd i) s = .next t ∧ t.dev.state = .ready ∧ t.dev.dawnPassed = 255 ∧ t.dev.dawnFail = false ∧ t.dev.dawnCode = 0
        ∧ t.dev.safeCause = s.dev.safeCause ∧ t.fab.margin = i.margin ∧ t.fab.min = i.margin
        ∧ (s.tim.rtcValid = true → t.tim.now = ofTicks (s.tim.rtc + i.rtcTicks)) ∧ (s.dev.stackEn = false → t.frm.running = true))
  ∧ (∀ (s : State) (i : DawnIn) (n c d : Nat), s.dev.state = .dawn → s.dev.resetN = true → s.dev.rails = true → s.sec.tampered = false →
      n < 8 → (3 < n → s.dev.bootSrc < 2 ∧ keyState s 4 = 1 ∧ s.upd.sel.trial = false ∧ bootBad s s.upd.sel.set = none) →
      (n = 7 → 0x100 ≤ i.margin) → i.fail = some (n, c, d) →
      ∃ t, exec (.dawnEnd i) s = .next t ∧ t.dev.state = .safe ∧ t.dev.safeCause = 1 ∧ t.dev.dawnFail = true ∧ t.dev.dawnStep = n
        ∧ t.dev.dawnCode = c ∧ t.dev.detail = d ∧ t.dev.dawnPassed = 2 ^ n - 1 ∧ t.frm.running = false)
  ∧ (∀ (s : State) (i : DawnIn), s.dev.state = .dawn → s.dev.resetN = true → s.dev.rails = true → s.sec.tampered = false →
      s.dev.bootSrc < 2 → keyState s 4 = 1 → s.upd.sel.trial = false → bootBad s s.upd.sel.set = none → i.fail = none →
      i.margin < 0x100 → ∃ t, exec (.dawnEnd i) s = .next t ∧ t.dev.state = .safe ∧ t.dev.safeCause = 1 ∧ t.dev.dawnStep = 6
        ∧ t.dev.dawnCode = 0x0601 ∧ t.dev.dawnPassed = 63)
  ∧ (∀ (s : State) (i : DawnIn), s.dev.state = .dawn → s.dev.resetN = true → s.dev.rails = true → s.sec.tampered = true →
      ∃ t, exec (.dawnEnd i) s = .next t ∧ t.dev.state = .safe ∧ t.dev.safeCause = 1 ∧ t.dev.dawnCode = 0x0004 ∧ t.dev.dawnPassed = 0)
  ∧ (∀ s : State, hostLoads s = true → ∃ t, exec .hostLoadTimeout s = .next t ∧ t.dev.state = .safe ∧ t.dev.safeCause = 1
      ∧ t.dev.dawnFail = true ∧ t.dev.dawnStep = 3 ∧ t.dev.dawnCode = 0x0304 ∧ t.dev.dawnPassed = 7 ∧ t.frm.running = false
      ∧ bitAt t.host.intStatus intDawn = true)
  ∧ ∀ (s : State) (u : Time), s.dev.state.powered = true → ∃ t, exec (.pcieLinkChange false u) s = .next t ∧ t.dev.pcieUp = false
      ∧ t.dev.state = s.dev.state ∧ ChangesOnly [.dev, .tim] s t

/-- A dusk taken at the next edge or in SAFE ends in STANDBY. DUSK_ENTRY with a dusk requested takes a node in SAFE to DUSK at once, and one
whose edges run to DUSK at its next edge, which counts; edges stop and no cause is shown. DUSK_COMPLETE takes DUSK to STANDBY with the
operating time stored. (R477, R454, R66) -/
def Obligations.DuskLeadsToStandby : Prop :=
  (∀ s : State, s.dev.duskWanted = true → s.dev.state = .safe → ∃ t, exec .duskEntry s = .next t ∧ t.dev.state = .dusk
      ∧ t.dev.duskWanted = false ∧ t.dev.safeCause = 0 ∧ t.frm.running = false)
  ∧ (∀ s : State, s.dev.duskWanted = true → s.dev.state.live = true → s.frm.running = true → ∃ t, exec .duskEntry s = .next t
      ∧ t.dev.state = .dusk ∧ t.dev.duskWanted = false ∧ t.frm.running = false ∧ t.frm.num = nextNum s ∧ t.frm.last = s.frm.next)
  ∧ ∀ (s : State) (u : Time), s.dev.state = .dusk → ∃ t, exec (.duskComplete u) s = .next t ∧ t.dev.state = .standby
      ∧ t.dev.duskDone = true ∧ t.log.optime = optimeNow (advance s u) ∧ ChangesOnly [.dev, .tim, .frm, .con, .eth, .ox, .stk, .red, .log] s t

/-- DIAG answers its status and register reads, restarts from SAFE and requests a dusk. A DIAG request that is heard and passes the checks
of its subfunction is answered OK: STATUS with its 32 bytes, REG_READ with 8 bytes that the spec leaves open (a free value), RESTART
with the node in DAWN, and DUSK with the dusk requested, or entered at once in SAFE. (R476, R475, R477, 21_startup_safe_standby.md) -/
def Obligations.DiagnosticRequestsAnswer : Prop :=
  (∀ (r : Req) (s u : State), u = inService 0x30 r s → Heard 0x30 r s → diagErr (by_ 0x30 r s) r u = none → diagSub r = 1 →
      Fits 0x30 r s u .ok 0 (statusBytes u) →
      exec (.diagStatus r) s = .next (answered 0x30 r u .ok 0 (statusBytes u)))
  ∧ (∀ (r : Req) (s u : State), u = inService 0x30 r s → Heard 0x30 r s → diagErr (by_ 0x30 r s) r u = none → diagSub r = 4 →
      u.imm.v secEval = 0 → Fits 0x30 r s u .ok 0 (leBytes 8 (Config.diagReg (leAt r.payload 8 4) u.free)) →
      exec (.diagRegRead r) s = .next (answered 0x30 r { u with free := u.free + 1 } .ok 0
        (leBytes 8 (Config.diagReg (leAt r.payload 8 4) u.free))))
  ∧ (∀ (r : Req) (s : State), diagRestarts r s = true → ∃ t, exec (.diagRestart r) s = .next t ∧ t.dev.state = .dawn
      ∧ t.frm.running = false ∧ t.log.cycles = s.log.cycles)
  ∧ (∀ (r : Req) (s u : State), u = inService 0x30 r s → Heard 0x30 r s → diagErr (by_ 0x30 r s) r u = none → diagSub r = 3 →
      u.dev.state ≠ .safe → Fits 0x30 r s u .ok 0 [] →
      exec (.diagDusk r) s = .next (answered 0x30 r { u with dev := { u.dev with duskWanted := true } } .ok 0 []))
  ∧ ∀ (r : Req) (s u : State), u = inService 0x30 r s → Heard 0x30 r s → diagErr (by_ 0x30 r s) r u = none → diagSub r = 3 →
      u.dev.state = .safe → Fits 0x30 r s (enterDusk u 0 (sending u)) .ok 0 [] →
      exec (.diagDusk r) s = .next (answered 0x30 r (enterDusk u 0 (sending u)) .ok 0 [])

/-- INT_STATUS clears the sources written 1, INT_MASK takes the value written. While the registers can be reached, INT_STATUS_WRITE clears
exactly the sources whose bit is written 1 and changes nothing else; INT_MASK_WRITE puts the value into INT_MASK and leaves INT_STATUS
alone, and apart from the messages sent and the pending bits of masked vectors nothing else changes. (R300, R297) -/
def Obligations.InterruptRegisterWrites : Prop :=
  (∀ (s : State) (v : BitVec 64), hostUp s = true → ∃ x : Nat,
      exec (.intStatusWrite v) s = .next { s with host := { s.host with intStatus := x } }
      ∧ ∀ n, bitAt x n = (bitAt s.host.intStatus n && !bitAt v.toNat n))
  ∧ ∀ (s : State) (v : BitVec 64), hostUp s = true → ∃ t, exec (.intMaskWrite v) s = .next t ∧ t.host.intMask = v.toNat
      ∧ t.host.intStatus = s.host.intStatus ∧ t.host = { s.host with intMask := v.toNat, msixPending := t.host.msixPending }
      ∧ ChangesOnly [.host, .out] s t

/-- QSPI_STATUS, TIME_SEC_READ and QSPI_READ put on the bus what the registers say. QSPI_STATUS returns a byte with bit 0 the pending
interrupt and bit 1 DAWN or DUSK; TIME_SEC_READ returns the seconds of device time and latches its nanoseconds, fraction and the frame
number for its own path alone; a QSPI_READ of whole words from an aligned register on, the three time registers aside, returns those
registers in order; TIME_NSEC and FRAME_NUM return what was latched for the QSPI path; a QSPI_READ that is misaligned, empty or longer
than 65,536 bytes only raises REG_ERR. (R293, R299, R297, R298) -/
def Obligations.StatusAndTimeReads : Prop :=
  (∀ s : State, hostUp s = true → exec .qspiStatus s = .next { s with host := { s.host with
      busData := leBytes 1 (b2n (irqPending s) + 2 * b2n (s.dev.state == .dawn || s.dev.state == .dusk)) } })
  ∧ (∀ (s : State) (q : Bool) (u : Time), hostUp s = true → ∃ t, exec (.timeSecRead q u) s = .next t
      ∧ t.host.busData = leBytes 8 (max s.tim.now u / sec)
      ∧ latchOf t q = (max s.tim.now u % sec / ns + max s.tim.now u % ns * 2 ^ 32, if s.frm.begun then s.frm.num else 0)
      ∧ latchOf t (!q) = latchOf s (!q) ∧ ChangesOnly [.tim, .host] s t)
  ∧ (∀ (s : State) (off n : Nat), hostUp s = true → off % 8 = 0 → n ≠ 0 → off + 8 * n ≤ 0x038 ∨ (0x050 ≤ off ∧ off + 8 * n ≤ 0x1000) →
      ∃ t, exec (.qspiRead off (8 * n)) s = .next t ∧ t.host.busData = (List.range n).flatMap (fun k => leBytes 8 (regWord s (off + 8 * k)))
        ∧ t.host = { s.host with busData := t.host.busData } ∧ ChangesOnly [.host, .free] s t)
  ∧ (∀ s : State, hostUp s = true → ∃ t u, exec (.qspiRead 0x040 8) s = .next t ∧ t.host.busData = leBytes 8 s.host.latchQspi.1
      ∧ exec (.qspiRead 0x048 8) s = .next u ∧ u.host.busData = leBytes 8 s.host.latchQspi.2)
  ∧ ∀ (s : State) (off len : Nat), hostUp s = true → off % 8 ≠ 0 ∨ len % 8 ≠ 0 ∨ len = 0 ∨ 65536 < len →
      exec (.qspiRead off len) s = .next (raise s intReg)

/-- A whole aligned write to a register acts as that register's own write, and a short or misaligned one sets REG_ERR. A PCIe or QSPI write
of 8 bytes at the offset of INT_STATUS, INT_MASK, DMA_BASE, DMA_SIZE, DMA_TAIL, RING_A_CTRL, RING_A_WP or CAPTURE_REL has the effect of
that register's own write with the little-endian value of the bytes. A PCIe write to a register that does not start at a multiple of 8,
or is shorter than 8 bytes, and a QSPI write that breaks a rule of R293 only raise REG_ERR. (R297, R298, R293, R300, R301) -/
def Obligations.RegisterWritesReachTheirRegisters : Prop :=
  (∀ (s : State) (bs : List Byte), hostUp s = true → bs.length = 8 → ∃ v : BitVec 64, v.toNat = leNat bs ∧
      (∀ c : Instr, ∀ off : Nat,
        ((off, c) = (0x050, Instr.intStatusWrite v) ∨ (off, c) = (0x058, Instr.intMaskWrite v) ∨ (off, c) = (0x088, Instr.dmaBaseWrite v)
          ∨ (off, c) = (0x090, Instr.dmaSizeWrite v) ∨ (off, c) = (0x098, Instr.dmaTailWrite v) ∨ (off, c) = (0x0A8, Instr.ringACtrlWrite v)
          ∨ (off, c) = (0x0B0, Instr.ringAWpWrite v) ∨ (off, c) = (0x0E8, Instr.captureRelWrite v)) →
        ∃ t, exec (.regWrite off bs) s = .next t ∧ exec (.qspiWrite off bs) s = .next t ∧ exec c s = .next t))
  ∧ (∀ (s : State) (bs : List Byte) (off : Nat), hostUp s = true → bs ≠ [] → off < 0x0F0 → off % 8 ≠ 0 ∨ bs.length < 8 →
      exec (.regWrite off bs) s = .next (raise s intReg))
  ∧ ∀ (s : State) (bs : List Byte) (off : Nat), hostUp s = true → off % 8 ≠ 0 ∨ bs.length % 8 ≠ 0 ∨ bs = [] ∨ 65536 < bs.length →
      exec (.qspiWrite off bs) s = .next (raise s intReg)

/-- The DMA registers, the mode of ring A and CAPTURE_REL take values under the conditions of R301 and R302. DMA_TAIL takes a value in DMA
mode that leaves at most DMA_SIZE descriptors; DMA_BASE and DMA_SIZE are taken while HEAD equals TAIL, the base without its low six bits
and the size a power of two from 16 to 65,536; RING_A_CTRL changes the mode while ring A holds nothing between C and W; CAPTURE_REL
releases the captures of the named canvases and no other. Nothing else changes. (R301, R302, R105) -/
def Obligations.DmaAndRingRegisterWrites : Prop :=
  (∀ (s : State) (v : BitVec 64), s.host.bar2Mode = false →
      (v.toNat % 4294967296 + 4294967296 - s.host.dmaHead) % 4294967296 ≤ s.host.dmaSize →
      exec (.dmaTailWrite v) s = .next { s with host := { s.host with dmaTail := v.toNat % 4294967296 } })
  ∧ (∀ (s : State) (v : BitVec 64), s.host.dmaHead = s.host.dmaTail →
      exec (.dmaBaseWrite v) s = .next { s with host := { s.host with dmaBase := v.toNat / 64 * 64 } })
  ∧ (∀ (s : State) (v : BitVec 64) (k : Nat), s.host.dmaHead = s.host.dmaTail → 4 ≤ k → k ≤ 16 → v.toNat % 131072 = 2 ^ k →
      exec (.dmaSizeWrite v) s = .next { s with host := { s.host with dmaSize := 2 ^ k } })
  ∧ (∀ (s : State) (v : BitVec 64), s.con.ringA.w = s.con.ringA.c →
      exec (.ringACtrlWrite v) s = .next { s with host := { s.host with bar2Mode := bitAt v.toNat 0 } })
  ∧ ∀ (s : State) (v : BitVec 64), ∃ m, exec (.captureRelWrite v) s = .next { s with con := { s.con with captures := m } }
      ∧ ∀ c, SMap.get none m c = if c < 4 ∧ bitAt v.toNat c = true then none else SMap.get none s.con.captures c

/-- A DMA or ring register write that breaks R301 changes nothing and raises its error. DMA_BASE or DMA_SIZE written while descriptors wait,
and DMA_TAIL written in BAR2 mode, raise DMA_ERR; RING_A_CTRL written with the other mode while ring A holds waiting entries raises
RING_A_ERR. (R301) -/
def Obligations.DmaRegistersGuardTheirValues : Prop :=
  (∀ (s : State) (v : BitVec 64), s.host.dmaHead ≠ s.host.dmaTail →
      exec (.dmaBaseWrite v) s = .next (raise s intDma) ∧ exec (.dmaSizeWrite v) s = .next (raise s intDma))
  ∧ (∀ (s : State) (v : BitVec 64), s.host.bar2Mode = true → exec (.dmaTailWrite v) s = .next (raise s intDma))
  ∧ ∀ (s : State) (v : BitVec 64), bitAt v.toNat 0 ≠ s.host.bar2Mode → s.con.ringA.w ≠ s.con.ringA.c →
      exec (.ringACtrlWrite v) s = .next (raise s intRing)

/-- DMA descriptors are read in order, and their entries are written at W of ring A. DMA_DESCRIPTOR_READ of a valid descriptor advances HEAD
by one and holds the descriptor; of one that fails the tests of R88 it holds nothing and raises DMA_ERR. DMA_ENTRY_WRITTEN without a
source error, with room in the ring and nothing stalled, takes the oldest descriptor and appends its entry as the newest of ring A with
the size and layer of its header, W following it; a source error takes the descriptor, raises DMA_ERR and leaves the ring.
RING_SPACE_FREED writes the first stalled entry of either ring once it fits. (R301, R87, R91, R92) -/
def Obligations.DmaMovesEntriesIntoRingA : Prop :=
  (∀ (s : State) (d : List Byte), s.host.bar2Mode = false → s.host.dmaHead ≠ s.host.dmaTail → d.length = 64 → headerFault d = none →
      byteOf d 0 = 1 → exec (.dmaDescriptorRead d) s = .next { s with host := { s.host with
        dmaHead := (s.host.dmaHead + 1) % 4294967296, dmaWork := s.host.dmaWork ++ [d] } })
  ∧ (∀ (s : State) (d : List Byte), s.host.bar2Mode = false → s.host.dmaHead ≠ s.host.dmaTail → d.length = 64 →
      headerFault d ≠ none ∨ byteOf d 0 ≠ 1 → ∃ t, exec (.dmaDescriptorRead d) s = .next t ∧ bitAt t.host.intStatus intDma = true
        ∧ t.host.dmaHead = (s.host.dmaHead + 1) % 4294967296 ∧ t.host.dmaWork = s.host.dmaWork
        ∧ t.con.ringA.entries = s.con.ringA.entries ∧ t.con.ringA.w = s.con.ringA.w)
  ∧ (∀ (s : State) (u : Time) (map : List Nat) (data d : List Byte) (rest : List (List Byte)), s.host.dmaWork = d :: rest →
      ∃ t, exec (.dmaEntryWritten u true map data) s = .next t ∧ t.host.dmaWork = rest ∧ bitAt t.host.intStatus intDma = true
        ∧ t.con = s.con)
  ∧ (∀ (s : State) (u : Time) (map : List Nat) (data d : List Byte) (rest : List (List Byte)), s.host.dmaWork = d :: rest →
      mapBad d map = false → s.con.ringA.stalled = [] → ringFits s 0 (max 64 (leAt d 32 4 / 64 * 64)) = true →
      ∃ t e, exec (.dmaEntryWritten u false map data) s = .next t ∧ t.con.ringA.entries.getLast? = some e
        ∧ e.width = leAt d 24 2 ∧ e.height = leAt d 26 2 ∧ e.len = max 64 (leAt d 32 4 / 64 * 64) ∧ e.layer = layerOf (byteOf d 1)
        ∧ t.con.ringA.w = e.off + e.len ∧ t.host.dmaWork = rest ∧ t.con.ringB = s.con.ringB
        ∧ ChangesOnly [.tim, .con, .que, .host, .stk, .sec, .log, .out] s t)
  ∧ ∀ (s : State) (i : Nat) (e : Entry) (rest : List Entry), i < 2 → (ringGet s i).stalled = e :: rest → ringFits s i e.len = true →
      ∃ t x, exec (.ringSpaceFreed i) s = .next t ∧ (ringGet t i).stalled = rest ∧ (ringGet t i).entries.getLast? = some x
        ∧ x.len = e.len ∧ x.pix = e.pix ∧ (ringGet t i).w = x.off + x.len ∧ ringGet t (1 - i) = ringGet s (1 - i)
        ∧ ChangesOnly [.con, .que, .host, .stk, .sec, .out] s t

/-- BAR2 bytes land in the window outside the guarded entries, and the doorbell of RING_A_WP publishes whole entries. A BAR2_RING_WRITE of
one byte in BAR2 mode at an offset of the ring whose next position from W on lies below the guard (C, or what a REWIND holds where that
lies before it) plus the size stores that byte, so that it reads back, and leaves every other byte. RING_A_WP_WRITE in BAR2 mode at an
offset that one whole valid entry reaches makes that entry the newest of ring A, with the size and layer of its header; in DMA mode it
is ignored with RING_A_ERR. (R302, R91, R89, R301) -/
def Obligations.Bar2BytesAndDoorbell : Prop :=
  (∀ (s : State) (off : Nat) (b : Byte), s.host.bar2Mode = true → off < ringSize s 0 →
      posAfter s.con.ringA (ringSize s 0) off < ringGuard s 0 + ringSize s 0 →
      ∃ m, exec (.bar2RingWrite off [b]) s = .next { s with con := { s.con with bar2 := m } }
        ∧ SMap.get 0 m off = b ∧ ∀ k, k ≠ off → SMap.get 0 m k = SMap.get 0 s.con.bar2 k)
  ∧ (∀ (s : State) (v : BitVec 64) (h : List Byte), s.host.bar2Mode = true → v.toNat < 2 ^ 34 → v.toNat < ringSize s 0 → v.toNat % 64 = 0 →
      h = bar2Read s s.con.ringA.w 64 →
      posAfter s.con.ringA (ringSize s 0) v.toNat = s.con.ringA.w + leAt h 32 4 →
      posAfter s.con.ringA (ringSize s 0) v.toNat < s.con.ringA.c + ringSize s 0 →
      posAfter s.con.ringA (ringSize s 0) v.toNat ≤ ringGuard s 0 + ringSize s 0 → leAt h 62 2 = 0xE196 → 64 ≤ leAt h 32 4 →
      leAt h 32 4 % 64 = 0 → headerFault h = none → byteOf h 0 = 1 → byteOf h 2 = 8 → byteOf h 3 = 0 → bitAt (byteOf h 4) 0 = false →
      ∃ t e, exec (.ringAWpWrite v) s = .next t ∧ t.con.ringA.entries.getLast? = some e ∧ e.len = leAt h 32 4 ∧ e.width = leAt h 24 2
        ∧ e.height = leAt h 26 2 ∧ e.layer = layerOf (byteOf h 1) ∧ t.con.ringA.w = e.off + e.len
        ∧ ChangesOnly [.con, .que, .host, .stk, .log, .out] s t)
  ∧ ∀ (s : State) (v : BitVec 64), s.host.bar2Mode = false → exec (.ringAWpWrite v) s = .next (raise s intRing)

/-- The host pops by HEAD, pushes by PUSH_LEN and flushes by FLUSH. HEAD_WRITE with the offset that follows the oldest packet of a host-
consumed queue (here a radio receive queue, with the error and flush bits clear) removes that packet, and HEAD reads the value written;
PUSH_LEN_WRITE of a legal length with room commits the slot's packet at the tail of MB0 requests; QREG_FLUSH marks a flush and leaves
the packets; QUEUE_FLUSH_DONE at a boundary ends the flush, advances FLUSH_SEQ and empties the queue (of Q28 to Q30 it also posts what
has waited for room); QUEUE_PUSH_RESUME commits the first waiting push that fits. (R286, R287, R289, R290, R281) -/
def Obligations.QueueRegisterCommands : Prop :=
  (∀ (s : State) (q : Nat) (v : BitVec 64) (p : List Byte) (rest : List (List Byte)), hostUp s = true → 18 ≤ q → q ≤ 21 →
      (qGet s q).packets = p :: rest → p ≠ [] → v.toNat < 2 ^ 20 → v.toNat ≠ (qGet s q).head → qSize s q ≠ 0 →
      v.toNat = ((qGet s q).head + p.length) % qSize s q →
      ∃ t, exec (.headWrite q v) s = .next t ∧ (qGet t q).packets = rest ∧ (qGet t q).head = v.toNat ∧ ChangesOnly [.que] s t)
  ∧ (∀ (s : State) (v : BitVec 64), hostUp s = true → s.dev.state ≠ .dawn → s.dev.state ≠ .dusk → v.toNat ≤ 65536 →
      24 ≤ v.toNat → v.toNat % 8 = 0 → v.toNat ≤ qFree s 24 → (qGet s 24).waiting = [] → (qGet s 24).flushing = false →
      ∃ t, exec (.pushLenWrite 24 v) s = .next t ∧ (qGet t 24).packets = (qGet s 24).packets ++ [slotPacket s 24 v.toNat]
        ∧ ChangesOnly [.que, .host, .out] s t)
  ∧ (∀ (s : State) (q : Nat) (v : BitVec 64), hostUp s = true → bitAt v.toNat 63 = true →
      hostConsumed q = true ∨ (hostProduced q = true ∧ v.toNat % 2 ^ 17 = 0) →
      ∃ t, exec (.qregFlush q v) s = .next t ∧ (qGet t q).flushing = true ∧ (qGet t q).packets = (qGet s q).packets)
  ∧ (∀ (s : State) (q : Nat), (qGet s q).flushing = true → atBoundary s q = true →
      ∃ t, exec (.queueFlushDone q) s = .next t ∧ (qGet t q).flushSeq = ((qGet s q).flushSeq + 1) % 256 ∧ (qGet t q).flushing = false
        ∧ ((qGet s q).waiting = [] → q < 28 → (qGet t q).packets = [] ∧ (qGet t q).head = qTail s q)
        ∧ ((qGet s q).waiting = [] → 16 ≤ q → q < 28 → ChangesOnly [.que] s t))
  ∧ ∀ (s : State) (q : Nat) (h : Bool) (p : List Byte) (rest : List (Bool × List Byte)), (qGet s q).waiting = (h, p) :: rest →
      p.length ≤ qFree s q → (qGet s q).flushing = false →
      ∃ t, exec (.queuePushResume q) s = .next t ∧ (qGet t q).packets = (qGet s q).packets ++ [p] ∧ (qGet t q).waiting = rest
        ∧ ChangesOnly [.que, .host, .out] s t

/-- Canvas-map values close, lost layers are cleared, stream entries land in ring B, and DRAM is granted by class in round robin. SACN_CLOSE
with edges running closes the values of every mapped universe as the live source of highest priority has them. LAYER_SOURCE_LOST of a
layer that has missed LAY_LOSS_FRAMES frames drops its held entry, sets its state and changes no other layer. CONTENT_STREAM_RECEIVED of
a complete valid message for a bound layer, with room and nothing stalled, makes it the newest entry of ring B. DRAM_GRANT grants a
request of the highest class there is (URGENT, FRAME, SUPPORT); with no raster request it grants the next FRAME requester in round
robin; a raster port below its urgency threshold that is next in the round is granted as URGENT and fetches one line. (R86, R116, R94,
R349, R17, R18) -/
def Obligations.ContentCommands : Prop :=
  (∀ s : State, s.frm.running = true → ∃ t, exec .sacnClose s = .next t
      ∧ t.tim.now = max s.tim.now (latchTime s (nextLatch s) - period s.cfg / 2)
      ∧ ∀ n ∈ sacnUniverses s.cfg, SMap.get none t.con.closed n =
        (sacnBest (sacnLive (advance s (latchTime s (nextLatch s) - period s.cfg / 2)) n t.tim.now)).map fun x => (x.prio, x.slots))
  ∧ (∀ (s : State) (i : Nat), i < 64 → (SMap.get Layer.empty s.con.layers i).held.isSome = true → s.cfg.val layLossFrames i ≠ 0 →
      s.cfg.val layLossFrames i ≤ (SMap.get Layer.empty s.con.layers i).missed →
      ∃ t, exec (.layerSourceLost i) s = .next t ∧ (SMap.get Layer.empty t.con.layers i).held = none
        ∧ (SMap.get Layer.empty t.con.layers i).state = 3
        ∧ ∀ j, j ≠ i → SMap.get Layer.empty t.con.layers j = SMap.get Layer.empty s.con.layers j)
  ∧ (∀ (s : State) (u : Time) (stream i : Nat) (e : EntryIn), boundLayer s.cfg 3 stream = some i → headerFault e.header = none →
      mapBad e.header e.map = false → s.con.ringB.stalled = [] → ringFits (advance s u) 1 (max 64 (leAt e.header 32 4 / 64 * 64)) = true →
      ∃ t x, exec (.contentStreamReceived u stream true e) s = .next t ∧ t.con.ringB.entries.getLast? = some x ∧ x.layer = i
        ∧ x.width = leAt e.header 24 2 ∧ x.height = leAt e.header 26 2 ∧ x.pt = headerPt e.header ∧ t.con.ringB.w = x.off + x.len)
  ∧ (∀ (s : State) (qs : List Nat), (∃ x ∈ qs, 2 ≤ x ∨ rasWants s x = true) →
      ∃ t q, exec (.dramGrant qs) s = .next t ∧ q ∈ qs ∧ (2 ≤ q ∨ rasWants s q = true) ∧ (q, dramClass s q) ∈ t.con.granted
        ∧ (∀ x ∈ qs, 2 ≤ x ∨ rasWants s x = true → dramClass s q ≤ dramClass s x) ∧ ChangesOnly [.con, .ras] s t)
  ∧ (∀ (s : State) (qs : List Nat) (q : Nat), (∀ x ∈ qs, 2 ≤ x) → q ∈ qs → q < 8 → SMap.get 0 s.con.rr 1 ≤ q →
      (∀ x ∈ qs, x < 8 → SMap.get 0 s.con.rr 1 ≤ x → q ≤ x) →
      exec (.dramGrant qs) s = .next { s with con := { s.con with rr := SMap.put 0 s.con.rr 1 (q + 1),
                                                                  granted := (s.con.granted.filter fun x => x.1 ≠ q) ++ [(q, 1)] } })
  ∧ ∀ (s : State) (qs : List Nat), 0 ∈ qs → rasWants s 0 = true → dramClass s 0 = 0 → SMap.get 0 s.con.rr 0 = 0 →
      ∃ t, exec (.dramGrant qs) s = .next t ∧ (0, 0) ∈ t.con.granted
        ∧ (rasGet t 0).fetched + (rasGet t 0).ahead = (rasGet s 0).fetched + (rasGet s 0).ahead + 1

/-- A schedule entry fires in the next frame to be latched where it is due by that frame's own set, and sunrise and sunset are computed for
a date. SCHEDULE_FIRE of an entry while edges run and the schedule is not held, not fired before, adds it to the firings of the next
latch and changes nothing else. At the latch of frame j under its store, one fired entry with an instant up to E(j) that is not past
carries out its action (recall, release or floor), and one without leaves the held values and the store. SOLAR_COMPUTE of today's local
date shows its sunrise and sunset; of another date that has both it changes nothing; on every date it completes, and a date without
sunrise or without sunset is logged as SOLAR_NONE, once. (R52, R122, R123) -/
def Obligations.SchedulesAndTheSun : Prop :=
  (∀ (s : State) (n : Nat), s.frm.running = true → s.src.schedRun = true → n < 1024 → (n, true) ∉ s.src.fired →
      exec (.scheduleFire n) s = .next { s with src := { s.src with fired := insFired n s.src.fired } }
        ∧ (n, true) ∈ insFired n s.src.fired ∧ ∀ x, x ∈ insFired n s.src.fired ↔ x = (n, true) ∨ x ∈ s.src.fired)
  ∧ (∀ (s : State) (c : Store) (j n r : Nat), s.src.fired = [(n, true)] → r = c.row fixSchedule n → byteAt r 0 ≠ 0 →
      (entryTimes c r s.src.schedUpTo (edgeAt s j) = [] → (latchSchedule s c j).1.src.sched = s.src.sched ∧ (latchSchedule s c j).2 = c)
      ∧ (entryTimes c r s.src.schedUpTo (edgeAt s j) ≠ [] →
        (byteAt r 1 = 1 → (latchSchedule s c j).1.src.sched = (recallCue c s.src.sched (u16At r 2) j true (s.src.sched, 0)).1
          ∧ (latchSchedule s c j).2 = c)
        ∧ (byteAt r 1 = 2 → (latchSchedule s c j).1.src.sched = (releaseCue c (u16At r 2) (s.src.sched, 0)).1
          ∧ (latchSchedule s c j).2 = c)
        ∧ (byteAt r 1 = 3 → (latchSchedule s c j).1.src.sched = s.src.sched
          ∧ (latchSchedule s c j).2 = (floorCue c (byteAt r 5) (u16At r 2)).1)))
  ∧ (∀ (s : State) (d : Nat) (x y : Int), localSec s.cfg s.tim.now / 86400 = d → sunOn s.cfg d true = some x →
      sunOn s.cfg d false = some y → exec (.solarCompute d) s = .next { s with src := { s.src with
        sunrise := (x + s.cfg.v devUtcTai).toNat * sec, sunset := (y + s.cfg.v devUtcTai).toNat * sec } })
  ∧ (∀ (s : State) (d : Nat) (x y : Int), localSec s.cfg s.tim.now / 86400 ≠ d → sunOn s.cfg d true = some x →
      sunOn s.cfg d false = some y → exec (.solarCompute d) s = .next s)
  ∧ ∀ (s : State) (d : Nat), ∃ t, exec (.solarCompute d) s = .next t ∧ ChangesOnly [.src, .log, .free] s t
      ∧ (sunOn s.cfg d true = none ∨ sunOn s.cfg d false = none → d ∈ t.src.solarNone
        ∧ t.log = (if d ∈ s.src.solarNone then s.log
          else (logEv { s with src := { s.src with solarNone := d :: s.src.solarNone } } 0x0301 d 0 0).log))

/-- A woken thread takes an idle core or that of a thread of lower priority; a thread that blocks, ends or has had its slice gives way.
THREAD_WAKE with an idle core and no other ready thread starts the thread on the lowest idle core; with all four cores busy it preempts
the thread that R491 picks if that has a lower priority, which becomes ready and counts a preemption, and otherwise leaves the woken
thread ready. THREAD_BLOCK and THREAD_EXIT end the run of the core's thread, add its running time, and start the next ready thread;
THREAD_SLICE after 1 ms hands the core to a ready thread of the same priority. (R491, R492) -/
def Obligations.ThreadsMoveBetweenCoresByPriority : Prop :=
  (∀ (s : State) (n k v c : Nat) (w : Option Nat) (u : Time), n < 256 → (thGet s n).state ≠ 1 → (thGet s n).state ≠ 2 →
      s.dev.state.powered = true → nextReady s = none → (List.range 4).find? (fun x => (onCore s x).isNone) = some c →
      ∃ t, exec (.threadWake n k v w u) s = .next t ∧ (thGet t n).state = 2 ∧ (thGet t n).core = c ∧ (thGet t n).since = u)
  ∧ (∀ (s : State) (n k v c m : Nat) (w : Option Nat) (u : Time), n < 256 → (thGet s n).state ≠ 1 → (thGet s n).state ≠ 2 →
      s.dev.state.powered = true → (∀ x, x < 4 → onCore s x ≠ none) → (∀ x, onCore s x ≠ some n) → victim s = some (c, m) →
      ∃ t, exec (.threadWake n k v w u) s = .next t ∧ if Config.threadPrio m < Config.threadPrio n
        then (thGet t n).state = 2 ∧ (thGet t n).core = c ∧ (thGet t m).state = 1 ∧ (thGet t m).preempts = sat32 (thGet s m).preempts 1
        else (thGet t n).state = 1 ∧ thGet t m = thGet s m)
  ∧ (∀ (s : State) (n m c : Nat) (x : Thread) (u : Time), onCore s c = some n → (thGet s n).state = 2 → nextReady s = some (m, x) →
      m ≠ n →
      (∃ t, exec (.threadBlock c u) s = .next t ∧ (thGet t n).state = 3 ∧ (thGet t n).runNs = (thGet s n).runNs + (u - (thGet s n).since)
        ∧ (thGet t m).state = 2 ∧ (thGet t m).core = c)
      ∧ ∃ t, exec (.threadExit c u) s = .next t ∧ (thGet t n).state = 0 ∧ (thGet t m).state = 2 ∧ (thGet t m).core = c)
  ∧ ∀ (s : State) (n m c : Nat) (x : Thread) (u : Time), onCore s c = some n → nextReady s = some (m, x) → m ≠ n →
      (thGet s n).since + ms ≤ u → ∃ t, exec (.threadSlice c u) s = .next t ∧ (Config.threadPrio n = Config.threadPrio m →
        (thGet t m).state = 2 ∧ (thGet t m).core = c ∧ (thGet t n).state = 1)

/-- Buckets gain tokens, the operating time is stored, and a clear leaves LOG_CLEARED alone in the log. LOG_TOKEN_ADD gives the bucket of a
code one token up to its BURST and, where events were suppressed and the log has room, first writes LOG_SUPPRESSED with the code and
their number into the next slot. OPTIME_WRITE in a powered node stores the operating time. LOG_CLEAR_DONE of a clear that held no event
leaves LOG_CLEARED in slot 0 with the path, the sender and USED, every other slot empty, and the log no longer in clearing. (R457, R454,
R461, R456) -/
def Obligations.RecorderCommands : Prop :=
  (∀ (s : State) (code l v : Nat), eventRow code = some (l, v) → l ≤ 5 → s.dev.state.powered = true → (bucketOf s code).suppressed = 0 →
      exec (.logTokenAdd code) s = .next (putBucket s code { bucketOf s code with
        tokens := some (min (tokensOf s code + 1) (rateOf s code).1) }))
  ∧ (∀ (s : State) (code l v : Nat), eventRow code = some (l, v) → l ≤ 5 → s.dev.state.powered = true →
      (bucketOf s code).suppressed ≠ 0 → clearingOf s l = none → logUsed s l < 4095 →
      ∃ t, exec (.logTokenAdd code) s = .next t ∧ (bucketOf t code).suppressed = 0
        ∧ (bucketOf t code).tokens = some (min (tokensOf s code + 1) (rateOf s code).1)
        ∧ slotAt t l (logUsed s l) = recordBytes 3 0 8 (optimeNow s) s.log.cycles 0 (logUsed s l) code (bucketOf s code).suppressed
          ((bucketOf s code).firstAt % 4294967296))
  ∧ (∀ s : State, s.dev.state.powered = true →
      exec .optimeWrite s = .next { s with log := { s.log with optime := optimeNow s } })
  ∧ ∀ (s : State) (l : Nat) (u : Time) (c : Clearing), clearingOf s l = some c → c.held = [] →
      ∃ t, exec (.logClearDone l u) s = .next t ∧ clearingOf t l = none ∧ (∀ k, 1 ≤ k → k < 4096 → slotAt t l k = [])
        ∧ slotAt t l 0 = recordBytes 1 0 0 (optimeNow (advance s u)) s.log.cycles 0 0 c.path (c.tenant + c.role * 256) c.used
        ∧ ∀ j k, j ≠ l → k < 4096 → slotAt t j k = slotAt s j k

/-- LOG_READ answers with the records found, CURSOR_SET and WINDOW_READ move a cursor, LOG_CLEAR starts a clear. A LOG_READ whose fields are
legal answers OK with the prefix of R459 and the records that a scan from its slot keeps; CURSOR_SET of a log 6 or 7 and a slot sets the
sender's cursor; WINDOW_READ at the cursor's slot answers the records from it on and moves the cursor past them; a LOG_CLEAR that no
rule refuses marks its log as being cleared and waits for its end without an answer. (R459, R460, R462, R461) -/
def Obligations.LogRequestsAnswer : Prop :=
  (∀ (r : Req) (s u : State) (f : Found), u = inService 0x40 r s → Heard 0x40 r s → logReadErr r.payload = none →
      f = scanSlots (slotsSeen u (byteOf r.payload 0))
        (fun x => decide (byteOf r.payload 1 ≤ byteOf x 2 % 8) && decide (leAt r.payload 8 5 ≤ leAt x 4 5)
          && (leAt r.payload 16 5 == 0 || decide (leAt x 4 5 < leAt r.payload 16 5)))
        (leAt r.payload 6 2) 4097 { records := [], next := leAt r.payload 4 2, bad := 0 } → f.bad = 0 →
      Fits 0x40 r s u .ok 0 (readPrefix u (byteOf r.payload 0) f.next f.records.length ++ f.records.flatten) →
      exec (.logRead r) s = .next (answered 0x40 r u .ok 0
        (readPrefix u (byteOf r.payload 0) f.next f.records.length ++ f.records.flatten)))
  ∧ (∀ (r : Req) (s u : State), u = inService 0x42 r s → Heard 0x42 r s → byteOf r.payload 1 = 0 → leAt r.payload 4 4 = 0 →
      byteOf r.payload 0 = 6 ∨ byteOf r.payload 0 = 7 → leAt r.payload 2 2 < 4096 →
      Fits 0x42 r s (cursorPut u (by_ 0x42 r s) { log := byteOf r.payload 0, slot := leAt r.payload 2 2, window := none }) .ok 0 [] →
      exec (.cursorSet r) s = .next (answered 0x42 r
        (cursorPut u (by_ 0x42 r s) { log := byteOf r.payload 0, slot := leAt r.payload 2 2, window := none }) .ok 0 []))
  ∧ (∀ (r : Req) (s u : State) (x : Cursor) (f : Found), u = inService 0x43 r s → Heard 0x43 r s → byteOf r.payload 1 = 0 →
      leAt r.payload 4 4 = 0 → 1 ≤ byteOf r.payload 0 → byteOf r.payload 0 ≤ 16 → cursorOf u (by_ 0x43 r s) = some x →
      leAt r.payload 2 2 = x.slot →
      f = scanSlots (slotsSeen u x.log) (fun _ => true) (byteOf r.payload 0) 4097 { records := [], next := x.slot, bad := 0 } →
      f.bad = 0 →
      Fits 0x43 r s (cursorPut u (by_ 0x43 r s) { x with slot := f.next, window := some (x.slot, f.next - x.slot) }) .ok 0
        (readPrefix u x.log f.next f.records.length ++ f.records.flatten) →
      exec (.windowRead r) s = .next (answered 0x43 r
        (cursorPut u (by_ 0x43 r s) { x with slot := f.next, window := some (x.slot, f.next - x.slot) }) .ok 0
        (readPrefix u x.log f.next f.records.length ++ f.records.flatten)))
  ∧ ∀ (r : Req) (s u : State) (x : Clearing), u = inService 0x41 r s → Heard 0x41 r s →
      logClearErr u (by_ 0x41 r s) r.payload = none → x = ⟨clearPath r.path, (by_ 0x41 r s).tenant, (by_ 0x41 r s).role,
        logRecords u (byteOf r.payload 0), some r, []⟩ →
      exec (.logClear r) s = .next
        { u with log := { u.log with clearing := SMap.put none u.log.clearing (byteOf r.payload 0) (some x) } }

/-- The RTC is written, samples drive the servo and the discipline state, and a source that goes silent leads to HOLDOVER and FREE.
RTC_UPDATE after D6 writes device time to the RTC in FREE and the estimate of master time otherwise. PTP_OFFSET_SAMPLE from an allowed
source, less delayAsymmetry where it is measured over PTP, sets the offset, the servo's two terms and the discipline state as R68 and
R69 say. SYNC_SAMPLE_TIMEOUT after eight intervals leads to HOLDOVER with p 0 and f held, HOLDOVER_EXPIRY after TIM_HOLDOVER_MAX to FREE
with f held. PTP_MESSAGE_INTERVAL of a port that carries PTP decides the states of the ports; a port in SLAVE state sends its delay
request, one in MASTER state Sync and Announce; a node that is master and nowhere slave is FREE, and one that is neither and was LOCKED
loses its source. The PTP decision and message formats are the model's (PRESUMED, log entry 85). (R66, R67, R68, R69, R72, R75) -/
def Obligations.DisciplineCommands : Prop :=
  (∀ (s : State) (u : Time), s.dev.state.powered = true → bitAt s.dev.dawnPassed 6 = true →
      exec (.rtcUpdate u) s = .next (loadRtc (advance s u)
        (if s.tim.disc = .free then max s.tim.now u else (((max s.tim.now u : Nat) : Int) - s.tim.lastO).toNat)))
  ∧ (∀ (s : State) (u : Time) (x n : Int) (src k : Nat), s.dev.state.powered = true → sourceAllowed s src = true → 
      n = Int.tdiv (if src = 1 ∨ src = 2 then x - ptpAsym s.cfg (src - 1) else x) (ns : Int) →
      ∃ t, exec (.ptpOffsetSample u x src k) s = .next t ∧ t.tim.offset = n
        ∧ (t.tim.f, t.tim.p) = servo s.cfg s.tim.f n k ∧ t.tim.disc = (discNext s.cfg s.tim n).1 ∧ t.tim.sampleAt = max s.tim.now u)
  ∧ (∀ (s : State) (u : Time), s.tim.disc = .acquiring ∨ s.tim.disc = .locked →
      s.tim.sampleAt + 8 * (s.tim.interval * sec / 128000) ≤ u →
      ∃ t, exec (.syncSampleTimeout u) s = .next t ∧ t.tim.disc = .holdover ∧ t.tim.p = 0 ∧ t.tim.f = s.tim.f
        ∧ t.tim.holdAt = max s.tim.now u ∧ ChangesOnly [.tim] s t)
  ∧ (∀ (s : State) (u : Time), s.tim.disc = .holdover → s.tim.holdAt + s.cfg.v timHoldoverMax * sec ≤ u →
      ∃ t, exec (.holdoverExpiry u) s = .next t ∧ t.tim.disc = .free ∧ t.tim.p = 0 ∧ t.tim.f = s.tim.f ∧ ChangesOnly [.tim] s t)
  ∧ ∀ (s : State) (p : Nat) (m : Bool) (u : Time), ptpActive s p = true → isMember s = false →
      ∃ t, exec (.ptpMessageInterval p m u) s = .next t
        ∧ (∀ q, q < 2 → ptpState t q = ptpRole (advance s u) (max s.tim.now u) (if m then some p else none) q)
        ∧ (m = false → ptpState t p = 1 → ∀ y, y = p * 16 + (if s.cfg.v timPtpProfile = 1 then 2 else 1) →
          SMap.get 0 t.tim.ptpSeq y = (SMap.get 0 s.tim.ptpSeq y + 1) % 65536)
        ∧ (m = true → ptpState t p = 2 → ∀ y, y = p * 16 ∨ y = p * 16 + 11 →
          SMap.get 0 t.tim.ptpSeq y = (SMap.get 0 s.tim.ptpSeq y + 1) % 65536)
        ∧ (ptpState t 0 ≠ 1 → ptpState t 1 ≠ 1 → ptpState t p = 2 → t.tim.disc = .free)
        ∧ (ptpState t 0 = 0 → ptpState t 1 = 0 → s.tim.disc = .locked → t.tim.disc = .holdover)

/-- Timestamps queue per port, TOUT pulses at 62.5 ps steps, TIN captures and alarms notify on Q28. TX_TIMESTAMP_CAPTURE of the frame on the
wire, which asked for a timestamp, appends it to its port's queue while that holds fewer than 64, and TX_TIMESTAMP_POP removes the
oldest. TOUT_PULSE emits the next pulse of its record at its active level with both edges at the nearest step; in SHADOW it counts the
pulse and drives nothing. TIN_CAPTURE of a selected edge outside the deglitch time notes it and, with NOTIFY and room on Q28, posts its
notification; TIM_ALARM_FIRE of an enabled alarm that has not fired posts its notification and marks it fired. (R76, R79, R80, R83, R84,
R316) -/
def Obligations.TimestampsTriggersAndAlarms : Prop :=
  (∀ (s : State) (p tag a : Nat) (ptp : Bool) (u b : Time) (pkt : List Byte),
      (SMap.get EthState.empty s.eth p).sending = some (a, pkt, b, false) → p < 2 → (tsGet s p).length < 64 → leAt pkt 0 2 = tag →
      bitAt (byteOf pkt 2) 0 = true → bitAt (byteOf pkt 2) 1 = ptp →
      ∃ t, exec (.txTimestampCapture p tag ptp u) s = .next t ∧ tsGet t p = tsGet s p ++ [(tag, ptp, u)] ∧ ChangesOnly [.tim, .que] s t)
  ∧ (∀ (s : State) (p : Nat) (x : Nat × Bool × Time) (rest : List (Nat × Bool × Time)), tsGet s p = x :: rest →
      ∃ t, exec (.txTimestampPop p) s = .next t ∧ tsGet t p = rest ∧ ChangesOnly [.tim, .que, .host, .out] s t)
  ∧ (∀ (s : State) (n k : Nat) (a : Time), n < 8 → s.frm.running = true → toutNext s n = some (a, k) → s.dev.state ≠ .shadow →
      ∃ t, exec (.toutPulse n) s = .next t
        ∧ t.out = .tout n (toutHigh (s.cfg.row timTout n)) (step625 a) (step625 (a + u32At (s.cfg.row timTout n) 4 * ns)) :: s.out
        ∧ toutGet t n = { pulses := k, busyUntil := step625 (a + u32At (s.cfg.row timTout n) 4 * ns)
                          high := toutHigh (s.cfg.row timTout n) }
        ∧ (∀ m, m ≠ n → toutGet t m = toutGet s m) ∧ ChangesOnly [.tim, .out] s t)
  ∧ (∀ (s : State) (n k : Nat) (a : Time), n < 8 → s.frm.running = true → toutNext s n = some (a, k) → s.dev.state = .shadow →
      ∃ t, exec (.toutPulse n) s = .next t ∧ t.out = s.out ∧ toutGet t n = { toutGet s n with pulses := k } ∧ ChangesOnly [.tim] s t)
  ∧ (∀ (s : State) (n : Nat) (up : Bool) (u : Time), n < 8 → s.dev.state.live = true →
      bitAt (s.cfg.row timTin n) (if up then 0 else 1) = true → bitAt (s.cfg.row timTin n) 8 = true →
      (∀ v, (tinGet s n).accepted = some v → u16At (s.cfg.row timTin n) 2 * ns ≤ u - v) → (tinGet s n).fifo = [] → s.que.lost = 0 →
      96 ≤ qFree s 28 →
      ∃ t, exec (.tinCapture n up u) s = .next t ∧ (tinGet t n).last = u ∧ (tinGet t n).accepted = some u ∧ (tinGet t n).fifo = []
        ∧ (qGet t 28).packets
          = (qGet s 28).packets ++ [noteBytes s 0x0020 s.que.seq u (leBytes 1 n ++ leBytes 1 (b2n (!up)) ++ leBytes 6 0)]
        ∧ t.que.seq = (s.que.seq + 1) % 4294967296)
  ∧ ∀ (s : State) (n : Nat), n < 4 → s.frm.running = true → bitAt (s.cfg.row timAlarm n) 128 = true → SMap.get 0 s.tim.alarms n = 0 →
      s.que.lost = 0 → 96 ≤ qFree s 28 →
      ∃ t, exec (.timAlarmFire n) s = .next t ∧ SMap.get 0 t.tim.alarms n = 1
        ∧ (qGet t 28).packets = (qGet s 28).packets
          ++ [noteBytes s 0x0021 s.que.seq (timeDec (s.cfg.row timAlarm n)) (leBytes 1 n ++ leBytes 7 0)]

/-- Genlock and word-clock pulses drive the lock loop, and LTC words the timecode. The eighth consecutive GENLOCK pulse with a good spacing
locks the loop; a pulse in HOLDOVER starts acquisition; a pulse in a window of the locked loop within tolerance steers by a sixteenth of
its error, at most 500 ns. GENLOCK_PULSE_MISSING counts a window without a pulse once (the model counts from the first lock on, log
entry 19), and after four GENLOCK_LOST leads to HOLDOVER and is logged. WCLK_PULSE below the divisor counts. LTC_WORD takes the
timecode; LTC_WORD_MISSING after eight periods counts on; LTC_LOST after 25 counted frames clears VALID. (R37, R39, R41, R42) -/
def Obligations.ReferencePulsesLockTheFrame : Prop :=
  (∀ (s : State) (u v : Time), s.frm.running = true → source s = 1 → s.frm.lock.state = .acquiring → s.frm.lock.last = some v →
      spacingGood s.cfg (u - v) = true → 7 ≤ s.frm.lock.good →
      ∃ t, exec (.genlockPulse u) s = .next t ∧ t.frm.lock.state = .locked ∧ t.frm.lock.everLocked = true ∧ t.frm.lock.missing = 0)
  ∧ (∀ (s : State) (u : Time), s.frm.running = true → source s = 1 → s.frm.lock.state = .holdover →
      exec (.genlockPulse u) s = .next { advance s u with frm := { s.frm with lock := { s.frm.lock with
        state := .acquiring, good := 1, last := some u, missing := 0, wclk := 0
        window := windowEdge s ((u : Int) + s.cfg.vs frmGenDelay 0 * ns) } } })
  ∧ (∀ (s : State) (u e : Time) (p : Int), s.frm.running = true → source s = 1 → s.frm.lock.state = .locked →
      p = (u : Int) + s.cfg.vs frmGenDelay 0 * ns → windowEdge s p = some e → s.frm.lock.window ≠ some e →
      ((e : Int) - p).natAbs ≤ s.cfg.v frmGenTol * ns →
      exec (.genlockPulse u) s = .next { advance s u with frm := { s.frm with lock := { s.frm.lock with
        window := some e, last := some u, missing := 0, beyond := 0
        steer := max (-(500 * ns : Nat)) (min (500 * ns : Nat) (roundDiv (-((e : Int) - p)) 16)) } } })
  ∧ (∀ s : State, s.frm.running = true → source s = 1 ∨ source s = 2 → s.frm.lock.everLocked = true → s.frm.lock.state ≠ .holdover →
      windowMissed s = true → exec .genlockPulseMissing s = .next
        { s with frm := { s.frm with lock := { s.frm.lock with missing := s.frm.lock.missing + 1, missed := some s.frm.last } } })
  ∧ (∀ s : State, s.frm.lock.state ≠ .holdover → 4 ≤ s.frm.lock.missing →
      ∃ t, exec .genlockLost s = .next t ∧ t.frm.lock.state = .holdover ∧ t.frm.lock.steer = 0 ∧ ChangesOnly [.frm, .log] s t)
  ∧ (∀ (s : State) (u : Time), s.frm.running = true → source s = 2 → s.frm.lock.wclk + 1 < s.cfg.v frmWclkDiv →
      exec (.wclkPulse u) s = .next
        { advance s u with frm := { s.frm with lock := { s.frm.lock with wclk := s.frm.lock.wclk + 1 } } })
  ∧ (∀ (s : State) (u : Time) (c : BitVec 32) (d : Bool), ∃ t, exec (.ltcWord u c d) s = .next t ∧ t.frm.ltc.start = some u
      ∧ t.frm.ltc.code = c.toNat ∧ t.frm.ltc.drop = d ∧ t.frm.ltc.counting = false ∧ t.frm.ltc.lost = false
      ∧ ChangesOnly [.tim, .frm] s t)
  ∧ (∀ (s : State) (u v : Time), s.frm.ltc.start = some v → s.frm.ltc.period ≠ 0 → v + 8 * s.frm.ltc.period ≤ u →
      s.frm.ltc.counting = false → exec (.ltcWordMissing u) s = .next { advance s u with frm := { s.frm with ltc := { s.frm.ltc with
        counting := true, counted := (u - v) / s.frm.ltc.period
        sub := edgesSince s (v + (u - v) / s.frm.ltc.period * s.frm.ltc.period) } } })
  ∧ ∀ s : State, s.frm.ltc.counting = true → 25 ≤ s.frm.ltc.counted → s.frm.ltc.lost = false →
      ∃ t, exec .ltcLost s = .next t ∧ t.frm.ltc.lost = true ∧ t.frm.ltc.tc = putBit s.frm.ltc.tc 63 false ∧ ChangesOnly [.frm, .log] s t

/-- Retrims and minutes of the ledger, thermistors, die temperature, OVERTEMP and rails. ENERGY_RETRIM within a quarter of the present value
replaces it, outside it is logged alone; ENG_HISTORY_MINUTE puts the minute's record in front of a history of at most 10,080 and begins
a new minute. TSNS_READ takes the eight resistances; DIE_TEMP_SAMPLE the hottest sensor, limited, with the milliseconds at or above 125
°C; OVERTEMP after ten of them leads a live node to SAFE with cause 5; RAIL_MEASURE takes the eight rails. (R387, R404, R509, R513,
R474, R502) -/
def Obligations.EnergyAndTemperatures : Prop :=
  (∀ (s : State) (d c v : Nat) (x : Nat), s.dev.state.live = true → g6Shed s = false → d < 7 → c < 256 →
      x = (SMap.get none s.eng.trim (d * 256 + c)).getD (Config.workCoef (d * 256 + c)) →
      (4 * ((v : Int) - x).natAbs ≤ x →
        exec (.energyRetrim d c v) s = .next { s with eng := { s.eng with trim := SMap.put none s.eng.trim (d * 256 + c) (some v) } })
      ∧ (x < 4 * ((v : Int) - x).natAbs → exec (.energyRetrim d c v) s = .next (logEv s 0x0B04 d c 0)))
  ∧ (∀ (s : State) (u : Time), s.dev.state.powered = true → ∃ t r, exec (.engHistoryMinute u) s = .next t
      ∧ t.eng.history = (r :: s.eng.history).take 10080 ∧ u32At r 0 = (u / sec / 60 - 1) % 2 ^ 32
      ∧ u32At r 4 = s.eng.minute.1 / 60000 % 2 ^ 32 ∧ u32At r 8 = s.eng.minute.2.1 % 2 ^ 32
      ∧ t.eng.minute = (0, 0, s.eng.step, s.eng.h) ∧ ChangesOnly [.tim, .eng] s t)
  ∧ (∀ (s : State) (os : List Nat), s.dev.state.powered = true → ∃ t, exec (.tsnsRead os) s = .next t
      ∧ t.fix = { s.fix with ohms := (List.range 8).map fun i => os.getD i 0 } ∧ ChangesOnly [.fix, .log] s t)
  ∧ (∀ (s : State) (x : Int) (xs : List Int), s.dev.state.powered = true →
      exec (.dieTempSample (x :: xs)) s = .next { s with dev := { s.dev with
        dieTemp := max (-640) (min 3200 (xs.foldl max x))
        hotMs := if 2000 ≤ xs.foldl max x then s.dev.hotMs + 1 else 0 } })
  ∧ (∀ s : State, s.dev.state.live = true → 10 ≤ s.dev.hotMs → ∃ t, exec .overtemp s = .next t ∧ t.dev.state = .safe
      ∧ t.dev.safeCause = 5 ∧ t.frm.running = false ∧ t.ox.accepted = [] ∧ t.ox.open_ = [] ∧ t.red.actOut = false)
  ∧ ∀ (s : State) (mv : List Nat), s.dev.rails = true →
      exec (.railMeasure mv) s = .next { s with dev := { s.dev with railMv := (List.range 8).map fun i => mv.getD i 0 % 65536 } }

/-- A calibration pass begins with the spares, and a line takes the result of its attempts. CAL_PASS_START once CAL_INTERVAL has passed
since the last pass began, with G6 not shed, no calibration under way and every spare idle, begins a pass in which the nine spares
calibrate first. CAL_LINE_CALIBRATE of a line that calibrates clears its FAILS when one of the first four attempts agrees; when four
disagree FAILS is one higher (at most 3) and DISAGREE four higher. No other line changes. (R485, R486, R483) -/
def Obligations.CalibrationPassesAndLines : Prop :=
  (∀ s : State, s.frm.running = true → s.frm.begun = true → s.cal.running = false → s.cal.startAt + s.cfg.v calInterval * sec ≤ s.tim.up →
      g6Shed s = false → s.cal.now = [] → (∀ g, g < 9 → spareIdle s g = true) →
      ∃ t, exec .calPassStart s = .next t ∧ t.cal.running = true ∧ t.cal.startAt = s.tim.up
        ∧ t.cal.now = [8, 17, 26, 35, 44, 53, 62, 71, 80] ∧ (∀ n, lineGet t n = lineGet s n) ∧ ChangesOnly [.cal] s t)
  ∧ (∀ (s : State) (n : Nat) (as_ : List Bool), n ∈ s.cal.now → true ∈ as_.take 4 →
      ∃ t, exec (.calLineCalibrate n as_) s = .next t ∧ (lineGet t n).fails = 0 ∧ (lineGet t n).state = (lineGet s n).state
        ∧ (lineGet t n).lastPass = optimeNow s / 1000 % 4294967296 ∧ (∀ m, m ≠ n → lineGet t m = lineGet s m) ∧ ChangesOnly [.cal] s t)
  ∧ ∀ (s : State) (n : Nat) (rest : List Bool), n ∈ s.cal.now →
      ∃ t, exec (.calLineCalibrate n (false :: false :: false :: false :: rest)) s = .next t
        ∧ (lineGet t n).fails = min 3 ((lineGet s n).fails + 1) ∧ SMap.get 0 t.cal.cnt 1 = sat32 (SMap.get 0 s.cal.cnt 1) 4
        ∧ (∀ m, m ≠ n → lineGet t m = lineGet s m) ∧ ChangesOnly [.cal] s t

/-- Every frame edge falls at its fixed instant with the next number, takes the frame's parameters, and presents it or holds the frame
before. FRAME_EDGE while edges run, the three frames in progress latched, and no reset, dusk or activation due: the frame number is the
next one, the edge falls at the instant fixed before, and the parameter set in force is that of the frame. In RUN outside a pair, with
DEV_RUN 1 in the frame, a completed frame is presented, and a slipped one shows the frame before again. Where a reset is due the node
enters DAWN at the edge; otherwise where a dusk is wanted it enters DUSK at the edge; otherwise where an armed update has its activation
edge there, UPD_STATE becomes ACTIVATING; edges stop in all three. Where no edges run FRAME_EDGE changes nothing. (R36, R47, R49, R60) -/
def Obligations.EdgesNumberAndPresentFrames : Prop :=
  (∀ (s : State) (i : EdgeIn), s.frm.running = true → s.frm.frames.length = 3 → s.upd.resetWanted = false → s.dev.duskWanted = false →
      s.upd.state ≠ 4 → ∃ t, exec (.frameEdge i) s = .next t ∧ t.frm.num = nextNum s ∧ t.frm.last = s.frm.next ∧ t.frm.begun = true
        ∧ t.tim.now = max s.tim.now s.frm.next)
  ∧ (∀ (s : State) (i : EdgeIn) (f : Frame), s.frm.running = true → s.frm.frames.length = 3 → s.upd.resetWanted = false →
      s.dev.duskWanted = false → s.upd.state ≠ 4 → frameOf s (nextNum s) = some f → s.dev.state = .run → s.red.pair = false →
      s.red.roleAt = none → f.cfg.v devRun = 1 →
      (f.stage = .complete → ∃ t, exec (.frameEdge i) s = .next t ∧ t.frm.cur = f.cfg ∧ t.frm.shown = f.out ∧ t.frm.shownNum = f.num
        ∧ t.frm.repeat_ = false)
      ∧ (f.stage = .slipped → ∃ t, exec (.frameEdge i) s = .next t ∧ t.frm.cur = f.cfg ∧ t.frm.shown = s.frm.shown ∧ t.frm.repeat_ = true))
  ∧ (∀ (s : State) (i : EdgeIn), s.frm.running = true → s.frm.frames.length = 3 → s.upd.resetWanted = true →
      ∃ t, exec (.frameEdge i) s = .next t ∧ t.dev.state = .dawn ∧ t.frm.running = false)
  ∧ (∀ (s : State) (i : EdgeIn), s.frm.running = true → s.frm.frames.length = 3 → s.upd.resetWanted = false → s.dev.duskWanted = true →
      ∃ t, exec (.frameEdge i) s = .next t ∧ t.dev.state = .dusk ∧ t.frm.running = false ∧ t.frm.num = nextNum s ∧ t.frm.last = s.frm.next)
  ∧ (∀ (s : State) (i : EdgeIn), s.frm.running = true → s.frm.frames.length = 3 → s.upd.resetWanted = false → s.dev.duskWanted = false →
      s.upd.state = 4 → s.upd.armed.getD 0 ≤ nextNum s →
      ∃ t, exec (.frameEdge i) s = .next t ∧ t.upd.state = 5 ∧ t.upd.armed = none ∧ t.frm.running = false)
  ∧ ∀ (s : State) (i : EdgeIn), s.frm.running = false → exec (.frameEdge i) s = .next s

/-- A frame is latched with the transactions due, its bands are composed, and it completes before its deadline or slips. FRAME_LATCH with
fewer than three frames in progress (and fewer than seven frames above the cap) adds the next frame, which takes every accepted
transaction for it or an earlier frame. COMPOSER_BAND moves the frame served on by one band. COMPUTE_COMPLETE before the deadline
completes the frame with the data computed from it; at the deadline or later, and at COMPUTE_DEADLINE, the frame has slipped and
FRM_SLIP_COUNT is one higher. (R43, R44, R48, R49, R50, R52) -/
def Obligations.FramesAreLatchedComputedAndSlip : Prop :=
  (∀ s : State, s.frm.running = true → s.frm.frames.length < 3 → s.eng.above < 7 → ∃ t f, exec .frameLatch s = .next t
      ∧ t.frm.frames = s.frm.frames ++ [f] ∧ f.num = nextLatch s ∧ (∀ x ∈ s.ox.accepted, x.frame ≤ f.num → x ∈ f.txns)
      ∧ ∀ x ∈ t.ox.accepted, x ∈ s.ox.accepted ∧ f.num < x.frame)
  ∧ (∀ (s : State) (f : Frame) (k y : Nat), working s = some f → frameOf s f.num = some f → s.frm.running = true →
      inputHeld s f.num = true → nextCanvas f.cfg f.canvas f.lines = some (k, y) →
      ∃ t g, exec .composerBand s = .next t ∧ frameOf t f.num = some g ∧ g.canvas = k
        ∧ g.lines = min (f.cfg.val cnvHeight k) (y + 64) ∧ ChangesOnly [.frm, .con] s t
        ∧ SMap.get none t.con.bands s.con.bandNext = some (f.num, k, y / 64) ∧ t.con.bandNext = 1 - s.con.bandNext)
  ∧ (∀ (s : State) (u : Time) (f : Frame), working s = some f → frameOf s f.num = some f → s.frm.running = true → composed f = true →
      inputHeld s f.num = true → shadowing s = false → max s.tim.now u < deadline s f.num →
      ∃ t g, exec (.computeComplete u) s = .next t ∧ frameOf t f.num = some g ∧ g.stage = .complete
        ∧ g.out = (computeFrame (advance s u) f).2 ∧ t.frm.slips = s.frm.slips)
  ∧ (∀ (s : State) (u : Time) (f : Frame), working s = some f → frameOf s f.num = some f → s.frm.running = true → composed f = true →
      inputHeld s f.num = true → deadline s f.num ≤ max s.tim.now u →
      ∃ t g, exec (.computeComplete u) s = .next t ∧ frameOf t f.num = some g ∧ g.stage = .slipped
        ∧ t.frm.slips = sat32 s.frm.slips 1)
  ∧ ∀ (s : State) (f : Frame), frameOf s (dueFrame s) = some f → f.stage = .computing → s.frm.running = true →
      ∃ t g, exec .computeDeadline s = .next t ∧ frameOf t f.num = some g ∧ g.stage = .slipped ∧ t.frm.slips = sat32 s.frm.slips 1

/-- A valid write of EDGE items outside a transaction becomes a transaction of its own for the next open frame. A SET of EDGE parameters
(the ones that recall or release cues, clear faults, set floors and enables by zone, switch the pair, clear UNFIT or start a calibration
among them), a TABLE_WRITE of an EDGE table, a STREAM_BIND and a REWIND, sent without TXN, well-formed, with room, concerning this node
alone and valid at the next open frame, is answered ACCEPTED with that frame and its new ID, and stands among the accepted transactions.
(R309, R311, R52, R53) -/
def Obligations.EdgeRequestsAreAccepted : Prop :=
  (∀ (r : Req) (s v : State), (∀ y ∈ r.items, edgeId y.id = true) → EdgeReady 0x02 r s v →
      exec (.set r) s = .next (edgeAnswered 0x02 r s v) ∧ exec (.fixSceneRecall r) s = .next (edgeAnswered 0x02 r s v)
      ∧ exec (.fixSceneRelease r) s = .next (edgeAnswered 0x02 r s v) ∧ exec (.fixFaultClear r) s = .next (edgeAnswered 0x02 r s v)
      ∧ exec (.fixFloorSet r) s = .next (edgeAnswered 0x02 r s v) ∧ exec (.fixEnableSet r) s = .next (edgeAnswered 0x02 r s v)
      ∧ exec (.redSwitch r) s = .next (edgeAnswered 0x02 r s v) ∧ exec (.redUnfitClear r) s = .next (edgeAnswered 0x02 r s v)
      ∧ exec (.calStart r) s = .next (edgeAnswered 0x02 r s v) ∧ ownAcc 0x02 r s ∈ (edgeAnswered 0x02 r s v).ox.accepted)
  ∧ (∀ (r : Req) (d : TableSpec) (s v : State), findTable (tblId r) = some d → d.edge = true → EdgeReady 0x20 r s v →
      exec (.tableWrite r) s = .next (edgeAnswered 0x20 r s v) ∧ ownAcc 0x20 r s ∈ (edgeAnswered 0x20 r s v).ox.accepted)
  ∧ (∀ (r : Req) (s v : State), EdgeReady 0x22 r s v →
      exec (.streamBind r) s = .next (edgeAnswered 0x22 r s v) ∧ ownAcc 0x22 r s ∈ (edgeAnswered 0x22 r s v).ox.accepted)
  ∧ ∀ (r : Req) (s v : State), EdgeReady 0x23 r s v →
      exec (.rewind r) s = .next (edgeAnswered 0x23 r s v) ∧ ownAcc 0x23 r s ∈ (edgeAnswered 0x23 r s v).ox.accepted

/-- A valid SET of one acting IMMEDIATE parameter is carried out and answered OK. DMX_RDM_REQ, DMX_RDM_DISC, DAL_CMD, DAL_ADDRESS_RUN,
RAD_TX, QUE_FLUSH and TIM_RTC_SET as a SET with that one item, well-formed and not refused by rights, state or the parameter's own rule,
are answered OK with their effect: the request or frame queued on its port or bus, discovery or allocation begun on the masked ones, the
flushes marked, or the RTC loaded and valid. (R309, R66, R171, R172, R180, R255, R287) -/
def Obligations.ImmediateRequestsActAtOnce : Prop :=
  (∀ (r : Req) (s v : State), ActsReady dmxRdmReq r s v → exec (.dmxRdmReq r) s = .next (answered 0x02 r v .ok 0 []))
  ∧ (∀ (r : Req) (s v : State), ActsReady dmxRdmDisc r s v → exec (.dmxRdmDisc r) s = .next (answered 0x02 r v .ok 0 []))
  ∧ (∀ (r : Req) (s v : State), ActsReady dalCmd r s v → exec (.dalCmd r) s = .next (answered 0x02 r v .ok 0 []))
  ∧ (∀ (r : Req) (s v : State), ActsReady dalAddressRun r s v → exec (.dalAddressRun r) s = .next (answered 0x02 r v .ok 0 []))
  ∧ (∀ (r : Req) (s v : State), ActsReady radTx r s v → exec (.radTx r) s = .next (answered 0x02 r v .ok 0 []))
  ∧ (∀ (r : Req) (s v : State), ActsReady queFlush r s v → exec (.queFlush r) s = .next (answered 0x02 r v .ok 0 []))
  ∧ (∀ (r : Req) (s v : State), ActsReady timRtcSet r s v → exec (.timRtcSet r) s = .next (answered 0x02 r v .ok 0 []))
  ∧ (∀ (s : State) (p : ParamRow) (y : SetItem), p.id = dmxRdmReq.id →
      (dmxGet (actionDo s p y) (byteAt y.value 0)).queue = (dmxGet s (byteAt y.value 0)).queue ++ [y.value])
  ∧ (∀ (s : State) (p : ParamRow) (y : SetItem) (n : Nat), p.id = dmxRdmDisc.id → n < 16 → bitAt y.value n = true →
      (dmxGet (actionDo s p y) n).disc = true)
  ∧ (∀ (s : State) (p : ParamRow) (y : SetItem), p.id = dalCmd.id →
      (daliGet (actionDo s p y) (byteAt y.value 0)).cmds = (daliGet s (byteAt y.value 0)).cmds ++ [y.value])
  ∧ (∀ (s : State) (p : ParamRow) (y : SetItem) (n : Nat), p.id = dalAddressRun.id → n < 8 → bitAt y.value n = true →
      (daliGet (actionDo s p y) n).addressing = some (bitAt y.value 8))
  ∧ (∀ (s : State) (p : ParamRow) (y : SetItem), p.id = radTx.id →
      (radGet (actionDo s p y) (radTxRec (leBytes y.len y.value)).1).queue.length
        = (radGet s (radTxRec (leBytes y.len y.value)).1).queue.length + 1)
  ∧ (∀ (s : State) (p : ParamRow) (y : SetItem) (n : Nat), p.id = queFlush.id → n < 32 → bitAt y.value n = true →
      (qGet (actionDo s p y) n).flushing = true)
  ∧ ∀ (s : State) (p : ParamRow) (y : SetItem), p.id = timRtcSet.id →
      (actionDo s p y).tim.rtcValid = true ∧ (actionDo s p y).tim.rtc = ticksOf (timeDec y.value)

/-- GET, SNAPSHOT_GET and TABLE_READ answer OK with the values read. A GET to one node whose IDs may be read answers one item per ID;
SNAPSHOT_GET to one node answers the number of the last frame and the node's block; TABLE_READ that no rule refuses answers its payload
followed by the records, a read of the wake latch being noted; an EDGE parameter reads as the parameter set in force has it. (R308, R60,
R61, R325) -/
def Obligations.ReadRequestsAnswer : Prop :=
  (∀ (r : Req) (s u : State) (b : List Byte), u = inService 0x01 r s → Heard 0x01 r s → r.node ≠ 0x3F → getItems u r = .ok b →
      Fits 0x01 r s u .ok 0 b → exec (.get r) s = .next (answered 0x01 r u .ok 0 b))
  ∧ (∀ (r : Req) (s u : State) (b : List Byte), u = inService 0x03 r s → Heard 0x03 r s → r.node ≠ 0x3F → getItems u r = .ok b →
      Fits 0x03 r s u .ok 0 (leBytes 8 u.frm.num ++ nodeBlock u b) →
      exec (.snapshotGet r) s = .next (answered 0x03 r u .ok 0 (leBytes 8 u.frm.num ++ nodeBlock u b)))
  ∧ ∀ (r : Req) (s u v : State), u = inService 0x21 r s → Heard 0x21 r s → tableReadErr u (by_ 0x21 r s) r = none →
      v = (if tblId r = 0x7002 then { u with dev := { u.dev with wakeRead := true } } else u) →
      Fits 0x21 r s v .ok 0 (r.payload ++ tableReadData u r) →
      exec (.tableRead r) s = .next (answered 0x21 r v .ok 0 (r.payload ++ tableReadData u r))

/-- Transactions are opened, committed, aborted and expire; dedupe entries expire. TXN_OPEN with fewer than 32 open answers OK with a new ID
and opens it empty. TXN_COMMIT_AT of an open transaction of the sender that concerns this node alone, with a legal payload and an edge
that can be met, and valid there, closes it, accepts its items for that frame and answers ACCEPTED. TXN_ABORT closes it. TXN_IDLE_EXPIRY
closes exactly those idle for DEV_TXN_IDLE; DEDUPE_EXPIRY drops exactly the entries whose time has passed. (R310, R311, R53, R306) -/
def Obligations.TransactionsOpenCommitAndEnd : Prop :=
  (∀ (r : Req) (s u v : State), u = inService 0x10 r s → Heard 0x10 r s → u.ox.open_.length < 32 →
      v = { noteId u (newId u) with ox := { (noteId u (newId u)).ox with open_ := u.ox.open_ ++ [⟨newId u, (by_ 0x10 r s).ident,
        (by_ 0x10 r s).tenant, (by_ 0x10 r s).role, [], u.tim.up⟩] } } →
      Fits 0x10 r s v .ok (newId u) [] → exec (.txnOpen r) s = .next (answered 0x10 r v .ok (newId u) []))
  ∧ (∀ (r : Req) (s u v : State) (x : OpenTxn) (j : Nat), u = inService 0x11 r s → Heard 0x11 r s → openOf u (by_ 0x11 r s) r = .ok x →
      commitForm r.payload = none → commitEdgeErr u r.payload = none → involved u x.items = [] →
      j = (if byteOf r.payload 0 = 2 then commitNext u 1 else commitFrame u r.payload) →
      txnErr (closeTxn u x.id) (by_ 0x11 r s).tenant (by_ 0x11 r s).role j x.items = none →
      v = accept (closeTxn u x.id) ⟨x.id, j, (by_ 0x11 r s).tenant, (by_ 0x11 r s).role, x.items, true⟩ →
      Fits 0x11 r s v .accepted 0 (leBytes 8 j) →
      exec (.txnCommitAt r) s = .next (answered 0x11 r v .accepted 0 (leBytes 8 j)))
  ∧ (∀ (r : Req) (s u : State) (x : OpenTxn), u = inService 0x12 r s → Heard 0x12 r s → openOf u (by_ 0x12 r s) r = .ok x →
      Fits 0x12 r s (closeTxn u x.id) .ok 0 [] → exec (.txnAbort r) s = .next (answered 0x12 r (closeTxn u x.id) .ok 0 []))
  ∧ (∀ (s : State) (u : Time), ∃ t, exec (.txnIdleExpiry u) s = .next t ∧ (∀ y, y ∈ t.ox.open_ ↔
      y ∈ s.ox.open_ ∧ ∀ x ∈ idleTxns (advance s u), x.id ≠ y.id) ∧ t.ox.accepted = s.ox.accepted)
  ∧ ∀ (s : State) (u : Time), ∃ t, exec (.dedupeExpiry u) s = .next t ∧ ChangesOnly [.tim, .ox] s t
      ∧ (∀ k d, (k, some d) ∈ t.ox.dedupe ↔ (k, some d) ∈ s.ox.dedupe ∧ t.tim.up < d.until_) ∧ t.ox.open_ = s.ox.open_

/-- Malformed packets, bad console frames and unknown opcodes. MB_MALFORMED of a packet shorter than 24 bytes on MB0 counts it in MALFORMED
of its path and raises MB_MALFORMED; CONSOLE_FRAME_ERROR of a frame whose CRC-16 fails counts in the console's record; a request with an
opcode that Table 13-6 does not list, heard on its path, is answered E_OPCODE. (R303, R304, R476) -/
def Obligations.MailboxPacketsThatNoRequestIs : Prop :=
  (∀ (s : State) (bs : List Byte), hostUp s = true → bs.length < 24 →
      ∃ t, exec (.mbMalformed .mb0 bs) s = .next t ∧ bitAt t.host.intStatus 38 = true
        ∧ SMap.get 0 t.ox.counters 3 = sat32 (SMap.get 0 s.ox.counters 3) 1 ∧ ChangesOnly [.que, .host, .ox, .out] s t)
  ∧ (∀ (s : State) (bs : List Byte), answers s .console = true → 2 ≤ bs.length →
      leNat (bs.drop (bs.length - 2)) ≠ crc16 (bs.take (bs.length - 2)) →
      ∃ t, exec (.consoleFrameError bs) s = .next t ∧ SMap.get 0 t.ox.counters 35 = sat32 (SMap.get 0 s.ox.counters 35) 1
        ∧ t.ox = { s.ox with counters := t.ox.counters } ∧ ChangesOnly [.ox] s t)
  ∧ ∀ (s u : State) (r : Req) (op : Nat), op ∉ opcodes → u = inService op r s → answers (advance s r.t) r.path = true →
      pathBusy (advance s r.t) r.path = false →
      seenOf (mbCount (takeRequest (advance s r.t) r.path (reqBytes op r)) r.path 0) op r = .fresh →
      exec (.unknownOpcodeRequest op r) s = .next (answered op r u .eOpcode 0 (errBytes u { status := .eOpcode }))

/-- Strand pins and DMX ports send for the next edge, and the RDM controller starts, defers, ends and repeats transactions. STRAND_TX_START
sends a pin's bits so that they end at the next edge, once. DMX_PACKET_START sends the slots of the frame taken for the port so that the
packet ends at its edge, once; a transaction still in flight then ends as an overrun. RDM_TRANSACTION_START puts the oldest host request
into flight where its budget ends in time, and otherwise leaves it waiting and counts RDM_DEFERRED once per interval. RDM_RESPONSE with
a good checksum ends a host request with status 0 and its data; RDM_RESPONSE_TIMEOUT repeats the first two times and then ends it with
status 1. RDM_DISC_DONE stores the responders; RDM_TELEMETRY_POLL that is due queues the sensors of a record. (R160, R166, R168, R170,
R171, R172, R173) -/
def Obligations.StrandsDmxAndRdm : Prop :=
  (∀ (s : State) (p : Nat) (c : Store) (o : FrameOut) (n : Nat) (u : Time), transmits s = true → p < 64 → sending s = (c, o, n) →
      modeOf (c.row spnPin p) ≠ 0 → (∀ x, SMap.get none s.wired.strands p = some x → x.stop ≠ s.frm.next) →
      u = s.frm.next - spTtx (c.row spnPin p) (c.wirePixels p) * ns →
      ∃ t x, exec (.strandTxStart p) s = .next t ∧ SMap.get none t.wired.strands p = some x ∧ x.stop = s.frm.next
        ∧ x.start = nearestNs u ∧ x.bits = strandBits c o p ∧ x.rec_ = c.row spnPin p ∧ t.tim.now = max s.tim.now u
        ∧ t.out = .strand p (nearestNs u) (packBits (((strandBits c o p).length + 7) / 8) (strandBits c o p)) :: s.out
        ∧ ChangesOnly [.tim, .wired, .out] s t)
  ∧ (∀ (s : State) (p r : Nat) (e : Time), transmits s = true → p < 16 → r = dmxRec s p → modeOf r ≠ 0 →
      e = dmxTarget s r → (dmxGet s p).target ≠ dmxTargetNum s r + 1 →
      ∃ t, exec (.dmxPacketStart p) s = .next t ∧ (dmxGet t p).packetEnd = e ∧ (dmxGet t p).target = dmxTargetNum s r + 1
        ∧ (dmxGet t p).deOff = none ∧ (dmxGet t p).flight = none ∧ (∃ rest, t.out = .dmx p (e - dmxTime r * ns) (dmxSlots r p (dmxGet s p).src) :: rest)
        ∧ ((dmxGet s p).flight ≠ none → SMap.get 0 (dmxGet t p).cnt 1 = sat32 (SMap.get 0 (dmxGet s p).cnt 1) 1)
        ∧ ((dmxGet s p).flight = none → ChangesOnly [.tim, .wired, .out] s t))
  ∧ (∀ (s : State) (p q r : Nat) (u : Time) (rest : List Nat), transmits s = true → p < 16 → r = dmxRec s p → modeOf r = 2 →
      (dmxGet s p).flight = none → (dmxGet s p).packetEnd ≤ u → (dmxGet s p).retry = none → (dmxGet s p).queue = q :: rest →
      (u + (rdmBudget q + 176) * us ≤ dmxTarget s r - dmxTime r * ns →
        ∃ t, exec (.rdmTransactionStart p u) s = .next t ∧ (dmxGet t p).flight = some { poll := none, disc := false, req := q, tries := 0 }
          ∧ (dmxGet t p).queue = rest ∧ t.out = .rdm p u (rdmPacket p (dmxGet s p).tn q) :: s.out)
      ∧ (dmxTarget s r - dmxTime r * ns < u + (rdmBudget q + 176) * us → (dmxGet s p).deferredAt ≠ (dmxGet s p).packetEnd →
        ∃ t, exec (.rdmTransactionStart p u) s = .next t ∧ (dmxGet t p).flight = none ∧ (dmxGet t p).queue = q :: rest
          ∧ SMap.get 0 (dmxGet t p).cnt 3 = sat32 (SMap.get 0 (dmxGet s p).cnt 3) 1 ∧ t.out = s.out))
  ∧ (∀ (s : State) (p ty : Nat) (u : Time) (pd : List Byte) (f : RdmFlight), (dmxGet s p).flight = some f → f.poll = none →
      f.disc = false → ∃ t, exec (.rdmResponse p u ty true pd) s = .next t ∧ (dmxGet t p).flight = none
        ∧ SMap.get [255#8] t.wired.resp (byteAt f.req 13) = respRecord 0 ty p (pd.take 231) ∧ t.que.seq = (s.que.seq + 1) % 4294967296)
  ∧ (∀ (s : State) (p : Nat) (u : Time) (f : RdmFlight), (dmxGet s p).flight = some f → f.disc = false →
      (f.tries < 2 → ∃ t, exec (.rdmResponseTimeout p u) s = .next t ∧ (dmxGet t p).flight = none
        ∧ (dmxGet t p).retry = some { f with tries := f.tries + 1 } ∧ ChangesOnly [.tim, .wired] s t)
      ∧ (2 ≤ f.tries → f.poll = none → ∃ t, exec (.rdmResponseTimeout p u) s = .next t ∧ (dmxGet t p).flight = none
        ∧ (dmxGet t p).retry = none ∧ SMap.get 0 (dmxGet t p).cnt 0 = sat32 (SMap.get 0 (dmxGet s p).cnt 0) 1
        ∧ SMap.get [255#8] t.wired.resp (byteAt f.req 13) = respRecord 1 0 p []))
  ∧ (∀ (s : State) (p : Nat) (u : Time) (ids : List Nat), p < 16 → (dmxGet s p).disc = true →
      ∃ t, exec (.rdmDiscDone p u ids) s = .next t ∧ (dmxGet t p).disc = false
        ∧ (∀ i, i < 512 → SMap.get 0 t.wired.uid (p * 512 + i)
          = if i < ids.length then leNat (beBytes 6 (ids.getD i 0)) else 0)
        ∧ t.que.seq = (s.que.seq + 1) % 4294967296)
  ∧ ∀ (s : State) (n p k : Nat), transmits s = true → n < 1024 → s.cfg.row dmxRdmTel n ≠ 0 →
      dmxPortOf s.cfg (u32At (s.cfg.row dmxRdmTel n) 0) = some p → modeOf (s.cfg.row dmxPort p) = 2 → k < 2 →
      byteAt (s.cfg.row dmxRdmTel n) (12 + k) ≠ 255 →
      intervalOver s (SMap.get none s.wired.telAt n) (u16At (s.cfg.row dmxPort p) 12) = true →
      ∃ t, exec (.rdmTelemetryPoll n) s = .next t ∧ (n, k) ∈ (dmxGet t p).due ∧ SMap.get none t.wired.telAt n = some s.tim.now
        ∧ ChangesOnly [.wired] s t

/-- DALI frames go out in order, collide, are answered or not, and buses fail and come back. DALI_FRAME_SEND on a bus that is up sends the
next frame of a sequence, else the next DAL_CMD, else the first frame that sets the address served next to its pending values.
DALI_COLLISION sends the frame again up to the eighth time, at which its entry returns to pending and DAL_COLLISIONS counts. DALI_POLL
that is due, with nothing waiting, queries the status of a patched address. DALI_BACKWARD_FRAME and DALI_REPLY_TIMEOUT end a host
command with their result; a status reply with lamp failure sets every FAULT bit of the fixture; a status query without reply counts a
miss. DALI_BUS_DOWN clears what waits and counts; DALI_BUS_RESTORED takes the bus up with the current values pending. DAL_ADDRESS_DONE
ends the run, and DALI_DEVICE_FRAME is counted. (R175, R176, R178, R179, R180) -/
def Obligations.DaliBuses : Prop :=
  (∀ (s : State) (b : Nat), transmits s = true → b < 8 → modeOf (s.cfg.row dalBus b) = 1 → (daliGet s b).down = false →
      (∀ (v : Nat) (rest : List Nat), (daliGet s b).seq = v :: rest →
        exec (.daliFrameSend b) s = .next (emit (daliPut s b { daliGet s b with seq := rest, lastFrame := some v, collisions := 0 })
          (.dali b v 16)))
      ∧ (∀ (r : Nat) (rest : List Nat), (daliGet s b).ask = none → (daliGet s b).seq = [] → (daliGet s b).cmds = r :: rest →
        bitAt r 8 = false → ∃ t, exec (.daliFrameSend b) s = .next t ∧ t.out = .dali b (u16At r 2) 16 :: s.out ∧ (daliGet t b).cmds = rest
          ∧ (daliGet t b).ask = some { addr := 64, kind := 3 } ∧ ChangesOnly [.wired, .out] s t)
      ∧ ∀ (a f : Nat) (v rest : List Nat), (daliGet s b).ask = none → (daliGet s b).seq = [] → (daliGet s b).cmds = [] →
        broadcastOf s.cfg b (daliGet s b) = none → nextPending s.cfg b (daliGet s b) = some a →
        SMap.get none (daliGet s b).pending a = some v → arcFrames a v = f :: rest →
        ∃ t, exec (.daliFrameSend b) s = .next t ∧ t.out = .dali b f 16 :: s.out ∧ (daliGet t b).seq = rest
          ∧ SMap.get none (daliGet t b).pending a = none ∧ SMap.get none (daliGet t b).sent a = some v ∧ ChangesOnly [.wired, .out] s t)
  ∧ (∀ (s : State) (b v : Nat), (daliGet s b).lastFrame = some v → (daliGet s b).collisions < 7 →
      exec (.daliCollision b) s = .next
        (emit (daliPut s b { daliGet s b with collisions := (daliGet s b).collisions + 1 }) (.dali b v 16)))
  ∧ (∀ (s : State) (b v a : Nat) (l : List Nat), (daliGet s b).lastFrame = some v → 7 ≤ (daliGet s b).collisions →
      (daliGet s b).seqFor = some (a, l) → a < 64 → SMap.get none (daliGet s b).pending a = none →
      ∃ t, exec (.daliCollision b) s = .next t ∧ SMap.get none (daliGet t b).pending a = some l ∧ (daliGet t b).seq = []
        ∧ (daliGet t b).lastFrame = none ∧ SMap.get 0 (daliGet t b).cnt 0 = sat32 (SMap.get 0 (daliGet s b).cnt 0) 1)
  ∧ (∀ (s : State) (b a : Nat), transmits s = true → b < 8 → modeOf (s.cfg.row dalBus b) = 1 → (daliGet s b).down = false →
      (daliGet s b).ask = none → (daliGet s b).seq = [] → (daliGet s b).cmds = [] → (daliGet s b).pending = [] →
      (daliFixture s.cfg b a).isSome = true → intervalOver s (SMap.get none (daliGet s b).polled a) (u16At (s.cfg.row dalBus b) 2) = true →
      ∃ t, exec (.daliPoll b a) s = .next t ∧ (daliGet t b).ask = some { addr := a, kind := 0 }
        ∧ SMap.get none (daliGet t b).polled a = some s.tim.now ∧ t.out = .dali b ((a * 2 + 1) * 256 + 0x90) 16 :: s.out)
  ∧ (∀ (s : State) (b a v : Nat) (u : Time), (daliGet s b).ask = some { addr := a, kind := 3 } → (daliGet s b).seq = [] →
      (∃ t, exec (.daliBackwardFrame b v u) s = .next t ∧ (daliGet t b).ask = none ∧ t.que.seq = (s.que.seq + 1) % 4294967296)
      ∧ ∃ t, exec (.daliReplyTimeout b u) s = .next t ∧ (daliGet t b).ask = none ∧ t.que.seq = (s.que.seq + 1) % 4294967296)
  ∧ (∀ (s : State) (b a v : Nat) (u : Time) (fx : Nat × Nat), (daliGet s b).ask = some { addr := a, kind := 0 } → (daliGet s b).seq = [] →
      daliFixture s.cfg b a = some fx → bitAt v 1 = true →
      ∃ t, exec (.daliBackwardFrame b v u) s = .next t ∧ SMap.get 0 t.src.fault fx.1
        = Nat.lor (SMap.get 0 s.src.fault fx.1) ((2 ^ mdEmitters (s.cfg.row modTable (fxModel fx.2)) - 1) % 65536))
  ∧ (∀ (s : State) (b a : Nat) (u : Time), (daliGet s b).ask = some { addr := a, kind := 0 } → (daliGet s b).seq = [] →
      ∃ t, exec (.daliReplyTimeout b u) s = .next t ∧ (daliGet t b).ask = none
        ∧ SMap.get 0 (daliGet t b).misses a = SMap.get 0 (daliGet s b).misses a + 1 ∧ ChangesOnly [.tim, .wired, .log] s t)
  ∧ (∀ (s : State) (b : Nat), b < 8 → (daliGet s b).down = false → ∃ t, exec (.daliBusDown b) s = .next t ∧ (daliGet t b).down = true
      ∧ (daliGet t b).pending = [] ∧ (daliGet t b).seq = [] ∧ (daliGet t b).ask = none
      ∧ SMap.get 0 (daliGet t b).cnt 2 = sat32 (SMap.get 0 (daliGet s b).cnt 2) 1
      ∧ ((daliGet s b).ask = none → ChangesOnly [.wired, .log] s t))
  ∧ (∀ (s : State) (b : Nat), (daliGet s b).down = true → ∃ t, exec (.daliBusRestored b) s = .next t ∧ (daliGet t b).down = false
      ∧ (∀ p ∈ daliPatched s.cfg b,
        SMap.get none (daliGet t b).pending p.1 = some ((SMap.get [] s.frm.shown.drives p.2.1).map arcOf)) ∧ ChangesOnly [.wired] s t)
  ∧ (∀ (s : State) (b : Nat) (u : Time) (xs : List (Nat × Nat)), b < 8 → (daliGet s b).addressing.isSome = true →
      ∃ t, exec (.dalAddressDone b u xs) s = .next t ∧ (daliGet t b).addressing = none ∧ t.que.seq = (s.que.seq + 1) % 4294967296)
  ∧ ∀ (s : State) (b : Nat), b < 8 → exec (.daliDeviceFrame b) s = .next (daliCount s b 1)

/-- sACN data packets are paced, the quiet time discards what is left, and the synchronisation packet goes out at its lead. SACN_DATA_PACKET
on a port of a node in RUN with a due record left, outside the quiet time, hands that record's packet to the port's queue of priority 2
at its place in the pacing, with its sequence number. SACN_QUIET_START discards the records not sent and the packets still queued,
counting each in SAC_LATE. SACN_SYNC_PACKET of a port that carried a SYNC universe launches the synchronisation packet at E(k) −
SAC_LEAD, or holds it while the port is paused. (R183, R184, R273) -/
def Obligations.SacnOutput : Prop :=
  (∀ (s : State) (p i : Nat) (rest : List Nat) (u : Time) (k : List Byte), p < 2 → (sacnGet s p).todo = i :: rest → transmits s = true →
      s.frm.num + 1 = (sacnGet s p).frame → (sacnGet s p).quiet = false → u = paceAt s p → quietNow s p u = false →
      k = sacnPacket (bitAt ((sending s).1.row sacUniv i) 49) (dataFrame s (sending s) p i (sacnGet s p).frame 0) →
      ∃ t, exec (.sacnDataPacket p) s = .next t ∧ t.tim.now = u ∧ (sacnGet t p).todo = rest
        ∧ SMap.get 0 t.wired.sacnSeq i = seqFor s i (sacnGet s p).frame + 256 * ((sacnGet s p).frame + 1)
        ∧ ((qGet s (2 + 4 * p)).waiting = [] → (qGet s (2 + 4 * p)).flushing = false → k.length ≤ qFree s (2 + 4 * p) →
          (qGet t (2 + 4 * p)).packets = (qGet s (2 + 4 * p)).packets ++ [k])
        ∧ ChangesOnly [.tim, .wired, .que, .host, .out] s t)
  ∧ (∀ (s : State) (p n : Nat), quietAhead s p = true → n = (sacnGet s p).todo.length + (dropSacn s p).1 →
      ∃ t, exec (.sacnQuietStart p) s = .next t ∧ (sacnGet t p).todo = [] ∧ (sacnGet t p).quiet = true
        ∧ t.tim.now = max s.tim.now (quietAt s p) ∧ t.wired.sacnLate = (if n = 0 then s.wired.sacnLate else sat32 s.wired.sacnLate n)
        ∧ ChangesOnly [.tim, .wired, .que, .host, .log, .out] s t)
  ∧ ∀ (s : State) (p : Nat), syncAhead s p = true → (ethGet s p).up = true →
      ∃ t, exec (.sacnSyncPacket p) s = .next t ∧ t.tim.now = max s.tim.now (syncAt s) ∧ (sacnGet t p).synced = true
        ∧ SMap.get 0 t.wired.sacnSeq 65536 = seqFor s 65536 (sacnGet s p).frame + 256 * ((sacnGet s p).frame + 1)
        ∧ ((ethGet s p).pauseEnd = none → ∃ x, t.out = .eth p 2 (syncAt s) x :: s.out)
        ∧ ((ethGet s p).pauseEnd ≠ none → (ethGet t p).syncHeld.isSome = true ∧ t.out = s.out)
        ∧ ChangesOnly [.tim, .wired, .eth, .out] s t

/-- A raster port sends its lines in their slots, steps its phase between frames and moves its fetcher on. RASTER_LINE_START of a port that
is ready for its next line puts out IDLE up to the line's slot and then its packet, and counts it; a line whose fetch runs out counts as
an underrun and is marked. RASTER_PHASE_STEP of a port that is free to move moves the phase by one step, and both ports together in
LOCKED_SPLIT. RASTER_FETCH_ADVANCE once the last line is fetched and the next frame's COMPUTE is over moves the fetcher to it. (R192,
R194, R195, R200, R203, R205) -/
def Obligations.RasterPorts : Prop :=
  (∀ (s u : State) (p q : Nat), lineReady s p = true → q = rasLineSlot s p → u = advance s (s.frm.last + slotStart q) →
      ∃ t, exec (.rasterLineStart p none) s = .next t ∧ (rasGet t p).line = (rasGet s p).line + 1
        ∧ t.tim.now = max s.tim.now (s.frm.last + slotStart q)
        ∧ t.out = (rasSend u p (q - (rasGet s p).sent) (rasPacket u p (rasGet s p).line (rasLine u p (rasGet s p).line) none)).out
        ∧ SMap.get 0 (rasGet t p).cnt 0 = sat32 (SMap.get 0 (rasGet s p).cnt 0) 1 ∧ (rasGet t p).under = (rasGet s p).under)
  ∧ (∀ (s : State) (p c : Nat), lineReady s p = true → (rasGet s p).fetched ≤ (rasGet s p).line → c < rsW (rasRec s p) →
      (rasGet s p).under = none → ∃ t, exec (.rasterLineStart p (some c)) s = .next t ∧ (rasGet t p).under = some (rasGet s p).line
        ∧ SMap.get 0 (rasGet t p).cnt 2 = sat32 (SMap.get 0 (rasGet s p).cnt 2) 1
        ∧ SMap.get 0 (rasGet t p).cnt 3 = sat32 (SMap.get 0 (rasGet s p).cnt 3) 1
        ∧ (rasSplit s.frm.shownCfg = true → (rasGet t (1 - p)).under.isSome = true))
  ∧ (∀ (s : State) (p : Nat) (fwd : Bool), p < 2 → transmits s = true → phaseFree s p fwd = true → rasSplit s.frm.shownCfg = false →
      ∃ t, exec (.rasterPhaseStep p fwd) s = .next t ∧ t.tim.now = stepTime s p
        ∧ rasGet t p = { rasGet s p with phase := (rasGet s p).phase + (if fwd then 1 else -1)
                                         shift := (rasGet s p).shift + (if fwd then 1 else -1), stepAt := some (stepTime s p) }
        ∧ rasGet t (1 - p) = rasGet s (1 - p) ∧ ChangesOnly [.tim, .ras] s t)
  ∧ (∀ (s : State) (p : Nat) (fwd : Bool), p < 2 → transmits s = true → phaseFree s p fwd = true → phaseFree s (1 - p) fwd = true →
      rasSplit s.frm.shownCfg = true → ∃ t, exec (.rasterPhaseStep p fwd) s = .next t
        ∧ (∀ q, q < 2 → (rasGet t q).phase = (rasGet s q).phase + (if fwd then 1 else -1)) ∧ ChangesOnly [.tim, .ras] s t)
  ∧ ∀ (s : State) (p : Nat), p < 2 → transmits s = true → modeOf (rasRec s p) ≠ 0 →
      (rasGet s p).scanning = false ∨ rsH (rasRec s p) ≤ (rasGet s p).fetched → nextKnown s = true → (rasGet s p).moved = false →
      exec (.rasterFetchAdvance p) s = .next (rasPut s p { rasGet s p with moved := true, ahead := 0 })

/-- PWM periods, PDM slots and matrix rows follow one another, and MSYNC swaps buffers. While the drive pins carry their buffers,
PWM_PERIOD_START of a channel emits its next period with the on-time of its drive, cut at the next edge, none where the point is forced
inactive, and SNS_TMIN where a probe finds it shorter; PDM_SLOT emits the next slot, active for a probe and otherwise as the modulator
decides, a forced point only while its run lasts; MATRIX_ROW_SLOT emits the next row slot with the active time of each column, cut at
the next edge under SCAN_EDGE. MSYNC_EDGE more than 1 µs after the last swaps in the eligible buffer and restarts the cycle, one within
it does nothing; MSYNC_LOST after four frames without an edge is counted once. (R211, R212, R217, R218, R222, R225) -/
def Obligations.DirectDriveAndMatrix : Prop :=
  (∀ (s : State) (c r : Nat) (u own a : Time), c < 48 → drvLive s = true → r = s.drv.cfg.row drvChan c → modeOf r = 1 →
      u = s.frm.last + (pinGet s c).index * (u32At r 4 * ns) → u < s.frm.next →
      own = (if (pointGet s c).forced then 0 else min ((pinGet s c).nOn * step62) (s.frm.next - u)) →
      a = (if (pinGet s c).probe ≠ 0 ∧ own < snsTmin * ns then min (snsTmin * ns) (s.frm.next - u) else own) →
      ∃ t, exec (.pwmPeriodStart c) s = .next t ∧ t.out = .drive c u a (bitAt r 8) :: s.out ∧ (pinGet t c).index = (pinGet s c).index + 1
        ∧ (pinGet t c).level = decide (a ≠ 0) ∧ (pinGet t c).probe = 0 ∧ ChangesOnly [.tim, .drv, .out] s t)
  ∧ (∀ (s : State) (c r : Nat) (u : Time) (m : Nat × Bool) (on : Bool), c < 48 → drvLive s = true → r = s.drv.cfg.row drvChan c →
      modeOf r = 2 → u = s.frm.last + (pinGet s c).index * (u32At r 4 * ns) → u < s.frm.next →
      m = (if (pinGet s c).probe ≠ 0 then ((pinGet s c).acc, true) else pdmSlot (pinGet s c).acc (pinGet s c).out) →
      on = (m.2 && (!(pointGet s c).forced || ((pinGet s c).level && decide ((pinGet s c).index ≠ 0)))) →
      ∃ t, exec (.pdmSlot c) s = .next t ∧ (pinGet t c).acc = m.1 ∧ (pinGet t c).level = on ∧ (pinGet t c).index = (pinGet s c).index + 1
        ∧ (pinGet t c).probe = (pinGet s c).probe - 1
        ∧ t.out = .drive c u (if on then min (u32At r 4 * ns) (s.frm.next - u) else 0) (bitAt r 8) :: s.out)
  ∧ (∀ (s : State) (r row : Nat) (u a b : Time), drvLive s = true → r = mxRec s → mxMode s ≠ 0 → u = mxStart s →
      mxMode s ≠ 1 ∨ u < s.frm.next → row = s.drv.slots % max 1 (byteAt r 1) → a = u + u16At r 8 * ns →
      b = (if mxMode s = 1 then min (u + u32At r 4 * ns) s.frm.next else u + u32At r 4 * ns) →
      ∃ t cs, exec .matrixRowSlot s = .next t ∧ t.drv.slots = s.drv.slots + 1 ∧ cs.length = byteAt r 2
        ∧ t.out = .matrix row u b a cs (bitAt r 24) (bitAt r 25) :: s.out ∧ ChangesOnly [.tim, .drv, .out] s t
        ∧ ∀ c, c < byteAt r 2 → s.drv.probes.elem (48 + row * 32 + c) = false →
            cs[c]? = some (min (if (pointGet s (48 + row * 32 + c)).forced then 0 else mxOn s (SMap.get 0 s.drv.matrix (row * 32 + c))) (b - a)))
  ∧ (∀ (s : State) (u : Time) (m : SMap Nat), mxMode s = 2 → s.frm.running = true → (∀ a, s.drv.msyncAt = some a → a + us < u) →
      s.drv.eligible = some m → ∃ t, exec (.msyncEdge u) s = .next t ∧ t.drv.matrix = m ∧ t.drv.eligible = none ∧ t.drv.cycleAt = u
        ∧ t.drv.slots = 0 ∧ t.drv.msyncAt = some u ∧ t.drv.probes = s.drv.staged ∧ ChangesOnly [.tim, .drv, .log] s t)
  ∧ (∀ (s : State) (u a : Time), s.drv.msyncAt = some a → u ≤ a + us → exec (.msyncEdge u) s = .next (advance s u))
  ∧ ∀ s : State, mxMode s = 2 → s.frm.running = true → 4 ≤ s.drv.msyncIdle → condHolds s 0x0604 0 = false →
      ∃ t, exec .msyncLost s = .next t ∧ condHolds t 0x0604 0 = true ∧ SMap.get 0 t.drv.cnt 3 = sat32 (SMap.get 0 s.drv.cnt 3) 1
        ∧ ChangesOnly [.drv, .log] s t

/-- Measurements are classed and confirmed, points go stale, and UNOBSERVED points are probed. SNS_SAMPLE, at BLANK after the rising edge,
of a point that is measured and active long enough records the class of its code. The DRV_DIAG_CONFIRM-th consecutive measurement of one
faulty class of an OK point makes it OPEN or SHORT and forces it inactive; that of an UNKNOWN point that is good makes it OK.
DIAG_STALE_EXPIRY of a point not measured for DRV_DIAG_STALE frames makes it UNOBSERVED. GLINT_PROBE of an UNOBSERVED point that is due
and may be probed probes a channel's first period or slots in the next frame and is counted; a matrix element is probed in the cycle
that runs, or waits for the swap. (R220, R221, R222, R225) -/
def Obligations.LampDiagnosis : Prop :=
  (∀ (s : State) (p c k : Nat) (u : Time) (b : Bool), measurable s p = true → snsTmin ≤ (pointGet s p).onNs →
      (pointGet s p).measured = false → (pointGet s p).probing = b → u = (pointGet s p).rise + (s.cfg.sense p).2.2.2.2.2.2 * ns →
      k = sampleClass (s.cfg.sense p).2.2.2.1 (s.cfg.sense p).2.2.2.2.1 (s.cfg.sense p).2.2.2.2.2.1 c →
      ∃ t, exec (.snsSample p u c b) s = .next t ∧ (pointGet t p).lastClass = k ∧ (pointGet t p).measured = true
        ∧ (k ≠ 0 → (pointGet s p).state = 1 → (pointGet s p).cls = k → (pointGet s p).count ≠ 0 →
          s.cfg.v drvDiagConfirm ≤ (pointGet s p).count + 1 → (pointGet t p).state = k + 1 ∧ (pointGet t p).forced = true)
        ∧ (k = 0 → (pointGet t p).verified = some u)
        ∧ (k = 0 → (pointGet s p).state = 0 → (pointGet s p).cls = 0 → (pointGet s p).count ≠ 0 →
          s.cfg.v drvDiagConfirm ≤ (pointGet s p).count + 1 → (pointGet t p).state = 1))
  ∧ (∀ (s : State) (p : Nat), measurable s p = true → s.cfg.v drvDiagStale ≤ (pointGet s p).idle → (pointGet s p).state < 2 →
      ∃ t, exec (.diagStaleExpiry p) s = .next t ∧ (pointGet t p).state = 4 ∧ (pointGet t p).before = (pointGet s p).state
        ∧ (pointGet t p).since = s.frm.num)
  ∧ ∀ (s : State) (p : Nat), measurable s p = true → (pointGet s p).state = 4 → (s.cfg.sense p).2.1 = true → g6Shed s = false →
      (pointGet s p).since ≤ s.frm.num → (s.frm.num - (pointGet s p).since) % s.cfg.v drvGlintInterval = 0 →
      (pointGet s p).probedIn ≠ s.frm.num + 1 → drivenNow s p ≠ 0 ∨ (s.cfg.sense p).2.2.1 = true →
      (∀ k, s.cfg.taker p = some k → bitAt (SMap.get 0 s.src.fault k.1) k.2 = false) → probeAhead s p = true →
      ∃ t, exec (.glintProbe p) s = .next t ∧ (pointGet t p).probedIn = s.frm.num + 1 ∧ ChangesOnly [.drv] s t
        ∧ (p < 48 → (pinGet t p).probe = (if modeOf (s.drv.cfg.row drvChan p) = 2
            then (snsTmin + u32At (s.drv.cfg.row drvChan p) 4 - 1) / max 1 (u32At (s.drv.cfg.row drvChan p) 4) else 1)
          ∧ SMap.get 0 t.drv.cnt 0 = sat32 (SMap.get 0 s.drv.cnt 0) 1)
        ∧ (48 ≤ p → s.drv.eligible = none → t.drv.probes = s.drv.probes ++ [p] ∧ SMap.get 0 t.drv.cnt 0 = sat32 (SMap.get 0 s.drv.cnt 0) 1)
        ∧ (48 ≤ p → s.drv.eligible.isSome = true → t.drv.staged = s.drv.staged ++ [p] ∧ t.drv.cnt = s.drv.cnt)

/-- A radio port prepares its cell, starts its slot, sends on the trigger, stamps and fetches. On a port that transmits and receives:
RADIO_CELL_PREPARE keeps the cell chosen for the next slot, with the frame it sends, where the scripts end in time, and counts XCVR_LATE
where they do not; RADIO_SLOT_START starts it; RADIO_TXTRIG of a transmission not yet done sends its frame on the slot's channel, marks
it done and takes the next sequence number; RADIO_SFD_STAMP stores the intended SFD of the port's own frame and the stamp less RX_LAT of
a reception; a complete RADIO_RX_FETCH runs its script and holds the frame, and one that is not loses it. (R230, R231, R232, R244, R236) -/
def Obligations.RadioSlotsAndTransmission : Prop :=
  (∀ (s v : State) (p k : Nat) (x y : Slot) (u : Time), radioLive s p = true → u = asnStart s.cfg (nextSlot s p) - 1000 * us →
      chooseCell (radPut (advance s u) p { radGet s p with slot := none, sfd := none, fetched := false }) p (nextSlot s p) = (v, some y) →
      x = { y with frame := slotPsdu v p y } →
      (((u + k * us : Nat) : Int) ≤ scriptsBy v p x → ∃ t, exec (.radioCellPrepare p k) s = .next t ∧ (radGet t p).slot = some x)
      ∧ (scriptsBy v p x < ((u + k * us : Nat) : Int) → ∃ t, exec (.radioCellPrepare p k) s = .next t
        ∧ SMap.get 0 (radGet t p).cnt 8 = sat32 (SMap.get 0 (radGet v p).cnt 8) 1))
  ∧ (∀ (s : State) (p : Nat) (x : Slot), (radGet s p).slot = some x → radioLive s p = true → x.started = false →
      ∃ t, exec (.radioSlotStart p) s = .next t ∧ (radGet t p).slot = some { x with started := true }
        ∧ t.tim.now = max s.tim.now (asnStart s.cfg x.n) ∧ ChangesOnly [.tim, .rad] s t)
  ∧ (∀ (s : State) (p : Nat) (x : Slot), (radGet s p).slot = some x → radioLive s p = true → x.started = true → x.done = false →
      x.what ≠ 0 → ∃ t, exec (.radioTxtrig p) s = .next t
        ∧ .radio p (asnOf x.n) x.channel (trigAt s.cfg p (slotSfd s.cfg p x.n)) x.frame ∈ t.out
        ∧ (radGet t p).slot = some { x with done := true } ∧ (radGet t p).dsn = ((radGet s p).dsn + 1) % 256)
  ∧ (∀ (s : State) (p : Nat) (x : Slot) (u : Time), (radGet s p).slot = some x → radioLive s p = true → x.started = true →
      (x.what = 0 → ∃ t, exec (.radioSfdStamp p u) s = .next t
        ∧ (radGet t p).sfd = some (true, u - u16At (s.cfg.row radPort p) 18 * ns) ∧ ChangesOnly [.tim, .rad] s t)
      ∧ (x.what ≠ 0 → x.done = true → (radGet s p).sfd = none → ∃ t, exec (.radioSfdStamp p u) s = .next t
        ∧ (radGet t p).sfd = some (false, slotSfd s.cfg p x.n) ∧ ChangesOnly [.tim, .rad] s t))
  ∧ ∀ (s : State) (p : Nat) (x : Slot), (radGet s p).slot = some x → radioLive s p = true → x.started = true → x.what = 0 →
      (radGet s p).sfd.isSome = true →
      (∃ t ops, exec (.radioRxFetch p true) s = .next t ∧ (radGet t p).fetched = true ∧ t.out = .script p 48 ops :: s.out
        ∧ ChangesOnly [.rad, .out] s t)
      ∧ ∃ t, exec (.radioRxFetch p false) s = .next t ∧ (radGet t p).slot = none
        ∧ SMap.get 0 (radGet t p).cnt 8 = sat32 (SMap.get 0 (radGet s p).cnt 8) 1 ∧ ChangesOnly [.rad, .out] s t

/-- Frames of neighbours are judged, acknowledgements end transmissions, guards are evaluated and command frames built. RADIO_FRAME_RECEIVED
of a frame whose SFD was stamped in its listening interval, from an ACTIVE neighbour, delivers a good frame, decrypted, to the port's
receive queue and notes its sequence number, and counts MIC_FAIL without delivering a bad one. RADIO_ACK_RECEIVED corrects the neighbour
and ends the frame; RADIO_ACK_TIMEOUT requeues it while retries are left and the neighbour is not LOST. RADIO_GUARD_EVAL keeps an ACTIVE
neighbour or makes it LOST above half RX_WAIT. COMMAND_FRAME_BUILD for a due COMMAND cell holds the frame of the items that fit;
RADIO_CIVIC_DEFERRED after 60 s breaks G2. (R238, R240, R246, R249, R253, R256) -/
def Obligations.RadioReceptionAndCommands : Prop :=
  (∀ (s : State) (p nb cell : Nat) (x : Slot) (f : RadioFrame) (m : MacFrame) (a : Time), (radGet s p).slot = some x →
      radioLive s p = true → x.started = true → x.what = 0 → (radGet s p).fetched = true → (radGet s p).sfd = some (true, a) →
      parseMac f.psdu = some m → cell = s.cfg.row radCell (p * 16384 + x.cell) → (listens s p x.n cell).1 ≤ (a : Int) →
      (a : Int) < (listens s p x.n cell).2 → neighFrom s p m = some nb → (neighOf s (p * 4096 + nb)).state = 1 →
      (verdictOf s p nb m (openFrom s p nb m) = 0 → ∃ t fl, exec (.radioFrameReceived p f) s = .next t
        ∧ (qGet t (18 + p)).packets = (qGet s (18 + p)).packets
          ++ [rxRecord p x a f.rssi f.lqi (clearPsdu m ((openFrom s p nb m).getD [])) fl nb]
        ∧ (neighOf t (p * 4096 + nb)).dsn = some m.dsn)
      ∧ (verdictOf s p nb m (openFrom s p nb m) = 1 → ∃ t, exec (.radioFrameReceived p f) s = .next t ∧ qGet t (18 + p) = qGet s (18 + p)
        ∧ SMap.get 0 (radGet t p).cnt 3 = sat32 (SMap.get 0 (radGet s p).cnt 3) 1))
  ∧ (∀ (s : State) (p : Nat) (u : Time) (c : Int) (f : HostFrame), (radGet s p).awaiting = some f → radioLive s p = true →
      ∃ t, exec (.radioAckReceived p u c) s = .next t ∧ (radGet t p).awaiting = none ∧ (radGet t p).backoff = 0
        ∧ (neighOf t (p * 4096 + f.neigh)).contact = heardAt (radGet s p) u ∧ (neighOf t (p * 4096 + f.neigh)).offset = -c * 1000
        ∧ t.que.seq = (s.que.seq + 1) % 4294967296)
  ∧ (∀ (s : State) (p : Nat) (f : HostFrame), (radGet s p).awaiting = some f → radioLive s p = true →
      (neighOf s (p * 4096 + f.neigh)).state ≠ 2 → f.tries < s.cfg.v radMaxRetries →
      ∃ t, exec (.radioAckTimeout p) s = .next t ∧ (radGet t p).awaiting = none
        ∧ (radGet t p).queue = { f with tries := f.tries + 1 } :: (radGet s p).queue)
  ∧ (∀ (s : State) (p nb g : Nat) (u : Time), radioLive s p = true → nb < 4096 → (neighOf s (p * 4096 + nb)).state = 1 →
      g = guardOf (s.cfg.row radPort p) (u - (neighOf s (p * 4096 + nb)).contact) →
      ∃ t, exec (.radioGuardEval p nb u) s = .next t ∧ (neighOf t (p * 4096 + nb)).guard = min 65535 g
        ∧ (neighOf t (p * 4096 + nb)).state = (if u16At (s.cfg.row radPort p) 10 < 2 * g then 2 else 1)
        ∧ ChangesOnly [.tim, .rad, .log] s t)
  ∧ (∀ (s : State) (p : Nat), radioLive s p = true → s.dev.state = .run →
      ((activeCells s p (nextSlot s p)).any fun x => bitAt x.2 24 && byteAt x.2 7 == 1) = true →
      ∃ t, exec (.commandFrameBuild p) s = .next t ∧ (radGet t p).built = commandFrame s p (nextSlot s p) ∧ ChangesOnly [.tim, .rad] s t)
  ∧ ∀ (s : State) (p : Nat) (u a : Time), p < 4 → (radGet s p).civicSince = some a → a + 60 * sec ≤ u →
      ∃ t, exec (.radioCivicDeferred p u) s = .next t ∧ causeKey 0x0B13 p ∈ t.eng.causes

/-- Frames leave by priority and complete, links change, and received frames are checked and steered. ETH_TX_FRAME_START on an idle,
unpaused port outside the quiet time with a legal descriptor at the head of its priority 3 queue takes it and puts it on the wire;
ETH_TX_COMPLETE frees the port and notifies where the descriptor asks. ETH_LINK_CHANGE takes the link up or down. ETH_RX_FRAME counts a
runt and a bad FCS, and steers a plain frame that no filter takes to queue 0 of its port. (R261, R264, R266, R267, R268, R270) -/
def Obligations.EthernetTransmitsAndReceives : Prop :=
  (∀ (s : State) (p : Nat) (u : Time) (k : List Byte) (rest : List (List Byte)), ethSends s p = true → (ethGet s p).sending = none →
      (ethGet s p).ownPause = none → (ethGet s p).syncHeld = none → (ethGet s p).pauseEnd = none → quietNow s p u = false →
      (ethGet s p).up = true → (qGet s (3 + 4 * p)).packets = k :: rest → txHeld s p k = false → descFault (ethRec s p) k = none →
      (isSacn k = true → transmits s = true) →
      ∃ t miss, exec (.ethTxFrameStart p u) s = .next t ∧ (ethGet t p).sending = some (3 + 4 * p, k, u, miss)
        ∧ (qGet t (3 + 4 * p)).packets = rest)
  ∧ (∀ (s : State) (p q : Nat) (u a : Time) (k : List Byte) (miss : Bool), p < 2 → (ethGet s p).sending = some (q, k, a, miss) →
      ∃ t, exec (.ethTxComplete p u) s = .next t ∧ (ethGet t p).sending = none
        ∧ (bitAt (byteOf k 2) 0 = false → bitAt (byteOf k 2) 1 = false → bitAt (byteOf k 2) 2 = true →
          t.que.seq = (s.que.seq + 1) % 4294967296))
  ∧ (∀ (s : State) (p : Nat) (up : Bool), p < 2 → (ethGet s p).up ≠ up → modeOf (ethRec s p) ≠ 0 →
      ∃ t, exec (.ethLinkChange p up) s = .next t ∧ (ethGet t p).up = up ∧ ChangesOnly [.tim, .eth, .log] s t)
  ∧ (∀ (s : State) (p : Nat) (u : Time) (f : EthFrame), ethHears s p = true →
      (f.wireLen ≤ 63 → exec (.ethRxFrame p u f) s = .next (ethCount (advance s u) p 2))
      ∧ (64 ≤ f.wireLen → f.wireLen ≤ epMax (ethRec s p) → f.fcsGood = false →
        exec (.ethRxFrame p u f) s = .next (ethCount (advance s u) p 3)))
  ∧ ∀ (s : State) (p : Nat) (u : Time) (f : EthFrame), ethHears s p = true → 64 ≤ f.wireLen → f.wireLen ≤ epMax (ethRec s p) →
      f.fcsGood = true → addrAccepted s p (beAt f.bytes 0 6) = true → (viewOf f.bytes).etype ≠ 0x8808 →
      isPtp s p (viewOf f.bytes) = false → (viewOf f.bytes).udpPort = none → streamLayer s p (viewOf f.bytes) = none →
      forZhotex s p (viewOf f.bytes) f.bytes = false →
      ((List.range 64).find? fun i => filterTakes (s.cfg.row ethFilter (p * 64 + i)) (viewOf f.bytes)) = none →
      bitAt (ethRec s p) 11 = false → (qGet s (8 + 4 * p)).waiting = [] → 40 + f.bytes.length ≤ qFree s (8 + 4 * p) →
      ∃ t k, exec (.ethRxFrame p u f) s = .next t ∧ (qGet t (8 + 4 * p)).packets = (qGet s (8 + 4 * p)).packets ++ [k]
        ∧ byteOf k 0 = p % 256 ∧ (k.drop 32).take f.bytes.length = f.bytes

/-- A pause ends at its expiry or at the watchdog, and the port's own pause is refreshed. PAUSE_EXPIRY before the watchdog ends the pause at
its end; PAUSE_WATCHDOG breaks a pause that would go on longer, counts it and ignores PAUSE from then on for PAUSE_IGNORE;
PAUSE_IGNORE_END ends that; PAUSE_REFRESH of a port that has paused its peer, with a queue still above its low watermark, sends the
quanta again. A received PAUSE with quanta that is not ignored pauses the port. (R271, R272, R274) -/
def Obligations.PauseIsKeptAndBroken : Prop :=
  (∀ (s : State) (p : Nat) (e : Time), p < 2 → (ethGet s p).pauseEnd = some e → e ≤ watchdogAt s p →
      ∃ t, exec (.pauseExpiry p) s = .next t ∧ (ethGet t p).pauseEnd = none ∧ t.tim.now = max s.tim.now e ∧ ChangesOnly [.tim, .eth, .out] s t)
  ∧ (∀ (s : State) (p : Nat) (e : Time), p < 2 → (ethGet s p).pauseEnd = some e → watchdogAt s p < e →
      ∃ t, exec (.pauseWatchdog p) s = .next t ∧ (ethGet t p).pauseEnd = none
        ∧ (ethGet t p).ignoreUntil = some (watchdogAt s p + u16At (ethRec s p) 8 * ms)
        ∧ SMap.get 0 (ethGet t p).cnt 14 = sat32 (SMap.get 0 (ethGet s p).cnt 14) 1)
  ∧ (∀ (s : State) (p : Nat) (u : Time), p < 2 → (ethGet s p).ignoreUntil = some u →
      ∃ t, exec (.pauseIgnoreEnd p) s = .next t ∧ (ethGet t p).ignoreUntil = none ∧ ChangesOnly [.tim, .eth, .log] s t)
  ∧ (∀ (s : State) (p : Nat), p < 2 → ethSends s p = true → (ethGet s p).paused = true → (ethGet s p).ownPause = none →
      ((rxQueues p).any fun q => (qGet s q).high) = true →
      ∃ t, exec (.pauseRefresh p) s = .next t ∧ (ethGet t p).ownPause = some (u16At (ethRec s p) 6) ∧ ChangesOnly [.tim, .eth] s t)
  ∧ ∀ (s : State) (p q : Nat) (u : Time) (f : EthFrame), ethHears s p = true → 64 ≤ f.wireLen → f.wireLen ≤ epMax (ethRec s p) →
      f.fcsGood = true → addrAccepted s p (beAt f.bytes 0 6) = true → (viewOf f.bytes).etype = 0x8808 →
      beAt f.bytes (viewOf f.bytes).off 2 = 1 → beAt f.bytes ((viewOf f.bytes).off + 2) 2 = q → q ≠ 0 → bitAt (ethRec s p) 9 = true →
      (∀ v, (ethGet s p).ignoreUntil = some v → v ≤ u) →
      ∃ t, exec (.ethRxFrame p u f) s = .next t ∧ (ethGet t p).pauseEnd = some (u + quantaTime (ethRec s p) q)
        ∧ ChangesOnly [.tim, .eth] s t

/-- Lanes lock and align, links come up and go down, nodes take their roles and indices, and packets are credited and sent again.
CASCADE_LANE_LOCK after 64 good headers locks the lane; CASCADE_LOCK_LOSS of a locked lane counts it and takes the link DOWN. A second
CASCADE_ALIGN_SLOT with matching markers on all lanes brings a DOWN link to ALIGNED, and a CASCADE_LINK_SLOT of the same mode with a
measured delay within limits brings an ALIGNED link UP, keeps the partner's mode and role and is answered with the node's own LINK slot.
STK_ROLE_DECIDE makes a node with a partner in CASCADE mode on its CUP a member, and otherwise the master, node 0. ENUM_RECEIVED gives a
member its candidate and, at FINAL, its index or none; REPORT_RECEIVED tells the master its nodes, and a master in TRIAL that finds a
member CONFIRMED under its own hash confirms itself, one that finds a member fallen back from it orders itself back. CREDIT_RECEIVED
drops the packets acknowledged and adds the credit; CMD_RETRANSMIT counts and sends every unacknowledged packet. (R338, R339, R341,
R342, R343, R348, R447, R448) -/
def Obligations.CascadeLinksAndEnumeration : Prop :=
  (∀ (s : State) (p l n : Nat), s.dev.state.powered = true → s.dev.resetN = true → p < 2 → l < 8 → 64 ≤ n →
      exec (.cascadeLaneLock p l n) s = .next (casPut s p { casGet s p with lanes := putBit (casGet s p).lanes l true }))
  ∧ (∀ (s : State) (p l : Nat), p < 2 → bitAt (casGet s p).lanes l = true → ∃ t, exec (.cascadeLockLoss p l) s = .next t
      ∧ (casGet t p).state = 0 ∧ bitAt (casGet t p).lanes l = false
      ∧ SMap.get 0 (casGet t p).cnt 0 = sat32 (SMap.get 0 (casGet s p).cnt 0) 1 ∧ ChangesOnly [.tim, .stk, .log] s t)
  ∧ (∀ (s : State) (p n : Nat), p < 2 → (casGet s p).state = 0 → (casGet s p).lanes = 255 → 1 ≤ (casGet s p).matched →
      ∃ t, exec (.cascadeAlignSlot p (List.replicate 8 n)) s = .next t ∧ (casGet t p).state = 1 ∧ ChangesOnly [.stk, .out] s t)
  ∧ (∀ (s : State) (p m : Nat) (e : Bool) (role ds : Nat), p < 2 → (casGet s p).state = 1 → (casGet s p).lanes = 255 →
      casSpeaks s p = true → m = casMode s p → (casGet s p).delays ≠ [] → delayPs s p ≤ 300000 →
      ¬ (p = 0 ∧ m = 1 ∧ s.dev.stackEn = true ∧ s.stk.role = 1) → ∃ t, exec (.cascadeLinkSlot p m e role ds) s = .next t
        ∧ (casGet t p).state = 2 ∧ (casGet t p).partner = some (m, role) ∧ ChangesOnly [.stk, .log, .out] s t
        ∧ .cascade p 0 (linkSlot m s.dev.stackEn s.stk.role s.dev.state.code) ∈ t.out)
  ∧ (∀ s : State, s.dev.state.powered = true → s.dev.resetN = true → s.dev.stackEn = true → s.stk.role = 0 →
      ∃ t, exec .stkRoleDecide s = .next t ∧ ChangesOnly [.tim, .frm, .stk, .out] s t
        ∧ if casUp s 0 = true ∧ ((casGet s 0).partner.getD (1, 0)).1 = 1 then t.stk.role = 2
          else t.stk.role = 1 ∧ t.stk.index = 0 ∧ t.stk.enumerated = true)
  ∧ (∀ (s : State) (i n v : Nat), isMember s = true → ∃ t, exec (.enumReceived i false n v) s = .next t
      ∧ t.stk.candidate = some (i + 1) ∧ t.stk.masterProto = v ∧ t.stk.index = s.stk.index ∧ ChangesOnly [.stk, .out] s t)
  ∧ (∀ (s : State) (i n v c : Nat), isMember s = true → s.stk.candidate = some c → s.stk.enumerated = false →
      ∃ t, exec (.enumReceived i true n v) s = .next t ∧ ChangesOnly [.stk, .log, .out] s t
        ∧ if enumFault s c v = none then t.stk.index = c ∧ t.stk.enumerated = true ∧ t.stk.nodes = n ∧ t.stk.reach = reachAll n
          else t.stk = s.stk)
  ∧ (∀ (s : State) (c : Nat) (l : List MemberIn), s.dev.stackEn = true → s.stk.role = 1 → ∃ t, exec (.reportReceived ⟨c, l⟩) s = .next t
      ∧ t.stk.nodes = min 32 (c + 1) ∧ t.stk.reach = reachAll (min 32 (c + 1)) ∧ ChangesOnly [.stk, .upd, .log, .out] s t)
  ∧ (∀ (s : State) (c : Nat) (m : MemberIn), s.dev.stackEn = true → s.stk.role = 1 → s.upd.state = 6 →
      m.hash = manifestHash (runningManifest s) → ∃ t, exec (.reportReceived ⟨c, [m]⟩) s = .next t
        ∧ (m.updState = 7 → t.upd.state = 7 ∧ t.upd.sel.trial = false) ∧ (m.updState = 8 → t.upd.state = 8 ∧ t.upd.resetWanted = true))
  ∧ (∀ (s : State) (p c q n i : Nat) (x : CasClass), p < 2 → 1 ≤ c → c ≤ 3 → x = SMap.get CasClass.empty (casGet s p).cls c →
      x.unacked.findIdx? (·.1 = q) = some i → x.waiting = [] → ∃ t, exec (.creditReceived p c q n) s = .next t
        ∧ SMap.get CasClass.empty (casGet t p).cls c = { x with unacked := x.unacked.drop (i + 1), credit := x.credit + n }
        ∧ ChangesOnly [.stk] s t)
  ∧ ∀ (s : State) (p c : Nat) (x : CasClass), p < 2 → c ≠ 2 → casUp s p = true → x = SMap.get CasClass.empty (casGet s p).cls c →
      x.unacked ≠ [] → ∃ t, exec (.cmdRetransmit p c) s = .next t ∧ (∀ m ∈ x.unacked, .cascade p c (packetBlocks m.1 m.2) ∈ t.out)
        ∧ SMap.get 0 (casGet t p).cnt 2 = sat32 (SMap.get 0 (casGet s p).cnt 2) 1 ∧ ChangesOnly [.stk, .out] s t

/-- SYNC carries the time estimate down, PROBE and ECHO measure the delay, and a SYNC sets the offset. SYNC_SEND sends the node's estimate
of master time down an UP link and takes the next sequence number; PROBE_SEND keeps the send instant of its probe and takes the next
one; PROBE_RECEIVED is answered with ECHO. SYNC_RECEIVED on a member sets o = t_rx − (t_sync + d), and one whose CRC fails is only
counted in TIME_CRC. ECHO_RECEIVED puts the round trip less the residence time before the last 15. (R350, R353) -/
def Obligations.TimeMessagesMeasureTheStack : Prop :=
  (∀ (s : State) (u : Time), s.dev.state.powered = true → s.dev.resetN = true → sendsTime (advance s u) 1 = true → casUp s 1 = true →
      ∃ t, exec (.syncSend u) s = .next t ∧ t.stk.syncSeq = (s.stk.syncSeq + 1) % 65536
        ∧ .cascade 1 0 (timeSlot 1 (stampBytes (masterTime (advance s u)) ++ leBytes 2 s.stk.syncSeq)) ∈ t.out ∧ ChangesOnly [.tim, .stk, .out] s t)
  ∧ (∀ (s : State) (u : Time), s.dev.state.powered = true → s.dev.resetN = true → s.dev.stackEn = true →
      ∃ t, exec (.probeSend u) s = .next t ∧ t.stk.probeSeq = (s.stk.probeSeq + 1) % 65536
        ∧ SMap.get none (casGet t 1).probes s.stk.probeSeq = some u ∧ ChangesOnly [.tim, .stk, .out] s t)
  ∧ (∀ (s : State) (u : Time) (q r p : Nat), p = timePort s → 1 ≤ (casGet s p).state → casSpeaks s p = true →
      ∃ t, exec (.probeReceived u q r true) s = .next t ∧ ChangesOnly [.tim, .out] s t
        ∧ t.out = .cascade p 0 (timeSlot 3 (leBytes 2 q ++ leBytes 4 (r / ns) ++ leBytes 2 (r % ns))) :: s.out)
  ∧ (∀ (s : State) (u v : Time), isMember s = true → s.dev.state.powered = true → casUp s 0 = true →
      ∃ t, exec (.syncReceived u v true) s = .next t ∧ t.stk.o = (u : Int) - ((v : Int) + delayFine s 0)
        ∧ ChangesOnly [.tim, .stk, .log, .out] s t)
  ∧ (∀ (s : State) (u v : Time) (q r : Nat), exec (.syncReceived u v false) s = .next (casCount (advance s u) (timePort s) 3 1)
      ∧ exec (.probeReceived u q r false) s = .next (casCount (advance s u) (timePort s) 3 1))
  ∧ ∀ (s : State) (p : Nat) (a b : Time) (q r : Nat), p < 2 → (casGet s p).state ≠ 0 →
      (p = 1 → ∃ v, SMap.get none (casGet s p).probes q = some v) →
      ∃ t, exec (.echoReceived p a b q r true) s = .next t ∧ ChangesOnly [.tim, .stk] s t
        ∧ (casGet t p).delays
          = ((b : Int) - ((SMap.get none (casGet s p).probes q).getD a : Nat) - r) :: (casGet s p).delays.take 15

/-- An EDGE message places the next edge, misses bring holdover, and slips and commits reach every node. EDGE_RECEIVED on a member whose
edges run, for its next frame and not yet held, places that edge at E + ô with ô moved by at most 500 ns towards o, keeps it, and with
HOLDOVER notes the detached section; one with a bad CRC is only counted. EDGE_HOLDOVER after four misses detaches the member.
SLIP_RECEIVED makes the named frame slip, counts it and keeps the token. COMMIT_RECEIVED commits a staged transaction at E(j) while its
latch has not passed, and discards it afterwards. (R351, R353, R360, R49, R51) -/
def Obligations.MembersFollowTheEdgesOfTheStack : Prop :=
  (∀ (s : State) (k : Nat) (e : Time) (b : Bool), hearsEdges s = true → s.frm.running = true → k = nextNum s →
      SMap.get none s.stk.edges k = none → ∃ t, exec (.edgeReceived k e b true) s = .next t
        ∧ t.frm.next = max (s.frm.last + 1) ((e : Int) + stepHat s).toNat ∧ t.stk.oHat = some (stepHat s)
        ∧ SMap.get none t.stk.edges k = some e ∧ (b = true → t.stk.detached = true) ∧ ChangesOnly [.frm, .stk, .log, .out] s t)
  ∧ (∀ (s : State) (k : Nat) (e : Time) (b : Bool), exec (.edgeReceived k e b false) s = .next (casCount s (timePort s) 3 1))
  ∧ (∀ (s : State) (h : Int), s.stk.oHat = some h → stepHat s - h ≤ (500 * ns : Nat) ∧ h - stepHat s ≤ (500 * ns : Nat)
      ∧ ((s.stk.o - h).natAbs ≤ 500 * ns → stepHat s = s.stk.o))
  ∧ (∀ s : State, hearsEdges s = true → 4 ≤ s.stk.missed → s.stk.detached = false → ∃ t, exec .edgeHoldover s = .next t
      ∧ t.stk = { s.stk with detached := true } ∧ (s.tim.disc ≠ .free → t.tim.disc = .holdover) ∧ ChangesOnly [.tim, .stk, .log] s t)
  ∧ (∀ (s : State) (p k n : Nat) (f : Frame), s.dev.stackEn = true → p < 2 → frameOf s k = some f → f.stage ≠ .slipped →
      f.stage ≠ .idle → ∃ t g, exec (.slipReceived p k n) s = .next t ∧ frameOf t k = some g ∧ g.stage = .slipped
        ∧ t.frm.slips = sat32 s.frm.slips 1 ∧ ChangesOnly [.frm, .stk, .log, .out] s t)
  ∧ ∀ (s : State) (i n j : Nat) (x : AccTxn), isMember s = true → s.stk.staged.find? (·.id = i) = some x →
      (∀ y ∈ x.items, y.op ≠ 0x62) → ∃ t, exec (.commitReceived i n j) s = .next t ∧ x ∉ t.stk.staged
        ∧ (nextLatch s ≤ j → { x with frame := j, ordered := true } ∈ t.ox.accepted) ∧ (j < nextLatch s → t.ox = s.ox)

/-- Members execute what is theirs and pass on the rest, stage, answer and discard; the master collects verdicts, responses and
notifications. RELAY_REQUEST for another node is passed on downward, and one for this enumerated member alone is executed under its
originating path where the state permits it. RELAY_STAGE of items that pass stages them under their ID in place of what that ID had, and
one that fails stages nothing. RELAY_VERDICT clears the node's bit at the master; RELAY_RESPONSE of the one node asked becomes the
response. RELAY_DISCARD drops the staged items, RELAY_ROLE sets the coming role, taken at once where its edge has passed, and
RELAY_NOTIFY takes the master's next SEQ. Verdicts, responses and notifications that reach a member go on upward. A message that arrives
over an UP port is acknowledged by its SEQ. (R312, R316, R348, R353, R354, R355, R356, R357, R366) -/
def Obligations.RelayMessagesReachTheirNode : Prop :=
  (∀ (s u : State) (h : RelayHdr) (op : Nat) (r : Req), isMember s = true → r.node ≠ 0x3F →
      u = tookDown (advance s r.t) (reqBytes op r).length →
      (r.node ≠ s.stk.index → exec (.relayRequest h op r) s = .next (passOn u 1 1 0 r.node h (reqBytes op r)))
      ∧ (r.node = s.stk.index → s.stk.enumerated = true → op ≠ 0x30 → answers u (relayPath h) = true →
        exec (.relayRequest h op r) s = .next (serve op (handlerOf op) { r with path := relayPath h } u)))
  ∧ (∀ (s u : State) (h : RelayHdr) (k m : Nat) (xs : List (Nat × Req)) (ys : List Item) (e : Option Err), takesRelay s = true →
      s.stk.detached = false → u = tookDown s (16 + (xs.map fun x => up8 (reqBytes x.1 x.2).length).sum) → ys = xs.map (fun x => { op := x.1, req := { x.2 with path := relayPath h } }) →
      e = (stageErr u h k m ys).2 → ∃ t, exec (.relayStage h k m xs) s = .next t ∧ ChangesOnly [.stk, .out] s t
        ∧ t.stk.staged = (s.stk.staged.filter fun x => !decide (x.id = h.txnId)) ++ if e = none then
          [{ id := h.txnId, frame := if m = 2 then 0 else k, tenant := h.tenant, role := h.role, items := ys, ordered := false }] else [])
  ∧ (∀ (s : State) (h : RelayHdr) (k : Nat) (b : List Byte) (x : Relay), isMember s = false →
      s.stk.relays.find? (fun x => (x.stage.map (·.1)) == some h.txnId && bitAt x.waiting h.node
        && x.answers.elem (h.node, leBytes 2 h.relayId)) = some x → x.waiting ≠ 2 ^ h.node →
      ∃ t y, exec (.relayVerdict h k b) s = .next t ∧ y ∈ t.stk.relays ∧ y.id = x.id ∧ y.waiting = x.waiting - 2 ^ h.node
        ∧ (h.status < 0x10 → y.failed = x.failed) ∧ ChangesOnly [.stk, .out] s t)
  ∧ (∀ (s : State) (h : RelayHdr) (b : List Byte) (x : Relay), isMember s = false →
      s.stk.relays.find? (fun x => x.id == h.relayId && x.stage.isNone && bitAt x.waiting h.node) = some x → x.target ≠ 0x3F →
      ∃ t, exec (.relayResponse h b) s = .next t ∧ t = finish (endRelay (tookUp s b.length) x) x.op x.req b ∧ x ∉ t.stk.relays)
  ∧ (∀ (s : State) (h : RelayHdr), isMember s = true → ∃ t, exec (.relayDiscard h) s = .next t
      ∧ (∀ x ∈ t.stk.staged, x ∈ s.stk.staged ∧ x.id ≠ h.txnId) ∧ ChangesOnly [.stk, .out] s t
      ∧ (casUp s 0 = true → (SMap.get CasClass.empty (casGet t 0).cls 1).received
          = ((SMap.get CasClass.empty (casGet s 0).cls 1).received + 1) % 65536
        ∧ ∃ n, 
          .cascade 0 0 [creditBlock 1 ((SMap.get CasClass.empty (casGet s 0).cls 1).received % 65536) n] ∈ t.out))
  ∧ (∀ (s : State) (h : RelayHdr) (role k : Nat), isMember s = true →
      (s.frm.running = false ∨ s.frm.num < k → ∃ t, exec (.relayRole h role k) s = .next t
        ∧ t.red = { s.red with roleAt := some (role, k) } ∧ ChangesOnly [.stk, .red, .out] s t)
      ∧ (s.frm.running = true → k ≤ s.frm.num → ∃ t, exec (.relayRole h role k) s = .next t
        ∧ t.red.roleAt = none ∧ t.red.role = role ∧ t.red.actOut = (role == 1)))
  ∧ (∀ (s : State) (h : RelayHdr) (b : List Byte), s.dev.stackEn = true → isMember s = false → 24 ≤ b.length →
      ∃ t, exec (.relayNotify h b) s = .next t ∧ t.que.seq = (s.que.seq + 1) % 4294967296)
  ∧ ∀ (s : State) (h : RelayHdr) (k : Nat) (b : List Byte), isMember s = true →
      exec (.relayVerdict h k b) s = .next (passOn (tookUp s (8 + b.length)) 0 4 h.node 0 h (leBytes 8 k ++ b))
      ∧ exec (.relayResponse h b) s = .next (passOn (tookUp s b.length) 0 2 h.node 0 h b)
      ∧ exec (.relayNotify h b) s = .next (passOn (tookUp s b.length) 0 7 h.node 0 h b)

/-- Acknowledgements renew the lease, a shadow past its deadline takes it, and one that meets PEER_ACT waits. MIRROR_ACK_RECEIVED on the
active renews the lease from the send instant of the HEARTBEAT acknowledged, never backwards, and keeps what the peer reports.
LEASE_TAKE at D or later on a FIT shadow with PEER_ACT low makes it the holder, with ACT_OUT high and its first edge 200 µs later; with
PEER_ACT high nothing changes but the log. PEER_ACT_CHANGE takes the level, and a rise marks held pins to be driven to 0. RED_TEST_DUE
notes the condition once RED_TEST_DAYS have passed on a node that does not hold the lease. (R364, R370, R373, R376, R377, R381) -/
def Obligations.TheLeasePassesBetweenUnits : Prop :=
  (∀ (s : State) (k f d : Nat) (c : List Nat) (a : Time), s.red.role = 1 → SMap.get none s.red.sent k = some a →
      ∃ t b, exec (.mirrorAckReceived k f d c) s = .next t ∧ t.red.sAck = some b ∧ a ≤ b ∧ (∀ y, s.red.sAck = some y → y ≤ b)
        ∧ (b = a ∨ s.red.sAck = some b) ∧ t.red.peer = (f, d, c.take 5) ∧ ChangesOnly [.stk, .red, .out] s t)
  ∧ (∀ (s : State) (u : Time), s.dev.state = .shadow → s.red.pair = true → isMember s = false → s.red.role ≠ 1 → deadlineD s ≤ u →
      s.red.fit = 1 → s.red.peerAct = false → ∃ t, exec (.leaseTake u) s = .next t ∧ t.red.role = 1 ∧ t.red.actOut = true
        ∧ t.red.takenAt = some (u + 200 * us) ∧ SMap.get 0 t.red.cnt 0 = sat32 (SMap.get 0 s.red.cnt 0) 1
        ∧ ChangesOnly [.tim, .rad, .stk, .red, .log, .out] s t)
  ∧ (∀ (s : State) (u : Time), s.red.peerAct = true → ∃ t, exec (.leaseTake u) s = .next t ∧ ChangesOnly [.tim, .log] s t)
  ∧ (∀ (s : State) (b : Bool) (u : Time), ∃ t, exec (.peerActChange b u) s = .next t ∧ t.red.peerAct = b
      ∧ t.red.zeroed = (s.red.zeroed || (b && s.red.holding)) ∧ ChangesOnly [.tim, .red, .log] s t)
  ∧ ∀ (s : State) (u : Time), s.dev.state.powered = true → s.red.pair = true → s.red.actOut = false →
      s.red.lastActive + s.cfg.v redTestDays * 86400 * sec < max s.tim.now u →
      ∃ t, exec (.redTestDue u) s = .next t ∧ condHolds t 0x0A05 0 = true ∧ ChangesOnly [.tim, .log] s t

/-- HELLO, SNAPSHOT, JOURNAL, INPUT, CONTINUITY and RESULT bring the shadow to the state of the active. In a pair: HELLO_RECEIVED from an
active with as many nodes makes a shadow that is not UNFIT SYNCING, from one with another number UNFIT. In SHADOW: a whole SNAPSHOT is
enlisted for its edge; a JOURNAL is enlisted for its frame, or, after its latch, counted and the shadow UNFIT; INPUT is kept for its
frame; CONTINUITY sets the frame counters. RESULT_RECEIVED against the shadow's own of the same RESULT_LEVEL makes it FIT where they
agree after a snapshot, and UNFIT, with DIVERGE_FRAMES one higher, where they differ. (R152, R367, R368, R369, R371, R380) -/
def Obligations.MirrorMessagesKeepTheShadow : Prop :=
  (∀ (s : State) (d n : Nat) (v l : Nat), s.red.pair = true → s.red.role ≠ 1 → ∃ t, exec (.helloReceived d n true v l) s = .next t
      ∧ t.red.hello = some (d, n, true, v, l) ∧ t.red.fit = (if n ≠ s.stk.nodes ∨ s.red.fit = 2 then 2 else 0)
      ∧ t.red.first = false ∧ ChangesOnly [.stk, .red, .log, .out] s t)
  ∧ (∀ (s : State) (j : Nat) (xs : List (Nat × Req)), s.dev.state = .shadow → s.red.pair = true → nextLatch s ≤ j →
      ∃ t x, exec (.snapshotReceived 0 true j xs) s = .next t ∧ t.ox.accepted = s.ox.accepted ++ [x] ∧ x.frame = j
        ∧ x.items.map (fun i => (i.op, i.req)) = xs ∧ t.red.snapAt = some j ∧ ChangesOnly [.ox, .stk, .red, .out] s t)
  ∧ (∀ (s : State) (u : Time) (j i : Nat) (xs : List (Nat × Req)), s.dev.state = .shadow → s.red.pair = true →
      ∃ t, exec (.journalReceived u j i xs) s = .next t
        ∧ (nextLatch s ≤ j → ∃ x ∈ t.ox.accepted, x.id = i ∧ x.frame = j ∧ x.items.map (fun y => (y.op, y.req)) = xs)
        ∧ (j < nextLatch s → t.red.fit = 2 ∧ SMap.get 0 t.red.cnt 4 = sat32 (SMap.get 0 s.red.cnt 4) 1 ∧ t.ox = s.ox))
  ∧ (∀ (s : State) (k st h : Nat) (rs : List Nat) (ts : List Int) (fs : List (Nat × Int × Nat)), s.dev.state = .shadow → s.red.pair = true →
      ∃ t x, exec (.inputReceived k st h rs ts fs) s = .next t ∧ SMap.get none t.red.inputs k = some x ∧ x.step = st ∧ x.h = h
        ∧ x.rings = rs ∧ x.tsns = ts ∧ ChangesOnly [.frm, .stk, .red, .out] s t)
  ∧ (∀ (s : State) (k : Nat) (sq cs : List (Nat × Nat)) (nb : List (Nat × Nat × Nat × Nat)) (cm : List (Nat × Nat × Nat × Nat × List Nat)),
      s.dev.state = .shadow → s.red.pair = true → (cs.map (·.1)).Nodup → ∃ t, exec (.continuityReceived k sq cs nb cm) s = .next t
        ∧ (∀ x ∈ cs, SMap.get 0 t.rad.fc x.1 = x.2) ∧ ChangesOnly [.wired, .rad, .stk, .out] s t)
  ∧ ∀ (s : State) (k : Nat) (a b : List (Nat × Nat)), s.dev.state = .shadow → s.red.pair = true → s.red.role ≠ 1 →
      SMap.get none s.red.own k = some a → (∀ y, s.red.hello = some y → y.2.2.2.2 = resultLevel s) →
      ∃ t, exec (.resultReceived k b) s = .next t ∧ ChangesOnly [.stk, .red, .log, .out] s t
        ∧ ((∀ x ∈ a, x ∈ b) → t.red.fit = if s.red.fit = 0 ∧ s.red.snapDone = true then 1 else s.red.fit)
        ∧ ((∃ x ∈ a, x ∉ b) → t.red.fit = 2 ∧ SMap.get 0 t.red.cnt 2 = sat32 (SMap.get 0 s.red.cnt 2) 1)

/-- An envelope that passes every check acts and moves the counter, a failing one changes no key, and ATTEST answers under the attestation
key. A KEY_UPDATE of any OP, heard, with room for its answer, whose envelope passes the checks of Table 18-7 moves COUNTER by one.
INSTALL writes type, usage and key into its target with the next generation and restarts the slot's frame counter; INVALIDATE empties
its target, the generation one higher; PROVISION, TAKE_OWNERSHIP, RETURN, REPROVISION and RETIRE bring the life cycle to 1, 2, 3, 1 and
4, and the last leaves no slot. One that fails a check leaves the island's keys, counter and life cycle alone. ATTEST with the
attestation key present, and the island neither in error nor tampered, is answered with the attested bytes and their HMAC. (R409, R413,
R414, R417, R418, R419, R424, R428) -/
def Obligations.KeyUpdatesAndAttestation : Prop :=
  (∀ (r : Req) (s u : State) (b body : List Byte), KeyReady 1 r s u b body → ∃ t, exec (.keyUpdateInstall r) s = .next t
      ∧ t.sec.counter = u.sec.counter + 1 ∧ ((slotOf u (envTarget b)).gen ≠ 65535 → (slotOf t (envTarget b)).state = 1
        ∧ (slotOf t (envTarget b)).gen = (slotOf u (envTarget b)).gen + 1 ∧ (slotOf t (envTarget b)).ty = envType b
        ∧ (slotOf t (envTarget b)).usage = envUsage b ∧ (slotOf t (envTarget b)).key = body ∧ SMap.get 0 t.rad.fc (envTarget b) = 0))
  ∧ (∀ (r : Req) (s u : State) (b body : List Byte), KeyReady 2 r s u b body → ∃ t, exec (.keyUpdateInvalidate r) s = .next t
      ∧ t.sec.counter = u.sec.counter + 1 ∧ ((slotOf u (envTarget b)).gen ≠ 65535 →
        slotOf t (envTarget b) = { KeySlot.empty with gen := (slotOf u (envTarget b)).gen + 1 }))
  ∧ (∀ (r : Req) (s u : State) (b body : List Byte), KeyReady 0x10 r s u b body →
      ∃ t, exec (.keyUpdateProvision r) s = .next t ∧ t.sec.counter = u.sec.counter + 1 ∧ t.sec.lifecycle = 1)
  ∧ (∀ (r : Req) (s u : State) (b body : List Byte), KeyReady 0x11 r s u b body →
      ∃ t, exec (.keyUpdateTakeOwnership r) s = .next t ∧ t.sec.counter = u.sec.counter + 1 ∧ t.sec.lifecycle = 2)
  ∧ (∀ (r : Req) (s u : State) (b body : List Byte), KeyReady 0x12 r s u b body →
      ∃ t, exec (.keyUpdateReturn r) s = .next t ∧ t.sec.counter = u.sec.counter + 1 ∧ t.sec.lifecycle = 3)
  ∧ (∀ (r : Req) (s u : State) (b body : List Byte), KeyReady 0x13 r s u b body →
      ∃ t, exec (.keyUpdateReprovision r) s = .next t ∧ t.sec.counter = u.sec.counter + 1 ∧ t.sec.lifecycle = 1)
  ∧ (∀ (r : Req) (s u : State) (b body : List Byte), KeyReady 0x14 r s u b body →
      ∃ t, exec (.keyUpdateRetire r) s = .next t ∧ t.sec.counter = u.sec.counter + 1 ∧ t.sec.lifecycle = 4 ∧ t.sec.slots = [])
  ∧ (∀ (r : Req) (s u : State) (e : Status), u = inService 0x50 r s → Heard 0x50 r s →
      envErr u (by_ 0x50 r s) r.path r.payload = some e → ∃ t, exec (.keyUpdateInstall r) s = .next t
        ∧ t.sec.slots = u.sec.slots ∧ t.sec.counter = u.sec.counter ∧ t.sec.lifecycle = u.sec.lifecycle ∧ t.sec.kek = u.sec.kek
        ∧ SMap.get 0 t.sec.cnt 1 = sat32 (SMap.get 0 u.sec.cnt 1) 1)
  ∧ ∀ (r : Req) (s u : State), u = inService 0x51 r s → Heard 0x51 r s → keyState u 6 = 1 → islandOut u = false →
      Fits 0x51 r s (secCount u 2) .ok 0 (attestBytes u ++ hmac (slotOf u 6).key (r.payload ++ attestBytes u)) →
      exec (.attest r) s = .next (answered 0x51 r (secCount u 2) .ok 0
        (attestBytes u ++ hmac (slotOf u 6).key (r.payload ++ attestBytes u)))

/-- A tamper event or a failed test takes the island and the node out, and activation and its window end in a reset or a fallback.
TAMPER_EVENT of a watched input outside OFF destroys the KEK, sets TAMPERED and ends the sessions, and from DAWN, READY, RUN and SHADOW
the node enters SAFE with cause TAMPER. SELFTEST_FAILURE after the dawn puts the island into its error state, and a READY, RUN or SHADOW
node into SAFE. SELECTOR_WRITE_RESET while ACTIVATING names the other set in TRIAL and enters DAWN. CONFIRM_WINDOW_EXPIRY in TRIAL
writes the fallback record, counts it and asks for a reset. (R407, R421, R440, R444, R29) -/
def Obligations.TamperTestsAndActivationResets : Prop :=
  (∀ (s : State) (i : Nat) (u : Time), s.dev.state ≠ .off → tamperWatched s i = true → ∃ t, exec (.tamperEvent i u) s = .next t
      ∧ t.sec.kek = false ∧ t.sec.tampered = true ∧ t.sec.live = [] ∧ (s.sec.tampered = false → t.sec.tamperAt = some (i, u))
      ∧ (s.dev.state = .dawn ∨ s.dev.state.live = true ∨ s.dev.state = .safe → t.dev.state = .safe ∧ t.dev.safeCause = 2))
  ∧ (∀ (s : State) (n : Nat) (b : Bool), s.dev.state.powered = true → s.dev.state ≠ .dawn →
      ∃ t, exec (.selftestFailure n b) s = .next t ∧ t.sec.error = true ∧ t.sec.live = []
        ∧ (b = true → SMap.get 0 t.sec.cnt 3 = sat32 (SMap.get 0 s.sec.cnt 3) 1)
        ∧ (s.dev.state.live = true → t.dev.state = .safe ∧ t.dev.safeCause = 3))
  ∧ (∀ s : State, s.upd.state = 5 → s.upd.sel.trial = false → s.dev.state.powered = true → ∃ t, exec .selectorWriteReset s = .next t
      ∧ t.dev.state = .dawn ∧ t.upd.sel.set = otherSet s ∧ t.upd.sel.trial = true ∧ t.upd.sel.fbSet = s.upd.sel.set
      ∧ t.upd.sel.seq = s.upd.sel.seq + 1 ∧ t.upd.sel.hash = manifestHash (imageOf s (otherSet s)).manifest ∧ t.pending = s.pending)
  ∧ ∀ (s : State) (u a : Time), s.upd.windowAt = some a → s.upd.state = 6 → a + s.cfg.v updConfirmS * sec ≤ (advance s u).tim.up →
      ∃ t, exec (.confirmWindowExpiry u) s = .next t ∧ t.upd.state = 8 ∧ t.upd.resetWanted = true ∧ t.upd.sel.set = s.upd.sel.fbSet
        ∧ t.upd.sel.trial = false ∧ SMap.get 0 t.upd.cnt 2 = sat32 (SMap.get 0 s.upd.cnt 2) 1 ∧ ChangesOnly [.tim, .upd, .log] s t

/-- Image blocks fill the set that is not active, and the set is verified, armed, disarmed and confirmed. Outside a host load, from a caller
that may update, on a path with room for the answer: a first manifest chunk that does not complete the manifest starts the download and
is held. A data chunk that completes a segment writes it into the set that is not active when its hash is right, and otherwise counts
SEG_FAIL and keeps no progress. IMAGE_VERIFY of a complete set without fault makes UPD_STATE VERIFIED, and of a faulty one counts
VERIFY_FAIL. IMAGE_ARM arms the first edge at or after its time, IMAGE_DISARM cancels it, and IMAGE_CONFIRM with the running set's hash
ends the trial and raises the SVN floor. (R433, R434, R435, R436, R438, R445) -/
def Obligations.ImagesAreLoadedVerifiedArmedAndConfirmed : Prop :=
  (∀ (r : Req) (s u : State) (d : List Byte), u = inService 0x60 r s → Heard 0x60 r s → imageErr u (by_ 0x60 r s) = none →
      hostLoads u = false → leAt r.payload 0 4 = 0 → leAt r.payload 4 4 = 0 → d = r.payload.drop 8 → 8 ≤ d.length → d.length % 8 = 0 →
      (24 ≤ d.length → d.length < manifestLen d) → u.upd.state < 4 ∨ 6 < u.upd.state → Fits 0x60 r s u .ok 0 (List.replicate 8 0) →
      ∃ t, exec (.imageBlockManifest r) s = .next t ∧ t.upd.state = 1 ∧ t.upd.dl.manifest = d ∧ t.upd.dl.complete = false
        ∧ t.upd.dl.progress = 0)
  ∧ (∀ (r : Req) (s u : State) (d b m : List Byte) (off i : Nat) (x : Download), u = inService 0x60 r s → Heard 0x60 r s →
      imageErr u (by_ 0x60 r s) = none → hostLoads u = false → leAt r.payload 0 4 = 1 → off = leAt r.payload 4 4 → d = r.payload.drop 8 →
      m = u.upd.dl.manifest → i = off / 65536 → u.upd.state = 1 → u.upd.dl.complete = true → d ≠ [] →
      off + d.length = setLen m ∨ d.length % 1024 = 0 → off % 1024 = 0 → off + d.length ≤ setLen m → (off + d.length - 1) / 65536 = i →
      bitAt u.upd.dl.progress i = false → m.length ≤ off → u.upd.dl.seg = some i → x = putBlocks u.upd.dl (off % 65536 / 1024) d →
      segBytes x i = some b → Fits 0x60 r s u .ok 0 (List.replicate 8 0) → ∃ t, exec (.imageBlockData r) s = .next t
        ∧ (sha256 b = segHash m i → bitAt t.upd.dl.progress i = true ∧ SMap.get [] (imageOf t (otherSet u)).segs i = b)
        ∧ (sha256 b ≠ segHash m i → t.upd.dl.progress = u.upd.dl.progress ∧ t.upd.dl.seg = none ∧ t.upd.sets = u.upd.sets
          ∧ SMap.get 0 t.upd.cnt 0 = sat32 (SMap.get 0 u.upd.cnt 0) 1))
  ∧ (∀ (r : Req) (s u : State), u = inService 0x61 r s → Heard 0x61 r s → imageErr u (by_ 0x61 r s) = none → hostLoads u = false →
      u.upd.state = 2 ∨ u.upd.state = 8 → Fits 0x61 r s u .ok 0 (manifestHash (imageOf u (otherSet u)).manifest) →
      ∃ t, exec (.imageVerify r) s = .next t
        ∧ if setBad u (otherSet u) = none then t.upd.state = 3 ∧ t.upd.cnt = u.upd.cnt
          else t.upd.state = u.upd.state ∧ SMap.get 0 t.upd.cnt 1 = sat32 (SMap.get 0 u.upd.cnt 1) 1)
  ∧ (∀ (r : Req) (s u : State), u = inService 0x62 r s → Heard 0x62 r s →
      toStack u r = false → imageErr u (by_ 0x62 r s) = none → armPayload r.payload = none → armErr u r.payload = none →
      Fits 0x62 r s u .ok 0 (List.replicate 8 0) →
      (byteOf r.payload 0 = 1 → ∃ t, exec (.imageArm r) s = .next t ∧ t.upd.state = 4 ∧ t.upd.armed = some (edgeFrom u (armTime r.payload)))
      ∧ (byteOf r.payload 0 = 2 → ∃ t, exec (.imageDisarm r) s = .next t ∧ t.upd.state = 3 ∧ t.upd.armed = none))
  ∧ ∀ (r : Req) (s u : State), u = inService 0x63 r s → Heard 0x63 r s → toStack u r = false → imageErr u (by_ 0x63 r s) = none →
      u.upd.state = 6 → r.payload = manifestHash (runningManifest u) → Fits 0x63 r s u .ok 0 [] → ∃ t, exec (.imageConfirm r) s = .next t ∧ t.upd.state = 7
        ∧ t.upd.svnFloor = max u.upd.svnFloor (leAt (runningManifest u) 20 2) ∧ t.upd.sel.trial = false ∧ t.upd.windowAt = none
        ∧ SMap.get 0 t.upd.cnt 3 = sat32 (SMap.get 0 u.upd.cnt 3) 1

/-- ACT_OUT is never high while PEER_ACT is high. In every state with PEER_ACT high the ACT_OUT ball is not high. (R365) -/
def Obligations.ActOutStaysLowWhilePeerActIsHigh : Prop :=
  ∀ s : State, s.red.peerAct = true → ballLevel s .actOut ≠ .high

/-- A packet shorter than 24 bytes is discarded, counted and signalled. MB_MALFORMED of a packet of fewer than 24 bytes on any path that
hears it (MB2 is not heard in DAWN and DUSK, R295) adds 1 to MALFORMED of its path, sets MB_MALFORMED, answers nothing on the response
queues of MB0 and MB1, and changes neither the stored responses nor anything outside queues, interrupts and counters. (R304) -/
def Obligations.ShortPacketsAreMalformed : Prop :=
  ∀ (s : State) (p : Path) (bs : List Byte), hostUp s = true → bs.length < 24 →
    (∀ n q, p = .mb2 n q → s.dev.state ≠ .dawn ∧ s.dev.state ≠ .dusk) → ∃ t, exec (.mbMalformed p bs) s = .next t
      ∧ SMap.get 0 t.ox.counters (pathRecord p * 8 + 3) = sat32 (SMap.get 0 s.ox.counters (pathRecord p * 8 + 3)) 1
      ∧ bitAt t.host.intStatus 38 = true ∧ qGet t 25 = qGet s 25 ∧ qGet t 27 = qGet s 27 ∧ t.ox = { s.ox with counters := t.ox.counters }
      ∧ ChangesOnly [.que, .host, .ox, .out] s t

/-- HQ_IRQ_N is low while an unmasked source is set, and a source that becomes set, or is unmasked while set, sends one message. The
interrupt is pending exactly while INT_STATUS AND NOT INT_MASK has a source set. Setting a source that is set changes nothing. Setting
another sets it and, unmasked, sends the message of its vector, which stays pending while the MSI-X table masks the vector; masked it
sends none. INT_MASK_WRITE sends one message for each set source that it unmasks. (R300) -/
def Obligations.InterruptsSendOneMessage : Prop :=
  (∀ s : State, irqPending s = true ↔ ∃ n, n < 39 ∧ bitAt s.host.intStatus n = true ∧ bitAt s.host.intMask n = false)
  ∧ (∀ (s : State) (n : Nat), bitAt s.host.intStatus n = true → raise s n = s)
  ∧ (∀ (s : State) (n : Nat), bitAt s.host.intStatus n = false → bitAt (raise s n).host.intStatus n = true
      ∧ (bitAt s.host.intMask n = false → msixMasked s (vectorOf s n) = false → (raise s n).out = .msix (vectorOf s n) :: s.out)
      ∧ (bitAt s.host.intMask n = false → msixMasked s (vectorOf s n) = true →
        (raise s n).out = s.out ∧ bitAt (raise s n).host.msixPending (vectorOf s n) = true)
      ∧ (bitAt s.host.intMask n = true → (raise s n).out = s.out ∧ (raise s n).host.msixPending = s.host.msixPending))
  ∧ ∀ (s : State) (v : BitVec 64), hostUp s = true → (∀ n, n < 32 → msixMasked s n = false) → ∃ t, exec (.intMaskWrite v) s = .next t
      ∧ t.out = (((List.range 39).filter fun n => bitAt s.host.intStatus n && bitAt s.host.intMask n && !bitAt v.toNat n).map
        fun n => .msix (vectorOf s n)).reverse ++ s.out

/-- A shadow takes no lease in [r, D) unasked, a HEARTBEAT moves r and is acknowledged, and at D or later it is not. After the first
deadline, D = r + L + G, and entering SHADOW sets r to its instant. On a shadow without the lease, LEASE_TAKE before D, with no RELEASE
received, changes nothing but the clock. A HEARTBEAT received before D sets r to its receipt instant and, with the mirror link UP and
credit, queues or sends the ACK; one at D or later changes nothing but the clock and the acknowledgement of its packet. (R374) -/
def Obligations.AShadowHoldsTheActiveAliveUntilD : Prop :=
  (∀ s : State, s.red.first = false → deadlineD s = s.red.r + leaseL s.cfg + leaseG s.cfg)
  ∧ (∀ (s : State) (u : Time) (b : Bool), (enterShadow s u b).red.r = u)
  ∧ (∀ (s : State) (u : Time), s.dev.state = .shadow → s.red.role ≠ 1 → u < deadlineD s → s.red.released = none →
      exec (.leaseTake u) s = .next (advance s u))
  ∧ (∀ (s : State) (u v : Time) (k : Nat) (b : Bool), s.dev.state = .shadow → s.red.pair = true → s.red.takenAt = none → u < deadlineD s →
      ∃ t m, exec (.heartbeatReceived u k v b) s = .next t ∧ t.red.r = u ∧ t.red.released = (if b then some u else none)
        ∧ t = mirSend (setCond { mirTook (advance s u) 24 with red := t.red } 0x0A04 0 false) 3 m ∧ m.take 8 = leBytes 8 k)
  ∧ ∀ (s : State) (u v : Time) (k : Nat) (b : Bool), deadlineD s ≤ u →
      exec (.heartbeatReceived u k v b) s = .next (mirTook (advance s u) 24)

/-- Each command changes only the parts of the state that its rules name. For 150 commands, with every operand and in every state: whatever
next state the command answers, every field of State other than the ones listed for it is what it was. The other commands have their
frames in the statements of their families. (95_what_each_step_holds.md, 01_node_architecture.md) -/
def Obligations.CommandsChangeOnlyTheirPartsOfTheBlock : Prop :=
  Frames [.cal] .calPassStart ∧ (∀ a b, Frames [.cal] (.calLineCalibrate a b)) ∧ (∀ a b, Frames [.con] (.bar2RingWrite a b))
  ∧ (∀ a, Frames [.con] (.captureRelWrite a)) ∧ (∀ a, Frames [.dev] (.dieTempSample a)) ∧ (∀ a, Frames [.dev] (.railMeasure a))
  ∧ (∀ a, Frames [.drv] (.glintProbe a)) ∧ Frames [.frm] .genlockPulseMissing ∧ Frames [.host] .qspiStatus
  ∧ (∀ a, Frames [.host] (.intStatusWrite a)) ∧ (∀ a, Frames [.log] (.logTokenAdd a)) ∧ Frames [.log] .optimeWrite
  ∧ (∀ a, Frames [.ox] (.consoleFrameError a)) ∧ (∀ a, Frames [.ras] (.rasterFetchAdvance a)) ∧ (∀ a, Frames [.src] (.scheduleFire a))
  ∧ (∀ a b c, Frames [.stk] (.cascadeLaneLock a b c)) ∧ (∀ a, Frames [.tim] (.syncSampleTimeout a))
  ∧ (∀ a, Frames [.tim] (.holdoverExpiry a)) ∧ (∀ a, Frames [.tim] (.rtcUpdate a)) ∧ (∀ a, Frames [.wired] (.rdmTelemetryPoll a))
  ∧ (∀ a, Frames [.wired] (.daliBusRestored a)) ∧ (∀ a, Frames [.wired] (.daliDeviceFrame a))
  ∧ (∀ a, Frames [.con, .log] (.layerSourceLost a)) ∧ (∀ a, Frames [.con, .ras] (.dramGrant a)) ∧ Frames [.dev, .tim] .vbatLoss
  ∧ (∀ a b, Frames [.dev, .tim] (.pcieLinkChange a b)) ∧ Frames [.drv, .log] .msyncLost
  ∧ (∀ a b c, Frames [.eng, .log] (.energyRetrim a b c)) ∧ (∀ a, Frames [.fix, .log] (.tsnsRead a)) ∧ Frames [.frm, .con] .composerBand
  ∧ Frames [.frm, .log] .genlockLost ∧ Frames [.frm, .log] .ltcLost ∧ (∀ a, Frames [.host, .out] (.dmaTailWrite a))
  ∧ (∀ a, Frames [.host, .out] (.ringACtrlWrite a)) ∧ (∀ a, Frames [.host, .out] (.intMaskWrite a))
  ∧ (∀ a, Frames [.host, .out] (.dmaBaseWrite a)) ∧ (∀ a, Frames [.host, .out] (.dmaSizeWrite a))
  ∧ (∀ a b, Frames [.rad, .out] (.radioRxFetch a b)) ∧ (∀ a b c d, Frames [.stk, .out] (.creditReceived a b c d))
  ∧ (∀ a b, Frames [.stk, .out] (.cmdRetransmit a b)) ∧ (∀ a b c d, Frames [.stk, .out] (.relayStage a b c d))
  ∧ (∀ a, Frames [.stk, .out] (.relayDiscard a)) ∧ (∀ a, Frames [.tim, .eng] (.engHistoryMinute a))
  ∧ (∀ a, Frames [.tim, .eth] (.pauseRefresh a)) ∧ (∀ a b c, Frames [.tim, .frm] (.ltcWord a b c))
  ∧ (∀ a, Frames [.tim, .frm] (.ltcWordMissing a)) ∧ (∀ a b, Frames [.tim, .host] (.timeSecRead a b))
  ∧ (∀ a, Frames [.tim, .log] (.redTestDue a)) ∧ (∀ a, Frames [.tim, .out] (.toutPulse a)) ∧ (∀ a, Frames [.tim, .ox] (.dedupeExpiry a))
  ∧ (∀ a b c d, Frames [.tim, .que] (.txTimestampCapture a b c d)) ∧ (∀ a, Frames [.tim, .rad] (.radioSlotStart a))
  ∧ (∀ a b, Frames [.tim, .rad] (.radioSfdStamp a b)) ∧ (∀ a, Frames [.tim, .rad] (.commandFrameBuild a))
  ∧ (∀ a b, Frames [.tim, .ras] (.rasterPhaseStep a b)) ∧ (∀ a b c d e f, Frames [.tim, .stk] (.echoReceived a b c d e f))
  ∧ (∀ a, Frames [.wired, .out] (.daliFrameSend a)) ∧ (∀ a b, Frames [.wired, .out] (.daliPoll a b))
  ∧ (∀ a b, Frames [.host, .free, .out] (.qspiRead a b)) ∧ (∀ a b, Frames [.que, .host, .out] (.pushLenWrite a b))
  ∧ (∀ a, Frames [.que, .host, .out] (.queuePushResume a)) ∧ (∀ a, Frames [.src, .log, .free] (.solarCompute a))
  ∧ (∀ a b c d e, Frames [.stk, .log, .out] (.cascadeLinkSlot a b c d e))
  ∧ (∀ a b c d, Frames [.stk, .log, .out] (.enumReceived a b c d)) ∧ (∀ a b c d, Frames [.stk, .red, .out] (.mirrorAckReceived a b c d))
  ∧ (∀ a, Frames [.tim, .drv, .log] (.msyncEdge a)) ∧ (∀ a, Frames [.tim, .drv, .out] (.pwmPeriodStart a))
  ∧ (∀ a, Frames [.tim, .drv, .out] (.pdmSlot a)) ∧ Frames [.tim, .drv, .out] .matrixRowSlot
  ∧ (∀ a, Frames [.tim, .eth, .log] (.pauseIgnoreEnd a)) ∧ (∀ a b, Frames [.tim, .eth, .log] (.ethLinkChange a b))
  ∧ (∀ a, Frames [.tim, .eth, .out] (.pauseExpiry a)) ∧ (∀ a b c, Frames [.tim, .rad, .log] (.radioGuardEval a b c))
  ∧ (∀ a b, Frames [.tim, .red, .log] (.peerActChange a b)) ∧ (∀ a b c d, Frames [.tim, .src, .log] (.ptpOffsetSample a b c d))
  ∧ (∀ a b, Frames [.tim, .stk, .log] (.cascadeLockLoss a b)) ∧ Frames [.tim, .stk, .log] .edgeHoldover
  ∧ (∀ a, Frames [.tim, .stk, .out] (.syncSend a)) ∧ (∀ a, Frames [.tim, .stk, .out] (.probeSend a))
  ∧ (∀ a b c d, Frames [.tim, .stk, .out] (.probeReceived a b c d)) ∧ (∀ a, Frames [.tim, .upd, .log] (.confirmWindowExpiry a))
  ∧ (∀ a, Frames [.tim, .wired, .out] (.strandTxStart a)) ∧ (∀ a b, Frames [.tim, .wired, .out] (.rdmTransactionStart a b))
  ∧ (∀ a b c, Frames [.frm, .stk, .log, .out] (.slipReceived a b c))
  ∧ (∀ a b c d e f, Frames [.frm, .stk, .red, .out] (.inputReceived a b c d e f))
  ∧ (∀ a b c d, Frames [.ox, .stk, .red, .out] (.snapshotReceived a b c d)) ∧ (∀ a b, Frames [.que, .host, .ox, .out] (.mbMalformed a b))
  ∧ (∀ a b c d e, Frames [.stk, .red, .log, .out] (.helloReceived a b c d e))
  ∧ (∀ a b, Frames [.stk, .red, .log, .out] (.resultReceived a b)) ∧ (∀ a, Frames [.stk, .upd, .log, .out] (.reportReceived a))
  ∧ (∀ a, Frames [.tim, .eth, .log, .out] (.pauseWatchdog a)) ∧ Frames [.tim, .frm, .log, .out] .computeDeadline
  ∧ (∀ a, Frames [.tim, .frm, .ox, .log] (.genlockPulse a)) ∧ (∀ a, Frames [.tim, .frm, .ox, .log] (.wclkPulse a))
  ∧ Frames [.tim, .frm, .stk, .out] .stkRoleDecide ∧ (∀ a, Frames [.tim, .que, .host, .out] (.txTimestampPop a))
  ∧ (∀ a b c, Frames [.tim, .que, .host, .out] (.ptpMessageInterval a b c))
  ∧ (∀ a b, Frames [.tim, .rad, .log, .out] (.radioCellPrepare a b)) ∧ (∀ a b, Frames [.tim, .ras, .log, .out] (.rasterLineStart a b))
  ∧ (∀ a b, Frames [.tim, .stk, .log, .out] (.cascadeAlignSlot a b)) ∧ (∀ a b c, Frames [.tim, .stk, .log, .out] (.syncReceived a b c))
  ∧ (∀ a, Frames [.tim, .wired, .eth, .out] (.sacnSyncPacket a))
  ∧ (∀ a b c d e, Frames [.wired, .rad, .stk, .out] (.continuityReceived a b c d e))
  ∧ (∀ a b c d, Frames [.tim, .frm, .stk, .log, .out] (.edgeReceived a b c d))
  ∧ (∀ a, Frames [.tim, .wired, .que, .host, .out] (.sacnDataPacket a))
  ∧ (∀ a b c d, Frames [.tim, .con, .ox, .stk, .red, .out] (.journalReceived a b c d))
  ∧ (∀ a, Frames [.drv, .que, .host, .log, .out] (.diagStaleExpiry a)) ∧ (∀ a b, Frames [.que, .host, .stk, .sec, .out] (.relayNotify a b))
  ∧ Frames [.tim, .con, .que, .stk, .out] .sacnClose ∧ (∀ a b c d e, Frames [.tim, .que, .host, .sch, .out] (.threadWake a b c d e))
  ∧ (∀ a b, Frames [.tim, .que, .host, .sch, .out] (.threadBlock a b))
  ∧ (∀ a b, Frames [.tim, .que, .host, .sch, .out] (.threadSlice a b))
  ∧ (∀ a b, Frames [.tim, .que, .host, .sch, .out] (.threadExit a b))
  ∧ (∀ a b c d, Frames [.tim, .stk, .red, .log, .out] (.heartbeatReceived a b c d))
  ∧ (∀ a, Frames [.con, .que, .host, .stk, .log, .out] (.ringAWpWrite a))
  ∧ (∀ a, Frames [.con, .que, .host, .stk, .sec, .out] (.ringSpaceFreed a))
  ∧ (∀ a b c, Frames [.rad, .que, .host, .stk, .sec, .out] (.radioAckReceived a b c))
  ∧ (∀ a b, Frames [.src, .rad, .que, .host, .log, .out] (.radioFrameReceived a b))
  ∧ (∀ a b c d, Frames [.tim, .con, .que, .stk, .log, .out] (.contentStreamReceived a b c d))
  ∧ (∀ a, Frames [.tim, .que, .host, .stk, .sec, .out] (.timAlarmFire a))
  ∧ (∀ a, Frames [.tim, .rad, .stk, .red, .log, .out] (.leaseTake a))
  ∧ (∀ a, Frames [.tim, .wired, .que, .host, .log, .out] (.sacnQuietStart a))
  ∧ (∀ a, Frames [.wired, .que, .host, .stk, .sec, .out] (.daliCollision a))
  ∧ (∀ a, Frames [.con, .que, .host, .stk, .sec, .log, .out] (.dmaDescriptorRead a))
  ∧ (∀ a, Frames [.rad, .que, .host, .stk, .sec, .free, .out] (.radioAckTimeout a))
  ∧ (∀ a b, Frames [.tim, .eth, .que, .host, .stk, .sec, .out] (.ethTxComplete a b))
  ∧ (∀ a b c, Frames [.tim, .que, .host, .stk, .sec, .log, .out] (.tinCapture a b c))
  ∧ (∀ a b c d, Frames [.tim, .src, .drv, .que, .host, .log, .out] (.snsSample a b c d))
  ∧ (∀ a, Frames [.tim, .wired, .que, .host, .stk, .sec, .out] (.dmxPacketStart a))
  ∧ (∀ a b, Frames [.tim, .wired, .que, .host, .stk, .sec, .out] (.rdmResponseTimeout a b))
  ∧ (∀ a b c, Frames [.tim, .wired, .que, .host, .stk, .sec, .out] (.rdmDiscDone a b c))
  ∧ (∀ a b c, Frames [.tim, .wired, .que, .host, .stk, .sec, .out] (.dalAddressDone a b c))
  ∧ (∀ a, Frames [.wired, .que, .host, .stk, .sec, .log, .out] (.daliBusDown a))
  ∧ (∀ a, Frames [.dev, .tim, .frm, .con, .eth, .ox, .stk, .red] (.mainRailLoss a))
  ∧ (∀ a b, Frames [.que, .host, .ox, .stk, .sec, .upd, .log, .out] (.relayResponse a b))
  ∧ (∀ a b c d, Frames [.tim, .con, .que, .host, .stk, .sec, .log, .out] (.dmaEntryWritten a b c d))
  ∧ (∀ a, Frames [.tim, .frm, .src, .fix, .stk, .red, .log, .out] (.computeComplete a))
  ∧ (∀ a b, Frames [.tim, .que, .host, .ox, .stk, .sec, .log, .out] (.logClearDone a b))
  ∧ (∀ a b, Frames [.tim, .que, .host, .stk, .eng, .sec, .log, .out] (.radioCivicDeferred a b))
  ∧ (∀ a b c d e, Frames [.tim, .src, .wired, .que, .host, .stk, .sec, .out] (.rdmResponse a b c d e))
  ∧ (∀ a b, Frames [.tim, .wired, .que, .host, .stk, .sec, .log, .out] (.daliReplyTimeout a b))
  ∧ (∀ a b c, Frames [.con, .que, .host, .ox, .stk, .sec, .upd, .log, .out] (.commitReceived a b c))
  ∧ (∀ a b c, Frames [.con, .que, .host, .ox, .stk, .sec, .upd, .log, .out] (.relayVerdict a b c))
  ∧ (∀ a, Frames [.dev, .tim, .frm, .con, .eth, .ox, .stk, .red, .log] (.duskComplete a))
  ∧ (∀ a b, Frames [.tim, .drv, .eth, .que, .host, .stk, .sec, .sch, .out] (.headWrite a b))
  ∧ (∀ a b, Frames [.tim, .drv, .eth, .que, .host, .stk, .sec, .sch, .out] (.qregFlush a b))
  ∧ (∀ a, Frames [.tim, .drv, .eth, .que, .host, .stk, .sec, .sch, .out] (.queueFlushDone a))
  ∧ (∀ a, Frames [.tim, .rad, .que, .host, .stk, .eng, .sec, .log, .out] (.radioTxtrig a))
  ∧ (∀ a b c, Frames [.tim, .src, .wired, .que, .host, .stk, .sec, .log, .out] (.daliBackwardFrame a b c))
  ∧ (∀ a b, Frames [.tim, .wired, .eth, .que, .host, .stk, .sec, .log, .out] (.ethTxFrameStart a b))
end

