-- ==== Sys2Proof/Laws/Bytes.lean ====
section
/-! SUPPORT. Bytes that spell numbers, and the length of hashes. -/

namespace Sys2Proof.Machine

/-- Little-endian bytes spell a number up to their range. -/
theorem leNat_leBytes (n v : Nat) : leNat (leBytes n v) = v % 256 ^ n := by
  induction n generalizing v with
  | zero => simp [leBytes, leNat, Nat.mod_one]
  | succ n ih =>
    simp only [leBytes, leNat, ih, BitVec.toNat_ofNat]
    rw [show 256 ^ (n + 1) = 256 * 256 ^ n from Nat.pow_succ', Nat.mod_mul (a := 256)]

/-- Spelling a number takes as many bytes as it is given. -/
theorem leBytes_length (n v : Nat) : (leBytes n v).length = n := by
  induction n generalizing v with
  | zero => rfl
  | succ n ih => simp [leBytes, ih]

/-- A round keeps eight working variables. -/
theorem round_length (v : Sha) (x : List Nat) (k w : Nat) (h : x.length = 8) : (v.round x k w).length = 8 := by
  unfold Sha.round
  split
  · rfl
  · exact h

/-- So do the rounds of a block. -/
theorem rounds_length (v : Sha) (ks w x : List Nat) (h : x.length = 8) : (v.rounds ks w x).length = 8 := by
  induction ks generalizing w x with
  | nil => exact h
  | cons k ks ih => exact ih _ _ (round_length v x k _ h)

/-- So do the blocks of a message. -/
theorem hashed_length (v : Sha) (bs : List (List Byte)) (h : List Nat) (e : h.length = 8) : (bs.foldl v.block h).length = 8 := by
  induction bs generalizing h with
  | nil => exact e
  | cons b bs ih => exact ih _ (by simp [Sha.block, rounds_length v _ _ h e, e])

/-- A SHA-256 hash is 32 bytes. -/
theorem sha256_length (m : List Byte) : (sha256 m).length = 32 := by
  have h := hashed_length shaSmall (chunks (2 * shaSmall.w) ((shaSmall.pad m).length / (2 * shaSmall.w)) (shaSmall.pad m)) shaSmall.h rfl
  simp only [sha256, Sha.hash, List.length_take]
  generalize List.foldl shaSmall.block shaSmall.h _ = y at h ⊢
  have e : (y.flatMap (beBytes (shaSmall.w / 8))).length = 4 * y.length := by
    clear h
    induction y with
    | nil => rfl
    | cons a y ih =>
      simp only [List.flatMap_cons, List.length_append, ih, List.length_cons]
      rw [show (beBytes (shaSmall.w / 8) a).length = 4 from rfl]
      omega
  rw [e, h]
  rfl

/-- An HMAC is 32 bytes. -/
theorem hmac_length (key m : List Byte) : (hmac key m).length = 32 := sha256_length _

end Sys2Proof.Machine
end

