-- ==== Sys2Proof/Laws/SMap.lean ====
section
/-! SUPPORT. Laws of sparse maps: a read after a write, and that every operation keeps the canonical form. -/

namespace Sys2Proof.Machine

variable {α : Type}

/-- A key inserted reads as its value. -/
theorem SMap.get_ins_same (d : α) (k : Nat) (v : α) (m : SMap α) : SMap.get d (SMap.ins k v m) k = v := by
  induction m with
  | nil => simp [SMap.ins, SMap.get]
  | cons x m ih =>
    obtain ⟨j, w⟩ := x
    unfold SMap.ins
    split
    · simp [SMap.get]
    · split
      · simp [SMap.get]
      · simp [SMap.get, *]

/-- An insertion leaves every other key alone. -/
theorem SMap.get_ins_other (d : α) (k i : Nat) (v : α) (m : SMap α) (h : i ≠ k) :
    SMap.get d (SMap.ins k v m) i = SMap.get d m i := by
  induction m with
  | nil => simp [SMap.ins, SMap.get, Ne.symm h]
  | cons x m ih =>
    obtain ⟨j, w⟩ := x
    unfold SMap.ins
    split
    · simp [SMap.get, Ne.symm h]
    · split
      · next hj => subst hj; simp [SMap.get, Ne.symm h]
      · simp only [SMap.get, ih]

/-- A key deleted reads as the default. -/
theorem SMap.get_del_same (d : α) (k : Nat) (m : SMap α) : SMap.get d (SMap.del k m) k = d := by
  induction m with
  | nil => simp [SMap.del, SMap.get]
  | cons x m ih =>
    obtain ⟨j, w⟩ := x
    unfold SMap.del
    split
    · exact ih
    · simp [SMap.get, *]

/-- A deletion leaves every other key alone. -/
theorem SMap.get_del_other (d : α) (k i : Nat) (m : SMap α) (h : i ≠ k) : SMap.get d (SMap.del k m) i = SMap.get d m i := by
  induction m with
  | nil => simp [SMap.del, SMap.get]
  | cons x m ih =>
    obtain ⟨j, w⟩ := x
    unfold SMap.del
    split
    · next hj => subst hj; simp [SMap.get, Ne.symm h, ih]
    · simp only [SMap.get, ih]

variable [DecidableEq α]

/-- A read after a write to the same key gives the value written. -/
@[simp] theorem SMap.get_put_same (d : α) (m : SMap α) (k : Nat) (v : α) : SMap.get d (SMap.put d m k v) k = v := by
  unfold SMap.put
  split
  · next h => rw [h]; exact SMap.get_del_same d k m
  · exact SMap.get_ins_same d k v m

/-- A write leaves every other key alone. -/
theorem SMap.get_put_other (d e : α) (m : SMap α) (k i : Nat) (v : α) (h : i ≠ k) :
    SMap.get d (SMap.put e m k v) i = SMap.get d m i := by
  unfold SMap.put
  split
  · exact SMap.get_del_other d k i m h
  · exact SMap.get_ins_other d k i v m h

/-- A write, read at any key. -/
theorem SMap.get_put (d : α) (m : SMap α) (k i : Nat) (v : α) : SMap.get d (SMap.put d m k v) i = if i = k then v else SMap.get d m i := by
  split
  · next h => subst h; exact SMap.get_put_same d m i v
  · next h => exact SMap.get_put_other d d m k i v h

/-- An update read at its key. -/
@[simp] theorem SMap.get_upd_same (d : α) (m : SMap α) (k : Nat) (f : α → α) : SMap.get d (SMap.upd d m k f) k = f (SMap.get d m k) := by
  simp [SMap.upd]

/-- An update leaves every other key alone. -/
theorem SMap.get_upd_other (d : α) (m : SMap α) (k i : Nat) (f : α → α) (h : i ≠ k) : SMap.get d (SMap.upd d m k f) i = SMap.get d m i :=
  SMap.get_put_other d d m k i _ h

/-! ### The canonical form -/

/-- A map in canonical form above a key is so above every lower one. -/
theorem SMap.wfFrom_mono (d : α) (m : SMap α) (a b : Nat) (h : b ≤ a) (hm : SMap.wfFrom d a m = true) : SMap.wfFrom d b m = true := by
  cases m with
  | nil => rfl
  | cons x m =>
    obtain ⟨k, v⟩ := x
    simp only [SMap.wfFrom, Bool.and_eq_true, decide_eq_true_eq] at hm ⊢
    exact ⟨⟨by omega, hm.1.2⟩, hm.2⟩

/-- An insertion keeps the canonical form. -/
theorem SMap.wfFrom_ins (d : α) (k : Nat) (v : α) (hv : v ≠ d) (m : SMap α) (lo : Nat) (hk : lo ≤ k) (hm : SMap.wfFrom d lo m = true) :
    SMap.wfFrom d lo (SMap.ins k v m) = true := by
  induction m generalizing lo with
  | nil => simp [SMap.ins, SMap.wfFrom, hv, hk]
  | cons x m ih =>
    obtain ⟨j, w⟩ := x
    simp only [SMap.wfFrom, Bool.and_eq_true, decide_eq_true_eq] at hm
    unfold SMap.ins
    split
    · next h =>
      simp only [SMap.wfFrom, Bool.and_eq_true, decide_eq_true_eq]
      exact ⟨⟨hk, hv⟩, ⟨by omega, hm.1.2⟩, hm.2⟩
    · split
      · next h =>
        subst h
        simp only [SMap.wfFrom, Bool.and_eq_true, decide_eq_true_eq]
        exact ⟨⟨hk, hv⟩, hm.2⟩
      · simp only [SMap.wfFrom, Bool.and_eq_true, decide_eq_true_eq]
        exact ⟨hm.1, ih (j + 1) (by omega) hm.2⟩

/-- A deletion keeps the canonical form. -/
theorem SMap.wfFrom_del (d : α) (k : Nat) (m : SMap α) (lo : Nat) (hm : SMap.wfFrom d lo m = true) :
    SMap.wfFrom d lo (SMap.del k m) = true := by
  induction m generalizing lo with
  | nil => rfl
  | cons x m ih =>
    obtain ⟨j, w⟩ := x
    simp only [SMap.wfFrom, Bool.and_eq_true, decide_eq_true_eq] at hm
    unfold SMap.del
    split
    · exact ih lo (SMap.wfFrom_mono d m (j + 1) lo (by omega) hm.2)
    · simp only [SMap.wfFrom, Bool.and_eq_true, decide_eq_true_eq]
      exact ⟨hm.1, ih (j + 1) hm.2⟩

/-- A write keeps the canonical form. -/
theorem SMap.wf_put (d : α) (m : SMap α) (k : Nat) (v : α) (hm : SMap.wf d m = true) : SMap.wf d (SMap.put d m k v) = true := by
  unfold SMap.put
  split
  · exact SMap.wfFrom_del d k m 0 hm
  · next h => exact SMap.wfFrom_ins d k v h m 0 (Nat.zero_le k) hm

/-- An update keeps the canonical form. -/
theorem SMap.wf_upd (d : α) (m : SMap α) (k : Nat) (f : α → α) (hm : SMap.wf d m = true) : SMap.wf d (SMap.upd d m k f) = true :=
  SMap.wf_put d m k _ hm

/-- Every key above the keys of a map reads as the default. -/
theorem SMap.get_of_lt (d : α) (m : SMap α) (lo i : Nat) (hm : SMap.wfFrom d lo m = true) (hi : i < lo) : SMap.get d m i = d := by
  induction m generalizing lo with
  | nil => rfl
  | cons x m ih =>
    obtain ⟨j, w⟩ := x
    simp only [SMap.wfFrom, Bool.and_eq_true, decide_eq_true_eq] at hm
    have hj : j ≠ i := by omega
    simp only [SMap.get, hj, if_false]
    exact ih (j + 1) hm.2 (by omega)

/-- In canonical form maps that read alike everywhere are the same list. -/
theorem SMap.ext_of_wf (d : α) (m n : SMap α) (lo : Nat) (hm : SMap.wfFrom d lo m = true) (hn : SMap.wfFrom d lo n = true)
    (h : ∀ i, SMap.get d m i = SMap.get d n i) : m = n := by
  induction m generalizing n lo with
  | nil =>
    cases n with
    | nil => rfl
    | cons y n =>
      obtain ⟨k, v⟩ := y
      simp only [SMap.wfFrom, Bool.and_eq_true, decide_eq_true_eq] at hn
      have := h k
      simp only [SMap.get, if_true] at this
      exact absurd this.symm hn.1.2
  | cons x m ih =>
    obtain ⟨j, w⟩ := x
    simp only [SMap.wfFrom, Bool.and_eq_true, decide_eq_true_eq] at hm
    cases n with
    | nil =>
      have := h j
      simp only [SMap.get, if_true] at this
      exact absurd this hm.1.2
    | cons y n =>
      obtain ⟨k, v⟩ := y
      simp only [SMap.wfFrom, Bool.and_eq_true, decide_eq_true_eq] at hn
      have hjk : j = k := by
        rcases Nat.lt_trichotomy j k with hlt | heq | hgt
        · have h1 := h j
          have hkj : k ≠ j := by omega
          simp only [SMap.get, if_true, hkj, if_false] at h1
          rw [SMap.get_of_lt d n (k + 1) j hn.2 (by omega)] at h1
          exact absurd h1 hm.1.2
        · exact heq
        · have h1 := h k
          have hjk : j ≠ k := by omega
          simp only [SMap.get, if_true, hjk, if_false] at h1
          rw [SMap.get_of_lt d m (j + 1) k hm.2 (by omega)] at h1
          exact absurd h1.symm hn.1.2
      subst hjk
      have hw : w = v := by simpa [SMap.get] using h j
      subst hw
      have : m = n := ih n (j + 1) hm.2 hn.2 (fun i => by
        by_cases hi : j = i
        · subst hi
          rw [SMap.get_of_lt d m (j + 1) j hm.2 (by omega), SMap.get_of_lt d n (j + 1) j hn.2 (by omega)]
        · have := h i
          simpa only [SMap.get, hi, if_false] using this)
      rw [this]

end Sys2Proof.Machine
end

