-- ==== Sys2Proof/Laws/State.lean ====
section
/-! SUPPORT. What each plain update of the state leaves alone, field by field, and what its getter reads afterwards. -/

namespace Sys2Proof.Machine

/-! `emit` changes `out` alone. -/

@[simp] theorem emit_pending (s : State) (x : Sent) : (emit s x).pending = s.pending := rfl
@[simp] theorem emit_dev (s : State) (x : Sent) : (emit s x).dev = s.dev := rfl
@[simp] theorem emit_tim (s : State) (x : Sent) : (emit s x).tim = s.tim := rfl
@[simp] theorem emit_frm (s : State) (x : Sent) : (emit s x).frm = s.frm := rfl
@[simp] theorem emit_con (s : State) (x : Sent) : (emit s x).con = s.con := rfl
@[simp] theorem emit_src (s : State) (x : Sent) : (emit s x).src = s.src := rfl
@[simp] theorem emit_fix (s : State) (x : Sent) : (emit s x).fix = s.fix := rfl
@[simp] theorem emit_wired (s : State) (x : Sent) : (emit s x).wired = s.wired := rfl
@[simp] theorem emit_ras (s : State) (x : Sent) : (emit s x).ras = s.ras := rfl
@[simp] theorem emit_drv (s : State) (x : Sent) : (emit s x).drv = s.drv := rfl
@[simp] theorem emit_rad (s : State) (x : Sent) : (emit s x).rad = s.rad := rfl
@[simp] theorem emit_eth (s : State) (x : Sent) : (emit s x).eth = s.eth := rfl
@[simp] theorem emit_que (s : State) (x : Sent) : (emit s x).que = s.que := rfl
@[simp] theorem emit_host (s : State) (x : Sent) : (emit s x).host = s.host := rfl
@[simp] theorem emit_ox (s : State) (x : Sent) : (emit s x).ox = s.ox := rfl
@[simp] theorem emit_stk (s : State) (x : Sent) : (emit s x).stk = s.stk := rfl
@[simp] theorem emit_red (s : State) (x : Sent) : (emit s x).red = s.red := rfl
@[simp] theorem emit_eng (s : State) (x : Sent) : (emit s x).eng = s.eng := rfl
@[simp] theorem emit_sec (s : State) (x : Sent) : (emit s x).sec = s.sec := rfl
@[simp] theorem emit_upd (s : State) (x : Sent) : (emit s x).upd = s.upd := rfl
@[simp] theorem emit_log (s : State) (x : Sent) : (emit s x).log = s.log := rfl
@[simp] theorem emit_cal (s : State) (x : Sent) : (emit s x).cal = s.cal := rfl
@[simp] theorem emit_sch (s : State) (x : Sent) : (emit s x).sch = s.sch := rfl
@[simp] theorem emit_fab (s : State) (x : Sent) : (emit s x).fab = s.fab := rfl
@[simp] theorem emit_imm (s : State) (x : Sent) : (emit s x).imm = s.imm := rfl
@[simp] theorem emit_free (s : State) (x : Sent) : (emit s x).free = s.free := rfl

/-! `advance` changes `tim` alone. -/

@[simp] theorem advance_pending (s : State) (t : Time) : (advance s t).pending = s.pending := rfl
@[simp] theorem advance_dev (s : State) (t : Time) : (advance s t).dev = s.dev := rfl
@[simp] theorem advance_frm (s : State) (t : Time) : (advance s t).frm = s.frm := rfl
@[simp] theorem advance_con (s : State) (t : Time) : (advance s t).con = s.con := rfl
@[simp] theorem advance_src (s : State) (t : Time) : (advance s t).src = s.src := rfl
@[simp] theorem advance_fix (s : State) (t : Time) : (advance s t).fix = s.fix := rfl
@[simp] theorem advance_wired (s : State) (t : Time) : (advance s t).wired = s.wired := rfl
@[simp] theorem advance_ras (s : State) (t : Time) : (advance s t).ras = s.ras := rfl
@[simp] theorem advance_drv (s : State) (t : Time) : (advance s t).drv = s.drv := rfl
@[simp] theorem advance_rad (s : State) (t : Time) : (advance s t).rad = s.rad := rfl
@[simp] theorem advance_eth (s : State) (t : Time) : (advance s t).eth = s.eth := rfl
@[simp] theorem advance_que (s : State) (t : Time) : (advance s t).que = s.que := rfl
@[simp] theorem advance_host (s : State) (t : Time) : (advance s t).host = s.host := rfl
@[simp] theorem advance_ox (s : State) (t : Time) : (advance s t).ox = s.ox := rfl
@[simp] theorem advance_stk (s : State) (t : Time) : (advance s t).stk = s.stk := rfl
@[simp] theorem advance_red (s : State) (t : Time) : (advance s t).red = s.red := rfl
@[simp] theorem advance_eng (s : State) (t : Time) : (advance s t).eng = s.eng := rfl
@[simp] theorem advance_sec (s : State) (t : Time) : (advance s t).sec = s.sec := rfl
@[simp] theorem advance_upd (s : State) (t : Time) : (advance s t).upd = s.upd := rfl
@[simp] theorem advance_log (s : State) (t : Time) : (advance s t).log = s.log := rfl
@[simp] theorem advance_cal (s : State) (t : Time) : (advance s t).cal = s.cal := rfl
@[simp] theorem advance_sch (s : State) (t : Time) : (advance s t).sch = s.sch := rfl
@[simp] theorem advance_fab (s : State) (t : Time) : (advance s t).fab = s.fab := rfl
@[simp] theorem advance_imm (s : State) (t : Time) : (advance s t).imm = s.imm := rfl
@[simp] theorem advance_free (s : State) (t : Time) : (advance s t).free = s.free := rfl
@[simp] theorem advance_out (s : State) (t : Time) : (advance s t).out = s.out := rfl

/-! `casPut` changes `stk` alone. -/

@[simp] theorem casPut_pending (s : State) (p : Nat) (x : CasPort) : (casPut s p x).pending = s.pending := rfl
@[simp] theorem casPut_dev (s : State) (p : Nat) (x : CasPort) : (casPut s p x).dev = s.dev := rfl
@[simp] theorem casPut_tim (s : State) (p : Nat) (x : CasPort) : (casPut s p x).tim = s.tim := rfl
@[simp] theorem casPut_frm (s : State) (p : Nat) (x : CasPort) : (casPut s p x).frm = s.frm := rfl
@[simp] theorem casPut_con (s : State) (p : Nat) (x : CasPort) : (casPut s p x).con = s.con := rfl
@[simp] theorem casPut_src (s : State) (p : Nat) (x : CasPort) : (casPut s p x).src = s.src := rfl
@[simp] theorem casPut_fix (s : State) (p : Nat) (x : CasPort) : (casPut s p x).fix = s.fix := rfl
@[simp] theorem casPut_wired (s : State) (p : Nat) (x : CasPort) : (casPut s p x).wired = s.wired := rfl
@[simp] theorem casPut_ras (s : State) (p : Nat) (x : CasPort) : (casPut s p x).ras = s.ras := rfl
@[simp] theorem casPut_drv (s : State) (p : Nat) (x : CasPort) : (casPut s p x).drv = s.drv := rfl
@[simp] theorem casPut_rad (s : State) (p : Nat) (x : CasPort) : (casPut s p x).rad = s.rad := rfl
@[simp] theorem casPut_eth (s : State) (p : Nat) (x : CasPort) : (casPut s p x).eth = s.eth := rfl
@[simp] theorem casPut_que (s : State) (p : Nat) (x : CasPort) : (casPut s p x).que = s.que := rfl
@[simp] theorem casPut_host (s : State) (p : Nat) (x : CasPort) : (casPut s p x).host = s.host := rfl
@[simp] theorem casPut_ox (s : State) (p : Nat) (x : CasPort) : (casPut s p x).ox = s.ox := rfl
@[simp] theorem casPut_red (s : State) (p : Nat) (x : CasPort) : (casPut s p x).red = s.red := rfl
@[simp] theorem casPut_eng (s : State) (p : Nat) (x : CasPort) : (casPut s p x).eng = s.eng := rfl
@[simp] theorem casPut_sec (s : State) (p : Nat) (x : CasPort) : (casPut s p x).sec = s.sec := rfl
@[simp] theorem casPut_upd (s : State) (p : Nat) (x : CasPort) : (casPut s p x).upd = s.upd := rfl
@[simp] theorem casPut_log (s : State) (p : Nat) (x : CasPort) : (casPut s p x).log = s.log := rfl
@[simp] theorem casPut_cal (s : State) (p : Nat) (x : CasPort) : (casPut s p x).cal = s.cal := rfl
@[simp] theorem casPut_sch (s : State) (p : Nat) (x : CasPort) : (casPut s p x).sch = s.sch := rfl
@[simp] theorem casPut_fab (s : State) (p : Nat) (x : CasPort) : (casPut s p x).fab = s.fab := rfl
@[simp] theorem casPut_imm (s : State) (p : Nat) (x : CasPort) : (casPut s p x).imm = s.imm := rfl
@[simp] theorem casPut_free (s : State) (p : Nat) (x : CasPort) : (casPut s p x).free = s.free := rfl
@[simp] theorem casPut_out (s : State) (p : Nat) (x : CasPort) : (casPut s p x).out = s.out := rfl

/-! `qPut` changes `que` alone. -/

@[simp] theorem qPut_pending (s : State) (q : Nat) (x : Queue) : (qPut s q x).pending = s.pending := rfl
@[simp] theorem qPut_dev (s : State) (q : Nat) (x : Queue) : (qPut s q x).dev = s.dev := rfl
@[simp] theorem qPut_tim (s : State) (q : Nat) (x : Queue) : (qPut s q x).tim = s.tim := rfl
@[simp] theorem qPut_frm (s : State) (q : Nat) (x : Queue) : (qPut s q x).frm = s.frm := rfl
@[simp] theorem qPut_con (s : State) (q : Nat) (x : Queue) : (qPut s q x).con = s.con := rfl
@[simp] theorem qPut_src (s : State) (q : Nat) (x : Queue) : (qPut s q x).src = s.src := rfl
@[simp] theorem qPut_fix (s : State) (q : Nat) (x : Queue) : (qPut s q x).fix = s.fix := rfl
@[simp] theorem qPut_wired (s : State) (q : Nat) (x : Queue) : (qPut s q x).wired = s.wired := rfl
@[simp] theorem qPut_ras (s : State) (q : Nat) (x : Queue) : (qPut s q x).ras = s.ras := rfl
@[simp] theorem qPut_drv (s : State) (q : Nat) (x : Queue) : (qPut s q x).drv = s.drv := rfl
@[simp] theorem qPut_rad (s : State) (q : Nat) (x : Queue) : (qPut s q x).rad = s.rad := rfl
@[simp] theorem qPut_eth (s : State) (q : Nat) (x : Queue) : (qPut s q x).eth = s.eth := rfl
@[simp] theorem qPut_host (s : State) (q : Nat) (x : Queue) : (qPut s q x).host = s.host := rfl
@[simp] theorem qPut_ox (s : State) (q : Nat) (x : Queue) : (qPut s q x).ox = s.ox := rfl
@[simp] theorem qPut_stk (s : State) (q : Nat) (x : Queue) : (qPut s q x).stk = s.stk := rfl
@[simp] theorem qPut_red (s : State) (q : Nat) (x : Queue) : (qPut s q x).red = s.red := rfl
@[simp] theorem qPut_eng (s : State) (q : Nat) (x : Queue) : (qPut s q x).eng = s.eng := rfl
@[simp] theorem qPut_sec (s : State) (q : Nat) (x : Queue) : (qPut s q x).sec = s.sec := rfl
@[simp] theorem qPut_upd (s : State) (q : Nat) (x : Queue) : (qPut s q x).upd = s.upd := rfl
@[simp] theorem qPut_log (s : State) (q : Nat) (x : Queue) : (qPut s q x).log = s.log := rfl
@[simp] theorem qPut_cal (s : State) (q : Nat) (x : Queue) : (qPut s q x).cal = s.cal := rfl
@[simp] theorem qPut_sch (s : State) (q : Nat) (x : Queue) : (qPut s q x).sch = s.sch := rfl
@[simp] theorem qPut_fab (s : State) (q : Nat) (x : Queue) : (qPut s q x).fab = s.fab := rfl
@[simp] theorem qPut_imm (s : State) (q : Nat) (x : Queue) : (qPut s q x).imm = s.imm := rfl
@[simp] theorem qPut_free (s : State) (q : Nat) (x : Queue) : (qPut s q x).free = s.free := rfl
@[simp] theorem qPut_out (s : State) (q : Nat) (x : Queue) : (qPut s q x).out = s.out := rfl

/-! `radPut` changes `rad` alone. -/

@[simp] theorem radPut_pending (s : State) (p : Nat) (x : RadioPort) : (radPut s p x).pending = s.pending := rfl
@[simp] theorem radPut_dev (s : State) (p : Nat) (x : RadioPort) : (radPut s p x).dev = s.dev := rfl
@[simp] theorem radPut_tim (s : State) (p : Nat) (x : RadioPort) : (radPut s p x).tim = s.tim := rfl
@[simp] theorem radPut_frm (s : State) (p : Nat) (x : RadioPort) : (radPut s p x).frm = s.frm := rfl
@[simp] theorem radPut_con (s : State) (p : Nat) (x : RadioPort) : (radPut s p x).con = s.con := rfl
@[simp] theorem radPut_src (s : State) (p : Nat) (x : RadioPort) : (radPut s p x).src = s.src := rfl
@[simp] theorem radPut_fix (s : State) (p : Nat) (x : RadioPort) : (radPut s p x).fix = s.fix := rfl
@[simp] theorem radPut_wired (s : State) (p : Nat) (x : RadioPort) : (radPut s p x).wired = s.wired := rfl
@[simp] theorem radPut_ras (s : State) (p : Nat) (x : RadioPort) : (radPut s p x).ras = s.ras := rfl
@[simp] theorem radPut_drv (s : State) (p : Nat) (x : RadioPort) : (radPut s p x).drv = s.drv := rfl
@[simp] theorem radPut_eth (s : State) (p : Nat) (x : RadioPort) : (radPut s p x).eth = s.eth := rfl
@[simp] theorem radPut_que (s : State) (p : Nat) (x : RadioPort) : (radPut s p x).que = s.que := rfl
@[simp] theorem radPut_host (s : State) (p : Nat) (x : RadioPort) : (radPut s p x).host = s.host := rfl
@[simp] theorem radPut_ox (s : State) (p : Nat) (x : RadioPort) : (radPut s p x).ox = s.ox := rfl
@[simp] theorem radPut_stk (s : State) (p : Nat) (x : RadioPort) : (radPut s p x).stk = s.stk := rfl
@[simp] theorem radPut_red (s : State) (p : Nat) (x : RadioPort) : (radPut s p x).red = s.red := rfl
@[simp] theorem radPut_eng (s : State) (p : Nat) (x : RadioPort) : (radPut s p x).eng = s.eng := rfl
@[simp] theorem radPut_sec (s : State) (p : Nat) (x : RadioPort) : (radPut s p x).sec = s.sec := rfl
@[simp] theorem radPut_upd (s : State) (p : Nat) (x : RadioPort) : (radPut s p x).upd = s.upd := rfl
@[simp] theorem radPut_log (s : State) (p : Nat) (x : RadioPort) : (radPut s p x).log = s.log := rfl
@[simp] theorem radPut_cal (s : State) (p : Nat) (x : RadioPort) : (radPut s p x).cal = s.cal := rfl
@[simp] theorem radPut_sch (s : State) (p : Nat) (x : RadioPort) : (radPut s p x).sch = s.sch := rfl
@[simp] theorem radPut_fab (s : State) (p : Nat) (x : RadioPort) : (radPut s p x).fab = s.fab := rfl
@[simp] theorem radPut_imm (s : State) (p : Nat) (x : RadioPort) : (radPut s p x).imm = s.imm := rfl
@[simp] theorem radPut_free (s : State) (p : Nat) (x : RadioPort) : (radPut s p x).free = s.free := rfl
@[simp] theorem radPut_out (s : State) (p : Nat) (x : RadioPort) : (radPut s p x).out = s.out := rfl

/-! `ethPut` changes `eth` alone. -/

@[simp] theorem ethPut_pending (s : State) (p : Nat) (x : EthState) : (ethPut s p x).pending = s.pending := rfl
@[simp] theorem ethPut_dev (s : State) (p : Nat) (x : EthState) : (ethPut s p x).dev = s.dev := rfl
@[simp] theorem ethPut_tim (s : State) (p : Nat) (x : EthState) : (ethPut s p x).tim = s.tim := rfl
@[simp] theorem ethPut_frm (s : State) (p : Nat) (x : EthState) : (ethPut s p x).frm = s.frm := rfl
@[simp] theorem ethPut_con (s : State) (p : Nat) (x : EthState) : (ethPut s p x).con = s.con := rfl
@[simp] theorem ethPut_src (s : State) (p : Nat) (x : EthState) : (ethPut s p x).src = s.src := rfl
@[simp] theorem ethPut_fix (s : State) (p : Nat) (x : EthState) : (ethPut s p x).fix = s.fix := rfl
@[simp] theorem ethPut_wired (s : State) (p : Nat) (x : EthState) : (ethPut s p x).wired = s.wired := rfl
@[simp] theorem ethPut_ras (s : State) (p : Nat) (x : EthState) : (ethPut s p x).ras = s.ras := rfl
@[simp] theorem ethPut_drv (s : State) (p : Nat) (x : EthState) : (ethPut s p x).drv = s.drv := rfl
@[simp] theorem ethPut_rad (s : State) (p : Nat) (x : EthState) : (ethPut s p x).rad = s.rad := rfl
@[simp] theorem ethPut_que (s : State) (p : Nat) (x : EthState) : (ethPut s p x).que = s.que := rfl
@[simp] theorem ethPut_host (s : State) (p : Nat) (x : EthState) : (ethPut s p x).host = s.host := rfl
@[simp] theorem ethPut_ox (s : State) (p : Nat) (x : EthState) : (ethPut s p x).ox = s.ox := rfl
@[simp] theorem ethPut_stk (s : State) (p : Nat) (x : EthState) : (ethPut s p x).stk = s.stk := rfl
@[simp] theorem ethPut_red (s : State) (p : Nat) (x : EthState) : (ethPut s p x).red = s.red := rfl
@[simp] theorem ethPut_eng (s : State) (p : Nat) (x : EthState) : (ethPut s p x).eng = s.eng := rfl
@[simp] theorem ethPut_sec (s : State) (p : Nat) (x : EthState) : (ethPut s p x).sec = s.sec := rfl
@[simp] theorem ethPut_upd (s : State) (p : Nat) (x : EthState) : (ethPut s p x).upd = s.upd := rfl
@[simp] theorem ethPut_log (s : State) (p : Nat) (x : EthState) : (ethPut s p x).log = s.log := rfl
@[simp] theorem ethPut_cal (s : State) (p : Nat) (x : EthState) : (ethPut s p x).cal = s.cal := rfl
@[simp] theorem ethPut_sch (s : State) (p : Nat) (x : EthState) : (ethPut s p x).sch = s.sch := rfl
@[simp] theorem ethPut_fab (s : State) (p : Nat) (x : EthState) : (ethPut s p x).fab = s.fab := rfl
@[simp] theorem ethPut_imm (s : State) (p : Nat) (x : EthState) : (ethPut s p x).imm = s.imm := rfl
@[simp] theorem ethPut_free (s : State) (p : Nat) (x : EthState) : (ethPut s p x).free = s.free := rfl
@[simp] theorem ethPut_out (s : State) (p : Nat) (x : EthState) : (ethPut s p x).out = s.out := rfl

/-! `pinPut` changes `drv` alone. -/

@[simp] theorem pinPut_pending (s : State) (ch : Nat) (x : Pin) : (pinPut s ch x).pending = s.pending := rfl
@[simp] theorem pinPut_dev (s : State) (ch : Nat) (x : Pin) : (pinPut s ch x).dev = s.dev := rfl
@[simp] theorem pinPut_tim (s : State) (ch : Nat) (x : Pin) : (pinPut s ch x).tim = s.tim := rfl
@[simp] theorem pinPut_frm (s : State) (ch : Nat) (x : Pin) : (pinPut s ch x).frm = s.frm := rfl
@[simp] theorem pinPut_con (s : State) (ch : Nat) (x : Pin) : (pinPut s ch x).con = s.con := rfl
@[simp] theorem pinPut_src (s : State) (ch : Nat) (x : Pin) : (pinPut s ch x).src = s.src := rfl
@[simp] theorem pinPut_fix (s : State) (ch : Nat) (x : Pin) : (pinPut s ch x).fix = s.fix := rfl
@[simp] theorem pinPut_wired (s : State) (ch : Nat) (x : Pin) : (pinPut s ch x).wired = s.wired := rfl
@[simp] theorem pinPut_ras (s : State) (ch : Nat) (x : Pin) : (pinPut s ch x).ras = s.ras := rfl
@[simp] theorem pinPut_rad (s : State) (ch : Nat) (x : Pin) : (pinPut s ch x).rad = s.rad := rfl
@[simp] theorem pinPut_eth (s : State) (ch : Nat) (x : Pin) : (pinPut s ch x).eth = s.eth := rfl
@[simp] theorem pinPut_que (s : State) (ch : Nat) (x : Pin) : (pinPut s ch x).que = s.que := rfl
@[simp] theorem pinPut_host (s : State) (ch : Nat) (x : Pin) : (pinPut s ch x).host = s.host := rfl
@[simp] theorem pinPut_ox (s : State) (ch : Nat) (x : Pin) : (pinPut s ch x).ox = s.ox := rfl
@[simp] theorem pinPut_stk (s : State) (ch : Nat) (x : Pin) : (pinPut s ch x).stk = s.stk := rfl
@[simp] theorem pinPut_red (s : State) (ch : Nat) (x : Pin) : (pinPut s ch x).red = s.red := rfl
@[simp] theorem pinPut_eng (s : State) (ch : Nat) (x : Pin) : (pinPut s ch x).eng = s.eng := rfl
@[simp] theorem pinPut_sec (s : State) (ch : Nat) (x : Pin) : (pinPut s ch x).sec = s.sec := rfl
@[simp] theorem pinPut_upd (s : State) (ch : Nat) (x : Pin) : (pinPut s ch x).upd = s.upd := rfl
@[simp] theorem pinPut_log (s : State) (ch : Nat) (x : Pin) : (pinPut s ch x).log = s.log := rfl
@[simp] theorem pinPut_cal (s : State) (ch : Nat) (x : Pin) : (pinPut s ch x).cal = s.cal := rfl
@[simp] theorem pinPut_sch (s : State) (ch : Nat) (x : Pin) : (pinPut s ch x).sch = s.sch := rfl
@[simp] theorem pinPut_fab (s : State) (ch : Nat) (x : Pin) : (pinPut s ch x).fab = s.fab := rfl
@[simp] theorem pinPut_imm (s : State) (ch : Nat) (x : Pin) : (pinPut s ch x).imm = s.imm := rfl
@[simp] theorem pinPut_free (s : State) (ch : Nat) (x : Pin) : (pinPut s ch x).free = s.free := rfl
@[simp] theorem pinPut_out (s : State) (ch : Nat) (x : Pin) : (pinPut s ch x).out = s.out := rfl

/-! `pointPut` changes `drv` alone. -/

@[simp] theorem pointPut_pending (s : State) (p : Nat) (x : Point) : (pointPut s p x).pending = s.pending := rfl
@[simp] theorem pointPut_dev (s : State) (p : Nat) (x : Point) : (pointPut s p x).dev = s.dev := rfl
@[simp] theorem pointPut_tim (s : State) (p : Nat) (x : Point) : (pointPut s p x).tim = s.tim := rfl
@[simp] theorem pointPut_frm (s : State) (p : Nat) (x : Point) : (pointPut s p x).frm = s.frm := rfl
@[simp] theorem pointPut_con (s : State) (p : Nat) (x : Point) : (pointPut s p x).con = s.con := rfl
@[simp] theorem pointPut_src (s : State) (p : Nat) (x : Point) : (pointPut s p x).src = s.src := rfl
@[simp] theorem pointPut_fix (s : State) (p : Nat) (x : Point) : (pointPut s p x).fix = s.fix := rfl
@[simp] theorem pointPut_wired (s : State) (p : Nat) (x : Point) : (pointPut s p x).wired = s.wired := rfl
@[simp] theorem pointPut_ras (s : State) (p : Nat) (x : Point) : (pointPut s p x).ras = s.ras := rfl
@[simp] theorem pointPut_rad (s : State) (p : Nat) (x : Point) : (pointPut s p x).rad = s.rad := rfl
@[simp] theorem pointPut_eth (s : State) (p : Nat) (x : Point) : (pointPut s p x).eth = s.eth := rfl
@[simp] theorem pointPut_que (s : State) (p : Nat) (x : Point) : (pointPut s p x).que = s.que := rfl
@[simp] theorem pointPut_host (s : State) (p : Nat) (x : Point) : (pointPut s p x).host = s.host := rfl
@[simp] theorem pointPut_ox (s : State) (p : Nat) (x : Point) : (pointPut s p x).ox = s.ox := rfl
@[simp] theorem pointPut_stk (s : State) (p : Nat) (x : Point) : (pointPut s p x).stk = s.stk := rfl
@[simp] theorem pointPut_red (s : State) (p : Nat) (x : Point) : (pointPut s p x).red = s.red := rfl
@[simp] theorem pointPut_eng (s : State) (p : Nat) (x : Point) : (pointPut s p x).eng = s.eng := rfl
@[simp] theorem pointPut_sec (s : State) (p : Nat) (x : Point) : (pointPut s p x).sec = s.sec := rfl
@[simp] theorem pointPut_upd (s : State) (p : Nat) (x : Point) : (pointPut s p x).upd = s.upd := rfl
@[simp] theorem pointPut_log (s : State) (p : Nat) (x : Point) : (pointPut s p x).log = s.log := rfl
@[simp] theorem pointPut_cal (s : State) (p : Nat) (x : Point) : (pointPut s p x).cal = s.cal := rfl
@[simp] theorem pointPut_sch (s : State) (p : Nat) (x : Point) : (pointPut s p x).sch = s.sch := rfl
@[simp] theorem pointPut_fab (s : State) (p : Nat) (x : Point) : (pointPut s p x).fab = s.fab := rfl
@[simp] theorem pointPut_imm (s : State) (p : Nat) (x : Point) : (pointPut s p x).imm = s.imm := rfl
@[simp] theorem pointPut_free (s : State) (p : Nat) (x : Point) : (pointPut s p x).free = s.free := rfl
@[simp] theorem pointPut_out (s : State) (p : Nat) (x : Point) : (pointPut s p x).out = s.out := rfl

/-! `rasPut` changes `ras` alone. -/

@[simp] theorem rasPut_pending (s : State) (p : Nat) (x : RasterState) : (rasPut s p x).pending = s.pending := rfl
@[simp] theorem rasPut_dev (s : State) (p : Nat) (x : RasterState) : (rasPut s p x).dev = s.dev := rfl
@[simp] theorem rasPut_tim (s : State) (p : Nat) (x : RasterState) : (rasPut s p x).tim = s.tim := rfl
@[simp] theorem rasPut_frm (s : State) (p : Nat) (x : RasterState) : (rasPut s p x).frm = s.frm := rfl
@[simp] theorem rasPut_con (s : State) (p : Nat) (x : RasterState) : (rasPut s p x).con = s.con := rfl
@[simp] theorem rasPut_src (s : State) (p : Nat) (x : RasterState) : (rasPut s p x).src = s.src := rfl
@[simp] theorem rasPut_fix (s : State) (p : Nat) (x : RasterState) : (rasPut s p x).fix = s.fix := rfl
@[simp] theorem rasPut_wired (s : State) (p : Nat) (x : RasterState) : (rasPut s p x).wired = s.wired := rfl
@[simp] theorem rasPut_drv (s : State) (p : Nat) (x : RasterState) : (rasPut s p x).drv = s.drv := rfl
@[simp] theorem rasPut_rad (s : State) (p : Nat) (x : RasterState) : (rasPut s p x).rad = s.rad := rfl
@[simp] theorem rasPut_eth (s : State) (p : Nat) (x : RasterState) : (rasPut s p x).eth = s.eth := rfl
@[simp] theorem rasPut_que (s : State) (p : Nat) (x : RasterState) : (rasPut s p x).que = s.que := rfl
@[simp] theorem rasPut_host (s : State) (p : Nat) (x : RasterState) : (rasPut s p x).host = s.host := rfl
@[simp] theorem rasPut_ox (s : State) (p : Nat) (x : RasterState) : (rasPut s p x).ox = s.ox := rfl
@[simp] theorem rasPut_stk (s : State) (p : Nat) (x : RasterState) : (rasPut s p x).stk = s.stk := rfl
@[simp] theorem rasPut_red (s : State) (p : Nat) (x : RasterState) : (rasPut s p x).red = s.red := rfl
@[simp] theorem rasPut_eng (s : State) (p : Nat) (x : RasterState) : (rasPut s p x).eng = s.eng := rfl
@[simp] theorem rasPut_sec (s : State) (p : Nat) (x : RasterState) : (rasPut s p x).sec = s.sec := rfl
@[simp] theorem rasPut_upd (s : State) (p : Nat) (x : RasterState) : (rasPut s p x).upd = s.upd := rfl
@[simp] theorem rasPut_log (s : State) (p : Nat) (x : RasterState) : (rasPut s p x).log = s.log := rfl
@[simp] theorem rasPut_cal (s : State) (p : Nat) (x : RasterState) : (rasPut s p x).cal = s.cal := rfl
@[simp] theorem rasPut_sch (s : State) (p : Nat) (x : RasterState) : (rasPut s p x).sch = s.sch := rfl
@[simp] theorem rasPut_fab (s : State) (p : Nat) (x : RasterState) : (rasPut s p x).fab = s.fab := rfl
@[simp] theorem rasPut_imm (s : State) (p : Nat) (x : RasterState) : (rasPut s p x).imm = s.imm := rfl
@[simp] theorem rasPut_free (s : State) (p : Nat) (x : RasterState) : (rasPut s p x).free = s.free := rfl
@[simp] theorem rasPut_out (s : State) (p : Nat) (x : RasterState) : (rasPut s p x).out = s.out := rfl

/-! `dmxPut` changes `wired` alone. -/

@[simp] theorem dmxPut_pending (s : State) (p : Nat) (x : DmxState) : (dmxPut s p x).pending = s.pending := rfl
@[simp] theorem dmxPut_dev (s : State) (p : Nat) (x : DmxState) : (dmxPut s p x).dev = s.dev := rfl
@[simp] theorem dmxPut_tim (s : State) (p : Nat) (x : DmxState) : (dmxPut s p x).tim = s.tim := rfl
@[simp] theorem dmxPut_frm (s : State) (p : Nat) (x : DmxState) : (dmxPut s p x).frm = s.frm := rfl
@[simp] theorem dmxPut_con (s : State) (p : Nat) (x : DmxState) : (dmxPut s p x).con = s.con := rfl
@[simp] theorem dmxPut_src (s : State) (p : Nat) (x : DmxState) : (dmxPut s p x).src = s.src := rfl
@[simp] theorem dmxPut_fix (s : State) (p : Nat) (x : DmxState) : (dmxPut s p x).fix = s.fix := rfl
@[simp] theorem dmxPut_ras (s : State) (p : Nat) (x : DmxState) : (dmxPut s p x).ras = s.ras := rfl
@[simp] theorem dmxPut_drv (s : State) (p : Nat) (x : DmxState) : (dmxPut s p x).drv = s.drv := rfl
@[simp] theorem dmxPut_rad (s : State) (p : Nat) (x : DmxState) : (dmxPut s p x).rad = s.rad := rfl
@[simp] theorem dmxPut_eth (s : State) (p : Nat) (x : DmxState) : (dmxPut s p x).eth = s.eth := rfl
@[simp] theorem dmxPut_que (s : State) (p : Nat) (x : DmxState) : (dmxPut s p x).que = s.que := rfl
@[simp] theorem dmxPut_host (s : State) (p : Nat) (x : DmxState) : (dmxPut s p x).host = s.host := rfl
@[simp] theorem dmxPut_ox (s : State) (p : Nat) (x : DmxState) : (dmxPut s p x).ox = s.ox := rfl
@[simp] theorem dmxPut_stk (s : State) (p : Nat) (x : DmxState) : (dmxPut s p x).stk = s.stk := rfl
@[simp] theorem dmxPut_red (s : State) (p : Nat) (x : DmxState) : (dmxPut s p x).red = s.red := rfl
@[simp] theorem dmxPut_eng (s : State) (p : Nat) (x : DmxState) : (dmxPut s p x).eng = s.eng := rfl
@[simp] theorem dmxPut_sec (s : State) (p : Nat) (x : DmxState) : (dmxPut s p x).sec = s.sec := rfl
@[simp] theorem dmxPut_upd (s : State) (p : Nat) (x : DmxState) : (dmxPut s p x).upd = s.upd := rfl
@[simp] theorem dmxPut_log (s : State) (p : Nat) (x : DmxState) : (dmxPut s p x).log = s.log := rfl
@[simp] theorem dmxPut_cal (s : State) (p : Nat) (x : DmxState) : (dmxPut s p x).cal = s.cal := rfl
@[simp] theorem dmxPut_sch (s : State) (p : Nat) (x : DmxState) : (dmxPut s p x).sch = s.sch := rfl
@[simp] theorem dmxPut_fab (s : State) (p : Nat) (x : DmxState) : (dmxPut s p x).fab = s.fab := rfl
@[simp] theorem dmxPut_imm (s : State) (p : Nat) (x : DmxState) : (dmxPut s p x).imm = s.imm := rfl
@[simp] theorem dmxPut_free (s : State) (p : Nat) (x : DmxState) : (dmxPut s p x).free = s.free := rfl
@[simp] theorem dmxPut_out (s : State) (p : Nat) (x : DmxState) : (dmxPut s p x).out = s.out := rfl

/-! `daliPut` changes `wired` alone. -/

@[simp] theorem daliPut_pending (s : State) (b : Nat) (x : DaliState) : (daliPut s b x).pending = s.pending := rfl
@[simp] theorem daliPut_dev (s : State) (b : Nat) (x : DaliState) : (daliPut s b x).dev = s.dev := rfl
@[simp] theorem daliPut_tim (s : State) (b : Nat) (x : DaliState) : (daliPut s b x).tim = s.tim := rfl
@[simp] theorem daliPut_frm (s : State) (b : Nat) (x : DaliState) : (daliPut s b x).frm = s.frm := rfl
@[simp] theorem daliPut_con (s : State) (b : Nat) (x : DaliState) : (daliPut s b x).con = s.con := rfl
@[simp] theorem daliPut_src (s : State) (b : Nat) (x : DaliState) : (daliPut s b x).src = s.src := rfl
@[simp] theorem daliPut_fix (s : State) (b : Nat) (x : DaliState) : (daliPut s b x).fix = s.fix := rfl
@[simp] theorem daliPut_ras (s : State) (b : Nat) (x : DaliState) : (daliPut s b x).ras = s.ras := rfl
@[simp] theorem daliPut_drv (s : State) (b : Nat) (x : DaliState) : (daliPut s b x).drv = s.drv := rfl
@[simp] theorem daliPut_rad (s : State) (b : Nat) (x : DaliState) : (daliPut s b x).rad = s.rad := rfl
@[simp] theorem daliPut_eth (s : State) (b : Nat) (x : DaliState) : (daliPut s b x).eth = s.eth := rfl
@[simp] theorem daliPut_que (s : State) (b : Nat) (x : DaliState) : (daliPut s b x).que = s.que := rfl
@[simp] theorem daliPut_host (s : State) (b : Nat) (x : DaliState) : (daliPut s b x).host = s.host := rfl
@[simp] theorem daliPut_ox (s : State) (b : Nat) (x : DaliState) : (daliPut s b x).ox = s.ox := rfl
@[simp] theorem daliPut_stk (s : State) (b : Nat) (x : DaliState) : (daliPut s b x).stk = s.stk := rfl
@[simp] theorem daliPut_red (s : State) (b : Nat) (x : DaliState) : (daliPut s b x).red = s.red := rfl
@[simp] theorem daliPut_eng (s : State) (b : Nat) (x : DaliState) : (daliPut s b x).eng = s.eng := rfl
@[simp] theorem daliPut_sec (s : State) (b : Nat) (x : DaliState) : (daliPut s b x).sec = s.sec := rfl
@[simp] theorem daliPut_upd (s : State) (b : Nat) (x : DaliState) : (daliPut s b x).upd = s.upd := rfl
@[simp] theorem daliPut_log (s : State) (b : Nat) (x : DaliState) : (daliPut s b x).log = s.log := rfl
@[simp] theorem daliPut_cal (s : State) (b : Nat) (x : DaliState) : (daliPut s b x).cal = s.cal := rfl
@[simp] theorem daliPut_sch (s : State) (b : Nat) (x : DaliState) : (daliPut s b x).sch = s.sch := rfl
@[simp] theorem daliPut_fab (s : State) (b : Nat) (x : DaliState) : (daliPut s b x).fab = s.fab := rfl
@[simp] theorem daliPut_imm (s : State) (b : Nat) (x : DaliState) : (daliPut s b x).imm = s.imm := rfl
@[simp] theorem daliPut_free (s : State) (b : Nat) (x : DaliState) : (daliPut s b x).free = s.free := rfl
@[simp] theorem daliPut_out (s : State) (b : Nat) (x : DaliState) : (daliPut s b x).out = s.out := rfl

/-! `sacnPut` changes `wired` alone. -/

@[simp] theorem sacnPut_pending (s : State) (p : Nat) (x : SacnPort) : (sacnPut s p x).pending = s.pending := rfl
@[simp] theorem sacnPut_dev (s : State) (p : Nat) (x : SacnPort) : (sacnPut s p x).dev = s.dev := rfl
@[simp] theorem sacnPut_tim (s : State) (p : Nat) (x : SacnPort) : (sacnPut s p x).tim = s.tim := rfl
@[simp] theorem sacnPut_frm (s : State) (p : Nat) (x : SacnPort) : (sacnPut s p x).frm = s.frm := rfl
@[simp] theorem sacnPut_con (s : State) (p : Nat) (x : SacnPort) : (sacnPut s p x).con = s.con := rfl
@[simp] theorem sacnPut_src (s : State) (p : Nat) (x : SacnPort) : (sacnPut s p x).src = s.src := rfl
@[simp] theorem sacnPut_fix (s : State) (p : Nat) (x : SacnPort) : (sacnPut s p x).fix = s.fix := rfl
@[simp] theorem sacnPut_ras (s : State) (p : Nat) (x : SacnPort) : (sacnPut s p x).ras = s.ras := rfl
@[simp] theorem sacnPut_drv (s : State) (p : Nat) (x : SacnPort) : (sacnPut s p x).drv = s.drv := rfl
@[simp] theorem sacnPut_rad (s : State) (p : Nat) (x : SacnPort) : (sacnPut s p x).rad = s.rad := rfl
@[simp] theorem sacnPut_eth (s : State) (p : Nat) (x : SacnPort) : (sacnPut s p x).eth = s.eth := rfl
@[simp] theorem sacnPut_que (s : State) (p : Nat) (x : SacnPort) : (sacnPut s p x).que = s.que := rfl
@[simp] theorem sacnPut_host (s : State) (p : Nat) (x : SacnPort) : (sacnPut s p x).host = s.host := rfl
@[simp] theorem sacnPut_ox (s : State) (p : Nat) (x : SacnPort) : (sacnPut s p x).ox = s.ox := rfl
@[simp] theorem sacnPut_stk (s : State) (p : Nat) (x : SacnPort) : (sacnPut s p x).stk = s.stk := rfl
@[simp] theorem sacnPut_red (s : State) (p : Nat) (x : SacnPort) : (sacnPut s p x).red = s.red := rfl
@[simp] theorem sacnPut_eng (s : State) (p : Nat) (x : SacnPort) : (sacnPut s p x).eng = s.eng := rfl
@[simp] theorem sacnPut_sec (s : State) (p : Nat) (x : SacnPort) : (sacnPut s p x).sec = s.sec := rfl
@[simp] theorem sacnPut_upd (s : State) (p : Nat) (x : SacnPort) : (sacnPut s p x).upd = s.upd := rfl
@[simp] theorem sacnPut_log (s : State) (p : Nat) (x : SacnPort) : (sacnPut s p x).log = s.log := rfl
@[simp] theorem sacnPut_cal (s : State) (p : Nat) (x : SacnPort) : (sacnPut s p x).cal = s.cal := rfl
@[simp] theorem sacnPut_sch (s : State) (p : Nat) (x : SacnPort) : (sacnPut s p x).sch = s.sch := rfl
@[simp] theorem sacnPut_fab (s : State) (p : Nat) (x : SacnPort) : (sacnPut s p x).fab = s.fab := rfl
@[simp] theorem sacnPut_imm (s : State) (p : Nat) (x : SacnPort) : (sacnPut s p x).imm = s.imm := rfl
@[simp] theorem sacnPut_free (s : State) (p : Nat) (x : SacnPort) : (sacnPut s p x).free = s.free := rfl
@[simp] theorem sacnPut_out (s : State) (p : Nat) (x : SacnPort) : (sacnPut s p x).out = s.out := rfl

/-! `thPut` changes `sch` alone. -/

@[simp] theorem thPut_pending (s : State) (n : Nat) (x : Thread) : (thPut s n x).pending = s.pending := rfl
@[simp] theorem thPut_dev (s : State) (n : Nat) (x : Thread) : (thPut s n x).dev = s.dev := rfl
@[simp] theorem thPut_tim (s : State) (n : Nat) (x : Thread) : (thPut s n x).tim = s.tim := rfl
@[simp] theorem thPut_frm (s : State) (n : Nat) (x : Thread) : (thPut s n x).frm = s.frm := rfl
@[simp] theorem thPut_con (s : State) (n : Nat) (x : Thread) : (thPut s n x).con = s.con := rfl
@[simp] theorem thPut_src (s : State) (n : Nat) (x : Thread) : (thPut s n x).src = s.src := rfl
@[simp] theorem thPut_fix (s : State) (n : Nat) (x : Thread) : (thPut s n x).fix = s.fix := rfl
@[simp] theorem thPut_wired (s : State) (n : Nat) (x : Thread) : (thPut s n x).wired = s.wired := rfl
@[simp] theorem thPut_ras (s : State) (n : Nat) (x : Thread) : (thPut s n x).ras = s.ras := rfl
@[simp] theorem thPut_drv (s : State) (n : Nat) (x : Thread) : (thPut s n x).drv = s.drv := rfl
@[simp] theorem thPut_rad (s : State) (n : Nat) (x : Thread) : (thPut s n x).rad = s.rad := rfl
@[simp] theorem thPut_eth (s : State) (n : Nat) (x : Thread) : (thPut s n x).eth = s.eth := rfl
@[simp] theorem thPut_que (s : State) (n : Nat) (x : Thread) : (thPut s n x).que = s.que := rfl
@[simp] theorem thPut_host (s : State) (n : Nat) (x : Thread) : (thPut s n x).host = s.host := rfl
@[simp] theorem thPut_ox (s : State) (n : Nat) (x : Thread) : (thPut s n x).ox = s.ox := rfl
@[simp] theorem thPut_stk (s : State) (n : Nat) (x : Thread) : (thPut s n x).stk = s.stk := rfl
@[simp] theorem thPut_red (s : State) (n : Nat) (x : Thread) : (thPut s n x).red = s.red := rfl
@[simp] theorem thPut_eng (s : State) (n : Nat) (x : Thread) : (thPut s n x).eng = s.eng := rfl
@[simp] theorem thPut_sec (s : State) (n : Nat) (x : Thread) : (thPut s n x).sec = s.sec := rfl
@[simp] theorem thPut_upd (s : State) (n : Nat) (x : Thread) : (thPut s n x).upd = s.upd := rfl
@[simp] theorem thPut_log (s : State) (n : Nat) (x : Thread) : (thPut s n x).log = s.log := rfl
@[simp] theorem thPut_cal (s : State) (n : Nat) (x : Thread) : (thPut s n x).cal = s.cal := rfl
@[simp] theorem thPut_fab (s : State) (n : Nat) (x : Thread) : (thPut s n x).fab = s.fab := rfl
@[simp] theorem thPut_imm (s : State) (n : Nat) (x : Thread) : (thPut s n x).imm = s.imm := rfl
@[simp] theorem thPut_free (s : State) (n : Nat) (x : Thread) : (thPut s n x).free = s.free := rfl
@[simp] theorem thPut_out (s : State) (n : Nat) (x : Thread) : (thPut s n x).out = s.out := rfl

/-! `linePut` changes `cal` alone. -/

@[simp] theorem linePut_pending (s : State) (n : Nat) (x : Line) : (linePut s n x).pending = s.pending := rfl
@[simp] theorem linePut_dev (s : State) (n : Nat) (x : Line) : (linePut s n x).dev = s.dev := rfl
@[simp] theorem linePut_tim (s : State) (n : Nat) (x : Line) : (linePut s n x).tim = s.tim := rfl
@[simp] theorem linePut_frm (s : State) (n : Nat) (x : Line) : (linePut s n x).frm = s.frm := rfl
@[simp] theorem linePut_con (s : State) (n : Nat) (x : Line) : (linePut s n x).con = s.con := rfl
@[simp] theorem linePut_src (s : State) (n : Nat) (x : Line) : (linePut s n x).src = s.src := rfl
@[simp] theorem linePut_fix (s : State) (n : Nat) (x : Line) : (linePut s n x).fix = s.fix := rfl
@[simp] theorem linePut_wired (s : State) (n : Nat) (x : Line) : (linePut s n x).wired = s.wired := rfl
@[simp] theorem linePut_ras (s : State) (n : Nat) (x : Line) : (linePut s n x).ras = s.ras := rfl
@[simp] theorem linePut_drv (s : State) (n : Nat) (x : Line) : (linePut s n x).drv = s.drv := rfl
@[simp] theorem linePut_rad (s : State) (n : Nat) (x : Line) : (linePut s n x).rad = s.rad := rfl
@[simp] theorem linePut_eth (s : State) (n : Nat) (x : Line) : (linePut s n x).eth = s.eth := rfl
@[simp] theorem linePut_que (s : State) (n : Nat) (x : Line) : (linePut s n x).que = s.que := rfl
@[simp] theorem linePut_host (s : State) (n : Nat) (x : Line) : (linePut s n x).host = s.host := rfl
@[simp] theorem linePut_ox (s : State) (n : Nat) (x : Line) : (linePut s n x).ox = s.ox := rfl
@[simp] theorem linePut_stk (s : State) (n : Nat) (x : Line) : (linePut s n x).stk = s.stk := rfl
@[simp] theorem linePut_red (s : State) (n : Nat) (x : Line) : (linePut s n x).red = s.red := rfl
@[simp] theorem linePut_eng (s : State) (n : Nat) (x : Line) : (linePut s n x).eng = s.eng := rfl
@[simp] theorem linePut_sec (s : State) (n : Nat) (x : Line) : (linePut s n x).sec = s.sec := rfl
@[simp] theorem linePut_upd (s : State) (n : Nat) (x : Line) : (linePut s n x).upd = s.upd := rfl
@[simp] theorem linePut_log (s : State) (n : Nat) (x : Line) : (linePut s n x).log = s.log := rfl
@[simp] theorem linePut_sch (s : State) (n : Nat) (x : Line) : (linePut s n x).sch = s.sch := rfl
@[simp] theorem linePut_fab (s : State) (n : Nat) (x : Line) : (linePut s n x).fab = s.fab := rfl
@[simp] theorem linePut_imm (s : State) (n : Nat) (x : Line) : (linePut s n x).imm = s.imm := rfl
@[simp] theorem linePut_free (s : State) (n : Nat) (x : Line) : (linePut s n x).free = s.free := rfl
@[simp] theorem linePut_out (s : State) (n : Nat) (x : Line) : (linePut s n x).out = s.out := rfl

/-! `tinPut` changes `tim` alone. -/

@[simp] theorem tinPut_pending (s : State) (n : Nat) (x : TinState) : (tinPut s n x).pending = s.pending := rfl
@[simp] theorem tinPut_dev (s : State) (n : Nat) (x : TinState) : (tinPut s n x).dev = s.dev := rfl
@[simp] theorem tinPut_frm (s : State) (n : Nat) (x : TinState) : (tinPut s n x).frm = s.frm := rfl
@[simp] theorem tinPut_con (s : State) (n : Nat) (x : TinState) : (tinPut s n x).con = s.con := rfl
@[simp] theorem tinPut_src (s : State) (n : Nat) (x : TinState) : (tinPut s n x).src = s.src := rfl
@[simp] theorem tinPut_fix (s : State) (n : Nat) (x : TinState) : (tinPut s n x).fix = s.fix := rfl
@[simp] theorem tinPut_wired (s : State) (n : Nat) (x : TinState) : (tinPut s n x).wired = s.wired := rfl
@[simp] theorem tinPut_ras (s : State) (n : Nat) (x : TinState) : (tinPut s n x).ras = s.ras := rfl
@[simp] theorem tinPut_drv (s : State) (n : Nat) (x : TinState) : (tinPut s n x).drv = s.drv := rfl
@[simp] theorem tinPut_rad (s : State) (n : Nat) (x : TinState) : (tinPut s n x).rad = s.rad := rfl
@[simp] theorem tinPut_eth (s : State) (n : Nat) (x : TinState) : (tinPut s n x).eth = s.eth := rfl
@[simp] theorem tinPut_que (s : State) (n : Nat) (x : TinState) : (tinPut s n x).que = s.que := rfl
@[simp] theorem tinPut_host (s : State) (n : Nat) (x : TinState) : (tinPut s n x).host = s.host := rfl
@[simp] theorem tinPut_ox (s : State) (n : Nat) (x : TinState) : (tinPut s n x).ox = s.ox := rfl
@[simp] theorem tinPut_stk (s : State) (n : Nat) (x : TinState) : (tinPut s n x).stk = s.stk := rfl
@[simp] theorem tinPut_red (s : State) (n : Nat) (x : TinState) : (tinPut s n x).red = s.red := rfl
@[simp] theorem tinPut_eng (s : State) (n : Nat) (x : TinState) : (tinPut s n x).eng = s.eng := rfl
@[simp] theorem tinPut_sec (s : State) (n : Nat) (x : TinState) : (tinPut s n x).sec = s.sec := rfl
@[simp] theorem tinPut_upd (s : State) (n : Nat) (x : TinState) : (tinPut s n x).upd = s.upd := rfl
@[simp] theorem tinPut_log (s : State) (n : Nat) (x : TinState) : (tinPut s n x).log = s.log := rfl
@[simp] theorem tinPut_cal (s : State) (n : Nat) (x : TinState) : (tinPut s n x).cal = s.cal := rfl
@[simp] theorem tinPut_sch (s : State) (n : Nat) (x : TinState) : (tinPut s n x).sch = s.sch := rfl
@[simp] theorem tinPut_fab (s : State) (n : Nat) (x : TinState) : (tinPut s n x).fab = s.fab := rfl
@[simp] theorem tinPut_imm (s : State) (n : Nat) (x : TinState) : (tinPut s n x).imm = s.imm := rfl
@[simp] theorem tinPut_free (s : State) (n : Nat) (x : TinState) : (tinPut s n x).free = s.free := rfl
@[simp] theorem tinPut_out (s : State) (n : Nat) (x : TinState) : (tinPut s n x).out = s.out := rfl

/-! `neighPut` changes `rad` alone. -/

@[simp] theorem neighPut_pending (s : State) (i : Nat) (x : Neigh) : (neighPut s i x).pending = s.pending := rfl
@[simp] theorem neighPut_dev (s : State) (i : Nat) (x : Neigh) : (neighPut s i x).dev = s.dev := rfl
@[simp] theorem neighPut_tim (s : State) (i : Nat) (x : Neigh) : (neighPut s i x).tim = s.tim := rfl
@[simp] theorem neighPut_frm (s : State) (i : Nat) (x : Neigh) : (neighPut s i x).frm = s.frm := rfl
@[simp] theorem neighPut_con (s : State) (i : Nat) (x : Neigh) : (neighPut s i x).con = s.con := rfl
@[simp] theorem neighPut_src (s : State) (i : Nat) (x : Neigh) : (neighPut s i x).src = s.src := rfl
@[simp] theorem neighPut_fix (s : State) (i : Nat) (x : Neigh) : (neighPut s i x).fix = s.fix := rfl
@[simp] theorem neighPut_wired (s : State) (i : Nat) (x : Neigh) : (neighPut s i x).wired = s.wired := rfl
@[simp] theorem neighPut_ras (s : State) (i : Nat) (x : Neigh) : (neighPut s i x).ras = s.ras := rfl
@[simp] theorem neighPut_drv (s : State) (i : Nat) (x : Neigh) : (neighPut s i x).drv = s.drv := rfl
@[simp] theorem neighPut_eth (s : State) (i : Nat) (x : Neigh) : (neighPut s i x).eth = s.eth := rfl
@[simp] theorem neighPut_que (s : State) (i : Nat) (x : Neigh) : (neighPut s i x).que = s.que := rfl
@[simp] theorem neighPut_host (s : State) (i : Nat) (x : Neigh) : (neighPut s i x).host = s.host := rfl
@[simp] theorem neighPut_ox (s : State) (i : Nat) (x : Neigh) : (neighPut s i x).ox = s.ox := rfl
@[simp] theorem neighPut_stk (s : State) (i : Nat) (x : Neigh) : (neighPut s i x).stk = s.stk := rfl
@[simp] theorem neighPut_red (s : State) (i : Nat) (x : Neigh) : (neighPut s i x).red = s.red := rfl
@[simp] theorem neighPut_eng (s : State) (i : Nat) (x : Neigh) : (neighPut s i x).eng = s.eng := rfl
@[simp] theorem neighPut_sec (s : State) (i : Nat) (x : Neigh) : (neighPut s i x).sec = s.sec := rfl
@[simp] theorem neighPut_upd (s : State) (i : Nat) (x : Neigh) : (neighPut s i x).upd = s.upd := rfl
@[simp] theorem neighPut_log (s : State) (i : Nat) (x : Neigh) : (neighPut s i x).log = s.log := rfl
@[simp] theorem neighPut_cal (s : State) (i : Nat) (x : Neigh) : (neighPut s i x).cal = s.cal := rfl
@[simp] theorem neighPut_sch (s : State) (i : Nat) (x : Neigh) : (neighPut s i x).sch = s.sch := rfl
@[simp] theorem neighPut_fab (s : State) (i : Nat) (x : Neigh) : (neighPut s i x).fab = s.fab := rfl
@[simp] theorem neighPut_imm (s : State) (i : Nat) (x : Neigh) : (neighPut s i x).imm = s.imm := rfl
@[simp] theorem neighPut_free (s : State) (i : Nat) (x : Neigh) : (neighPut s i x).free = s.free := rfl
@[simp] theorem neighPut_out (s : State) (i : Nat) (x : Neigh) : (neighPut s i x).out = s.out := rfl

/-! `slotPut` changes `sec` alone. -/

@[simp] theorem slotPut_pending (s : State) (i : Nat) (k : KeySlot) : (slotPut s i k).pending = s.pending := rfl
@[simp] theorem slotPut_dev (s : State) (i : Nat) (k : KeySlot) : (slotPut s i k).dev = s.dev := rfl
@[simp] theorem slotPut_tim (s : State) (i : Nat) (k : KeySlot) : (slotPut s i k).tim = s.tim := rfl
@[simp] theorem slotPut_frm (s : State) (i : Nat) (k : KeySlot) : (slotPut s i k).frm = s.frm := rfl
@[simp] theorem slotPut_con (s : State) (i : Nat) (k : KeySlot) : (slotPut s i k).con = s.con := rfl
@[simp] theorem slotPut_src (s : State) (i : Nat) (k : KeySlot) : (slotPut s i k).src = s.src := rfl
@[simp] theorem slotPut_fix (s : State) (i : Nat) (k : KeySlot) : (slotPut s i k).fix = s.fix := rfl
@[simp] theorem slotPut_wired (s : State) (i : Nat) (k : KeySlot) : (slotPut s i k).wired = s.wired := rfl
@[simp] theorem slotPut_ras (s : State) (i : Nat) (k : KeySlot) : (slotPut s i k).ras = s.ras := rfl
@[simp] theorem slotPut_drv (s : State) (i : Nat) (k : KeySlot) : (slotPut s i k).drv = s.drv := rfl
@[simp] theorem slotPut_rad (s : State) (i : Nat) (k : KeySlot) : (slotPut s i k).rad = s.rad := rfl
@[simp] theorem slotPut_eth (s : State) (i : Nat) (k : KeySlot) : (slotPut s i k).eth = s.eth := rfl
@[simp] theorem slotPut_que (s : State) (i : Nat) (k : KeySlot) : (slotPut s i k).que = s.que := rfl
@[simp] theorem slotPut_host (s : State) (i : Nat) (k : KeySlot) : (slotPut s i k).host = s.host := rfl
@[simp] theorem slotPut_ox (s : State) (i : Nat) (k : KeySlot) : (slotPut s i k).ox = s.ox := rfl
@[simp] theorem slotPut_stk (s : State) (i : Nat) (k : KeySlot) : (slotPut s i k).stk = s.stk := rfl
@[simp] theorem slotPut_red (s : State) (i : Nat) (k : KeySlot) : (slotPut s i k).red = s.red := rfl
@[simp] theorem slotPut_eng (s : State) (i : Nat) (k : KeySlot) : (slotPut s i k).eng = s.eng := rfl
@[simp] theorem slotPut_upd (s : State) (i : Nat) (k : KeySlot) : (slotPut s i k).upd = s.upd := rfl
@[simp] theorem slotPut_log (s : State) (i : Nat) (k : KeySlot) : (slotPut s i k).log = s.log := rfl
@[simp] theorem slotPut_cal (s : State) (i : Nat) (k : KeySlot) : (slotPut s i k).cal = s.cal := rfl
@[simp] theorem slotPut_sch (s : State) (i : Nat) (k : KeySlot) : (slotPut s i k).sch = s.sch := rfl
@[simp] theorem slotPut_fab (s : State) (i : Nat) (k : KeySlot) : (slotPut s i k).fab = s.fab := rfl
@[simp] theorem slotPut_imm (s : State) (i : Nat) (k : KeySlot) : (slotPut s i k).imm = s.imm := rfl
@[simp] theorem slotPut_free (s : State) (i : Nat) (k : KeySlot) : (slotPut s i k).free = s.free := rfl
@[simp] theorem slotPut_out (s : State) (i : Nat) (k : KeySlot) : (slotPut s i k).out = s.out := rfl

/-! `imagePut` changes `upd` alone. -/

@[simp] theorem imagePut_pending (s : State) (i : Nat) (x : ImageSet) : (imagePut s i x).pending = s.pending := rfl
@[simp] theorem imagePut_dev (s : State) (i : Nat) (x : ImageSet) : (imagePut s i x).dev = s.dev := rfl
@[simp] theorem imagePut_tim (s : State) (i : Nat) (x : ImageSet) : (imagePut s i x).tim = s.tim := rfl
@[simp] theorem imagePut_frm (s : State) (i : Nat) (x : ImageSet) : (imagePut s i x).frm = s.frm := rfl
@[simp] theorem imagePut_con (s : State) (i : Nat) (x : ImageSet) : (imagePut s i x).con = s.con := rfl
@[simp] theorem imagePut_src (s : State) (i : Nat) (x : ImageSet) : (imagePut s i x).src = s.src := rfl
@[simp] theorem imagePut_fix (s : State) (i : Nat) (x : ImageSet) : (imagePut s i x).fix = s.fix := rfl
@[simp] theorem imagePut_wired (s : State) (i : Nat) (x : ImageSet) : (imagePut s i x).wired = s.wired := rfl
@[simp] theorem imagePut_ras (s : State) (i : Nat) (x : ImageSet) : (imagePut s i x).ras = s.ras := rfl
@[simp] theorem imagePut_drv (s : State) (i : Nat) (x : ImageSet) : (imagePut s i x).drv = s.drv := rfl
@[simp] theorem imagePut_rad (s : State) (i : Nat) (x : ImageSet) : (imagePut s i x).rad = s.rad := rfl
@[simp] theorem imagePut_eth (s : State) (i : Nat) (x : ImageSet) : (imagePut s i x).eth = s.eth := rfl
@[simp] theorem imagePut_que (s : State) (i : Nat) (x : ImageSet) : (imagePut s i x).que = s.que := rfl
@[simp] theorem imagePut_host (s : State) (i : Nat) (x : ImageSet) : (imagePut s i x).host = s.host := rfl
@[simp] theorem imagePut_ox (s : State) (i : Nat) (x : ImageSet) : (imagePut s i x).ox = s.ox := rfl
@[simp] theorem imagePut_stk (s : State) (i : Nat) (x : ImageSet) : (imagePut s i x).stk = s.stk := rfl
@[simp] theorem imagePut_red (s : State) (i : Nat) (x : ImageSet) : (imagePut s i x).red = s.red := rfl
@[simp] theorem imagePut_eng (s : State) (i : Nat) (x : ImageSet) : (imagePut s i x).eng = s.eng := rfl
@[simp] theorem imagePut_sec (s : State) (i : Nat) (x : ImageSet) : (imagePut s i x).sec = s.sec := rfl
@[simp] theorem imagePut_log (s : State) (i : Nat) (x : ImageSet) : (imagePut s i x).log = s.log := rfl
@[simp] theorem imagePut_cal (s : State) (i : Nat) (x : ImageSet) : (imagePut s i x).cal = s.cal := rfl
@[simp] theorem imagePut_sch (s : State) (i : Nat) (x : ImageSet) : (imagePut s i x).sch = s.sch := rfl
@[simp] theorem imagePut_fab (s : State) (i : Nat) (x : ImageSet) : (imagePut s i x).fab = s.fab := rfl
@[simp] theorem imagePut_imm (s : State) (i : Nat) (x : ImageSet) : (imagePut s i x).imm = s.imm := rfl
@[simp] theorem imagePut_free (s : State) (i : Nat) (x : ImageSet) : (imagePut s i x).free = s.free := rfl
@[simp] theorem imagePut_out (s : State) (i : Nat) (x : ImageSet) : (imagePut s i x).out = s.out := rfl

/-! `copyPut` changes `upd` alone. -/

@[simp] theorem copyPut_pending (s : State) (i : Nat) (x : Settings) : (copyPut s i x).pending = s.pending := rfl
@[simp] theorem copyPut_dev (s : State) (i : Nat) (x : Settings) : (copyPut s i x).dev = s.dev := rfl
@[simp] theorem copyPut_tim (s : State) (i : Nat) (x : Settings) : (copyPut s i x).tim = s.tim := rfl
@[simp] theorem copyPut_frm (s : State) (i : Nat) (x : Settings) : (copyPut s i x).frm = s.frm := rfl
@[simp] theorem copyPut_con (s : State) (i : Nat) (x : Settings) : (copyPut s i x).con = s.con := rfl
@[simp] theorem copyPut_src (s : State) (i : Nat) (x : Settings) : (copyPut s i x).src = s.src := rfl
@[simp] theorem copyPut_fix (s : State) (i : Nat) (x : Settings) : (copyPut s i x).fix = s.fix := rfl
@[simp] theorem copyPut_wired (s : State) (i : Nat) (x : Settings) : (copyPut s i x).wired = s.wired := rfl
@[simp] theorem copyPut_ras (s : State) (i : Nat) (x : Settings) : (copyPut s i x).ras = s.ras := rfl
@[simp] theorem copyPut_drv (s : State) (i : Nat) (x : Settings) : (copyPut s i x).drv = s.drv := rfl
@[simp] theorem copyPut_rad (s : State) (i : Nat) (x : Settings) : (copyPut s i x).rad = s.rad := rfl
@[simp] theorem copyPut_eth (s : State) (i : Nat) (x : Settings) : (copyPut s i x).eth = s.eth := rfl
@[simp] theorem copyPut_que (s : State) (i : Nat) (x : Settings) : (copyPut s i x).que = s.que := rfl
@[simp] theorem copyPut_host (s : State) (i : Nat) (x : Settings) : (copyPut s i x).host = s.host := rfl
@[simp] theorem copyPut_ox (s : State) (i : Nat) (x : Settings) : (copyPut s i x).ox = s.ox := rfl
@[simp] theorem copyPut_stk (s : State) (i : Nat) (x : Settings) : (copyPut s i x).stk = s.stk := rfl
@[simp] theorem copyPut_red (s : State) (i : Nat) (x : Settings) : (copyPut s i x).red = s.red := rfl
@[simp] theorem copyPut_eng (s : State) (i : Nat) (x : Settings) : (copyPut s i x).eng = s.eng := rfl
@[simp] theorem copyPut_sec (s : State) (i : Nat) (x : Settings) : (copyPut s i x).sec = s.sec := rfl
@[simp] theorem copyPut_log (s : State) (i : Nat) (x : Settings) : (copyPut s i x).log = s.log := rfl
@[simp] theorem copyPut_cal (s : State) (i : Nat) (x : Settings) : (copyPut s i x).cal = s.cal := rfl
@[simp] theorem copyPut_sch (s : State) (i : Nat) (x : Settings) : (copyPut s i x).sch = s.sch := rfl
@[simp] theorem copyPut_fab (s : State) (i : Nat) (x : Settings) : (copyPut s i x).fab = s.fab := rfl
@[simp] theorem copyPut_imm (s : State) (i : Nat) (x : Settings) : (copyPut s i x).imm = s.imm := rfl
@[simp] theorem copyPut_free (s : State) (i : Nat) (x : Settings) : (copyPut s i x).free = s.free := rfl
@[simp] theorem copyPut_out (s : State) (i : Nat) (x : Settings) : (copyPut s i x).out = s.out := rfl

/-! `putFrame` changes `frm` alone. -/

@[simp] theorem putFrame_pending (s : State) (f : Frame) : (putFrame s f).pending = s.pending := rfl
@[simp] theorem putFrame_dev (s : State) (f : Frame) : (putFrame s f).dev = s.dev := rfl
@[simp] theorem putFrame_tim (s : State) (f : Frame) : (putFrame s f).tim = s.tim := rfl
@[simp] theorem putFrame_con (s : State) (f : Frame) : (putFrame s f).con = s.con := rfl
@[simp] theorem putFrame_src (s : State) (f : Frame) : (putFrame s f).src = s.src := rfl
@[simp] theorem putFrame_fix (s : State) (f : Frame) : (putFrame s f).fix = s.fix := rfl
@[simp] theorem putFrame_wired (s : State) (f : Frame) : (putFrame s f).wired = s.wired := rfl
@[simp] theorem putFrame_ras (s : State) (f : Frame) : (putFrame s f).ras = s.ras := rfl
@[simp] theorem putFrame_drv (s : State) (f : Frame) : (putFrame s f).drv = s.drv := rfl
@[simp] theorem putFrame_rad (s : State) (f : Frame) : (putFrame s f).rad = s.rad := rfl
@[simp] theorem putFrame_eth (s : State) (f : Frame) : (putFrame s f).eth = s.eth := rfl
@[simp] theorem putFrame_que (s : State) (f : Frame) : (putFrame s f).que = s.que := rfl
@[simp] theorem putFrame_host (s : State) (f : Frame) : (putFrame s f).host = s.host := rfl
@[simp] theorem putFrame_ox (s : State) (f : Frame) : (putFrame s f).ox = s.ox := rfl
@[simp] theorem putFrame_stk (s : State) (f : Frame) : (putFrame s f).stk = s.stk := rfl
@[simp] theorem putFrame_red (s : State) (f : Frame) : (putFrame s f).red = s.red := rfl
@[simp] theorem putFrame_eng (s : State) (f : Frame) : (putFrame s f).eng = s.eng := rfl
@[simp] theorem putFrame_sec (s : State) (f : Frame) : (putFrame s f).sec = s.sec := rfl
@[simp] theorem putFrame_upd (s : State) (f : Frame) : (putFrame s f).upd = s.upd := rfl
@[simp] theorem putFrame_log (s : State) (f : Frame) : (putFrame s f).log = s.log := rfl
@[simp] theorem putFrame_cal (s : State) (f : Frame) : (putFrame s f).cal = s.cal := rfl
@[simp] theorem putFrame_sch (s : State) (f : Frame) : (putFrame s f).sch = s.sch := rfl
@[simp] theorem putFrame_fab (s : State) (f : Frame) : (putFrame s f).fab = s.fab := rfl
@[simp] theorem putFrame_imm (s : State) (f : Frame) : (putFrame s f).imm = s.imm := rfl
@[simp] theorem putFrame_free (s : State) (f : Frame) : (putFrame s f).free = s.free := rfl
@[simp] theorem putFrame_out (s : State) (f : Frame) : (putFrame s f).out = s.out := rfl

/-! `putBucket` changes `log` alone. -/

@[simp] theorem putBucket_pending (s : State) (code : Nat) (b : Bucket) : (putBucket s code b).pending = s.pending := rfl
@[simp] theorem putBucket_dev (s : State) (code : Nat) (b : Bucket) : (putBucket s code b).dev = s.dev := rfl
@[simp] theorem putBucket_tim (s : State) (code : Nat) (b : Bucket) : (putBucket s code b).tim = s.tim := rfl
@[simp] theorem putBucket_frm (s : State) (code : Nat) (b : Bucket) : (putBucket s code b).frm = s.frm := rfl
@[simp] theorem putBucket_con (s : State) (code : Nat) (b : Bucket) : (putBucket s code b).con = s.con := rfl
@[simp] theorem putBucket_src (s : State) (code : Nat) (b : Bucket) : (putBucket s code b).src = s.src := rfl
@[simp] theorem putBucket_fix (s : State) (code : Nat) (b : Bucket) : (putBucket s code b).fix = s.fix := rfl
@[simp] theorem putBucket_wired (s : State) (code : Nat) (b : Bucket) : (putBucket s code b).wired = s.wired := rfl
@[simp] theorem putBucket_ras (s : State) (code : Nat) (b : Bucket) : (putBucket s code b).ras = s.ras := rfl
@[simp] theorem putBucket_drv (s : State) (code : Nat) (b : Bucket) : (putBucket s code b).drv = s.drv := rfl
@[simp] theorem putBucket_rad (s : State) (code : Nat) (b : Bucket) : (putBucket s code b).rad = s.rad := rfl
@[simp] theorem putBucket_eth (s : State) (code : Nat) (b : Bucket) : (putBucket s code b).eth = s.eth := rfl
@[simp] theorem putBucket_que (s : State) (code : Nat) (b : Bucket) : (putBucket s code b).que = s.que := rfl
@[simp] theorem putBucket_host (s : State) (code : Nat) (b : Bucket) : (putBucket s code b).host = s.host := rfl
@[simp] theorem putBucket_ox (s : State) (code : Nat) (b : Bucket) : (putBucket s code b).ox = s.ox := rfl
@[simp] theorem putBucket_stk (s : State) (code : Nat) (b : Bucket) : (putBucket s code b).stk = s.stk := rfl
@[simp] theorem putBucket_red (s : State) (code : Nat) (b : Bucket) : (putBucket s code b).red = s.red := rfl
@[simp] theorem putBucket_eng (s : State) (code : Nat) (b : Bucket) : (putBucket s code b).eng = s.eng := rfl
@[simp] theorem putBucket_sec (s : State) (code : Nat) (b : Bucket) : (putBucket s code b).sec = s.sec := rfl
@[simp] theorem putBucket_upd (s : State) (code : Nat) (b : Bucket) : (putBucket s code b).upd = s.upd := rfl
@[simp] theorem putBucket_cal (s : State) (code : Nat) (b : Bucket) : (putBucket s code b).cal = s.cal := rfl
@[simp] theorem putBucket_sch (s : State) (code : Nat) (b : Bucket) : (putBucket s code b).sch = s.sch := rfl
@[simp] theorem putBucket_fab (s : State) (code : Nat) (b : Bucket) : (putBucket s code b).fab = s.fab := rfl
@[simp] theorem putBucket_imm (s : State) (code : Nat) (b : Bucket) : (putBucket s code b).imm = s.imm := rfl
@[simp] theorem putBucket_free (s : State) (code : Nat) (b : Bucket) : (putBucket s code b).free = s.free := rfl
@[simp] theorem putBucket_out (s : State) (code : Nat) (b : Bucket) : (putBucket s code b).out = s.out := rfl

/-! `writeSlot` changes `log` alone. -/

@[simp] theorem writeSlot_pending (s : State) (log slot : Nat) (r : List Byte) : (writeSlot s log slot r).pending = s.pending := rfl
@[simp] theorem writeSlot_dev (s : State) (log slot : Nat) (r : List Byte) : (writeSlot s log slot r).dev = s.dev := rfl
@[simp] theorem writeSlot_tim (s : State) (log slot : Nat) (r : List Byte) : (writeSlot s log slot r).tim = s.tim := rfl
@[simp] theorem writeSlot_frm (s : State) (log slot : Nat) (r : List Byte) : (writeSlot s log slot r).frm = s.frm := rfl
@[simp] theorem writeSlot_con (s : State) (log slot : Nat) (r : List Byte) : (writeSlot s log slot r).con = s.con := rfl
@[simp] theorem writeSlot_src (s : State) (log slot : Nat) (r : List Byte) : (writeSlot s log slot r).src = s.src := rfl
@[simp] theorem writeSlot_fix (s : State) (log slot : Nat) (r : List Byte) : (writeSlot s log slot r).fix = s.fix := rfl
@[simp] theorem writeSlot_wired (s : State) (log slot : Nat) (r : List Byte) : (writeSlot s log slot r).wired = s.wired := rfl
@[simp] theorem writeSlot_ras (s : State) (log slot : Nat) (r : List Byte) : (writeSlot s log slot r).ras = s.ras := rfl
@[simp] theorem writeSlot_drv (s : State) (log slot : Nat) (r : List Byte) : (writeSlot s log slot r).drv = s.drv := rfl
@[simp] theorem writeSlot_rad (s : State) (log slot : Nat) (r : List Byte) : (writeSlot s log slot r).rad = s.rad := rfl
@[simp] theorem writeSlot_eth (s : State) (log slot : Nat) (r : List Byte) : (writeSlot s log slot r).eth = s.eth := rfl
@[simp] theorem writeSlot_que (s : State) (log slot : Nat) (r : List Byte) : (writeSlot s log slot r).que = s.que := rfl
@[simp] theorem writeSlot_host (s : State) (log slot : Nat) (r : List Byte) : (writeSlot s log slot r).host = s.host := rfl
@[simp] theorem writeSlot_ox (s : State) (log slot : Nat) (r : List Byte) : (writeSlot s log slot r).ox = s.ox := rfl
@[simp] theorem writeSlot_stk (s : State) (log slot : Nat) (r : List Byte) : (writeSlot s log slot r).stk = s.stk := rfl
@[simp] theorem writeSlot_red (s : State) (log slot : Nat) (r : List Byte) : (writeSlot s log slot r).red = s.red := rfl
@[simp] theorem writeSlot_eng (s : State) (log slot : Nat) (r : List Byte) : (writeSlot s log slot r).eng = s.eng := rfl
@[simp] theorem writeSlot_sec (s : State) (log slot : Nat) (r : List Byte) : (writeSlot s log slot r).sec = s.sec := rfl
@[simp] theorem writeSlot_upd (s : State) (log slot : Nat) (r : List Byte) : (writeSlot s log slot r).upd = s.upd := rfl
@[simp] theorem writeSlot_cal (s : State) (log slot : Nat) (r : List Byte) : (writeSlot s log slot r).cal = s.cal := rfl
@[simp] theorem writeSlot_sch (s : State) (log slot : Nat) (r : List Byte) : (writeSlot s log slot r).sch = s.sch := rfl
@[simp] theorem writeSlot_fab (s : State) (log slot : Nat) (r : List Byte) : (writeSlot s log slot r).fab = s.fab := rfl
@[simp] theorem writeSlot_imm (s : State) (log slot : Nat) (r : List Byte) : (writeSlot s log slot r).imm = s.imm := rfl
@[simp] theorem writeSlot_free (s : State) (log slot : Nat) (r : List Byte) : (writeSlot s log slot r).free = s.free := rfl
@[simp] theorem writeSlot_out (s : State) (log slot : Nat) (r : List Byte) : (writeSlot s log slot r).out = s.out := rfl

/-! `setCond` changes `log` alone. -/

@[simp] theorem setCond_pending (s : State) (code obj : Nat) (b : Bool) : (setCond s code obj b).pending = s.pending := rfl
@[simp] theorem setCond_dev (s : State) (code obj : Nat) (b : Bool) : (setCond s code obj b).dev = s.dev := rfl
@[simp] theorem setCond_tim (s : State) (code obj : Nat) (b : Bool) : (setCond s code obj b).tim = s.tim := rfl
@[simp] theorem setCond_frm (s : State) (code obj : Nat) (b : Bool) : (setCond s code obj b).frm = s.frm := rfl
@[simp] theorem setCond_con (s : State) (code obj : Nat) (b : Bool) : (setCond s code obj b).con = s.con := rfl
@[simp] theorem setCond_src (s : State) (code obj : Nat) (b : Bool) : (setCond s code obj b).src = s.src := rfl
@[simp] theorem setCond_fix (s : State) (code obj : Nat) (b : Bool) : (setCond s code obj b).fix = s.fix := rfl
@[simp] theorem setCond_wired (s : State) (code obj : Nat) (b : Bool) : (setCond s code obj b).wired = s.wired := rfl
@[simp] theorem setCond_ras (s : State) (code obj : Nat) (b : Bool) : (setCond s code obj b).ras = s.ras := rfl
@[simp] theorem setCond_drv (s : State) (code obj : Nat) (b : Bool) : (setCond s code obj b).drv = s.drv := rfl
@[simp] theorem setCond_rad (s : State) (code obj : Nat) (b : Bool) : (setCond s code obj b).rad = s.rad := rfl
@[simp] theorem setCond_eth (s : State) (code obj : Nat) (b : Bool) : (setCond s code obj b).eth = s.eth := rfl
@[simp] theorem setCond_que (s : State) (code obj : Nat) (b : Bool) : (setCond s code obj b).que = s.que := rfl
@[simp] theorem setCond_host (s : State) (code obj : Nat) (b : Bool) : (setCond s code obj b).host = s.host := rfl
@[simp] theorem setCond_ox (s : State) (code obj : Nat) (b : Bool) : (setCond s code obj b).ox = s.ox := rfl
@[simp] theorem setCond_stk (s : State) (code obj : Nat) (b : Bool) : (setCond s code obj b).stk = s.stk := rfl
@[simp] theorem setCond_red (s : State) (code obj : Nat) (b : Bool) : (setCond s code obj b).red = s.red := rfl
@[simp] theorem setCond_eng (s : State) (code obj : Nat) (b : Bool) : (setCond s code obj b).eng = s.eng := rfl
@[simp] theorem setCond_sec (s : State) (code obj : Nat) (b : Bool) : (setCond s code obj b).sec = s.sec := rfl
@[simp] theorem setCond_upd (s : State) (code obj : Nat) (b : Bool) : (setCond s code obj b).upd = s.upd := rfl
@[simp] theorem setCond_cal (s : State) (code obj : Nat) (b : Bool) : (setCond s code obj b).cal = s.cal := rfl
@[simp] theorem setCond_sch (s : State) (code obj : Nat) (b : Bool) : (setCond s code obj b).sch = s.sch := rfl
@[simp] theorem setCond_fab (s : State) (code obj : Nat) (b : Bool) : (setCond s code obj b).fab = s.fab := rfl
@[simp] theorem setCond_imm (s : State) (code obj : Nat) (b : Bool) : (setCond s code obj b).imm = s.imm := rfl
@[simp] theorem setCond_free (s : State) (code obj : Nat) (b : Bool) : (setCond s code obj b).free = s.free := rfl
@[simp] theorem setCond_out (s : State) (code obj : Nat) (b : Bool) : (setCond s code obj b).out = s.out := rfl

/-! `redCount` changes `red` alone. -/

@[simp] theorem redCount_pending (s : State) (k : Nat) : (redCount s k).pending = s.pending := rfl
@[simp] theorem redCount_dev (s : State) (k : Nat) : (redCount s k).dev = s.dev := rfl
@[simp] theorem redCount_tim (s : State) (k : Nat) : (redCount s k).tim = s.tim := rfl
@[simp] theorem redCount_frm (s : State) (k : Nat) : (redCount s k).frm = s.frm := rfl
@[simp] theorem redCount_con (s : State) (k : Nat) : (redCount s k).con = s.con := rfl
@[simp] theorem redCount_src (s : State) (k : Nat) : (redCount s k).src = s.src := rfl
@[simp] theorem redCount_fix (s : State) (k : Nat) : (redCount s k).fix = s.fix := rfl
@[simp] theorem redCount_wired (s : State) (k : Nat) : (redCount s k).wired = s.wired := rfl
@[simp] theorem redCount_ras (s : State) (k : Nat) : (redCount s k).ras = s.ras := rfl
@[simp] theorem redCount_drv (s : State) (k : Nat) : (redCount s k).drv = s.drv := rfl
@[simp] theorem redCount_rad (s : State) (k : Nat) : (redCount s k).rad = s.rad := rfl
@[simp] theorem redCount_eth (s : State) (k : Nat) : (redCount s k).eth = s.eth := rfl
@[simp] theorem redCount_que (s : State) (k : Nat) : (redCount s k).que = s.que := rfl
@[simp] theorem redCount_host (s : State) (k : Nat) : (redCount s k).host = s.host := rfl
@[simp] theorem redCount_ox (s : State) (k : Nat) : (redCount s k).ox = s.ox := rfl
@[simp] theorem redCount_stk (s : State) (k : Nat) : (redCount s k).stk = s.stk := rfl
@[simp] theorem redCount_eng (s : State) (k : Nat) : (redCount s k).eng = s.eng := rfl
@[simp] theorem redCount_sec (s : State) (k : Nat) : (redCount s k).sec = s.sec := rfl
@[simp] theorem redCount_upd (s : State) (k : Nat) : (redCount s k).upd = s.upd := rfl
@[simp] theorem redCount_log (s : State) (k : Nat) : (redCount s k).log = s.log := rfl
@[simp] theorem redCount_cal (s : State) (k : Nat) : (redCount s k).cal = s.cal := rfl
@[simp] theorem redCount_sch (s : State) (k : Nat) : (redCount s k).sch = s.sch := rfl
@[simp] theorem redCount_fab (s : State) (k : Nat) : (redCount s k).fab = s.fab := rfl
@[simp] theorem redCount_imm (s : State) (k : Nat) : (redCount s k).imm = s.imm := rfl
@[simp] theorem redCount_free (s : State) (k : Nat) : (redCount s k).free = s.free := rfl
@[simp] theorem redCount_out (s : State) (k : Nat) : (redCount s k).out = s.out := rfl

/-! `secCount` changes `sec` alone. -/

@[simp] theorem secCount_pending (s : State) (k : Nat) : (secCount s k).pending = s.pending := rfl
@[simp] theorem secCount_dev (s : State) (k : Nat) : (secCount s k).dev = s.dev := rfl
@[simp] theorem secCount_tim (s : State) (k : Nat) : (secCount s k).tim = s.tim := rfl
@[simp] theorem secCount_frm (s : State) (k : Nat) : (secCount s k).frm = s.frm := rfl
@[simp] theorem secCount_con (s : State) (k : Nat) : (secCount s k).con = s.con := rfl
@[simp] theorem secCount_src (s : State) (k : Nat) : (secCount s k).src = s.src := rfl
@[simp] theorem secCount_fix (s : State) (k : Nat) : (secCount s k).fix = s.fix := rfl
@[simp] theorem secCount_wired (s : State) (k : Nat) : (secCount s k).wired = s.wired := rfl
@[simp] theorem secCount_ras (s : State) (k : Nat) : (secCount s k).ras = s.ras := rfl
@[simp] theorem secCount_drv (s : State) (k : Nat) : (secCount s k).drv = s.drv := rfl
@[simp] theorem secCount_rad (s : State) (k : Nat) : (secCount s k).rad = s.rad := rfl
@[simp] theorem secCount_eth (s : State) (k : Nat) : (secCount s k).eth = s.eth := rfl
@[simp] theorem secCount_que (s : State) (k : Nat) : (secCount s k).que = s.que := rfl
@[simp] theorem secCount_host (s : State) (k : Nat) : (secCount s k).host = s.host := rfl
@[simp] theorem secCount_ox (s : State) (k : Nat) : (secCount s k).ox = s.ox := rfl
@[simp] theorem secCount_stk (s : State) (k : Nat) : (secCount s k).stk = s.stk := rfl
@[simp] theorem secCount_red (s : State) (k : Nat) : (secCount s k).red = s.red := rfl
@[simp] theorem secCount_eng (s : State) (k : Nat) : (secCount s k).eng = s.eng := rfl
@[simp] theorem secCount_upd (s : State) (k : Nat) : (secCount s k).upd = s.upd := rfl
@[simp] theorem secCount_log (s : State) (k : Nat) : (secCount s k).log = s.log := rfl
@[simp] theorem secCount_cal (s : State) (k : Nat) : (secCount s k).cal = s.cal := rfl
@[simp] theorem secCount_sch (s : State) (k : Nat) : (secCount s k).sch = s.sch := rfl
@[simp] theorem secCount_fab (s : State) (k : Nat) : (secCount s k).fab = s.fab := rfl
@[simp] theorem secCount_imm (s : State) (k : Nat) : (secCount s k).imm = s.imm := rfl
@[simp] theorem secCount_free (s : State) (k : Nat) : (secCount s k).free = s.free := rfl
@[simp] theorem secCount_out (s : State) (k : Nat) : (secCount s k).out = s.out := rfl

/-! `updCount` changes `upd` alone. -/

@[simp] theorem updCount_pending (s : State) (k : Nat) : (updCount s k).pending = s.pending := rfl
@[simp] theorem updCount_dev (s : State) (k : Nat) : (updCount s k).dev = s.dev := rfl
@[simp] theorem updCount_tim (s : State) (k : Nat) : (updCount s k).tim = s.tim := rfl
@[simp] theorem updCount_frm (s : State) (k : Nat) : (updCount s k).frm = s.frm := rfl
@[simp] theorem updCount_con (s : State) (k : Nat) : (updCount s k).con = s.con := rfl
@[simp] theorem updCount_src (s : State) (k : Nat) : (updCount s k).src = s.src := rfl
@[simp] theorem updCount_fix (s : State) (k : Nat) : (updCount s k).fix = s.fix := rfl
@[simp] theorem updCount_wired (s : State) (k : Nat) : (updCount s k).wired = s.wired := rfl
@[simp] theorem updCount_ras (s : State) (k : Nat) : (updCount s k).ras = s.ras := rfl
@[simp] theorem updCount_drv (s : State) (k : Nat) : (updCount s k).drv = s.drv := rfl
@[simp] theorem updCount_rad (s : State) (k : Nat) : (updCount s k).rad = s.rad := rfl
@[simp] theorem updCount_eth (s : State) (k : Nat) : (updCount s k).eth = s.eth := rfl
@[simp] theorem updCount_que (s : State) (k : Nat) : (updCount s k).que = s.que := rfl
@[simp] theorem updCount_host (s : State) (k : Nat) : (updCount s k).host = s.host := rfl
@[simp] theorem updCount_ox (s : State) (k : Nat) : (updCount s k).ox = s.ox := rfl
@[simp] theorem updCount_stk (s : State) (k : Nat) : (updCount s k).stk = s.stk := rfl
@[simp] theorem updCount_red (s : State) (k : Nat) : (updCount s k).red = s.red := rfl
@[simp] theorem updCount_eng (s : State) (k : Nat) : (updCount s k).eng = s.eng := rfl
@[simp] theorem updCount_sec (s : State) (k : Nat) : (updCount s k).sec = s.sec := rfl
@[simp] theorem updCount_log (s : State) (k : Nat) : (updCount s k).log = s.log := rfl
@[simp] theorem updCount_cal (s : State) (k : Nat) : (updCount s k).cal = s.cal := rfl
@[simp] theorem updCount_sch (s : State) (k : Nat) : (updCount s k).sch = s.sch := rfl
@[simp] theorem updCount_fab (s : State) (k : Nat) : (updCount s k).fab = s.fab := rfl
@[simp] theorem updCount_imm (s : State) (k : Nat) : (updCount s k).imm = s.imm := rfl
@[simp] theorem updCount_free (s : State) (k : Nat) : (updCount s k).free = s.free := rfl
@[simp] theorem updCount_out (s : State) (k : Nat) : (updCount s k).out = s.out := rfl

/-! `calCount` changes `cal` alone. -/

@[simp] theorem calCount_pending (s : State) (k n : Nat) : (calCount s k n).pending = s.pending := rfl
@[simp] theorem calCount_dev (s : State) (k n : Nat) : (calCount s k n).dev = s.dev := rfl
@[simp] theorem calCount_tim (s : State) (k n : Nat) : (calCount s k n).tim = s.tim := rfl
@[simp] theorem calCount_frm (s : State) (k n : Nat) : (calCount s k n).frm = s.frm := rfl
@[simp] theorem calCount_con (s : State) (k n : Nat) : (calCount s k n).con = s.con := rfl
@[simp] theorem calCount_src (s : State) (k n : Nat) : (calCount s k n).src = s.src := rfl
@[simp] theorem calCount_fix (s : State) (k n : Nat) : (calCount s k n).fix = s.fix := rfl
@[simp] theorem calCount_wired (s : State) (k n : Nat) : (calCount s k n).wired = s.wired := rfl
@[simp] theorem calCount_ras (s : State) (k n : Nat) : (calCount s k n).ras = s.ras := rfl
@[simp] theorem calCount_drv (s : State) (k n : Nat) : (calCount s k n).drv = s.drv := rfl
@[simp] theorem calCount_rad (s : State) (k n : Nat) : (calCount s k n).rad = s.rad := rfl
@[simp] theorem calCount_eth (s : State) (k n : Nat) : (calCount s k n).eth = s.eth := rfl
@[simp] theorem calCount_que (s : State) (k n : Nat) : (calCount s k n).que = s.que := rfl
@[simp] theorem calCount_host (s : State) (k n : Nat) : (calCount s k n).host = s.host := rfl
@[simp] theorem calCount_ox (s : State) (k n : Nat) : (calCount s k n).ox = s.ox := rfl
@[simp] theorem calCount_stk (s : State) (k n : Nat) : (calCount s k n).stk = s.stk := rfl
@[simp] theorem calCount_red (s : State) (k n : Nat) : (calCount s k n).red = s.red := rfl
@[simp] theorem calCount_eng (s : State) (k n : Nat) : (calCount s k n).eng = s.eng := rfl
@[simp] theorem calCount_sec (s : State) (k n : Nat) : (calCount s k n).sec = s.sec := rfl
@[simp] theorem calCount_upd (s : State) (k n : Nat) : (calCount s k n).upd = s.upd := rfl
@[simp] theorem calCount_log (s : State) (k n : Nat) : (calCount s k n).log = s.log := rfl
@[simp] theorem calCount_sch (s : State) (k n : Nat) : (calCount s k n).sch = s.sch := rfl
@[simp] theorem calCount_fab (s : State) (k n : Nat) : (calCount s k n).fab = s.fab := rfl
@[simp] theorem calCount_imm (s : State) (k n : Nat) : (calCount s k n).imm = s.imm := rfl
@[simp] theorem calCount_free (s : State) (k n : Nat) : (calCount s k n).free = s.free := rfl
@[simp] theorem calCount_out (s : State) (k n : Nat) : (calCount s k n).out = s.out := rfl

/-! `drvCount` changes `drv` alone. -/

@[simp] theorem drvCount_pending (s : State) (k : Nat) : (drvCount s k).pending = s.pending := rfl
@[simp] theorem drvCount_dev (s : State) (k : Nat) : (drvCount s k).dev = s.dev := rfl
@[simp] theorem drvCount_tim (s : State) (k : Nat) : (drvCount s k).tim = s.tim := rfl
@[simp] theorem drvCount_frm (s : State) (k : Nat) : (drvCount s k).frm = s.frm := rfl
@[simp] theorem drvCount_con (s : State) (k : Nat) : (drvCount s k).con = s.con := rfl
@[simp] theorem drvCount_src (s : State) (k : Nat) : (drvCount s k).src = s.src := rfl
@[simp] theorem drvCount_fix (s : State) (k : Nat) : (drvCount s k).fix = s.fix := rfl
@[simp] theorem drvCount_wired (s : State) (k : Nat) : (drvCount s k).wired = s.wired := rfl
@[simp] theorem drvCount_ras (s : State) (k : Nat) : (drvCount s k).ras = s.ras := rfl
@[simp] theorem drvCount_rad (s : State) (k : Nat) : (drvCount s k).rad = s.rad := rfl
@[simp] theorem drvCount_eth (s : State) (k : Nat) : (drvCount s k).eth = s.eth := rfl
@[simp] theorem drvCount_que (s : State) (k : Nat) : (drvCount s k).que = s.que := rfl
@[simp] theorem drvCount_host (s : State) (k : Nat) : (drvCount s k).host = s.host := rfl
@[simp] theorem drvCount_ox (s : State) (k : Nat) : (drvCount s k).ox = s.ox := rfl
@[simp] theorem drvCount_stk (s : State) (k : Nat) : (drvCount s k).stk = s.stk := rfl
@[simp] theorem drvCount_red (s : State) (k : Nat) : (drvCount s k).red = s.red := rfl
@[simp] theorem drvCount_eng (s : State) (k : Nat) : (drvCount s k).eng = s.eng := rfl
@[simp] theorem drvCount_sec (s : State) (k : Nat) : (drvCount s k).sec = s.sec := rfl
@[simp] theorem drvCount_upd (s : State) (k : Nat) : (drvCount s k).upd = s.upd := rfl
@[simp] theorem drvCount_log (s : State) (k : Nat) : (drvCount s k).log = s.log := rfl
@[simp] theorem drvCount_cal (s : State) (k : Nat) : (drvCount s k).cal = s.cal := rfl
@[simp] theorem drvCount_sch (s : State) (k : Nat) : (drvCount s k).sch = s.sch := rfl
@[simp] theorem drvCount_fab (s : State) (k : Nat) : (drvCount s k).fab = s.fab := rfl
@[simp] theorem drvCount_imm (s : State) (k : Nat) : (drvCount s k).imm = s.imm := rfl
@[simp] theorem drvCount_free (s : State) (k : Nat) : (drvCount s k).free = s.free := rfl
@[simp] theorem drvCount_out (s : State) (k : Nat) : (drvCount s k).out = s.out := rfl

/-! `mbCount` changes `ox` alone. -/

@[simp] theorem mbCount_pending (s : State) (p : Path) (k : Nat) : (mbCount s p k).pending = s.pending := rfl
@[simp] theorem mbCount_dev (s : State) (p : Path) (k : Nat) : (mbCount s p k).dev = s.dev := rfl
@[simp] theorem mbCount_tim (s : State) (p : Path) (k : Nat) : (mbCount s p k).tim = s.tim := rfl
@[simp] theorem mbCount_frm (s : State) (p : Path) (k : Nat) : (mbCount s p k).frm = s.frm := rfl
@[simp] theorem mbCount_con (s : State) (p : Path) (k : Nat) : (mbCount s p k).con = s.con := rfl
@[simp] theorem mbCount_src (s : State) (p : Path) (k : Nat) : (mbCount s p k).src = s.src := rfl
@[simp] theorem mbCount_fix (s : State) (p : Path) (k : Nat) : (mbCount s p k).fix = s.fix := rfl
@[simp] theorem mbCount_wired (s : State) (p : Path) (k : Nat) : (mbCount s p k).wired = s.wired := rfl
@[simp] theorem mbCount_ras (s : State) (p : Path) (k : Nat) : (mbCount s p k).ras = s.ras := rfl
@[simp] theorem mbCount_drv (s : State) (p : Path) (k : Nat) : (mbCount s p k).drv = s.drv := rfl
@[simp] theorem mbCount_rad (s : State) (p : Path) (k : Nat) : (mbCount s p k).rad = s.rad := rfl
@[simp] theorem mbCount_eth (s : State) (p : Path) (k : Nat) : (mbCount s p k).eth = s.eth := rfl
@[simp] theorem mbCount_que (s : State) (p : Path) (k : Nat) : (mbCount s p k).que = s.que := rfl
@[simp] theorem mbCount_host (s : State) (p : Path) (k : Nat) : (mbCount s p k).host = s.host := rfl
@[simp] theorem mbCount_stk (s : State) (p : Path) (k : Nat) : (mbCount s p k).stk = s.stk := rfl
@[simp] theorem mbCount_red (s : State) (p : Path) (k : Nat) : (mbCount s p k).red = s.red := rfl
@[simp] theorem mbCount_eng (s : State) (p : Path) (k : Nat) : (mbCount s p k).eng = s.eng := rfl
@[simp] theorem mbCount_sec (s : State) (p : Path) (k : Nat) : (mbCount s p k).sec = s.sec := rfl
@[simp] theorem mbCount_upd (s : State) (p : Path) (k : Nat) : (mbCount s p k).upd = s.upd := rfl
@[simp] theorem mbCount_log (s : State) (p : Path) (k : Nat) : (mbCount s p k).log = s.log := rfl
@[simp] theorem mbCount_cal (s : State) (p : Path) (k : Nat) : (mbCount s p k).cal = s.cal := rfl
@[simp] theorem mbCount_sch (s : State) (p : Path) (k : Nat) : (mbCount s p k).sch = s.sch := rfl
@[simp] theorem mbCount_fab (s : State) (p : Path) (k : Nat) : (mbCount s p k).fab = s.fab := rfl
@[simp] theorem mbCount_imm (s : State) (p : Path) (k : Nat) : (mbCount s p k).imm = s.imm := rfl
@[simp] theorem mbCount_free (s : State) (p : Path) (k : Nat) : (mbCount s p k).free = s.free := rfl
@[simp] theorem mbCount_out (s : State) (p : Path) (k : Nat) : (mbCount s p k).out = s.out := rfl

/-! `endRelay` changes `stk` alone. -/

@[simp] theorem endRelay_pending (s : State) (x : Relay) : (endRelay s x).pending = s.pending := rfl
@[simp] theorem endRelay_dev (s : State) (x : Relay) : (endRelay s x).dev = s.dev := rfl
@[simp] theorem endRelay_tim (s : State) (x : Relay) : (endRelay s x).tim = s.tim := rfl
@[simp] theorem endRelay_frm (s : State) (x : Relay) : (endRelay s x).frm = s.frm := rfl
@[simp] theorem endRelay_con (s : State) (x : Relay) : (endRelay s x).con = s.con := rfl
@[simp] theorem endRelay_src (s : State) (x : Relay) : (endRelay s x).src = s.src := rfl
@[simp] theorem endRelay_fix (s : State) (x : Relay) : (endRelay s x).fix = s.fix := rfl
@[simp] theorem endRelay_wired (s : State) (x : Relay) : (endRelay s x).wired = s.wired := rfl
@[simp] theorem endRelay_ras (s : State) (x : Relay) : (endRelay s x).ras = s.ras := rfl
@[simp] theorem endRelay_drv (s : State) (x : Relay) : (endRelay s x).drv = s.drv := rfl
@[simp] theorem endRelay_rad (s : State) (x : Relay) : (endRelay s x).rad = s.rad := rfl
@[simp] theorem endRelay_eth (s : State) (x : Relay) : (endRelay s x).eth = s.eth := rfl
@[simp] theorem endRelay_que (s : State) (x : Relay) : (endRelay s x).que = s.que := rfl
@[simp] theorem endRelay_host (s : State) (x : Relay) : (endRelay s x).host = s.host := rfl
@[simp] theorem endRelay_ox (s : State) (x : Relay) : (endRelay s x).ox = s.ox := rfl
@[simp] theorem endRelay_red (s : State) (x : Relay) : (endRelay s x).red = s.red := rfl
@[simp] theorem endRelay_eng (s : State) (x : Relay) : (endRelay s x).eng = s.eng := rfl
@[simp] theorem endRelay_sec (s : State) (x : Relay) : (endRelay s x).sec = s.sec := rfl
@[simp] theorem endRelay_upd (s : State) (x : Relay) : (endRelay s x).upd = s.upd := rfl
@[simp] theorem endRelay_log (s : State) (x : Relay) : (endRelay s x).log = s.log := rfl
@[simp] theorem endRelay_cal (s : State) (x : Relay) : (endRelay s x).cal = s.cal := rfl
@[simp] theorem endRelay_sch (s : State) (x : Relay) : (endRelay s x).sch = s.sch := rfl
@[simp] theorem endRelay_fab (s : State) (x : Relay) : (endRelay s x).fab = s.fab := rfl
@[simp] theorem endRelay_imm (s : State) (x : Relay) : (endRelay s x).imm = s.imm := rfl
@[simp] theorem endRelay_free (s : State) (x : Relay) : (endRelay s x).free = s.free := rfl
@[simp] theorem endRelay_out (s : State) (x : Relay) : (endRelay s x).out = s.out := rfl

/-! `stopEdges` changes `frm` alone. -/

@[simp] theorem stopEdges_pending (s : State) : (stopEdges s).pending = s.pending := rfl
@[simp] theorem stopEdges_dev (s : State) : (stopEdges s).dev = s.dev := rfl
@[simp] theorem stopEdges_tim (s : State) : (stopEdges s).tim = s.tim := rfl
@[simp] theorem stopEdges_con (s : State) : (stopEdges s).con = s.con := rfl
@[simp] theorem stopEdges_src (s : State) : (stopEdges s).src = s.src := rfl
@[simp] theorem stopEdges_fix (s : State) : (stopEdges s).fix = s.fix := rfl
@[simp] theorem stopEdges_wired (s : State) : (stopEdges s).wired = s.wired := rfl
@[simp] theorem stopEdges_ras (s : State) : (stopEdges s).ras = s.ras := rfl
@[simp] theorem stopEdges_drv (s : State) : (stopEdges s).drv = s.drv := rfl
@[simp] theorem stopEdges_rad (s : State) : (stopEdges s).rad = s.rad := rfl
@[simp] theorem stopEdges_eth (s : State) : (stopEdges s).eth = s.eth := rfl
@[simp] theorem stopEdges_que (s : State) : (stopEdges s).que = s.que := rfl
@[simp] theorem stopEdges_host (s : State) : (stopEdges s).host = s.host := rfl
@[simp] theorem stopEdges_ox (s : State) : (stopEdges s).ox = s.ox := rfl
@[simp] theorem stopEdges_stk (s : State) : (stopEdges s).stk = s.stk := rfl
@[simp] theorem stopEdges_red (s : State) : (stopEdges s).red = s.red := rfl
@[simp] theorem stopEdges_eng (s : State) : (stopEdges s).eng = s.eng := rfl
@[simp] theorem stopEdges_sec (s : State) : (stopEdges s).sec = s.sec := rfl
@[simp] theorem stopEdges_upd (s : State) : (stopEdges s).upd = s.upd := rfl
@[simp] theorem stopEdges_log (s : State) : (stopEdges s).log = s.log := rfl
@[simp] theorem stopEdges_cal (s : State) : (stopEdges s).cal = s.cal := rfl
@[simp] theorem stopEdges_sch (s : State) : (stopEdges s).sch = s.sch := rfl
@[simp] theorem stopEdges_fab (s : State) : (stopEdges s).fab = s.fab := rfl
@[simp] theorem stopEdges_imm (s : State) : (stopEdges s).imm = s.imm := rfl
@[simp] theorem stopEdges_free (s : State) : (stopEdges s).free = s.free := rfl
@[simp] theorem stopEdges_out (s : State) : (stopEdges s).out = s.out := rfl

/-! `dropTxns` changes `frm`, `con`, `ox`, `stk` alone. -/

@[simp] theorem dropTxns_pending (s : State) : (dropTxns s).pending = s.pending := rfl
@[simp] theorem dropTxns_dev (s : State) : (dropTxns s).dev = s.dev := rfl
@[simp] theorem dropTxns_tim (s : State) : (dropTxns s).tim = s.tim := rfl
@[simp] theorem dropTxns_src (s : State) : (dropTxns s).src = s.src := rfl
@[simp] theorem dropTxns_fix (s : State) : (dropTxns s).fix = s.fix := rfl
@[simp] theorem dropTxns_wired (s : State) : (dropTxns s).wired = s.wired := rfl
@[simp] theorem dropTxns_ras (s : State) : (dropTxns s).ras = s.ras := rfl
@[simp] theorem dropTxns_drv (s : State) : (dropTxns s).drv = s.drv := rfl
@[simp] theorem dropTxns_rad (s : State) : (dropTxns s).rad = s.rad := rfl
@[simp] theorem dropTxns_eth (s : State) : (dropTxns s).eth = s.eth := rfl
@[simp] theorem dropTxns_que (s : State) : (dropTxns s).que = s.que := rfl
@[simp] theorem dropTxns_host (s : State) : (dropTxns s).host = s.host := rfl
@[simp] theorem dropTxns_red (s : State) : (dropTxns s).red = s.red := rfl
@[simp] theorem dropTxns_eng (s : State) : (dropTxns s).eng = s.eng := rfl
@[simp] theorem dropTxns_sec (s : State) : (dropTxns s).sec = s.sec := rfl
@[simp] theorem dropTxns_upd (s : State) : (dropTxns s).upd = s.upd := rfl
@[simp] theorem dropTxns_log (s : State) : (dropTxns s).log = s.log := rfl
@[simp] theorem dropTxns_cal (s : State) : (dropTxns s).cal = s.cal := rfl
@[simp] theorem dropTxns_sch (s : State) : (dropTxns s).sch = s.sch := rfl
@[simp] theorem dropTxns_fab (s : State) : (dropTxns s).fab = s.fab := rfl
@[simp] theorem dropTxns_imm (s : State) : (dropTxns s).imm = s.imm := rfl
@[simp] theorem dropTxns_free (s : State) : (dropTxns s).free = s.free := rfl
@[simp] theorem dropTxns_out (s : State) : (dropTxns s).out = s.out := rfl

/-! `beginEdges` changes `frm` alone. -/

@[simp] theorem beginEdges_pending (s : State) (n : Nat) (e : Time) (delta : Int) : (beginEdges s n e delta).pending = s.pending := rfl
@[simp] theorem beginEdges_dev (s : State) (n : Nat) (e : Time) (delta : Int) : (beginEdges s n e delta).dev = s.dev := rfl
@[simp] theorem beginEdges_tim (s : State) (n : Nat) (e : Time) (delta : Int) : (beginEdges s n e delta).tim = s.tim := rfl
@[simp] theorem beginEdges_con (s : State) (n : Nat) (e : Time) (delta : Int) : (beginEdges s n e delta).con = s.con := rfl
@[simp] theorem beginEdges_src (s : State) (n : Nat) (e : Time) (delta : Int) : (beginEdges s n e delta).src = s.src := rfl
@[simp] theorem beginEdges_fix (s : State) (n : Nat) (e : Time) (delta : Int) : (beginEdges s n e delta).fix = s.fix := rfl
@[simp] theorem beginEdges_wired (s : State) (n : Nat) (e : Time) (delta : Int) : (beginEdges s n e delta).wired = s.wired := rfl
@[simp] theorem beginEdges_ras (s : State) (n : Nat) (e : Time) (delta : Int) : (beginEdges s n e delta).ras = s.ras := rfl
@[simp] theorem beginEdges_drv (s : State) (n : Nat) (e : Time) (delta : Int) : (beginEdges s n e delta).drv = s.drv := rfl
@[simp] theorem beginEdges_rad (s : State) (n : Nat) (e : Time) (delta : Int) : (beginEdges s n e delta).rad = s.rad := rfl
@[simp] theorem beginEdges_eth (s : State) (n : Nat) (e : Time) (delta : Int) : (beginEdges s n e delta).eth = s.eth := rfl
@[simp] theorem beginEdges_que (s : State) (n : Nat) (e : Time) (delta : Int) : (beginEdges s n e delta).que = s.que := rfl
@[simp] theorem beginEdges_host (s : State) (n : Nat) (e : Time) (delta : Int) : (beginEdges s n e delta).host = s.host := rfl
@[simp] theorem beginEdges_ox (s : State) (n : Nat) (e : Time) (delta : Int) : (beginEdges s n e delta).ox = s.ox := rfl
@[simp] theorem beginEdges_stk (s : State) (n : Nat) (e : Time) (delta : Int) : (beginEdges s n e delta).stk = s.stk := rfl
@[simp] theorem beginEdges_red (s : State) (n : Nat) (e : Time) (delta : Int) : (beginEdges s n e delta).red = s.red := rfl
@[simp] theorem beginEdges_eng (s : State) (n : Nat) (e : Time) (delta : Int) : (beginEdges s n e delta).eng = s.eng := rfl
@[simp] theorem beginEdges_sec (s : State) (n : Nat) (e : Time) (delta : Int) : (beginEdges s n e delta).sec = s.sec := rfl
@[simp] theorem beginEdges_upd (s : State) (n : Nat) (e : Time) (delta : Int) : (beginEdges s n e delta).upd = s.upd := rfl
@[simp] theorem beginEdges_log (s : State) (n : Nat) (e : Time) (delta : Int) : (beginEdges s n e delta).log = s.log := rfl
@[simp] theorem beginEdges_cal (s : State) (n : Nat) (e : Time) (delta : Int) : (beginEdges s n e delta).cal = s.cal := rfl
@[simp] theorem beginEdges_sch (s : State) (n : Nat) (e : Time) (delta : Int) : (beginEdges s n e delta).sch = s.sch := rfl
@[simp] theorem beginEdges_fab (s : State) (n : Nat) (e : Time) (delta : Int) : (beginEdges s n e delta).fab = s.fab := rfl
@[simp] theorem beginEdges_imm (s : State) (n : Nat) (e : Time) (delta : Int) : (beginEdges s n e delta).imm = s.imm := rfl
@[simp] theorem beginEdges_free (s : State) (n : Nat) (e : Time) (delta : Int) : (beginEdges s n e delta).free = s.free := rfl
@[simp] theorem beginEdges_out (s : State) (n : Nat) (e : Time) (delta : Int) : (beginEdges s n e delta).out = s.out := rfl

/-! `toHoldover` changes `tim` alone. -/

@[simp] theorem toHoldover_pending (s : State) : (toHoldover s).pending = s.pending := rfl
@[simp] theorem toHoldover_dev (s : State) : (toHoldover s).dev = s.dev := rfl
@[simp] theorem toHoldover_frm (s : State) : (toHoldover s).frm = s.frm := rfl
@[simp] theorem toHoldover_con (s : State) : (toHoldover s).con = s.con := rfl
@[simp] theorem toHoldover_src (s : State) : (toHoldover s).src = s.src := rfl
@[simp] theorem toHoldover_fix (s : State) : (toHoldover s).fix = s.fix := rfl
@[simp] theorem toHoldover_wired (s : State) : (toHoldover s).wired = s.wired := rfl
@[simp] theorem toHoldover_ras (s : State) : (toHoldover s).ras = s.ras := rfl
@[simp] theorem toHoldover_drv (s : State) : (toHoldover s).drv = s.drv := rfl
@[simp] theorem toHoldover_rad (s : State) : (toHoldover s).rad = s.rad := rfl
@[simp] theorem toHoldover_eth (s : State) : (toHoldover s).eth = s.eth := rfl
@[simp] theorem toHoldover_que (s : State) : (toHoldover s).que = s.que := rfl
@[simp] theorem toHoldover_host (s : State) : (toHoldover s).host = s.host := rfl
@[simp] theorem toHoldover_ox (s : State) : (toHoldover s).ox = s.ox := rfl
@[simp] theorem toHoldover_stk (s : State) : (toHoldover s).stk = s.stk := rfl
@[simp] theorem toHoldover_red (s : State) : (toHoldover s).red = s.red := rfl
@[simp] theorem toHoldover_eng (s : State) : (toHoldover s).eng = s.eng := rfl
@[simp] theorem toHoldover_sec (s : State) : (toHoldover s).sec = s.sec := rfl
@[simp] theorem toHoldover_upd (s : State) : (toHoldover s).upd = s.upd := rfl
@[simp] theorem toHoldover_log (s : State) : (toHoldover s).log = s.log := rfl
@[simp] theorem toHoldover_cal (s : State) : (toHoldover s).cal = s.cal := rfl
@[simp] theorem toHoldover_sch (s : State) : (toHoldover s).sch = s.sch := rfl
@[simp] theorem toHoldover_fab (s : State) : (toHoldover s).fab = s.fab := rfl
@[simp] theorem toHoldover_imm (s : State) : (toHoldover s).imm = s.imm := rfl
@[simp] theorem toHoldover_free (s : State) : (toHoldover s).free = s.free := rfl
@[simp] theorem toHoldover_out (s : State) : (toHoldover s).out = s.out := rfl

/-! `toFree` changes `tim` alone. -/

@[simp] theorem toFree_pending (s : State) : (toFree s).pending = s.pending := rfl
@[simp] theorem toFree_dev (s : State) : (toFree s).dev = s.dev := rfl
@[simp] theorem toFree_frm (s : State) : (toFree s).frm = s.frm := rfl
@[simp] theorem toFree_con (s : State) : (toFree s).con = s.con := rfl
@[simp] theorem toFree_src (s : State) : (toFree s).src = s.src := rfl
@[simp] theorem toFree_fix (s : State) : (toFree s).fix = s.fix := rfl
@[simp] theorem toFree_wired (s : State) : (toFree s).wired = s.wired := rfl
@[simp] theorem toFree_ras (s : State) : (toFree s).ras = s.ras := rfl
@[simp] theorem toFree_drv (s : State) : (toFree s).drv = s.drv := rfl
@[simp] theorem toFree_rad (s : State) : (toFree s).rad = s.rad := rfl
@[simp] theorem toFree_eth (s : State) : (toFree s).eth = s.eth := rfl
@[simp] theorem toFree_que (s : State) : (toFree s).que = s.que := rfl
@[simp] theorem toFree_host (s : State) : (toFree s).host = s.host := rfl
@[simp] theorem toFree_ox (s : State) : (toFree s).ox = s.ox := rfl
@[simp] theorem toFree_stk (s : State) : (toFree s).stk = s.stk := rfl
@[simp] theorem toFree_red (s : State) : (toFree s).red = s.red := rfl
@[simp] theorem toFree_eng (s : State) : (toFree s).eng = s.eng := rfl
@[simp] theorem toFree_sec (s : State) : (toFree s).sec = s.sec := rfl
@[simp] theorem toFree_upd (s : State) : (toFree s).upd = s.upd := rfl
@[simp] theorem toFree_log (s : State) : (toFree s).log = s.log := rfl
@[simp] theorem toFree_cal (s : State) : (toFree s).cal = s.cal := rfl
@[simp] theorem toFree_sch (s : State) : (toFree s).sch = s.sch := rfl
@[simp] theorem toFree_fab (s : State) : (toFree s).fab = s.fab := rfl
@[simp] theorem toFree_imm (s : State) : (toFree s).imm = s.imm := rfl
@[simp] theorem toFree_free (s : State) : (toFree s).free = s.free := rfl
@[simp] theorem toFree_out (s : State) : (toFree s).out = s.out := rfl

/-! Getters after their update. -/

@[simp] theorem casGet_casPut (s : State) (p : Nat) (x : CasPort) : casGet (casPut s p x) p = x := SMap.get_put_same _ _ _ _
theorem casGet_casPut_other (s : State) (p q : Nat) (x : CasPort) (h : q ≠ p) : casGet (casPut s p x) q = casGet s q :=
  SMap.get_put_other _ _ _ _ _ _ h

@[simp] theorem qGet_qPut (s : State) (p : Nat) (x : Queue) : qGet (qPut s p x) p = x := SMap.get_put_same _ _ _ _
theorem qGet_qPut_other (s : State) (p q : Nat) (x : Queue) (h : q ≠ p) : qGet (qPut s p x) q = qGet s q :=
  SMap.get_put_other _ _ _ _ _ _ h

@[simp] theorem radGet_radPut (s : State) (p : Nat) (x : RadioPort) : radGet (radPut s p x) p = x := SMap.get_put_same _ _ _ _
theorem radGet_radPut_other (s : State) (p q : Nat) (x : RadioPort) (h : q ≠ p) : radGet (radPut s p x) q = radGet s q :=
  SMap.get_put_other _ _ _ _ _ _ h

@[simp] theorem ethGet_ethPut (s : State) (p : Nat) (x : EthState) : ethGet (ethPut s p x) p = x := SMap.get_put_same _ _ _ _
theorem ethGet_ethPut_other (s : State) (p q : Nat) (x : EthState) (h : q ≠ p) : ethGet (ethPut s p x) q = ethGet s q :=
  SMap.get_put_other _ _ _ _ _ _ h

@[simp] theorem pinGet_pinPut (s : State) (p : Nat) (x : Pin) : pinGet (pinPut s p x) p = x := SMap.get_put_same _ _ _ _
theorem pinGet_pinPut_other (s : State) (p q : Nat) (x : Pin) (h : q ≠ p) : pinGet (pinPut s p x) q = pinGet s q :=
  SMap.get_put_other _ _ _ _ _ _ h

@[simp] theorem pointGet_pointPut (s : State) (p : Nat) (x : Point) : pointGet (pointPut s p x) p = x := SMap.get_put_same _ _ _ _
theorem pointGet_pointPut_other (s : State) (p q : Nat) (x : Point) (h : q ≠ p) : pointGet (pointPut s p x) q = pointGet s q :=
  SMap.get_put_other _ _ _ _ _ _ h

@[simp] theorem rasGet_rasPut (s : State) (p : Nat) (x : RasterState) : rasGet (rasPut s p x) p = x := SMap.get_put_same _ _ _ _
theorem rasGet_rasPut_other (s : State) (p q : Nat) (x : RasterState) (h : q ≠ p) : rasGet (rasPut s p x) q = rasGet s q :=
  SMap.get_put_other _ _ _ _ _ _ h

@[simp] theorem dmxGet_dmxPut (s : State) (p : Nat) (x : DmxState) : dmxGet (dmxPut s p x) p = x := SMap.get_put_same _ _ _ _
theorem dmxGet_dmxPut_other (s : State) (p q : Nat) (x : DmxState) (h : q ≠ p) : dmxGet (dmxPut s p x) q = dmxGet s q :=
  SMap.get_put_other _ _ _ _ _ _ h

@[simp] theorem daliGet_daliPut (s : State) (p : Nat) (x : DaliState) : daliGet (daliPut s p x) p = x := SMap.get_put_same _ _ _ _
theorem daliGet_daliPut_other (s : State) (p q : Nat) (x : DaliState) (h : q ≠ p) : daliGet (daliPut s p x) q = daliGet s q :=
  SMap.get_put_other _ _ _ _ _ _ h

@[simp] theorem slotOf_slotPut (s : State) (p : Nat) (x : KeySlot) : slotOf (slotPut s p x) p = x := SMap.get_put_same _ _ _ _
theorem slotOf_slotPut_other (s : State) (p q : Nat) (x : KeySlot) (h : q ≠ p) : slotOf (slotPut s p x) q = slotOf s q :=
  SMap.get_put_other _ _ _ _ _ _ h

@[simp] theorem imageOf_imagePut (s : State) (p : Nat) (x : ImageSet) : imageOf (imagePut s p x) p = x := SMap.get_put_same _ _ _ _
theorem imageOf_imagePut_other (s : State) (p q : Nat) (x : ImageSet) (h : q ≠ p) : imageOf (imagePut s p x) q = imageOf s q :=
  SMap.get_put_other _ _ _ _ _ _ h

@[simp] theorem copyOf_copyPut (s : State) (p : Nat) (x : Settings) : copyOf (copyPut s p x) p = x := SMap.get_put_same _ _ _ _
theorem copyOf_copyPut_other (s : State) (p q : Nat) (x : Settings) (h : q ≠ p) : copyOf (copyPut s p x) q = copyOf s q :=
  SMap.get_put_other _ _ _ _ _ _ h

end Sys2Proof.Machine
end

