-- ==== Sys2Proof/Laws/Frames.lean ====
section
/-! SUPPORT. Frames of the shared operations: which parts of the state each one can change, whatever its operands. A claim that a command
leaves a part alone goes through these and never unfolds the operations. -/

namespace Sys2Proof.Machine

/-! ### Combining frames -/

/-- A state agrees with itself. -/
theorem agree_refl (s : State) (p : Part) : agree s s p := by cases p <;> rfl

/-- Agreement goes through a state between. -/
theorem agree_trans {s t u : State} {p : Part} (h : agree s t p) (k : agree t u p) : agree s u p := by
  cases p <;> exact Eq.trans k h

/-- Nothing changes. -/
theorem ChangesOnly.refl (ps : List Part) (s : State) : ChangesOnly ps s s := fun p _ => agree_refl s p

/-- A frame after a frame. -/
theorem ChangesOnly.trans {ps : List Part} {s t u : State} (h : ChangesOnly ps s t) (k : ChangesOnly ps t u) : ChangesOnly ps s u :=
  fun p hp => agree_trans (h p hp) (k p hp)

/-- A frame holds with more parts listed. -/
theorem ChangesOnly.mono {ps qs : List Part} {s t : State} (h : ChangesOnly ps s t) (hs : ∀ p ∈ ps, p ∈ qs) : ChangesOnly qs s t :=
  fun p hp => h p fun hm => hp (hs p hm)

/-- A frame of each step of a fold is one of the fold. -/
theorem ChangesOnly.foldl {α : Type} {ps : List Part} (f : State → α → State) (h : ∀ a x, ChangesOnly ps a (f a x)) (l : List α)
    (s : State) : ChangesOnly ps s (l.foldl f s) := by
  induction l generalizing s with
  | nil => exact ChangesOnly.refl ps s
  | cons x l ih => exact (h s x).trans (ih (f s x))

/-- A frame of both branches. -/
theorem ChangesOnly.ite {c : Prop} [Decidable c] {ps : List Part} {s t u : State} (h : ChangesOnly ps s t) (k : ChangesOnly ps s u) :
    ChangesOnly ps s (if c then t else u) := by
  split
  · exact h
  · exact k

/-- The frame of a command that always answers the same way. -/
theorem Frames.of_next {ps : List Part} {i : Instr} (f : State → State) (he : ∀ s, exec i s = .next (f s))
    (h : ∀ s, ChangesOnly ps s (f s)) : Frames ps i := by
  intro s t ht
  rw [he s] at ht
  injection ht with ht
  subst ht
  exact h s

/-! ### One field replaced -/

/-- `pending` replaced. -/
theorem changes_pending (s : State) (x : List Instr) : ChangesOnly [.pending] s { s with pending := x } := by
  intro p hp
  cases p <;> first | rfl | exact absurd (by decide) hp

/-- `dev` replaced. -/
theorem changes_dev (s : State) (x : Dev) : ChangesOnly [.dev] s { s with dev := x } := by
  intro p hp
  cases p <;> first | rfl | exact absurd (by decide) hp

/-- `tim` replaced. -/
theorem changes_tim (s : State) (x : Tim) : ChangesOnly [.tim] s { s with tim := x } := by
  intro p hp
  cases p <;> first | rfl | exact absurd (by decide) hp

/-- `frm` replaced. -/
theorem changes_frm (s : State) (x : Frm) : ChangesOnly [.frm] s { s with frm := x } := by
  intro p hp
  cases p <;> first | rfl | exact absurd (by decide) hp

/-- `con` replaced. -/
theorem changes_con (s : State) (x : Content) : ChangesOnly [.con] s { s with con := x } := by
  intro p hp
  cases p <;> first | rfl | exact absurd (by decide) hp

/-- `src` replaced. -/
theorem changes_src (s : State) (x : Sources) : ChangesOnly [.src] s { s with src := x } := by
  intro p hp
  cases p <;> first | rfl | exact absurd (by decide) hp

/-- `fix` replaced. -/
theorem changes_fix (s : State) (x : Fixt) : ChangesOnly [.fix] s { s with fix := x } := by
  intro p hp
  cases p <;> first | rfl | exact absurd (by decide) hp

/-- `wired` replaced. -/
theorem changes_wired (s : State) (x : Wired) : ChangesOnly [.wired] s { s with wired := x } := by
  intro p hp
  cases p <;> first | rfl | exact absurd (by decide) hp

/-- `ras` replaced. -/
theorem changes_ras (s : State) (x : SMap RasterState) : ChangesOnly [.ras] s { s with ras := x } := by
  intro p hp
  cases p <;> first | rfl | exact absurd (by decide) hp

/-- `drv` replaced. -/
theorem changes_drv (s : State) (x : Drive) : ChangesOnly [.drv] s { s with drv := x } := by
  intro p hp
  cases p <;> first | rfl | exact absurd (by decide) hp

/-- `rad` replaced. -/
theorem changes_rad (s : State) (x : Radio) : ChangesOnly [.rad] s { s with rad := x } := by
  intro p hp
  cases p <;> first | rfl | exact absurd (by decide) hp

/-- `eth` replaced. -/
theorem changes_eth (s : State) (x : SMap EthState) : ChangesOnly [.eth] s { s with eth := x } := by
  intro p hp
  cases p <;> first | rfl | exact absurd (by decide) hp

/-- `que` replaced. -/
theorem changes_que (s : State) (x : Ques) : ChangesOnly [.que] s { s with que := x } := by
  intro p hp
  cases p <;> first | rfl | exact absurd (by decide) hp

/-- `host` replaced. -/
theorem changes_host (s : State) (x : HostRegs) : ChangesOnly [.host] s { s with host := x } := by
  intro p hp
  cases p <;> first | rfl | exact absurd (by decide) hp

/-- `ox` replaced. -/
theorem changes_ox (s : State) (x : Oxold) : ChangesOnly [.ox] s { s with ox := x } := by
  intro p hp
  cases p <;> first | rfl | exact absurd (by decide) hp

/-- `stk` replaced. -/
theorem changes_stk (s : State) (x : Stack) : ChangesOnly [.stk] s { s with stk := x } := by
  intro p hp
  cases p <;> first | rfl | exact absurd (by decide) hp

/-- `red` replaced. -/
theorem changes_red (s : State) (x : Red) : ChangesOnly [.red] s { s with red := x } := by
  intro p hp
  cases p <;> first | rfl | exact absurd (by decide) hp

/-- `eng` replaced. -/
theorem changes_eng (s : State) (x : Energy) : ChangesOnly [.eng] s { s with eng := x } := by
  intro p hp
  cases p <;> first | rfl | exact absurd (by decide) hp

/-- `sec` replaced. -/
theorem changes_sec (s : State) (x : Island) : ChangesOnly [.sec] s { s with sec := x } := by
  intro p hp
  cases p <;> first | rfl | exact absurd (by decide) hp

/-- `upd` replaced. -/
theorem changes_upd (s : State) (x : Update) : ChangesOnly [.upd] s { s with upd := x } := by
  intro p hp
  cases p <;> first | rfl | exact absurd (by decide) hp

/-- `log` replaced. -/
theorem changes_log (s : State) (x : Recorder) : ChangesOnly [.log] s { s with log := x } := by
  intro p hp
  cases p <;> first | rfl | exact absurd (by decide) hp

/-- `cal` replaced. -/
theorem changes_cal (s : State) (x : Calib) : ChangesOnly [.cal] s { s with cal := x } := by
  intro p hp
  cases p <;> first | rfl | exact absurd (by decide) hp

/-- `sch` replaced. -/
theorem changes_sch (s : State) (x : Sched) : ChangesOnly [.sch] s { s with sch := x } := by
  intro p hp
  cases p <;> first | rfl | exact absurd (by decide) hp

/-- `fab` replaced. -/
theorem changes_fab (s : State) (x : Fabric) : ChangesOnly [.fab] s { s with fab := x } := by
  intro p hp
  cases p <;> first | rfl | exact absurd (by decide) hp

/-- `imm` replaced. -/
theorem changes_imm (s : State) (x : Store) : ChangesOnly [.imm] s { s with imm := x } := by
  intro p hp
  cases p <;> first | rfl | exact absurd (by decide) hp

/-- `free` replaced. -/
theorem changes_free (s : State) (x : Nat) : ChangesOnly [.free] s { s with free := x } := by
  intro p hp
  cases p <;> first | rfl | exact absurd (by decide) hp

/-- `out` replaced. -/
theorem changes_out (s : State) (x : List Sent) : ChangesOnly [.out] s { s with out := x } := by
  intro p hp
  cases p <;> first | rfl | exact absurd (by decide) hp

/-! ### Shared operations -/

theorem casClassPut_changes (s : State) (p c : Nat) (x : CasClass) : ChangesOnly [.stk] s (casClassPut s p c x) := changes_stk s _

theorem emit_changes (s : State) (x : Sent) : ChangesOnly [.out] s (emit s x) := changes_out s _

theorem advance_changes (s : State) (t : Time) : ChangesOnly [.tim] s (advance s t) := changes_tim s _

theorem casPut_changes (s : State) (p : Nat) (x : CasPort) : ChangesOnly [.stk] s (casPut s p x) := changes_stk s _

theorem qPut_changes (s : State) (q : Nat) (x : Queue) : ChangesOnly [.que] s (qPut s q x) := changes_que s _

theorem radPut_changes (s : State) (p : Nat) (x : RadioPort) : ChangesOnly [.rad] s (radPut s p x) := changes_rad s _

theorem ethPut_changes (s : State) (p : Nat) (x : EthState) : ChangesOnly [.eth] s (ethPut s p x) := changes_eth s _

theorem mbCount_changes (s : State) (p : Path) (k : Nat) : ChangesOnly [.ox] s (mbCount s p k) := changes_ox s _

theorem setCond_changes (s : State) (c o : Nat) (b : Bool) : ChangesOnly [.log] s (setCond s c o b) := changes_log s _

theorem logCount_changes (s : State) (l k n : Nat) : ChangesOnly [.log] s (logCount s l k n) := changes_log s _

theorem putBucket_changes (s : State) (c : Nat) (b : Bucket) : ChangesOnly [.log] s (putBucket s c b) := changes_log s _

theorem writeSlot_changes (s : State) (l n : Nat) (r : List Byte) : ChangesOnly [.log] s (writeSlot s l n r) := changes_log s _

theorem redCount_changes (s : State) (k : Nat) : ChangesOnly [.red] s (redCount s k) := changes_red s _

theorem casCount_changes (s : State) (p k n : Nat) : ChangesOnly [.stk] s (casCount s p k n) := changes_stk s _

theorem ethCount_changes (s : State) (p k : Nat) : ChangesOnly [.eth] s (ethCount s p k) := changes_eth s _

theorem radCount_changes (s : State) (p k n : Nat) : ChangesOnly [.rad] s (radCount s p k n) := changes_rad s _

theorem putFrame_changes (s : State) (f : Frame) : ChangesOnly [.frm] s (putFrame s f) := changes_frm s _

theorem stopEdges_changes (s : State) : ChangesOnly [.frm] s (stopEdges s) := changes_frm s _

theorem repeatSlot_changes (s : State) (l n : Nat) : ChangesOnly [.log] s (repeatSlot s l n) := changes_log s _

/-- A message of a vector is sent or left pending. -/
theorem msixSend_changes (s : State) (v : Nat) : ChangesOnly [.host, .out] s (msixSend s v) := by
  unfold msixSend
  split
  · exact (changes_host s _).mono (by decide)
  · exact (emit_changes s _).mono (by decide)

/-- An interrupt source set changes INT_STATUS, pending vectors and what was sent. -/
theorem raise_changes (s : State) (n : Nat) : ChangesOnly [.host, .out] s (raise s n) := by
  unfold raise
  split
  · exact ChangesOnly.refl _ s
  · dsimp only
    split
    · exact (changes_host s _).mono (by decide)
    · exact ((changes_host s _).mono (by decide)).trans (msixSend_changes _ _)

/-- The watermark state of a queue. -/
theorem watermark_changes (s : State) (q : Nat) : ChangesOnly [.que] s (watermark s q) := by
  unfold watermark
  dsimp only
  repeat' split
  all_goals first | exact ChangesOnly.refl _ s | exact qPut_changes s q _

/-- A packet committed to a queue. -/
theorem qCommit_changes (s : State) (q : Nat) (h : Bool) (b : List Byte) : ChangesOnly [.que, .host, .out] s (qCommit s q h b) := by
  unfold qCommit
  dsimp only
  have h1 (x : Queue) : ChangesOnly [.que, .host, .out] s (watermark (qPut s q x) q) :=
    ((qPut_changes s q x).trans (watermark_changes _ q)).mono (by decide)
  split
  · exact (h1 _).trans ((raise_changes _ q).mono (by decide))
  · exact h1 _

/-- A packet pushed onto a queue. -/
theorem qPush_changes (s : State) (q : Nat) (h : Bool) (b : List Byte) : ChangesOnly [.que, .host, .out] s (qPush s q h b) := by
  unfold qPush
  dsimp only
  split
  · exact qCommit_changes s q h b
  · exact (qPut_changes s q _).mono (by decide)

/-- A packet popped from a queue. -/
theorem qPop_changes (s : State) (q : Nat) : ChangesOnly [.que] s (qPop s q).2 := by
  unfold qPop
  split
  · exact ChangesOnly.refl _ s
  · exact (qPut_changes s q _).trans (watermark_changes _ q)

/-- A blocking push resumed. -/
theorem qResume_changes (s : State) (q : Nat) : ChangesOnly [.que, .host, .out] s (qResume s q) := by
  unfold qResume
  dsimp only
  split
  · exact ChangesOnly.refl _ s
  · split
    · exact ((qPut_changes s q _).mono (by decide)).trans (qCommit_changes _ q _ _)
    · exact ChangesOnly.refl _ s

/-- Packets of a cascade class sent. -/
theorem casPump_changes (n : Nat) (s : State) (p c : Nat) : ChangesOnly [.stk, .out] s (casPump n s p c) := by
  induction n generalizing s with
  | zero => exact ChangesOnly.refl _ s
  | succ n ih =>
    unfold casPump
    dsimp only
    split
    · exact ChangesOnly.refl _ s
    · split
      · exact ChangesOnly.refl _ s
      · exact ((casClassPut_changes s p c _).mono (by decide)).trans (((emit_changes _ _).mono (by decide)).trans (ih _))

/-- Packets handed to a cascade class. -/
theorem casQueue_changes (s : State) (p c : Nat) (l : List CasPacket) : ChangesOnly [.stk, .out] s (casQueue s p c l) :=
  ((casClassPut_changes s p c _).mono (by decide)).trans (casPump_changes _ _ p c)

/-- A message handed to a cascade class. -/
theorem casSend_changes (s : State) (p c d : Nat) (m : List Byte) : ChangesOnly [.stk, .out] s (casSend s p c d m) :=
  casQueue_changes s p c _

/-- A TIME message. -/
theorem casTime_changes (s : State) (p k : Nat) (b : List Byte) : ChangesOnly [.out] s (casTime s p k b) :=
  ChangesOnly.ite (emit_changes s _) (ChangesOnly.refl _ s)

/-- An MB2 message sent. -/
theorem sendMb2_changes (s : State) (p n : Nat) (m : List Byte) : ChangesOnly [.que, .host, .sec, .out] s (sendMb2 s p n m) := by
  unfold sendMb2
  dsimp only
  refine ChangesOnly.trans ?_ ((qPush_changes _ _ _ _).mono (by decide))
  split
  · exact ChangesOnly.refl _ s
  · exact (changes_sec s _).mono (by decide)

/-- Copies of a notification on sessions. -/
theorem noteCopies_changes (l : List (Nat × Nat)) (s : State) (b : List Byte) : ChangesOnly [.que, .host, .sec, .out] s (noteCopies l s b) := by
  induction l generalizing s with
  | nil => exact ChangesOnly.refl _ s
  | cons n l ih => exact (sendMb2_changes s n.2 n.1 _).trans (ih _)

/-- A notification on its ways other than Q28. -/
theorem noteOut_changes (s : State) (b : List Byte) : ChangesOnly [.que, .host, .stk, .sec, .out] s (noteOut s b) := by
  unfold noteOut
  dsimp only
  have h := (noteCopies_changes (copySessions s) s b).mono (qs := [.que, .host, .stk, .sec, .out]) (by decide)
  split
  · exact h.trans ((casSend_changes _ 0 1 0 _).mono (by decide))
  · exact h

/-- The packet of a notification. -/
theorem notifyBytes_changes (s : State) (b : List Byte) : ChangesOnly [.que, .host, .stk, .sec, .out] s (notifyBytes s b) := by
  unfold notifyBytes
  split
  · exact (((qPut_changes s 28 _).mono (by decide)).trans ((noteOut_changes _ b).mono (by decide))).trans
      ((changes_que _ _).mono (by decide))
  · exact ((qCommit_changes s 28 false b).mono (by decide)).trans ((noteOut_changes _ b).mono (by decide))

/-- A notification of a time. -/
theorem notifyAt_changes (s : State) (c : Nat) (t : Time) (b : List Byte) :
    ChangesOnly [.que, .host, .stk, .sec, .out] s (notifyAt s c t b) :=
  ((changes_que s _).mono (by decide)).trans (notifyBytes_changes _ _)

/-- A notification. -/
theorem notify_changes (s : State) (c : Nat) (b : List Byte) : ChangesOnly [.que, .host, .stk, .sec, .out] s (notify s c b) :=
  notifyAt_changes s c _ b

/-- An event written. -/
theorem writeEvent_changes (s : State) (l c v f a b d : Nat) : ChangesOnly [.log] s (writeEvent s l c v f a b d) := by
  unfold writeEvent
  dsimp only
  repeat' split
  · exact writeSlot_changes s l _ _
  · exact (writeSlot_changes s l _ _).trans (logCount_changes _ l 1 1)
  · exact (repeatSlot_changes s l 4095).trans (logCount_changes _ l 1 1)

/-- An event recorded. -/
theorem recordEvent_changes (s : State) (l c v a b d : Nat) : ChangesOnly [.log] s (recordEvent s l c v a b d) := by
  unfold recordEvent
  dsimp only
  generalize (if slotAt s l 4095 ≠ [] then 4095 else logUsed s l - 1) = k
  split
  · exact repeatSlot_changes s l k
  split
  · exact (repeatSlot_changes s l 4095).trans (logCount_changes _ l 1 1)
  split
  · split
    · exact (putBucket_changes s c _).trans (logCount_changes _ l 0 1)
    · exact (putBucket_changes s c _).trans (writeEvent_changes _ l c v 0 a b d)
  · exact writeEvent_changes s l c v 0 a b d

/-- An event raised: only the recorder changes. -/
theorem logEv_changes (s : State) (c a b d : Nat) : ChangesOnly [.log] s (logEv s c a b d) := by
  unfold logEv
  split
  · exact ChangesOnly.refl _ s
  · dsimp only
    split
    · exact changes_log s _
    · split
      · split
        · exact changes_log s _
        · exact logCount_changes s _ 1 1
      · exact recordEvent_changes s _ c _ _ _ _

/-- An event logged on entry into its condition. -/
theorem logEntry_changes (s : State) (b : Bool) (c o x y z : Nat) : ChangesOnly [.log] s (logEntry s b c o x y z) := by
  unfold logEntry
  repeat' split
  · exact ChangesOnly.refl _ s
  · exact (setCond_changes s c o true).trans (logEv_changes _ c x y z)
  · exact setCond_changes s c o false

/-- A guarantee broken. -/
theorem breakG_changes (s : State) (l c o n : Nat) : ChangesOnly [.que, .host, .stk, .eng, .sec, .log, .out] s (breakG s l c o n) := by
  unfold breakG
  split
  · exact ChangesOnly.refl _ s
  · exact (((changes_eng s _).mono (by decide)).trans ((logEv_changes _ _ _ _ _).mono (by decide))).trans
      ((notify_changes _ _ _).mono (by decide))

/-- A device state entered. -/
theorem toState_changes (s : State) (x : DevState) : ChangesOnly [.dev, .que, .host, .stk, .sec, .out] s (toState s x) := by
  unfold toState
  split
  · exact ChangesOnly.refl _ s
  · exact (((changes_dev s _).mono (by decide)).trans ((notify_changes _ _ _).mono (by decide))).trans
      ((raise_changes _ _).mono (by decide))

/-- The marks of REWIND items held. -/
theorem holdRewinds_changes (s : State) (x : AccTxn) : ChangesOnly [.con] s (holdRewinds s x) := by
  unfold holdRewinds
  refine ChangesOnly.foldl _ (fun a i => ?_) _ s
  dsimp only
  repeat' split
  · exact ChangesOnly.refl _ a
  · exact changes_con a _
  · exact changes_con a _

/-- A transaction put among the accepted ones. -/
theorem enlist_changes (s : State) (x : AccTxn) : ChangesOnly [.con, .ox] s (enlist s x) :=
  ((changes_ox s _).mono (by decide)).trans ((holdRewinds_changes _ x).mono (by decide))

/-- The notifications of discarded and expired transactions. -/
theorem noteDiscards_changes (s : State) : ChangesOnly [.que, .host, .stk, .sec, .out] s (noteDiscards s) := by
  unfold noteDiscards
  exact (ChangesOnly.foldl _ (fun a _ => notify_changes a _ _) _ s).trans (ChangesOnly.foldl _ (fun a _ => notify_changes a _ _) _ _)

/-- Transactions dropped. -/
theorem dropTxns_changes (s : State) : ChangesOnly [.frm, .con, .ox, .stk] s (dropTxns s) := by
  intro p hp
  cases p <;> first | rfl | exact absurd (by decide) hp

/-- SAFE entered. -/
theorem enterSafe_changes (s : State) (c : Nat) :
    ChangesOnly [.dev, .frm, .con, .wired, .que, .host, .ox, .stk, .red, .sec, .log, .out] s (enterSafe s c) := by
  unfold enterSafe
  refine ChangesOnly.trans ?_ ((logEv_changes _ _ _ _ _).mono (by decide))
  refine ChangesOnly.trans ?_ ((toState_changes _ _).mono (by decide))
  refine ChangesOnly.trans (t := stopEdges (dropTxns (noteDiscards s))) ?_ ?_
  · exact (((noteDiscards_changes s).mono (by decide)).trans ((dropTxns_changes _).mono (by decide))).trans
      ((stopEdges_changes _).mono (by decide))
  · intro p hp
    cases p <;> first | rfl | exact absurd (by decide) hp

/-- A request's packet taken from its queue. -/
theorem takeRequest_changes (s : State) (p : Path) (b : List Byte) : ChangesOnly [.que] s (takeRequest s p b) := by
  have h (q : Nat) : ChangesOnly [.que] s (takePacket s q b) := ChangesOnly.ite (qPop_changes s q) (ChangesOnly.refl _ s)
  unfold takeRequest
  split
  · exact h 24
  · exact h 26
  · exact h 31
  · exact ChangesOnly.refl _ s

/-- A response posted on its path. -/
theorem sendResp_changes (s : State) (p : Path) (m : List Byte) : ChangesOnly [.que, .host, .stk, .sec, .out] s (sendResp s p m) := by
  unfold sendResp
  split
  · exact (qPush_changes s _ _ _).mono (by decide)
  · exact (qPush_changes s _ _ _).mono (by decide)
  · exact (sendMb2_changes s _ _ _).mono (by decide)
  · exact (casSend_changes s _ _ _ _).mono (by decide)
  · exact (emit_changes s _).mono (by decide)

/-- The dedupe entry of a response. -/
theorem setEntry_changes (s : State) (op : Nat) (r : Req) (m : List Byte) : ChangesOnly [.ox] s (setEntry s op r m) := by
  unfold setEntry
  split
  · exact ChangesOnly.refl _ s
  · exact changes_ox s _

/-- A request answered. -/
theorem finish_changes (s : State) (op : Nat) (r : Req) (m : List Byte) :
    ChangesOnly [.que, .host, .ox, .stk, .sec, .out] s (finish s op r m) :=
  ((sendResp_changes s r.path _).mono (by decide)).trans ((setEntry_changes _ op r m).mono (by decide))

/-- A MIRROR message. -/
theorem mirSend_changes (s : State) (k : Nat) (b : List Byte) : ChangesOnly [.stk, .out] s (mirSend s k b) := by
  unfold mirSend
  dsimp only
  repeat' split
  all_goals first | exact ChangesOnly.refl _ s | exact casSend_changes s _ 3 _ _

/-- A transaction accepted. -/
theorem accept_changes (s : State) (x : AccTxn) : ChangesOnly [.con, .ox, .stk, .out] s (accept s x) := by
  have h (u : State) : ChangesOnly [.stk, .out] u (sendJournal u x) := ChangesOnly.ite (mirSend_changes u 5 _) (ChangesOnly.refl _ u)
  exact ((enlist_changes s x).mono (by decide)).trans ((h _).mono (by decide))

/-- A relay message passed on. -/
theorem passOn_changes (s : State) (p k a d : Nat) (h : RelayHdr) (b : List Byte) :
    ChangesOnly [.stk, .out] s (passOn s p k a d h b) :=
  ChangesOnly.ite (casQueue_changes s p 1 _) (ChangesOnly.refl _ s)

/-- UPD_STATE moved. -/
theorem toUpd_changes (s : State) (n : Nat) (m : List Byte) : ChangesOnly [.upd, .log] s (toUpd s n m) := by
  unfold toUpd
  split
  · exact ChangesOnly.refl _ s
  · exact ((changes_upd s _).mono (by decide)).trans ((logEv_changes _ _ _ _ _).mono (by decide))

/-- A fallback record. -/
theorem fallback_changes (s : State) (c : Nat) : ChangesOnly [.upd, .log] s (fallback s c) := by
  have h (a b d e n : Nat) (m : List Byte) : ChangesOnly [.upd, .log] s (toUpd (logEv s a b d e) n m) :=
    ((logEv_changes s a b d e).mono (by decide)).trans (toUpd_changes _ n m)
  exact ((h _ _ _ _ _ _).trans ((changes_upd _ _).mono (by decide))).trans ((changes_upd _ _).mono (by decide))

end Sys2Proof.Machine
end

