-- ==== Sys2Proof/Laws/Serve.lean ====
section
/-! SUPPORT. What serving a request comes to once it is heard: its own rules run on the block in service, and their answer is posted. -/

namespace Sys2Proof.Machine

/-- The rules that run of a request heard on this node are its handler's. -/
theorem runHere_heard (op : Nat) (handle : Caller → Req → State → Answer × State) (r : Req) (s : State) (h : Heard op r s) :
    runHere op handle r (inService op r s) =
      let a := handle (by_ op r s) r (inService op r s)
      let wide : Bool := match answerBytes a.2 op r a.1 with
        | some m => !respFits (inService op r s) r.path m
        | none => false
      match a.1 with
      | .fail e => (.fail e, a.2)
      | x => if wide then (failWith .eSize, inService op r s) else (x, a.2) := by
  obtain ⟨_, _, _, he, hz, hr, hw⟩ := h
  unfold runHere by_
  simp only [he, hw]
  rw [if_neg ?hnc]
  case hnc =>
    intro hc
    rcases hc with hc | hc
    · exact absurd (hz.symm.trans hc) (by decide)
    · rw [hr] at hc
      exact absurd hc (by decide)
  all_goals rfl

/-- A request that is heard is served by its rules and the posting of their answer. -/
theorem serve_heard (op : Nat) (handle : Caller → Req → State → Answer × State) (r : Req) (s : State) (h : Heard op r s) :
    serve op handle r s =
      match answerBytes (runHere op handle r (inService op r s)).2 op r (runHere op handle r (inService op r s)).1 with
      | some m => finish (runHere op handle r (inService op r s)).2 op r m
      | none => (runHere op handle r (inService op r s)).2 := by
  obtain ⟨ha, hb, hs, _⟩ := h
  unfold serve
  simp only [ha, hb, hs]
  rfl

/-- A handler that answers a heard request with a status and a payload that fits. -/
theorem serve_done (op : Nat) (handle : Caller → Req → State → Answer × State) (r : Req) (s u : State) (st : Status) (txn : Nat)
    (p : List Byte) (h : Heard op r s) (ha : handle (by_ op r s) r (inService op r s) = (.done st txn p, u))
    (hf : Fits op r s u st txn p) : serve op handle r s = answered op r u st txn p := by
  have hf' : respFits (inService op r s) r.path (respBytes u op r st txn p) = true := hf
  rw [serve_heard op handle r s h, runHere_heard op handle r s h, ha]
  simp [answerBytes, hf', answered]

/-- A handler that refuses a heard request: the error response is posted. -/
theorem serve_fail (op : Nat) (handle : Caller → Req → State → Answer × State) (r : Req) (s u : State) (e : Err) (h : Heard op r s)
    (ha : handle (by_ op r s) r (inService op r s) = (.fail e, u)) :
    serve op handle r s = finish u op r (respBytes u op r e.status 0 (errBytes u e)) := by
  rw [serve_heard op handle r s h, runHere_heard op handle r s h, ha]
  simp [answerBytes]

/-- A handler that leaves a heard request waiting for others. -/
theorem serve_wait (op : Nat) (handle : Caller → Req → State → Answer × State) (r : Req) (s u : State) (h : Heard op r s)
    (ha : handle (by_ op r s) r (inService op r s) = (.wait, u)) : serve op handle r s = u := by
  rw [serve_heard op handle r s h, runHere_heard op handle r s h, ha]
  simp [answerBytes]

/-- Serving a request changes at most what its rules change and what receiving and answering it changes. -/
theorem serve_changes (op : Nat) (handle : Caller → Req → State → Answer × State) (ps : List Part)
    (hd : ∀ p ∈ ([.tim, .que, .host, .ox, .stk, .sec, .out] : List Part), p ∈ ps)
    (hh : ∀ r s, ChangesOnly ps s (runHere op handle r s).2) (r : Req) (s : State) : ChangesOnly ps s (serve op handle r s) := by
  have up {qs : List Part} {a b : State} (h : ChangesOnly qs a b)
      (hq : ∀ p ∈ qs, p ∈ ([.tim, .que, .host, .ox, .stk, .sec, .out] : List Part)) : ChangesOnly ps a b := (h.mono hq).mono hd
  have h1 := up (advance_changes s r.t) (by decide)
  have h2 := h1.trans (up (takeRequest_changes _ r.path (reqBytes op r)) (by decide))
  have h3 := h2.trans (up (mbCount_changes _ r.path 0) (by decide))
  unfold serve
  dsimp only
  split
  · exact h1
  · split
    · exact (h3.trans (up (mbCount_changes _ r.path 1) (by decide))).trans (up (sendResp_changes _ r.path _) (by decide))
    · exact (h3.trans (up (mbCount_changes _ r.path 2) (by decide))).trans (up (sendResp_changes _ r.path _) (by decide))
    · generalize mbCount (takeRequest (advance s r.t) r.path (reqBytes op r)) r.path 0 = x at h3 ⊢
      have h4 := h3.trans (ChangesOnly.ite (c := seenOf x op r = .again) (up (mbCount_changes x r.path 1) (by decide))
        (ChangesOnly.refl ps x))
      generalize (if seenOf x op r = .again then mbCount x r.path 1 else x) = y at h4 ⊢
      have h5 (o : Oxold) : ChangesOnly ps s (runHere op handle r { y with ox := o }).2 :=
        (h4.trans (up (changes_ox y o) (by decide))).trans (hh r _)
      split
      · exact (h5 _).trans (up (finish_changes _ op r _) (by decide))
      · exact h5 _

end Sys2Proof.Machine
end

