-- ==== Sys2Proof/WellFormed.lean ====
section
/-! DEFINITION. Which commands could be sent: object numbers that exist, fields within their width, lists of the lengths that the objects
have. The meanings are defined for every operand; of an ill-formed command no hardware ever speaks. -/

namespace Sys2Proof

/-- A mailbox path that exists: relayed requests come with a tenant and a role of Table 18-9. -/
def Path.wf : Path → Bool
  | .mb2 n p => n < 2 ^ 32 && p < 2
  | .mb3 orig tenant role n id => orig < 4 && tenant < 8 && 1 ≤ role && role ≤ 4 && n < 2 ^ 32 && id < 65536
  | _ => true

/-- A request packet is at most 72 KiB, header included (13.1), and its payload stands in it. -/
def Req.wf (r : Req) : Bool := r.path.wf && r.body.length ≤ 73704

/-- What a dawn measures: a margin of 16 bits, the eight rails, and the lines of 22.2. -/
def DawnIn.wf (i : DawnIn) : Bool := i.margin < 65536 && i.rails.length == 8 && i.fail.all fun x => x.1 ≤ 7

/-- What a frame measures: a margin of 16 bits, and eight work terms, the control domain and seven static terms (17 R386). -/
def EdgeIn.wf (i : EdgeIn) : Bool := i.margin < 65536 && i.energy.length == 16

/-- An Ethernet frame: its size on the wire is that of its bytes and the FCS. -/
def EthFrame.wf (f : EthFrame) : Bool := f.wireLen == f.bytes.length + 4

/-- A radio frame: the longest PSDU of SUN FSK (10 R255), and RSSI and LQI of one byte (Table 10-8). -/
def RadioFrame.wf (f : RadioFrame) : Bool := f.rssi < 256 && f.lqi < 256 && f.psdu.length ≤ 2047

/-- A content entry has a header of 64 bytes (Table 4-3). -/
def EntryIn.wf (e : EntryIn) : Bool := e.header.length == 64

/-- A relay header: the widths of Table 15-6. -/
def RelayHdr.wf (h : RelayHdr) : Bool :=
  h.path < 256 && h.tenant < 256 && h.role < 256 && h.session < 2 ^ 32 && h.relayId < 65536
    && h.txnId < 65536 && h.status < 256 && h.node < 64

/-- Every command's own operands. -/
def Instr.wf : Instr → Bool
  | .vbatRise => true
  | .vbatLoss => true
  | .mainRailsInRange b _ _ => b < 4
  | .mainRailLoss _ => true
  | .resetNAssert _ => true
  | .resetNRelease b _ _ => b < 4
  | .dawnEnd i => i.wf
  | .hostLoadTimeout => true
  | .duskEntry => true
  | .duskComplete _ => true
  | .wakeEvent n _ _ _ => n < 4
  | .dieTempSample xs => xs != []
  | .overtemp => true
  | .railMeasure xs => xs.length == 8
  | .tsnsRead xs => xs.length == 8
  | .frameEdge i => i.wf
  | .frameLatch => true
  | .computeComplete _ => true
  | .computeDeadline => true
  | .composerBand => true
  | .genlockPulse _ => true
  | .genlockPulseMissing => true
  | .genlockLost => true
  | .wclkPulse _ => true
  | .ltcWord _ _ _ => true
  | .ltcWordMissing _ => true
  | .ltcLost => true
  | .ptpOffsetSample _ _ n _ => 1 ≤ n && n ≤ 4
  | .syncSampleTimeout _ => true
  | .holdoverExpiry _ => true
  | .rtcUpdate _ => true
  | .timRtcSet r => r.wf
  | .txTimestampCapture p g _ _ => p < 2 && g < 65536
  | .txTimestampPop p => p < 2
  | .toutPulse n => n < 8
  | .timAlarmFire n => n < 4
  | .tinCapture n _ _ => n < 8
  | .dmaTailWrite _ => true
  | .dmaDescriptorRead d => d.length == 64
  | .dmaEntryWritten _ _ m d => m.length ≤ 2 ^ 20 && d.length ≤ 2 ^ 30
  | .ringSpaceFreed r => r < 2
  | .sacnClose => true
  | .layerSourceLost l => l < 64
  | .contentStreamReceived _ n _ e => n < 32 && e.wf
  | .bar2RingWrite _ bs => bs != []
  | .ringAWpWrite _ => true
  | .ringACtrlWrite _ => true
  | .captureRelWrite _ => true
  | .dramGrant qs => qs != []
  | .scheduleFire n => n < 1024
  | .solarCompute _ => true
  | .fixSceneRecall r => r.wf
  | .fixSceneRelease r => r.wf
  | .fixFaultClear r => r.wf
  | .fixFloorSet r => r.wf
  | .fixEnableSet r => r.wf
  | .strandTxStart n => n < 64
  | .dmxPacketStart p => p < 16
  | .rdmTransactionStart p _ => p < 16
  | .rdmResponse p _ y _ pd => p < 16 && y < 256 && pd.length ≤ 231
  | .rdmResponseTimeout p _ => p < 16
  | .dmxRdmReq r => r.wf
  | .dmxRdmDisc r => r.wf
  | .rdmDiscDone p _ us => p < 16 && us.all fun u => u < 2 ^ 48
  | .rdmTelemetryPoll n => n < 1024
  | .daliFrameSend b => b < 8
  | .daliCollision b => b < 8
  | .daliBackwardFrame b v _ => b < 8 && v < 256
  | .daliPoll b a => b < 8 && a < 64
  | .daliReplyTimeout b _ => b < 8
  | .daliBusDown b => b < 8
  | .daliBusRestored b => b < 8
  | .dalCmd r => r.wf
  | .dalAddressRun r => r.wf
  | .dalAddressDone b _ xs => b < 8 && xs.all fun x => x.1 < 64 && x.2 < 2 ^ 24
  | .sacnDataPacket p => p < 2
  | .sacnQuietStart p => p < 2
  | .sacnSyncPacket p => p < 2
  | .rasterLineStart p _ => p < 2
  | .rasterPhaseStep p _ => p < 2
  | .rasterFetchAdvance p => p < 2
  | .pwmPeriodStart c => c < 48
  | .pdmSlot c => c < 48
  | .matrixRowSlot => true
  | .msyncEdge _ => true
  | .msyncLost => true
  | .snsSample p _ _ _ => p < 560
  | .diagStaleExpiry p => p < 560
  | .glintProbe p => p < 48
  | .radioCellPrepare p _ => p < 4
  | .radioSlotStart p => p < 4
  | .radioTxtrig p => p < 4
  | .radioSfdStamp p _ => p < 4
  | .radioRxFetch p _ => p < 4
  | .radioFrameReceived p f => p < 4 && f.wf
  | .radioAckReceived p _ c => p < 4 && -2048 ≤ c && c < 2048
  | .radioAckTimeout p => p < 4
  | .radioGuardEval p n _ => p < 4 && n < 4096
  | .commandFrameBuild p => p < 4
  | .radioCivicDeferred p _ => p < 4
  | .radTx r => r.wf
  | .ethRxFrame p _ f => p < 2 && f.wf
  | .pauseExpiry p => p < 2
  | .pauseWatchdog p => p < 2
  | .pauseIgnoreEnd p => p < 2
  | .pauseRefresh p => p < 2
  | .ethTxFrameStart p _ => p < 2
  | .ethTxComplete p _ => p < 2
  | .ethLinkChange p _ => p < 2
  | .headWrite q _ => q < 32
  | .qregFlush q _ => q < 32
  | .queFlush r => r.wf
  | .queueFlushDone q => q < 32
  | .pushLenWrite q _ => q < 32
  | .queuePushResume q => q < 32
  | .qspiRead o n => o < 2 ^ 24 && n ≤ 65536
  | .qspiWrite o bs => o < 2 ^ 24 && bs.length ≤ 65536
  | .qspiStatus => true
  | .timeSecRead _ _ => true
  | .intStatusWrite _ => true
  | .intMaskWrite _ => true
  | .dmaBaseWrite _ => true
  | .dmaSizeWrite _ => true
  | .regWrite o bs => o < 2 ^ 24 && bs != []
  | .mbMalformed p bs => p.wf && bs.length < 24
  | .consoleFrameError bs => bs.length ≤ 73728
  | .get r => r.wf
  | .set r => r.wf
  | .snapshotGet r => r.wf
  | .tableWrite r => r.wf
  | .tableRead r => r.wf
  | .txnOpen r => r.wf
  | .txnCommitAt r => r.wf
  | .txnAbort r => r.wf
  | .streamBind r => r.wf
  | .rewind r => r.wf
  | .dedupeExpiry _ => true
  | .txnIdleExpiry _ => true
  | .cascadeLaneLock p l _ => p < 2 && l < 8
  | .cascadeLockLoss p l => p < 2 && l < 8
  | .cascadeAlignSlot p xs => p < 2 && xs.length == 8
  | .cascadeLinkSlot p m _ r d => p < 2 && 1 ≤ m && m ≤ 2 && r ≤ 2 && d ≤ 7
  | .stkRoleDecide => true
  | .enumReceived i _ n v => i < 256 && n ≤ 32 && v < 65536
  | .reportReceived x => x.index < 256 && x.found.all fun m => m.node < 32 && m.updState < 9 && m.hash.length == 32
  | .syncSend _ => true
  | .probeSend _ => true
  | .syncReceived _ _ _ => true
  | .probeReceived _ q _ _ => q < 65536
  | .echoReceived p _ _ q _ _ => p < 2 && q < 65536
  | .edgeReceived k _ _ _ => k < 2 ^ 64
  | .edgeHoldover => true
  | .slipReceived p k n => p < 2 && k < 2 ^ 64 && n < 32
  | .commitReceived i n j => i < 65536 && n < 64 && j < 2 ^ 64
  | .creditReceived p c q n => p < 2 && 1 ≤ c && c ≤ 3 && q < 65536 && n < 65536
  | .cmdRetransmit p c => p < 2 && (c == 1 || c == 3)
  | .relayRequest h _ r => h.wf && r.wf
  | .relayResponse h _ => h.wf
  | .relayStage h _ _ xs => h.wf && xs.all fun x => x.2.wf
  | .relayVerdict h _ _ => h.wf
  | .relayDiscard h => h.wf
  | .relayRole h r _ => h.wf && 1 ≤ r && r ≤ 2
  | .relayNotify h bs => h.wf && 24 ≤ bs.length
  | .heartbeatReceived _ k _ _ => k < 2 ^ 64
  | .mirrorAckReceived _ f d _ => f ≤ 3 && d ≤ 7
  | .leaseTake _ => true
  | .peerActChange _ _ => true
  | .helloReceived d n _ v l => d < 2 ^ 128 && n ≤ 32 && v < 65536 && l < 65536
  | .snapshotReceived _ _ _ xs => xs.all fun x => x.2.wf
  | .journalReceived _ _ i xs => i < 65536 && xs.all fun x => x.2.wf
  | .inputReceived _ s h rs ts fs => s < 256 && h ≤ 8 && rs.length == 4 && ts.length == 8
      && fs.all fun x => x.1 < 131072 && x.2.2 < 65536
  | .resultReceived _ xs => xs.all fun x => x.1 < 65536 && x.2 < 2 ^ 32
  | .continuityReceived _ sq cs nb cm => (sq.all fun x => x.1 < 32768 && x.2 < 256) && (cs.all fun x => x.1 < 512 && x.2 < 2 ^ 32)
      && (nb.all fun x => x.1 < 4 && x.2.1 < 4096) && cm.all fun x => x.1 < 4 && x.2.1 < 4096 && x.2.2.2.2.length ≤ 4
  | .redSwitch r => r.wf
  | .redUnfitClear r => r.wf
  | .redTestDue _ => true
  | .energyRetrim d c _ => d < 7 && c < 256
  | .engHistoryMinute _ => true
  | .keyUpdateInstall r => r.wf
  | .keyUpdateInvalidate r => r.wf
  | .keyUpdateProvision r => r.wf
  | .keyUpdateTakeOwnership r => r.wf
  | .keyUpdateReturn r => r.wf
  | .keyUpdateReprovision r => r.wf
  | .keyUpdateRetire r => r.wf
  | .attest r => r.wf
  | .tamperEvent i _ => i < 5
  | .selftestFailure n _ => n < 65536
  | .imageBlockManifest r => r.wf
  | .imageBlockData r => r.wf
  | .imageVerify r => r.wf
  | .imageArm r => r.wf
  | .imageDisarm r => r.wf
  | .imageConfirm r => r.wf
  | .selectorWriteReset => true
  | .confirmWindowExpiry _ => true
  | .logTokenAdd c => c < 65536
  | .optimeWrite => true
  | .logRead r => r.wf
  | .logClear r => r.wf
  | .logClearDone l _ => l < 8
  | .cursorSet r => r.wf
  | .windowRead r => r.wf
  | .diagStatus r => r.wf
  | .diagRestart r => r.wf
  | .diagDusk r => r.wf
  | .diagRegRead r => r.wf
  | .calPassStart => true
  | .calLineCalibrate _ xs => xs != [] && xs.length ≤ 4
  | .calStart r => r.wf
  | .threadWake n k _ w _ => n < 256 && k ≤ 5 && w.all fun x => x < 256
  | .threadBlock c _ => c < 4
  | .threadSlice c _ => c < 4
  | .threadExit c _ => c < 4
  | .ptpMessageInterval p _ _ => p < 2
  | .pcieLinkChange _ _ => true
  | .unknownOpcodeRequest o r => o < 65536 && r.wf
  | .daliDeviceFrame b => b < 8

end Sys2Proof
end

