-- ==== Sys2Proof/Tests/Slice0.lean ====
section
/-! SUPPORT. Tests: for every statement with hypotheses and each of its clauses, a state and operands that meet them; for each check of
well-formedness, a command that it refuses; and functions against values from their standards and from the worked examples of spec/. -/

open Sys2Proof Sys2Proof.Machine
namespace Sys2Proof.Tests

set_option Elab.async false
set_option linter.unusedVariables false

/-- The block as reset leaves it, in a device state. -/
def inState (d : DevState) : State := { State.reset with dev := { State.reset.dev with state := d } }

/-- The block in RUN between edge 100 at 10 s and the next edge. -/
def running : State := { inState .run with
  tim := { State.reset.tim with now := 10 * sec, up := 10 * sec }
  frm := { State.reset.frm with running := true, begun := true, num := 100, last := 10 * sec, next := 10 * sec + period Store.empty } }

/-- A layout of the pending queue: one command of each of two kinds. -/
def queued : State := { State.reset with pending := [.vbatRise, .duskEntry] }

/-- The block without its main rails, in a device state. -/
def unpowered (d : DevState) : State := { State.reset with dev := { State.reset.dev with state := d, rails := false } }

/-- STANDBY after a dusk, with WAKE0 enabled on both edges and a DEBOUNCE of 10 ms. -/
def asleep : State := { inState .standby with
  dev := { (inState .standby).dev with duskDone := true }
  frm := { State.reset.frm with cur := Store.empty.setRow diaWake 0 (3 + 10 * 256) } }

/-- What a dawn that passes every step supplies. -/
def fairDawn : DawnIn :=
  { rtcTicks := 0, optimeMs := 0, fail := none, margin := 300, badLines := [], rails := [], dieTemp := 400, calCoef := [] }

/-- A record with values at byte offsets. -/
def record (fs : List (Nat × Nat)) : Nat := (fs.map fun x => x.2 * 2 ^ (8 * x.1)).sum

/-- The SHA-256 of no bytes (FIPS 180-4). -/
def hashOfNothing : List Byte := beBytes 32 0xE3B0C44298FC1C149AFBF4C8996FB92427AE41E4649B934CA495991B7852B855

/-- A manifest of one segment without bytes, signed with P-256 by the private key 1 and the nonce 2; the signature was computed by hand. -/
def goodManifest : List Byte :=
  leBytes 144 (record [(0, 0xC1F0), (2, 1), (3, 1), (4, 0x7200), (22, 1), (24, 65536), (64, 1), (80, 2), (96, 3), (112, 4), (128, 5)])
    ++ hashOfNothing ++ [4, 1] ++ List.replicate 6 0
    ++ beBytes 32 0x7CF27B188D034F7E8A52380304B51AC3C08969E277F21B35A60B48FC47669978
    ++ beBytes 32 0xE625D3E9B376E2E028F16FF5AC501F1B83D6C372EC24EA22F715DAC8E62413C8 ++ List.replicate 32 0

/-- The P-256 public key of the private key 1: the base point (FIPS 186-4). -/
def basePoint : List Byte :=
  [4] ++ beBytes 32 0x6B17D1F2E12C4247F8BCE6E563A440F277037D812DEB33A0F4A13945D898C296
    ++ beBytes 32 0x4FE342E2FE1A7F9B8EE7EB4A7C0F9E162BCE33576B315ECECBB6406837BF51F5

/-- The block with a signed set 0 and the key that signed it in slot 4. -/
def bootable : State := { State.reset with
  sec := { State.reset.sec with slots := SMap.put KeySlot.empty State.reset.sec.slots 4 { KeySlot.empty with state := 1, ty := 4, key := basePoint } }
  upd := { State.reset.upd with sets := SMap.put ImageSet.empty State.reset.upd.sets 0 { ImageSet.empty with manifest := goodManifest } } }

/-- The DMA engine with two descriptors to read. -/
def dmaBusy : State := { running with host := { running.host with dmaSize := 16, dmaTail := 3, dmaHead := 1 } }

/-- The ring A mode in which the host writes entries through BAR2. -/
def bar2On : State := { running with host := { running.host with bar2Mode := true } }

/-- The block with records of tables in force. -/
def withRows (rs : List (TableSpec × Nat × Nat)) (s : State) : State :=
  { s with frm := { s.frm with cur := rs.foldl (fun c x => c.setRow x.1 x.2.1 x.2.2) s.frm.cur,
                               shownCfg := rs.foldl (fun c x => c.setRow x.1 x.2.1 x.2.2) s.frm.shownCfg }
           drv := { s.drv with cfg := rs.foldl (fun c x => c.setRow x.1 x.2.1 x.2.2) s.drv.cfg } }

/-- The block with parameter values in force. -/
def withVals (vs : List (ParamRow × Nat × Nat)) (s : State) : State :=
  { s with frm := { s.frm with cur := vs.foldl (fun c x => c.setVal x.1 x.2.1 x.2.2) s.frm.cur,
                               shownCfg := vs.foldl (fun c x => c.setVal x.1 x.2.1 x.2.2) s.frm.shownCfg }
           drv := { s.drv with cfg := vs.foldl (fun c x => c.setVal x.1 x.2.1 x.2.2) s.drv.cfg } }

/-- The header of a C64 entry of one pixel for layer 3. -/
def header : List Byte := leBytes 64 (record [(0, 1), (1, 3), (2, 8), (8, 10), (24, 1), (26, 1), (28, 8), (32, 128), (62, 0xE196)])

/-- An entry that a ring holds. -/
def entryOf (len : Nat) : Entry :=
  { seq := 0, off := 0, len := len, layer := 3, pt := 0, width := 1, height := 1, hint := false, map := [], pix := [], done := none,
    dead := false, dma := none }

/-- The block with rings of one MiB. -/
def ringed : State := withVals [(cnvRingAMib, 0, 1), (cnvRingBMib, 0, 1)] running

/-- The block in RUN with one entry read for writing into ring A. -/
def oneToWrite : State := { ringed with host := { ringed.host with dmaWork := [header] } }

/-- Ring A in the BAR2 mode with one entry's bytes written at its start. -/
def bar2Full : State := { ringed with
  host := { ringed.host with bar2Mode := true }
  con := { ringed.con with bar2 := (List.range 64).foldl (fun m k => SMap.put 0 m k (header.getD k 0)) [] } }

/-- The block with a queue in a state. -/
def withQueue (q : Nat) (x : Queue) (s : State) : State := qPut s q x

/-- The block in RUN with a layer in a state. -/
def withLayer (i : Nat) (x : Layer) : State := { running with con := { running.con with layers := SMap.put Layer.empty [] i x } }

/-- A packet of 24 zero bytes. -/
def pkt : List Byte := List.replicate 24 0

/-- Layer 3 bound to stream 2 of the stack. -/
def bound : State := { ringed with frm := { ringed.frm with cur := { ringed.frm.cur with binds := SMap.put [] [] 3 [3, 0, 2, 0, 0, 0, 0, 0] } } }

/-- Raster port 0 scanning 4 by 8 pixels. -/
def scanning : State :=
  rasPut (withRows [(rasPort, 0, record [(0, 1), (1, 1), (3, 7), (4, 4), (6, 8), (8, 22), (12, 1000)])] running) 0
    { RasterState.empty with scanning := true }

/-- The block in RUN with its schedule running from 9 s. -/
def scheduling : State := { running with src := { running.src with schedRun := true, schedUpTo := 9 * sec } }

/-- The block in RUN where UTC is device time. -/
def atUtc : State := withVals [(devUtcTai, 0, 0)] running

/-- The block with threads: number, STATE and core. -/
def withThreads (xs : List (Nat × Nat × Nat)) (s : State) : State :=
  { s with sch := { s.sch with threads := xs.foldl (fun m x => SMap.put Thread.unused m x.1 { Thread.unused with state := x.2.1, core := x.2.2 }) [] } }

/-- Four threads that run, one on each core. -/
def fourRun : State := withThreads [(0, 2, 0), (1, 2, 1), (2, 2, 2), (3, 2, 3)] running

/-- A clear of log 2 in progress. -/
def clear2 : Clearing := { path := 0, tenant := 0, role := 0, used := 4, req := none, held := [] }

/-- The block in RUN while log 2 is cleared. -/
def clearing : State := { running with log := { running.log with clearing := SMap.put none [] 2 (some clear2) } }

/-- The discipline in a state, with a sync interval of 1/8 s since 10 s. -/
def disciplined (d : Disc) : State :=
  { running with tim := { running.tim with disc := d, sampleAt := 10 * sec, interval := 16000, holdAt := 10 * sec } }

/-- The descriptor of a frame that asks for a timestamp entry with tag 0x0102. -/
def stamped : List Byte := [2, 1, 1, 0, 0, 0, 0, 0]

/-- Port 1 sending that frame. -/
def sendingTs : State := ethPut running 1 { EthState.empty with sending := some (4, stamped, 9 * sec, false) }

/-- The block in RUN under a reference source, with the lock loop in a state. -/
def locking (src : Nat) (l : LockLoop) : State :=
  withVals [(frmSource, 0, src)] { running with frm := { running.frm with lock := l } }

/-- The lock loop at rest. -/
def loop0 : LockLoop := State.reset.frm.lock

/-- LTC of 25 frames a second, its last word at 10 s. -/
def ltc0 : Ltc := { State.reset.frm.ltc with start := some (10 * sec), period := sec / 25 }

/-- The block in RUN with every spare idle and a line state for the rest. -/
def spares : State := { running with cal := { running.cal with
  lines := (List.range 9).foldl (fun m g => SMap.put Line.inService m (g * 9 + 8) { Line.inService with state := 1 }) [] } }

/-- A frame in progress. -/
def frame (k : Nat) (st : FrameStage) : Frame :=
  { num := k, cfg := Store.empty, stage := st, latchAt := 9 * sec, txns := [], layers := [], sacn := [], scene := [], sched := [],
    temp := [], fault := [], tsns := [], tsnsBad := [], canvas := 0, lines := 0, pix := [], fetched := 0, ingress := 0,
    plan := { step := 0, record := 0, forecast := 0 }, out := FrameOut.empty }

/-- The block in RUN with frames 101 to 103 in progress. -/
def withFrames (a b c : FrameStage) : State :=
  { running with frm := { running.frm with frames := [frame 101 a, frame 102 b, frame 103 c] } }

/-- What an edge brings. -/
def fairEdge : EdgeIn := { margin := 300, energy := [] }

/-- The same under a stored DEV_RUN of 1. -/
def ranFrames (a : FrameStage) : State :=
  let f := { frame 101 a with cfg := Store.empty.setVal devRun 0 1 }
  { running with frm := { running.frm with frames := [f, frame 102 .computing, frame 103 .idle] } }

/-- A block changed, with three frames in progress. -/
def framed : State := withFrames .complete .computing .idle

/-- A frame with one canvas of two lines enabled. -/
def canvasFrame : Frame :=
  { frame 102 .computing with cfg := ((Store.empty.setVal cnvEnable 0 1).setVal cnvWidth 0 1).setVal cnvHeight 0 2 }

/-- The block in RUN with strand pin 63 sending. -/
def pinned : State := withRows [(spnPin, 63, record [(0, 1), (2, 1250), (8, 1000)])] running

/-- DMX port 15 with RDM, 24 data slots and no inter-slot time. -/
def dmxOn : State := withRows [(dmxPort, 15, record [(0, 2), (2, 25), (4, 92), (6, 12), (10, 1), (12, 1)])] running

/-- A port state on DMX port 15. -/
def dmx15 (x : DmxState) : State := dmxPut dmxOn 15 x

/-- A GET request of 9 bytes. -/
def getReq : Nat := record [(0, 15), (1, 0x20), (13, 7), (14, 9)]

/-- A transaction with that request after so many retries. -/
def getFlight (n : Nat) : RdmFlight := { poll := none, disc := false, req := getReq, tries := n }

/-- Fixture 5 on DMX port 15 with telemetry record 1023 for it. -/
def telemetry : State :=
  withRows [(dmxRdmTel, 1023, record [(0, 5), (12, 255)]), (fixTable, 5, record [(5, 1), (8, 4)]), (stdTable, 4, record [(0, 2), (2, 15)])] dmxOn

/-- DALI bus 7 on, with fixture 5 at short address 63. -/
def daliOn : State :=
  withRows [(dalBus, 7, record [(0, 1)]), (fixTable, 5, record [(5, 1), (8, 4), (10, 63)]), (stdTable, 4, record [(0, 4), (2, 7)])] running

/-- A bus state on DALI bus 7. -/
def dali7 (x : DaliState) : State := daliPut daliOn 7 x

/-- A poll of short address 63 that waits for its backward frame. -/
def daliAsked : State := dali7 { DaliState.empty with ask := some { addr := 63, kind := 0 } }

/-- Universe 1 with SYNC on port 1, whose link is up. -/
def sacnOn : State :=
  withVals [(sacSyncUniv, 0, 7)] (withRows [(sacUniv, 9, record [(0, 1), (2, 2), (3, 100), (4, 24), (6, 2), (7, 1)])]
    (ethPut running 1 { EthState.empty with up := true }))

/-- Port 1 with that universe still to send before edge 101. -/
def sacnDue : State := sacnPut sacnOn 1 { SacnPort.empty with todo := [9], count := 1, frame := 101 }

/-- Raster port 0 after its last line. -/
def scanned : State := rasPut scanning 0 { RasterState.empty with run := true, scanning := true, line := 8 }

/-- Both ports of a LOCKED_SPLIT after their last line. -/
def splitPorts : State :=
  let r := record [(0, 1), (1, 1), (3, 7), (4, 4), (6, 8), (8, 22), (12, 1000)]
  let x : RasterState := { RasterState.empty with run := true, scanning := true, line := 8 }
  rasPut (rasPut (withRows [(rasPort, 0, r + 1), (rasPort, 1, r)] running) 0 x) 1 x

/-- Channel 47 in PWM at 100 µs with SENSE and GLINT, taken by emitter 0 of fixture 5. -/
def pwm47 : State :=
  withRows [(drvChan, 47, record [(0, 1), (1, 6), (4, 100000), (8, 10), (9, 200), (10, 9), (12, 100)]), (modTable, 0, 1),
    (fixTable, 5, record [(5, 1), (8, 4), (10, 47)]), (stdTable, 4, record [(0, 7)])] running

/-- A pin state on it. -/
def pin47 (x : Pin) : State := pinPut pwm47 47 x

/-- A point state on it. -/
def point47 (x : Point) : State := pointPut (pin47 { Pin.empty with out := 65535, nOn := 1600000 }) 47 x

/-- A matrix of 16 rows and 32 columns. -/
def matrixOn (mode : Nat) : State :=
  withRows [(drvMatrix, 0, record [(0, mode), (1, 16), (2, 32), (4, 2000), (8, 100)])] { running with drv := { running.drv with cycleAt := 10 * sec } }

/-- Channel 47 in PDM with slots of 16 ns. -/
def pdm47 : State := withRows [(drvChan, 47, record [(0, 2), (4, 16)])] running

/-- Radio port 3 on, with a slotframe of one slot that holds cell 16383 with flags, queue and neighbour. -/
def radioOn (flags queue nb : Nat) : State :=
  withRows [(radPort, 3, radPortReset + record [(0, 1), (1, 1), (2, 50), (4, 9), (5, 30)]), (radSlotframe, 24, 1),
    (radCell, 65535, record [(3, flags), (7, queue), (8, nb)]), (radHop, 384, 5)] running

/-- A slot of that port's cell at ASN 1001. -/
def slot (what : Nat) (started : Bool) : Slot :=
  { n := 1001, cell := 16383, channel := 5, band := 0, what := what, level := 0, key := 0, host := none, payload := [1, 2], items := [], act := 0, late := 0, frame := []
    psdu := 21, ack := false, started := started, done := false }

/-- The port with a slot. -/
def slotted (flags what : Nat) (started : Bool) : State :=
  radPut (radioOn flags 0 0xFFFF) 3 { RadioPort.empty with slot := some (slot what started) }

/-- What the port chooses for ASN 1001. -/
def chosen : State × Option Slot :=
  let s := radioOn 2 0 0xFFFF
  let u := asnStart s.cfg (nextSlot s 3) - 1000 * us
  chooseCell (radPut (advance s u) 3 { radGet s 3 with slot := none, sfd := none, fetched := false }) 3 (nextSlot s 3)

/-- The slot chosen, with the frame prepared for it. -/
def prepared : Slot := { chosen.2.getD (slot 0 false) with frame := slotPsdu chosen.1 3 (chosen.2.getD (slot 0 false)) }

/-- The port listening in ASN 1001 to its ACTIVE neighbour 4095, whose record has flags. -/
def hearing (flags : Nat) : State :=
  let s := withRows [(radNeigh, 16383, record [(0, flags), (4, 99), (12, 1), (14, 16)])] (radioOn 2 0 4095)
  let s1 := neighPut s 16383 { Neigh.empty with state := 1, contact := 10 * sec }
  radPut s1 3 { RadioPort.empty with slot := some (slot 0 true), sfd := some (true, 10 * sec + 12200 * us), fetched := true }

/-- Header and payload of a frame of extended address 99: version 2 without PAN IDs, an acknowledgement asked for, DSN 7 (IEEE 802.15.4). -/
def macBytes : List Byte := [0x60, 0xE0, 7] ++ leBytes 8 99 ++ [3]

/-- That frame with its FCS. -/
def heardFrame : RadioFrame := { rssi := 3, lqi := 4, psdu := macBytes ++ leBytes 4 (crc32 macBytes) }

/-- The frame taken apart. -/
def heardMac : MacFrame :=
  { srcExt := some 99, srcShort := none, secured := false, level := 0, keyMode := 0, fcSuppressed := false, fc := 0, dsn := 7, ackReq := true
    head := macBytes.take 11, body := [3], fcs := leBytes 4 (crc32 macBytes), payloadIes := false }

/-- A host frame. -/
def hostFrame : HostFrame := { neigh := 4095, level := 0, ack := true, handle := 8, payload := [1], tries := 2 }

/-- A packet for a queue of port 1: a frame of 14 bytes without options. -/
def txPacket : List Byte := leBytes 24 (record [(4, 14)])

/-- Port 1 with its link up. -/
def ethUp : State := ethPut running 1 { EthState.empty with up := true }

/-- Port 1 with its link up, taking every address. -/
def ethAll : State := withRows [(ethPort, 1, ethPortReset + 2 ^ 12)] ethUp

/-- A frame to the broadcast address of a type. -/
def frameOf_ (ty : Nat) : EthFrame :=
  { bytes := List.replicate 6 255 ++ List.replicate 6 2 ++ beBytes 2 ty ++ List.replicate 46 1, wireLen := 64, fcsGood := true }

/-- Port 1 paused from 10 s until an instant. -/
def paused (e : Time) : State := ethPut running 1 { EthState.empty with up := true, pauseEnd := some e, pauseStart := 10 * sec }

/-- A PAUSE frame of 65,535 quanta. -/
def pauseFrame : EthFrame :=
  { bytes := beBytes 6 0x0180C2000001 ++ List.replicate 6 2 ++ beBytes 2 0x8808 ++ beBytes 2 1 ++ beBytes 2 65535 ++ List.replicate 42 0
    wireLen := 64, fcsGood := true }

/-- The block in RUN as a stack's master or member. -/
def stacked (role : Nat) : State :=
  { running with dev := { running.dev with stackEn := true }, stk := { running.stk with role := role, index := 2, enumerated := true } }

/-- A cascade port in a state, lanes locked. -/
def port (st : Nat) : CasPort := { CasPort.empty with lanes := 255, state := st }

/-- A stack's master in TRIAL. -/
def trialMaster : State := { stacked 1 with upd := { running.upd with state := 6 } }

/-- A command packet of 24 zero bytes. -/
def casPkt : CasPacket := { cls := 1, src := 0, dst := 0x3F, stream := 0, first := true, last := true, payload := pkt }

/-- A class with two packets unacknowledged. -/
def sentTwo : CasClass := { CasClass.empty with unacked := [(4, casPkt), (5, casPkt)], credit := 3 }

/-- A transaction with no items for frame 103. -/
def accTxn : AccTxn := { id := 9, frame := 103, tenant := 0, role := 3, items := [], ordered := false }

/-- A request of an MB0 packet to its own node, with no items. -/
def bare : Req :=
  { path := .mb0, t := 10 * sec + 1, flags := 0, tag := 1, epoch := 1, target := 0, status := 0, reserved := 0, zoneMask := 0, index := 0
    length := 0, txnId := 0, body := [] }

/-- A relay header for node 3. -/
def hdr : RelayHdr := { path := 0, tenant := 0, role := 3, session := 0, relayId := 6, txnId := 9, status := 0, node := 3 }

/-- A message of the master that nodes 3 and 4 have to answer. -/
def relay : Relay :=
  { id := 6, op := 0x02, req := bare, target := 3, stage := none, waiting := 24, answers := [(3, leBytes 2 6)], failed := [] }

/-- A member that has taken a STAGE of one item. -/
def staging : State := tookDown (stacked 2) (16 + ([(0x02, bare)].map fun x => up8 (reqBytes x.1 x.2).length).sum)

/-- A unit of a pair in a role, in RUN. -/
def paired (role : Nat) : State := { running with red := { running.red with pair := true, role := role } }

/-- A FIT shadow of a pair that heard its active at 9 s. -/
def shadowed : State :=
  { paired 0 with dev := { running.dev with state := .shadow }, red := { (paired 0).red with fit := 1, r := 9 * sec } }

/-- A request on MB1 with a payload. -/
def ask (payload : List Byte) : Req :=
  { bare with path := .mb1, length := BitVec.ofNat 16 payload.length, body := pad8 payload }

/-- A payload of 16 bytes with values at byte offsets. -/
def bytes16 (fs : List (Nat × Nat)) : List Byte := leBytes 16 (record fs)

/-- SAFE. -/
def safe : State := inState .safe

/-- A LOG_READ of one record of log 5 from slot 0. -/
def readLog : Req := ask (leBytes 24 (record [(0, 5), (6, 1)]))

/-- The slots that it finds: none. -/
def nothing : Found := { records := [], next := 0, bad := 0 }

/-- MB1 under the role of the log's keeper. -/
def keeper : State := { running with imm := running.imm.setRow tenPath 1 (4 * 256) }

/-- A cursor at slot 9 of log 6. -/
def cursor9 : Cursor := { log := 6, slot := 9, window := none }

/-- The same with a cursor of MB1 at slot 9 of log 6. -/
def cursed : State := { keeper with log := { keeper.log with cursors := SMap.put none [] 1 (some cursor9) } }

/-- A WINDOW_READ of 16 records at it. -/
def windowAt : Req := ask (leBytes 8 (record [(0, 16), (2, 9)]))

/-- A LOG_CLEAR of log 5. -/
def clearLog5 : Req := ask (leBytes 8 (record [(0, 5), (1, 1)]))

/-- The clear that it begins. -/
def clear5 : Clearing :=
  ⟨1, (by_ 0x41 clearLog5 running).tenant, (by_ 0x41 clearLog5 running).role,
    logRecords (inService 0x41 clearLog5 running) (byteOf clearLog5.payload 0), some clearLog5, []⟩

/-- A SET of one parameter. -/
def setting (p : ParamRow) (v : Nat) : Req := ask (setItemBytes { id := p.id, len := p.ty.len, value := v, dirty := false })

/-- A SET of SAC_TTL. -/
def setTtl : Req := setting sacTtl 5

/-- A TABLE_WRITE of record 3 of TIM_ALARM. -/
def writeAlarm : Req := { ask (bytes16 [(0, timAlarm.id), (4, 1)] ++ List.replicate 24 0) with index := 3 }

/-- A STREAM_BIND that releases layer 3. -/
def unbind : Req := ask (leBytes 48 (record [(1, 3)]))

/-- A REWIND of ring A to frame 103. -/
def rewindA : Req := ask (leBytes 16 (103 * 2 ^ 64))

/-- The block after such a request has been accepted. -/
def taken (op : Nat) (r : Req) (s : State) : State := accept (noteId (inService op r s) (ownAcc op r s).id) (ownAcc op r s)

/-- When a request is accepted. -/
theorem edgeReady_of {op : Nat} {r : Req} {s : State} (h1 : Heard op r s)
    (h2 : r.txn = false ∧ itemForm { op := op, req := r } = none ∧ (inService op r s).frm.running = true ∧ roomFor (inService op r s) r = true
      ∧ involved (inService op r s) [{ op := op, req := r }] = []
      ∧ txnErr (noteId (inService op r s) (ownAcc op r s).id) (ownAcc op r s).tenant (ownAcc op r s).role (ownAcc op r s).frame
        (ownAcc op r s).items = none)
    (h3 : Fits op r s (taken op r s) .accepted 0 (acceptedBytes true (ownAcc op r s).frame (ownAcc op r s).id)) :
    EdgeReady op r s (taken op r s) := ⟨h1, h2.1, h2.2.1, h2.2.2.1, h2.2.2.2.1, h2.2.2.2.2.1, h2.2.2.2.2.2, rfl, h3⟩

/-- The item that such a SET carries. -/
def itemOf (p : ParamRow) (v : Nat) : SetItem := { id := p.id, len := p.ty.len, value := v, dirty := false }

/-- The block after it has acted. -/
def acted (p : ParamRow) (v : Nat) (s : State) : State :=
  immWritten (inService 0x02 (setting p v) s).imm (actionDo (inService 0x02 (setting p v) s) p (itemOf p v))

/-- When a SET acts. -/
theorem actsReady_of {p : ParamRow} {v : Nat} {s : State} (h1 : Heard 0x02 (setting p v) s)
    (h2 : (setting p v).items = [itemOf p v] ∧ findParam p.id = some p ∧ (setting p v).txn = false
      ∧ itemForm { op := 0x02, req := setting p v } = none
      ∧ immErr (inService 0x02 (setting p v) s) (by_ 0x02 (setting p v) s) { op := 0x02, req := setting p v } = none
      ∧ actionErr (inService 0x02 (setting p v) s) p (itemOf p v) = none)
    (h3 : Fits 0x02 (setting p v) s (acted p v s) .ok 0 []) : ActsReady p (setting p v) s (acted p v s) :=
  ⟨itemOf p v, h2.1, rfl, h2.2.1, h1, h2.2.2.1, h2.2.2.2.1, h2.2.2.2.2.1, h2.2.2.2.2.2, rfl, h3⟩

/-- A GET of FRM_TC. -/
def getNum : Req := ask (leBytes 2 frmTc.id)

/-- What it returns. -/
def numItem : List Byte := getItem (inService 0x01 getNum running) getNum frmTc.id

/-- A TABLE_READ of DIA_WAKE_LATCH. -/
def readRows : Req := ask (bytes16 [(0, diaWakeLatch.id), (4, 1)])

/-- The block after it. -/
def readSeen : State := { inService 0x21 readRows running with dev := { running.dev with wakeRead := true } }

/-- The transaction that a request names is the one found. -/
theorem open_found {s : State} {c : Caller} {r : Req} {x : OpenTxn}
    (h : (s.ox.open_.find? fun y => y.id == r.txnId.toNat && y.ident == c.ident) = some x) (k : x.tenant = c.tenant) :
    openOf s c r = .ok x := by
  simp [openOf, h, k]

/-- A TXN_OPEN. -/
def openAsk : Req := ask []

/-- The block that carries it out. -/
def opening : State := inService 0x10 openAsk running

/-- The transaction that it opens. -/
def opened : OpenTxn :=
  ⟨newId opening, (by_ 0x10 openAsk running).ident, (by_ 0x10 openAsk running).tenant, (by_ 0x10 openAsk running).role, [], opening.tim.up⟩

/-- MB1 with transaction 9 open, which sets SAC_TTL. -/
def openRun : State := { running with ox := { running.ox with open_ := [⟨9, 1, 0, 1, [{ op := 0x02, req := setTtl }], 10 * sec⟩] } }

/-- A commit of it for NEXT. -/
def commitAsk : Req := { ask (leBytes 24 2) with txnId := 9 }

/-- The block that carries the commit out. -/
def committing : State := inService 0x11 commitAsk openRun

/-- The transaction as it is then. -/
def open9 : OpenTxn := committing.ox.open_.headD ⟨0, 0, 0, 0, [], 0⟩

/-- The edge that it is committed for. -/
def edge9 : Nat := commitNext committing 1

/-- The transaction accepted. -/
def acc9 : AccTxn := ⟨open9.id, edge9, (by_ 0x11 commitAsk openRun).tenant, (by_ 0x11 commitAsk openRun).role, open9.items, true⟩

/-- An abort of it. -/
def abortAsk : Req := { ask [] with txnId := 9 }

/-- The transaction as it is at the abort. -/
def aborting : OpenTxn := (inService 0x12 abortAsk openRun).ox.open_.headD ⟨0, 0, 0, 0, [], 0⟩

/-- The block with transaction 9 open and the ID of a new one noted. -/
def openedRun : State := { noteId opening (newId opening) with
  ox := { (noteId opening (newId opening)).ox with open_ := opening.ox.open_ ++ [opened] } }

/-- MB1 under an installer's role with the update unit in a state. -/
def updating (k : Nat) (d : Download) : State :=
  { running with
    imm := running.imm.setRow tenPath 1 (1 * 256)
    upd := { running.upd with state := k, dl := d } }

/-- The first eight bytes of a manifest. -/
def chunkAsk : Req := ask (leBytes 16 (record [(8, 0xC1F0), (10, 1), (11, 1), (12, 0x7200)]))

/-- A manifest of 176 bytes for a set of 2,048 bytes. -/
def shortManifest : List Byte := leBytes 176 (record [(0, 0xC1F0), (2, 1), (22, 1), (24, 2048)])

/-- Its download with the first block of segment 0. -/
def halfDone : Download :=
  { Download.empty with manifest := shortManifest, complete := true, seg := some 0, blocks := [(0, shortManifest ++ List.replicate 848 0)] }

/-- The other block. -/
def dataAsk : Req := ask (leBytes 8 (1 + 1024 * 2 ^ 32) ++ List.replicate 1024 7)

/-- Segment 0 as it then stands. -/
def segment0 : List Byte := shortManifest ++ List.replicate 848 0 ++ List.replicate 1024 7

/-- An IMAGE_ARM for 12 s. -/
def armAsk : Req := ask (leBytes 24 (1 + 12 * 2 ^ 64))

/-- An IMAGE_CONFIRM of the running set. -/
def confirmAsk : Req := ask (manifestHash (runningManifest running))

/-- An IMAGE_ARM that disarms. -/
def disarmAsk : Req := ask (leBytes 24 2)

/-- A node armed for frame 1000. -/
def armed : State := { updating 4 Download.empty with upd := { (updating 4 Download.empty).upd with armed := some 1000 } }

/-- A key slot. -/
def keySlot (ty usage parent gen : Nat) : KeySlot :=
  { KeySlot.empty with state := 1, ty := ty, usage := usage, parent := parent, gen := gen, key := List.replicate 32 0x5A }

/-- The block with the attestation key, a CONTROL key in slot 20 and a key below it in slot 30. -/
def keyed : State := { running with sec := { running.sec with
  slots := [(6, keySlot 3 0 0xFFFF 1), (20, keySlot 3 4 0xFFFF 3), (30, keySlot 2 2 20 5)] } }

/-- An ATTEST with a nonce of zeros. -/
def attestAsk : Req := ask (List.replicate 16 0)

/-- An envelope of zeros. -/
def badAsk : Req := ask (List.replicate 112 0)

/-- The header of an INVALIDATE of slot 30 under the CONTROL key of slot 20. -/
def envHead : List Byte :=
  [0xE7, 0xC1, 1, 2, 1, 0, 20, 0] ++ leBytes 16 Config.deviceId.toNat ++ leBytes 40 (record [(0, 1), (8, 30), (10, 5), (16, 20)])

/-- Its wrap key. -/
def envWrap : List Byte := hmac (List.replicate 32 0x5A) ((envHead.drop 8).take 24)

/-- The header with the tag of its empty body. -/
def envTagged : List Byte := envHead ++ gcmTag envWrap (List.replicate 12 0) envHead []

/-- The envelope. -/
def envelope : List Byte := envTagged ++ hmac (List.replicate 32 0x5A) envTagged

/-- A KEY_UPDATE that carries it. -/
def envAsk : Req := { bare with path := .mb1, length := 112, body := envelope }

/-- The block that carries it out. -/
def invalidating : State := inService 0x50 envAsk keyed

/-- The envelope is 112 bytes. -/
theorem envelope_length : envelope.length = 112 := by
  have h : envTagged.length = 80 := by decide +kernel
  simp [envelope, h, hmac_length]

/-- The request carries the envelope whole. -/
theorem envAsk_payload : envAsk.payload = envelope := by
  simp only [Req.payload, envAsk]
  exact List.take_of_length_le (by simp [envelope_length])

/-- The authenticator is the HMAC of what stands before it. -/
theorem envelope_split : envSplit envelope = (envTagged, hmac (List.replicate 32 0x5A) envTagged) := by
  have h : (authLen (envAuth envelope)).getD 0 = 32 := by decide +kernel
  have h0 : envTagged.length = 80 := by decide +kernel
  have h1 : envelope.take 80 = envTagged := by
    rw [envelope, ← h0]
    exact List.take_left
  have h2 : envelope.drop 80 = hmac (List.replicate 32 0x5A) envTagged := by
    rw [envelope, ← h0]
    exact List.drop_left
  simp [envSplit, h, envelope_length, h1, h2]

/-- It names this part. -/
theorem envelope_id : leAt envelope 8 16 = Config.deviceId.toNat := by
  have h : leAt envelope 8 16 = leNat (leBytes 16 Config.deviceId.toNat) := rfl
  rw [h, leNat_leBytes]
  exact Nat.mod_eq_of_lt Config.deviceId.isLt

/-- When an envelope under a CONTROL key is authentic. -/
theorem auth_of (s : State) (b pre mac : List Byte) (h1 : envAuth b = 1)
    (h2 : (envSlotOp b && envParent b == envAuthSlot b && keyState s (envAuthSlot b) == 1
      && bitAt (slotOf s (envAuthSlot b)).usage 2) = true)
    (h3 : envSplit b = (pre, mac)) (h4 : hmac (slotOf s (envAuthSlot b)).key pre = mac) : envAuthOk s b = true := by
  simp only [envAuthOk, if_pos h1, h2, h3, h4, Bool.true_and, beq_self_eq_true]

/-- The authenticating key. -/
theorem envelope_slot : envAuthSlot envelope = 20 ∧ (slotOf invalidating 20).key = List.replicate 32 0x5A := by decide +kernel

/-- It authenticates the envelope. -/
theorem envelope_mac : hmac (slotOf invalidating (envAuthSlot envelope)).key envTagged = hmac (List.replicate 32 0x5A) envTagged :=
  congrArg (hmac · envTagged) (by rw [envelope_slot.1, envelope_slot.2])

/-- The envelope is authentic. -/
theorem envelope_auth : envAuthOk invalidating envelope = true :=
  auth_of invalidating envelope envTagged (hmac (List.replicate 32 0x5A) envTagged) (by decide +kernel) (by decide +kernel)
    envelope_split envelope_mac

/-- What an empty ciphertext opens to. -/
theorem gcmOpen_empty (key nonce aad tag : List Byte) (h : gcmTag key nonce aad [] = tag) (k : tag.length = 16) :
    gcmOpen key nonce aad tag = some [] := by
  have e : gcmText key nonce [] = [] := by simp [gcmText, aesCtr]
  simp only [gcmOpen, k, Nat.sub_self, List.take_zero, List.drop_zero, h, le_refl, and_self, if_true, e]

/-- What an envelope without a body opens to. -/
theorem body_of (s : State) (b n a tag : List Byte) (h2 : (b.drop 44).take 12 = n) (h3 : b.take 64 = a) (h4 : envBodyLen b = 0)
    (h5 : (b.drop 64).take 16 = tag) (h6 : gcmTag (envKey s b) n a [] = tag) (h7 : tag.length = 16) : envBody s b = some [] := by
  simp only [envBody, h2, h3, h4, List.take_zero, List.nil_append, show 64 + up8 0 = 64 from rfl, h5]
  exact gcmOpen_empty _ _ _ _ h6 h7

/-- The wrap key of an envelope under a CONTROL key. -/
theorem key_of (s : State) (b k d : List Byte) (h1 : envAuth b = 1) (h2 : (slotOf s (envAuthSlot b)).key = k)
    (h3 : (b.drop 8).take 24 = d) : envKey s b = hmac k d := by
  simp only [envKey, if_pos h1, h2, h3]

/-- Its bytes that the wrap key is derived from stand in the header. -/
theorem envelope_salt : (envelope.drop 8).take 24 = (envHead.drop 8).take 24 := by
  have h : envHead.length = 64 := rfl
  rw [envelope, envTagged, List.append_assoc, List.drop_append_of_le_length (by simp [h]), List.take_append_of_le_length (by simp [h])]

/-- The wrap key that the block derives. -/
theorem envelope_key : envKey invalidating envelope = hmac (List.replicate 32 0x5A) ((envHead.drop 8).take 24) :=
  key_of _ _ _ _ (by decide +kernel) (by rw [envelope_slot.1, envelope_slot.2]) envelope_salt

/-- The envelope opens to an empty body. -/
theorem envelope_body : envBody invalidating envelope = some [] :=
  body_of _ _ (List.replicate 12 0) envHead (gcmTag envWrap (List.replicate 12 0) envHead []) (by decide +kernel) rfl
    (by decide +kernel) rfl (congrArg (gcmTag · (List.replicate 12 0) envHead []) envelope_key) rfl

/-- The envelope passes every check of Table 18-7. -/
theorem envelope_passes : envErr invalidating (by_ 0x50 envAsk keyed) .mb1 envelope = none := by
  have h1 : envSizeOk envelope = true := by decide +kernel
  have h2 : envFields envelope = none := by decide +kernel
  have h3 : (by_ 0x50 envAsk keyed).role ≠ 3 := by decide +kernel
  have h5 : leAt envelope 24 8 = invalidating.sec.counter + 1 := by decide +kernel
  have h7 : envTargetErr invalidating envelope [] = none := by decide +kernel
  have h8 : ¬ ((envSlotOp envelope = true) ∧ leAt envelope 34 2 ≠ (slotOf invalidating (envTarget envelope)).gen) := by decide +kernel
  simp [envErr, h1, h2, h3, h5, h7, h8, envelope_auth, envelope_id, envelope_body]
  rw [if_neg (by decide +kernel), if_neg (by decide +kernel)]

/-- The first 64 bytes of an envelope for the part of device ID 0: OP, AUTH, AUTH_SLOT, and values at byte offsets from COUNTER on. -/
def keyHead (op auth slot : Nat) (fs : List (Nat × Nat)) : List Byte :=
  [0xE7, 0xC1, 1, BitVec.ofNat 8 op, BitVec.ofNat 8 auth, 0] ++ leBytes 2 slot ++ leBytes 16 0 ++ leBytes 40 (record fs)

/-- An envelope up to its authenticator: the body sealed under the wrap key of a secret. -/
def keySealed (secret head body : List Byte) : List Byte :=
  head ++ gcmSeal (hmac secret ((head.drop 8).take 24)) (List.replicate 12 0) head body

/-- An item of a life-cycle body. -/
def lifeItem (slot ty : Nat) (key : List Byte) : List Byte := leBytes 2 slot ++ leBytes 1 ty ++ leBytes 1 0 ++ leBytes 4 key.length ++ pad8 key

/-- A wrap secret. -/
def secret : List Byte := List.replicate 32 0xA5

/-- The body of a PROVISION: the key of slot 4. -/
def provisionBody : List Byte := lifeItem 4 5 (List.replicate 97 4)

/-- The body of a TAKE_OWNERSHIP: the keys of slots 2, 3 and 6. -/
def ownerBody : List Byte := lifeItem 2 4 basePoint ++ lifeItem 3 2 secret ++ lifeItem 6 3 secret

/-- The envelope of a life-cycle OP up to its signature. -/
def lifeSealed (op auth : Nat) (body : List Byte) : List Byte :=
  keySealed secret (keyHead op auth 0xFFFF [(0, 1), (18, body.length)]) body

/-- The P-384 public key of the private key 1: the base point (FIPS 186-4). -/
def basePoint384 : List Byte :=
  [4] ++ beBytes 48 0xAA87CA22BE8B05378EB1C71EF320AD746E1D3B628BA79B9859F741E082542A385502F25DBF55296C3A545E3872760AB7
    ++ beBytes 48 0x3617DE4A96262C6F5D9E98BF9292DC29F8F41DBD289A147CE9DA3113B5F0B8C00A60B1CE1D7E819D7A431D7C90EA0E5F

/-- The island in a life-cycle state, with the owner's root keys in slots 2 and 3 and a CONTROL key in slot 20. -/
def island (life : Nat) : State := { running with sec := { running.sec with
  lifecycle := life
  slots := [(2, { keySlot 4 0 0xFFFF 1 with key := basePoint }), (3, { keySlot 2 0 0xFFFF 1 with key := secret }), (20, keySlot 3 4 0xFFFF 3)] } }

/-- A PROVISION signed by the private key 1 and the nonce 2; the signature was computed by hand. -/
def provisionAsk : Req := ask (lifeSealed 0x10 3 provisionBody
    ++ beBytes 48 0x08D999057BA3D2D969260045C55B97F089025959A6F434D651D207D19FB96E9E4FE0E86EBE0E64F85B96A9C75295DF61
    ++ beBytes 48 0x41FCAEB80FAEBD57485675C89463B6182E40BB8FEC54B4954CFCCC468607AB9ED3F3AAC9727AD66C27EAC52DA4C35CAC)

/-- A TAKE_OWNERSHIP signed by the private key 1 and the nonce 2; the signature was computed by hand. -/
def ownerAsk : Req := ask (lifeSealed 0x11 3 ownerBody
    ++ beBytes 48 0x08D999057BA3D2D969260045C55B97F089025959A6F434D651D207D19FB96E9E4FE0E86EBE0E64F85B96A9C75295DF61
    ++ beBytes 48 0x25DF5C2F25B1D5B4173D73B0C1599606FD475B099337938CF27E4520E8129421C603EB1D05CA3CC4A99D977F918E9877)

/-- A RETURN signed by the private key 1 and the nonce 2; the signature was computed by hand. -/
def return_Ask : Req := ask (lifeSealed 0x12 2 []
    ++ beBytes 32 0x7CF27B188D034F7E8A52380304B51AC3C08969E277F21B35A60B48FC47669978
    ++ beBytes 32 0x2193DB316280E004F12DAA2090BEDEDCC8225C04D8DCC9DEF58656837F8A4865)

/-- A REPROVISION signed by the private key 1 and the nonce 2; the signature was computed by hand. -/
def reprovisionAsk : Req := ask (lifeSealed 0x13 3 []
    ++ beBytes 48 0x08D999057BA3D2D969260045C55B97F089025959A6F434D651D207D19FB96E9E4FE0E86EBE0E64F85B96A9C75295DF61
    ++ beBytes 48 0x7CCAFB6015DED5A67B65851301274CE78AEB9556B68E12F0AE2FF8D2FBCB3D3B8EAEBBFCA531ABB90BE2FF22E51C7DD4)

/-- A RETIRE signed by the private key 1 and the nonce 2; the signature was computed by hand. -/
def retireAsk : Req := ask (lifeSealed 0x14 2 []
    ++ beBytes 32 0x7CF27B188D034F7E8A52380304B51AC3C08969E277F21B35A60B48FC47669978
    ++ beBytes 32 0xA5D0F8CE337A32E6FEE7EEA932A4F07B54E3983589BCC33E2F270805E6659BD8)

/-- The sealed part of an INSTALL of a key of 16 bytes into slot 21 under the CONTROL key of slot 20. -/
def installSealed : List Byte :=
  keySealed (List.replicate 32 0x5A) (keyHead 1 1 20 [(0, 1), (8, 21), (12, 1), (13, 1), (16, 20), (18, 16)]) (List.replicate 16 7)

/-- The INSTALL. -/
def installAsk : Req := ask (installSealed ++ hmac (List.replicate 32 0x5A) installSealed)

/-- An envelope that passes every check of Table 18-7. -/
theorem envErr_none {s : State} {c : Caller} {p : Path} {b body : List Byte}
    (h1 : envSizeOk b = true ∧ envFields b = none ∧ c.role ≠ 3 ∧ islandOut s = false ∧ s.dev.state ≠ .safe ∧ s.sec.lifecycle ≠ 4
      ∧ leAt b 24 8 = s.sec.counter + 1)
    (h2 : envAuthOk s b = true) (h3 : leAt b 8 16 = Config.deviceId.toNat) (h4 : envBody s b = some body)
    (h5 : (envSlotOp b || opPermitted s.sec.lifecycle (envOp b)) = true) (h6 : envTargetErr s b body = none)
    (h7 : envSlotOp b = true → leAt b 34 2 = (slotOf s (envTarget b)).gen) : envErr s c p b = none := by
  obtain ⟨a1, a2, a3, a4, a5, a6, a7⟩ := h1
  simp only [Bool.or_eq_true] at h5
  simp only [envErr, a1, a2, a3, a4, a5, a6, a7, h2, h3, h4, h6]
  cases h : envSlotOp b <;> simp_all

/-- A KEY_UPDATE with such an envelope. -/
theorem keyReady_of {op : Nat} {r : Req} {s : State} {body : List Byte} (h1 : Heard 0x50 r s) (h2 : envOp r.payload = op)
    (h3 : Fits 0x50 r s (inService 0x50 r s) .ok 0 []) (h4 : envBody (inService 0x50 r s) r.payload = some body)
    (h5 : envErr (inService 0x50 r s) (by_ 0x50 r s) r.path r.payload = none) :
    KeyReady op r s (inService 0x50 r s) r.payload body := ⟨rfl, h1, rfl, h2, h5, h4, h3⟩

/-- A signed envelope under the root in force. -/
theorem signed_ok {s : State} {b : List Byte} {a : Nat} {k : List Byte} (h : rootKey s = some (a, k))
    (h1 : (envAuth b != 1 && envAuthSlot b == 0xFFFF && !envSlotOp b && a == envAuth b && ecdsaVerify k (envSplit b).1 (envSplit b).2) = true) :
    envAuthOk s b = true := by
  simp only [Bool.and_eq_true, bne_iff_ne, ne_eq] at h1
  obtain ⟨⟨⟨⟨a1, a2⟩, a3⟩, a4⟩, a5⟩ := h1
  simp only [envAuthOk, if_neg a1, h, a2, a3, a4, a5, Bool.true_or, Bool.and_self]

/-- The body of a signed envelope under the wrap secret in force. -/
theorem signed_body {s : State} {b : List Byte} {w body : List Byte} (h : wrapSecret s = w) (h1 : envAuth b ≠ 1)
    (h2 : gcmOpen (hmac w ((b.drop 8).take 24)) ((b.drop 44).take 12) (b.take 64)
      ((b.drop 64).take (envBodyLen b) ++ (b.drop (64 + up8 (envBodyLen b))).take 16) = some body) : envBody s b = some body := by
  simp only [envBody, envKey, if_neg h1, h, h2]

theorem test_stepRunsFrontCommand_2 : ∃ (s : State), s.pending = [] :=
  ⟨State.reset, by decide +kernel⟩

theorem test_stepKeepsPowerInvariant_1 : ∃ (s : State) (t : State), PowerInv s ∧ step s = .next t :=
  ⟨State.reset, State.reset, by unfold PowerInv; decide +kernel, rfl⟩

theorem test_stepKeepsMarginInvariant_1 : ∃ (s : State) (t : State), MarginInv s ∧ step s = .next t :=
  ⟨State.reset, State.reset, by unfold MarginInv; decide +kernel, rfl⟩

theorem test_suppliesMoveTheNodeBetweenOffAndStandby_1 : ∃ (s : State), s.dev.state = .off ∧ s.dev.rails = false :=
  ⟨(unpowered .off), by decide +kernel⟩

theorem test_suppliesMoveTheNodeBetweenOffAndStandby_2 : ∃ (s : State), s.dev.state = .off ∧ s.dev.rails = true ∧ s.dev.resetN = true ∧
    s.dev.duskDone = false :=
  ⟨(inState .off), by decide +kernel⟩

theorem test_suppliesMoveTheNodeBetweenOffAndStandby_3 : ∃ (s : State), s.dev.rails = false :=
  ⟨(unpowered .standby), by decide +kernel⟩

theorem test_suppliesMoveTheNodeBetweenOffAndStandby_4 : ∃ (s : State) (u : Time), s.dev.state.powered = true :=
  ⟨running, (10 * sec + 1), by decide +kernel⟩

theorem test_suppliesMoveTheNodeBetweenOffAndStandby_5 : ∃ (s : State) (b : Nat) (k : Bool) (x : Bool), s.dev.state = .standby ∧
    s.dev.vbat = true ∧ s.dev.resetN = true ∧ s.dev.rails = false :=
  ⟨(unpowered .standby), 3, true, false, by decide +kernel⟩

theorem test_resetAndWakeBeginADawn_1 : ∃ (s : State) (u : Time), s.dev.state.powered = true :=
  ⟨running, (11 * sec), by decide +kernel⟩

theorem test_resetAndWakeBeginADawn_2 : ∃ (s : State) (b : Nat) (k : Bool) (x : Bool), s.dev.state.powered = true ∧ s.dev.resetN = false
    :=
  ⟨{ inState .dawn with dev := { (inState .dawn).dev with resetN := false } }, 1, true, true, by decide +kernel⟩

theorem test_resetAndWakeBeginADawn_3 : ∃ (s : State) (n : Nat) (ms_ : Nat) (at_ : Nat) (rising : Bool), n < 4 ∧ s.dev.state = .standby ∧
    s.dev.vbat = true ∧ s.dev.rails = true ∧ s.dev.duskDone = true ∧ s.dev.resetN = true ∧ ((byteAt (s.cfg.row diaWake n) 0 = 3 ∨ byteAt
    (s.cfg.row diaWake n) 0 = (if rising then 1 else 2))) ∧ byteAt (s.cfg.row diaWake n) 1 ≤ ms_ :=
  ⟨asleep, 0, 10, 77, true, by decide +kernel⟩

theorem test_dawnEndsInReadyOrSafe_1 : ∃ (s : State) (i : DawnIn), s.dev.state = .dawn ∧ s.dev.resetN = true ∧ s.dev.rails = true ∧
    s.sec.tampered = false ∧ s.dev.bootSrc < 2 ∧ keyState s 4 = 1 ∧ s.upd.sel.trial = false ∧ bootBad s s.upd.sel.set = none ∧ i.fail =
    none ∧ 0x100 ≤ i.margin ∧ i.margin < 65536 :=
  ⟨bootable, fairDawn, by decide +kernel⟩

theorem test_dawnEndsInReadyOrSafe_2 : ∃ (s : State) (i : DawnIn) (n : Nat) (c : Nat) (d : Nat), s.dev.state = .dawn ∧ s.dev.resetN = true
    ∧ s.dev.rails = true ∧ s.sec.tampered = false ∧ n < 8 ∧ ((3 < n → s.dev.bootSrc < 2 ∧ keyState s 4 = 1 ∧ s.upd.sel.trial = false ∧
    bootBad s s.upd.sel.set = none)) ∧ ((n = 7 → 0x100 ≤ i.margin)) ∧ i.fail = some (n, c, d) :=
  ⟨State.reset, { fairDawn with fail := some (1, 0x0101, 7) }, 1, 0x0101, 7, by decide +kernel⟩

theorem test_dawnEndsInReadyOrSafe_2late : ∃ (s : State) (i : DawnIn) (n : Nat) (c : Nat) (d : Nat), s.dev.state = .dawn ∧ s.dev.resetN =
    true ∧ s.dev.rails = true ∧ s.sec.tampered = false ∧ n < 8 ∧ ((3 < n → s.dev.bootSrc < 2 ∧ keyState s 4 = 1 ∧ s.upd.sel.trial = false
    ∧ bootBad s s.upd.sel.set = none)) ∧ ((n = 7 → 0x100 ≤ i.margin)) ∧ i.fail = some (n, c, d) :=
  ⟨bootable, { fairDawn with fail := some (7, 0x0701, 7) }, 7, 0x0701, 7, by decide +kernel⟩

theorem test_dawnEndsInReadyOrSafe_3 : ∃ (s : State) (i : DawnIn), s.dev.state = .dawn ∧ s.dev.resetN = true ∧ s.dev.rails = true ∧
    s.sec.tampered = false ∧ s.dev.bootSrc < 2 ∧ keyState s 4 = 1 ∧ s.upd.sel.trial = false ∧ bootBad s s.upd.sel.set = none ∧ i.fail =
    none ∧ i.margin < 0x100 :=
  ⟨bootable, { fairDawn with margin := 255 }, by decide +kernel⟩

theorem test_dawnEndsInReadyOrSafe_4 : ∃ (s : State) (i : DawnIn), s.dev.state = .dawn ∧ s.dev.resetN = true ∧ s.dev.rails = true ∧
    s.sec.tampered = true :=
  ⟨{ State.reset with sec := { State.reset.sec with tampered := true } }, fairDawn, by decide +kernel⟩

theorem test_dawnEndsInReadyOrSafe_5 : ∃ (s : State), hostLoads s = true :=
  ⟨{ State.reset with dev := { State.reset.dev with bootSrc := 2, hostLoadAt := some 0 } }, by decide +kernel⟩

theorem test_dawnEndsInReadyOrSafe_6 : ∃ (s : State) (u : Time), s.dev.state.powered = true :=
  ⟨running, (11 * sec), by decide +kernel⟩

theorem test_duskLeadsToStandby_1 : ∃ (s : State), s.dev.duskWanted = true ∧ s.dev.state = .safe :=
  ⟨{ inState .safe with dev := { (inState .safe).dev with duskWanted := true } }, by decide +kernel⟩

theorem test_duskLeadsToStandby_2 : ∃ (s : State), s.dev.duskWanted = true ∧ s.dev.state.live = true ∧ s.frm.running = true :=
  ⟨{ running with dev := { running.dev with duskWanted := true } }, by decide +kernel⟩

theorem test_duskLeadsToStandby_3 : ∃ (s : State) (u : Time), s.dev.state = .dusk :=
  ⟨(inState .dusk), 5, by decide +kernel⟩

theorem test_diagnosticRequestsAnswer_1 : ∃ (r : Req) (s : State) (u : State), u = inService 0x30 r s ∧ Heard 0x30 r s ∧ diagErr (by_ 0x30
    r s) r u = none ∧ diagSub r = 1 ∧ Fits 0x30 r s u .ok 0 (statusBytes u) :=
  ⟨(ask (bytes16 [(0, 1)])), safe, (inService 0x30 (ask (bytes16 [(0, 1)])) safe), rfl, by unfold Heard; decide +kernel,
   by decide +kernel, by decide +kernel, by unfold Fits; decide +kernel⟩

theorem test_diagnosticRequestsAnswer_2 : ∃ (r : Req) (s : State) (u : State), u = inService 0x30 r s ∧ Heard 0x30 r s ∧ diagErr (by_ 0x30
    r s) r u = none ∧ diagSub r = 4 ∧ u.imm.v secEval = 0 ∧ Fits 0x30 r s u .ok 0 (leBytes 8 (Config.diagReg (leAt r.payload 8 4) u.free))
    :=
  ⟨(ask (bytes16 [(0, 4), (8, 64)])), running, (inService 0x30 (ask (bytes16 [(0, 4), (8, 64)])) running), rfl,
   by unfold Heard; decide +kernel, by decide +kernel, by decide +kernel, by decide +kernel, by unfold Fits; decide +kernel⟩

theorem test_diagnosticRequestsAnswer_3 : ∃ (r : Req) (s : State), diagRestarts r s = true :=
  ⟨(ask (bytes16 [(0, 2)])), safe, by decide +kernel⟩

theorem test_diagnosticRequestsAnswer_4 : ∃ (r : Req) (s : State) (u : State), u = inService 0x30 r s ∧ Heard 0x30 r s ∧ diagErr (by_ 0x30
    r s) r u = none ∧ diagSub r = 3 ∧ u.dev.state ≠ .safe ∧ Fits 0x30 r s u .ok 0 [] :=
  ⟨(ask (bytes16 [(0, 3)])), running, (inService 0x30 (ask (bytes16 [(0, 3)])) running), rfl, by unfold Heard; decide +kernel,
   by decide +kernel, by decide +kernel, by decide +kernel, by unfold Fits; decide +kernel⟩

theorem test_diagnosticRequestsAnswer_5 : ∃ (r : Req) (s : State) (u : State), u = inService 0x30 r s ∧ Heard 0x30 r s ∧ diagErr (by_ 0x30
    r s) r u = none ∧ diagSub r = 3 ∧ u.dev.state = .safe ∧ Fits 0x30 r s (enterDusk u 0 (sending u)) .ok 0 [] :=
  ⟨(ask (bytes16 [(0, 3)])), safe, (inService 0x30 (ask (bytes16 [(0, 3)])) safe), rfl, by unfold Heard; decide +kernel,
   by decide +kernel, by decide +kernel, by decide +kernel, by unfold Fits; decide +kernel⟩

theorem test_interruptRegisterWrites_1 : ∃ (s : State) (v : BitVec 64), hostUp s = true :=
  ⟨running, 5, by decide +kernel⟩

theorem test_interruptRegisterWrites_2 : ∃ (s : State) (v : BitVec 64), hostUp s = true :=
  ⟨running, 0xFFFFFFFFFFFFFFFE, by decide +kernel⟩

theorem test_statusAndTimeReads_1 : ∃ (s : State), hostUp s = true :=
  ⟨running, by decide +kernel⟩

theorem test_statusAndTimeReads_2 : ∃ (s : State) (q : Bool) (u : Time), hostUp s = true :=
  ⟨running, true, (10 * sec + 500), by decide +kernel⟩

theorem test_statusAndTimeReads_3 : ∃ (s : State) (off : Nat) (n : Nat), hostUp s = true ∧ off % 8 = 0 ∧ n ≠ 0 ∧ (off + 8 * n ≤ 0x038 ∨
    (0x050 ≤ off ∧ off + 8 * n ≤ 0x1000)) :=
  ⟨running, 0xFF8, 1, by decide +kernel⟩

theorem test_statusAndTimeReads_4 : ∃ (s : State), hostUp s = true :=
  ⟨running, by decide +kernel⟩

theorem test_statusAndTimeReads_5 : ∃ (s : State) (off : Nat) (len : Nat), hostUp s = true ∧ (off % 8 ≠ 0 ∨ len % 8 ≠ 0 ∨ len = 0 ∨ 65536
    < len) :=
  ⟨running, 1, 8, by decide +kernel⟩

theorem test_registerWritesReachTheirRegisters_1 : ∃ (s : State) (bs : List Byte), hostUp s = true ∧ bs.length = 8 :=
  ⟨running, [1, 0, 0, 0, 0, 0, 0, 0], by decide +kernel⟩

theorem test_registerWritesReachTheirRegisters_2 : ∃ (s : State) (bs : List Byte) (off : Nat), hostUp s = true ∧ bs ≠ [] ∧ off < 0x0F0 ∧
    (off % 8 ≠ 0 ∨ bs.length < 8) :=
  ⟨running, [9], 0x0E7, by decide +kernel⟩

theorem test_registerWritesReachTheirRegisters_3 : ∃ (s : State) (bs : List Byte) (off : Nat), hostUp s = true ∧ (off % 8 ≠ 0 ∨ bs.length
    % 8 ≠ 0 ∨ bs = [] ∨ 65536 < bs.length) :=
  ⟨running, [1], 1, by decide +kernel⟩

theorem test_dmaAndRingRegisterWrites_1 : ∃ (s : State) (v : BitVec 64), s.host.bar2Mode = false ∧ ((v.toNat % 4294967296 + 4294967296 -
    s.host.dmaHead) % 4294967296 ≤ s.host.dmaSize) :=
  ⟨{ running with host := { running.host with dmaSize := 16, dmaTail := 3, dmaHead := 1 } }, 17, by decide +kernel⟩

theorem test_dmaAndRingRegisterWrites_2 : ∃ (s : State) (v : BitVec 64), s.host.dmaHead = s.host.dmaTail :=
  ⟨running, 0x1000, by decide +kernel⟩

theorem test_dmaAndRingRegisterWrites_3 : ∃ (s : State) (v : BitVec 64) (k : Nat), s.host.dmaHead = s.host.dmaTail ∧ 4 ≤ k ∧ k ≤ 16 ∧
    v.toNat % 131072 = 2 ^ k :=
  ⟨running, 65536, 16, by decide +kernel⟩

theorem test_dmaAndRingRegisterWrites_4 : ∃ (s : State) (v : BitVec 64), s.con.ringA.w = s.con.ringA.c :=
  ⟨running, 1, by decide +kernel⟩

theorem test_dmaRegistersGuardTheirValues_1 : ∃ (s : State) (v : BitVec 64), s.host.dmaHead ≠ s.host.dmaTail :=
  ⟨dmaBusy, 0x2000, by decide +kernel⟩

theorem test_dmaRegistersGuardTheirValues_2 : ∃ (s : State) (v : BitVec 64), s.host.bar2Mode = true :=
  ⟨bar2On, 1, by decide +kernel⟩

theorem test_dmaRegistersGuardTheirValues_3 : ∃ (s : State) (v : BitVec 64), bitAt v.toNat 0 ≠ s.host.bar2Mode ∧ s.con.ringA.w ≠
    s.con.ringA.c :=
  ⟨{ running with con := { running.con with ringA := { Ring.empty with w := 64 } } }, 1, by decide +kernel⟩

theorem test_dmaMovesEntriesIntoRingA_1 : ∃ (s : State) (d : List Byte), s.host.bar2Mode = false ∧ s.host.dmaHead ≠ s.host.dmaTail ∧
    d.length = 64 ∧ headerFault d = none ∧ byteOf d 0 = 1 :=
  ⟨dmaBusy, header, by decide +kernel⟩

theorem test_dmaMovesEntriesIntoRingA_2 : ∃ (s : State) (d : List Byte), s.host.bar2Mode = false ∧ s.host.dmaHead ≠ s.host.dmaTail ∧
    d.length = 64 ∧ (headerFault d ≠ none ∨ byteOf d 0 ≠ 1) :=
  ⟨dmaBusy, [2] ++ List.replicate 63 0, by decide +kernel⟩

theorem test_dmaMovesEntriesIntoRingA_3 : ∃ (s : State) (u : Time) (map : List Nat) (data : List Byte) (d : List Byte) (rest : List (List
    Byte)), s.host.dmaWork = d :: rest :=
  ⟨oneToWrite, (10 * sec + 1), [], [], header, [], by decide +kernel⟩

theorem test_dmaMovesEntriesIntoRingA_4 : ∃ (s : State) (u : Time) (map : List Nat) (data : List Byte) (d : List Byte) (rest : List (List
    Byte)), s.host.dmaWork = d :: rest ∧ mapBad d map = false ∧ s.con.ringA.stalled = [] ∧ ringFits s 0 (max 64 (leAt d 32 4 / 64 * 64)) =
    true :=
  ⟨oneToWrite, (10 * sec + 1), [], (List.replicate 8 0), header, [], by decide +kernel⟩

theorem test_dmaMovesEntriesIntoRingA_5 : ∃ (s : State) (i : Nat) (e : Entry) (rest : List Entry), i < 2 ∧ ((ringGet s i).stalled = e ::
    rest) ∧ ringFits s i e.len = true :=
  ⟨{ ringed with con := { ringed.con with ringA := { Ring.empty with stalled := [entryOf 64] } } }, 0, (entryOf 64), [],
   by decide +kernel⟩

theorem test_bar2BytesAndDoorbell_1 : ∃ (s : State) (off : Nat) (b : Byte), s.host.bar2Mode = true ∧ off < ringSize s 0 ∧ posAfter
    s.con.ringA (ringSize s 0) off < ringGuard s 0 + ringSize s 0 :=
  ⟨{ ringed with host := { ringed.host with bar2Mode := true } }, 1048575, 7, by decide +kernel⟩

theorem test_bar2BytesAndDoorbell_2 : ∃ (s : State) (v : BitVec 64) (h : List Byte), s.host.bar2Mode = true ∧ v.toNat < 2 ^ 34 ∧ v.toNat <
    ringSize s 0 ∧ v.toNat % 64 = 0 ∧ h = bar2Read s s.con.ringA.w 64 ∧ posAfter s.con.ringA (ringSize s 0) v.toNat = s.con.ringA.w + leAt
    h 32 4 ∧ posAfter s.con.ringA (ringSize s 0) v.toNat < s.con.ringA.c + ringSize s 0 ∧ posAfter s.con.ringA (ringSize s 0) v.toNat ≤
    ringGuard s 0 + ringSize s 0 ∧ leAt h 62 2 = 0xE196 ∧ 64 ≤ leAt h 32 4 ∧ leAt h 32 4 % 64 = 0 ∧ headerFault h = none ∧ byteOf h 0 = 1
    ∧ byteOf h 2 = 8 ∧ byteOf h 3 = 0 ∧ bitAt (byteOf h 4) 0 = false :=
  ⟨bar2Full, 128, (bar2Read bar2Full 0 64), by decide +kernel⟩

theorem test_bar2BytesAndDoorbell_3 : ∃ (s : State) (v : BitVec 64), s.host.bar2Mode = false :=
  ⟨running, 64, by decide +kernel⟩

theorem test_queueRegisterCommands_1 : ∃ (s : State) (q : Nat) (v : BitVec 64) (p : List Byte) (rest : List (List Byte)), hostUp s = true
    ∧ 18 ≤ q ∧ q ≤ 21 ∧ ((qGet s q).packets = p :: rest) ∧ p ≠ [] ∧ v.toNat < 2 ^ 20 ∧ v.toNat ≠ (qGet s q).head ∧ qSize s q ≠ 0 ∧ v.toNat
    = ((qGet s q).head + p.length) % qSize s q :=
  ⟨(withQueue 18 { Queue.empty with packets := [pkt] } running), 18, 24, pkt, [], by decide +kernel⟩

theorem test_queueRegisterCommands_2 : ∃ (s : State) (v : BitVec 64), hostUp s = true ∧ s.dev.state ≠ .dawn ∧ s.dev.state ≠ .dusk ∧
    v.toNat ≤ 65536 ∧ 24 ≤ v.toNat ∧ v.toNat % 8 = 0 ∧ v.toNat ≤ qFree s 24 ∧ ((qGet s 24).waiting = []) ∧ ((qGet s 24).flushing = false)
    :=
  ⟨running, 24, by decide +kernel⟩

theorem test_queueRegisterCommands_3 : ∃ (s : State) (q : Nat) (v : BitVec 64), hostUp s = true ∧ bitAt v.toNat 63 = true ∧ (hostConsumed
    q = true ∨ (hostProduced q = true ∧ v.toNat % 2 ^ 17 = 0)) :=
  ⟨running, 30, 0x8000000000000000, by decide +kernel⟩

theorem test_queueRegisterCommands_4 : ∃ (s : State) (q : Nat), ((qGet s q).flushing = true) ∧ atBoundary s q = true :=
  ⟨(withQueue 27 { Queue.empty with packets := [pkt], flushing := true } running), 27, by decide +kernel⟩

theorem test_queueRegisterCommands_5 : ∃ (s : State) (q : Nat) (h : Bool) (p : List Byte) (rest : List (Bool × List Byte)), ((qGet s
    q).waiting = (h, p) :: rest) ∧ p.length ≤ qFree s q ∧ ((qGet s q).flushing = false) :=
  ⟨(withQueue 9 { Queue.empty with waiting := [(false, pkt)] } running), 9, false, pkt, [], by decide +kernel⟩

theorem test_contentCommands_1 : ∃ (s : State), s.frm.running = true :=
  ⟨running, by decide +kernel⟩

theorem test_contentCommands_2 : ∃ (s : State) (i : Nat), i < 64 ∧ ((SMap.get Layer.empty s.con.layers i).held.isSome = true) ∧ s.cfg.val
    layLossFrames i ≠ 0 ∧ s.cfg.val layLossFrames i ≤ (SMap.get Layer.empty s.con.layers i).missed :=
  ⟨(withVals [(layLossFrames, 63, 5)] (withLayer 63 { held := some (entryOf 64), missed := 5, state := 1 })), 63, by decide +kernel⟩

theorem test_contentCommands_3 : ∃ (s : State) (u : Time) (stream : Nat) (i : Nat) (e : EntryIn), boundLayer s.cfg 3 stream = some i ∧
    headerFault e.header = none ∧ mapBad e.header e.map = false ∧ s.con.ringB.stalled = [] ∧ ringFits (advance s u) 1 (max 64 (leAt
    e.header 32 4 / 64 * 64)) = true :=
  ⟨bound, (10 * sec + 1), 2, 3, { header := header, map := [], data := List.replicate 8 0 }, by decide +kernel⟩

theorem test_contentCommands_4 : ∃ (s : State) (qs : List Nat), ((∃ x ∈ qs, 2 ≤ x ∨ rasWants s x = true)) :=
  ⟨scanning, [0, 9], ⟨9, by decide⟩⟩

theorem test_contentCommands_5 : ∃ (s : State) (qs : List Nat) (q : Nat), ((∀ x ∈ qs, 2 ≤ x)) ∧ q ∈ qs ∧ q < 8 ∧ SMap.get 0 s.con.rr 1 ≤ q
    ∧ ((∀ x ∈ qs, x < 8 → SMap.get 0 s.con.rr 1 ≤ x → q ≤ x)) :=
  ⟨running, [9, 7, 2], 2, by decide +kernel⟩

theorem test_contentCommands_6 : ∃ (s : State) (qs : List Nat), 0 ∈ qs ∧ rasWants s 0 = true ∧ dramClass s 0 = 0 ∧ SMap.get 0 s.con.rr 0 =
    0 :=
  ⟨scanning, [0, 1], by decide +kernel⟩

theorem test_schedulesAndTheSun_1 : ∃ (s : State) (n : Nat), s.frm.running = true ∧ s.src.schedRun = true ∧ n < 1024 ∧ ((n, true) ∉
    s.src.fired) :=
  ⟨scheduling, 1023, by decide +kernel⟩

theorem test_schedulesAndTheSun_2 : ∃ (s : State) (c : Store) (j : Nat) (n : Nat) (r : Nat), s.src.fired = [(n, true)] ∧ r = c.row
    fixSchedule n ∧ byteAt r 0 ≠ 0 :=
  ⟨{ scheduling with src := { scheduling.src with fired := [(1023, true)] } },
   (scheduling.cfg.setRow fixSchedule 1023 (record [(0, 1), (1, 1), (8, 10)])), 101, 1023, (record [(0, 1), (1, 1), (8, 10)]),
   by decide +kernel⟩

theorem test_schedulesAndTheSun_3 : ∃ (s : State) (d : Nat) (x y : Int), localSec s.cfg s.tim.now / 86400 = d ∧
    sunOn s.cfg d true = some x ∧ sunOn s.cfg d false = some y := by
  obtain ⟨x, hx⟩ := Option.isSome_iff_exists.mp (show (sunOn atUtc.cfg 0 true).isSome = true by decide +kernel)
  obtain ⟨y, hy⟩ := Option.isSome_iff_exists.mp (show (sunOn atUtc.cfg 0 false).isSome = true by decide +kernel)
  exact ⟨atUtc, 0, x, y, by decide +kernel, hx, hy⟩

theorem test_schedulesAndTheSun_4 : ∃ (s : State) (d : Nat) (x y : Int), localSec s.cfg s.tim.now / 86400 ≠ d ∧
    sunOn s.cfg d true = some x ∧ sunOn s.cfg d false = some y := by
  obtain ⟨x, hx⟩ := Option.isSome_iff_exists.mp (show (sunOn atUtc.cfg 1 true).isSome = true by decide +kernel)
  obtain ⟨y, hy⟩ := Option.isSome_iff_exists.mp (show (sunOn atUtc.cfg 1 false).isSome = true by decide +kernel)
  exact ⟨atUtc, 1, x, y, by decide +kernel, hx, hy⟩

theorem test_threadsMoveBetweenCoresByPriority_1 : ∃ (s : State) (n : Nat) (k : Nat) (v : Nat) (c : Nat) (w : Option Nat) (u : Time), n <
    256 ∧ ((thGet s n).state ≠ 1) ∧ ((thGet s n).state ≠ 2) ∧ s.dev.state.powered = true ∧ nextReady s = none ∧ ((List.range 4).find? (fun
    x => (onCore s x).isNone) = some c) :=
  ⟨running, 255, 1, 2, 0, none, (10 * sec + 1), by decide +kernel⟩

theorem test_threadsMoveBetweenCoresByPriority_2 : ∃ (s : State) (n k v c m : Nat) (w : Option Nat) (u : Time), n < 256 ∧
    (thGet s n).state ≠ 1 ∧ (thGet s n).state ≠ 2 ∧ s.dev.state.powered = true ∧ (∀ x, x < 4 → onCore s x ≠ none) ∧
    (∀ x, onCore s x ≠ some n) ∧ victim s = some (c, m) := by
  have h0 : onCore fourRun 0 = some 0 := by decide +kernel
  have h1 : onCore fourRun 1 = some 1 := by decide +kernel
  have h2 : onCore fourRun 2 = some 2 := by decide +kernel
  have h3 : onCore fourRun 3 = some 3 := by decide +kernel
  have h5 : ∀ x, onCore fourRun x ≠ some 5 := by
    intro x h
    obtain ⟨y, h6, h7⟩ := Option.map_eq_some_iff.1 h
    have h8 : ∀ y ∈ fourRun.sch.threads, y.1 ≠ 5 := by decide +kernel
    exact h8 y (List.mem_of_find?_eq_some h6) h7
  have h : ∃ c m, victim fourRun = some (c, m) := by
    simp only [victim, show List.range 4 = [0, 1, 2, 3] from rfl, List.foldl, h0, h1, h2, h3]
    repeat (first | exact ⟨_, _, rfl⟩ | split)
  obtain ⟨c, m, h⟩ := h
  exact ⟨fourRun, 5, 0, 0, c, m, none, 10 * sec, by decide +kernel, by decide +kernel, by decide +kernel, by decide +kernel,
    by decide +kernel, h5, h⟩

theorem test_threadsMoveBetweenCoresByPriority_3 : ∃ (s : State) (n : Nat) (m : Nat) (c : Nat) (x : Thread) (u : Time), onCore s c = some
    n ∧ ((thGet s n).state = 2) ∧ nextReady s = some (m, x) ∧ m ≠ n :=
  ⟨(withThreads [(1, 2, 3), (2, 1, 255)] running), 1, 2, 3, { Thread.unused with state := 1 }, (10 * sec + 1), by decide +kernel⟩

theorem test_threadsMoveBetweenCoresByPriority_4 : ∃ (s : State) (n : Nat) (m : Nat) (c : Nat) (x : Thread) (u : Time), onCore s c = some
    n ∧ nextReady s = some (m, x) ∧ m ≠ n ∧ ((thGet s n).since + ms ≤ u) :=
  ⟨(withThreads [(1, 2, 3), (2, 1, 255)] running), 1, 2, 3, { Thread.unused with state := 1 }, (10 * sec + ms), by decide +kernel⟩

theorem test_recorderCommands_1 : ∃ (s : State) (code : Nat) (l : Nat) (v : Nat), eventRow code = some (l, v) ∧ l ≤ 5 ∧
    s.dev.state.powered = true ∧ ((bucketOf s code).suppressed = 0) :=
  ⟨running, 0x0101, 0, 1, by decide +kernel⟩

theorem test_recorderCommands_2 : ∃ (s : State) (code : Nat) (l : Nat) (v : Nat), eventRow code = some (l, v) ∧ l ≤ 5 ∧
    s.dev.state.powered = true ∧ ((bucketOf s code).suppressed ≠ 0) ∧ clearingOf s l = none ∧ logUsed s l < 4095 :=
  ⟨(putBucket running 0x0101 { tokens := some 0, suppressed := 3, firstAt := 9 }), 0x0101, 0, 1, by decide +kernel⟩

theorem test_recorderCommands_3 : ∃ (s : State), s.dev.state.powered = true :=
  ⟨running, by decide +kernel⟩

theorem test_recorderCommands_4 : ∃ (s : State) (l : Nat) (u : Time) (c : Clearing), clearingOf s l = some c ∧ c.held = [] :=
  ⟨clearing, 2, (10 * sec + 1), clear2, by decide +kernel⟩

theorem test_logRequestsAnswer_1 : ∃ (r : Req) (s : State) (u : State) (f : Found), u = inService 0x40 r s ∧ Heard 0x40 r s ∧ logReadErr
    r.payload = none ∧ f = scanSlots (slotsSeen u (byteOf r.payload 0)) (fun x => decide (byteOf r.payload 1 ≤ byteOf x 2 % 8) && decide
    (leAt r.payload 8 5 ≤ leAt x 4 5) && (leAt r.payload 16 5 == 0 || decide (leAt x 4 5 < leAt r.payload 16 5))) (leAt r.payload 6 2)
    4097 { records := [], next := leAt r.payload 4 2, bad := 0 } ∧ f.bad = 0 ∧ Fits 0x40 r s u .ok 0 (readPrefix u (byteOf r.payload 0)
    f.next f.records.length ++ f.records.flatten) :=
  ⟨readLog, running, (inService 0x40 readLog running), nothing, rfl, by unfold Heard; decide +kernel, by decide +kernel,
   by decide +kernel, by decide +kernel, by unfold Fits; decide +kernel⟩

theorem test_logRequestsAnswer_2 : ∃ (r : Req) (s : State) (u : State), u = inService 0x42 r s ∧ Heard 0x42 r s ∧ byteOf r.payload 1 = 0 ∧
    leAt r.payload 4 4 = 0 ∧ (byteOf r.payload 0 = 6 ∨ byteOf r.payload 0 = 7) ∧ leAt r.payload 2 2 < 4096 ∧ Fits 0x42 r s (cursorPut u
    (by_ 0x42 r s) { log := byteOf r.payload 0, slot := leAt r.payload 2 2, window := none }) .ok 0 [] :=
  ⟨(ask (leBytes 8 (record [(0, 7), (2, 4095)]))), keeper, (inService 0x42 (ask (leBytes 8 (record [(0, 7), (2, 4095)]))) keeper), rfl,
   by unfold Heard; decide +kernel, by decide +kernel, by decide +kernel, by decide +kernel, by decide +kernel,
   by unfold Fits; decide +kernel⟩

theorem test_logRequestsAnswer_3 : ∃ (r : Req) (s : State) (u : State) (x : Cursor) (f : Found), u = inService 0x43 r s ∧ Heard 0x43 r s ∧
    byteOf r.payload 1 = 0 ∧ leAt r.payload 4 4 = 0 ∧ 1 ≤ byteOf r.payload 0 ∧ byteOf r.payload 0 ≤ 16 ∧ cursorOf u (by_ 0x43 r s) = some
    x ∧ leAt r.payload 2 2 = x.slot ∧ f = scanSlots (slotsSeen u x.log) (fun _ => true) (byteOf r.payload 0) 4097
    { records := [], next := x.slot, bad := 0 } ∧ f.bad = 0 ∧ Fits 0x43 r s (cursorPut u (by_ 0x43 r s)
    { x with slot := f.next, window := some (x.slot, f.next - x.slot) }) .ok 0 (readPrefix u x.log f.next f.records.length ++
    f.records.flatten) :=
  ⟨windowAt, cursed, (inService 0x43 windowAt cursed), cursor9, { nothing with next := 9 }, rfl, by unfold Heard; decide +kernel,
   by decide +kernel, by decide +kernel, by decide +kernel, by decide +kernel, by decide +kernel, by decide +kernel, by decide +kernel,
   by decide +kernel, by unfold Fits; decide +kernel⟩

theorem test_logRequestsAnswer_4 : ∃ (r : Req) (s : State) (u : State) (x : Clearing), u = inService 0x41 r s ∧ Heard 0x41 r s ∧
    logClearErr u (by_ 0x41 r s) r.payload = none ∧ x = ⟨clearPath r.path, (by_ 0x41 r s).tenant, (by_ 0x41 r s).role, logRecords u
    (byteOf r.payload 0), some r, []⟩ :=
  ⟨clearLog5, running, (inService 0x41 clearLog5 running), clear5, rfl, by unfold Heard; decide +kernel, by decide +kernel, rfl⟩

theorem test_disciplineCommands_1 : ∃ (s : State) (u : Time), s.dev.state.powered = true ∧ bitAt s.dev.dawnPassed 6 = true :=
  ⟨{ running with dev := { running.dev with dawnPassed := 255 } }, (10 * sec + 7), by decide +kernel⟩

theorem test_disciplineCommands_2 : ∃ (s : State) (u : Time) (x : Int) (n : Int) (src : Nat) (k : Nat), s.dev.state.powered = true ∧
    sourceAllowed s src = true ∧ (n = Int.tdiv (if src = 1 ∨ src = 2 then x - ptpAsym s.cfg (src - 1) else x) (ns : Int)) :=
  ⟨(withVals [(timPtpMode, 0, 1)] { running with tim := { running.tim with ptpPort := SMap.put 0 [] 0 1 } }), (10 * sec + 7), 6553600,
   100, 1, 16000, by decide +kernel⟩

theorem test_disciplineCommands_3 : ∃ (s : State) (u : Time), (s.tim.disc = .acquiring ∨ s.tim.disc = .locked) ∧ s.tim.sampleAt + 8 *
    (s.tim.interval * sec / 128000) ≤ u :=
  ⟨(disciplined .locked), (11 * sec), by decide +kernel⟩

theorem test_disciplineCommands_4 : ∃ (s : State) (u : Time), s.tim.disc = .holdover ∧ s.tim.holdAt + s.cfg.v timHoldoverMax * sec ≤ u :=
  ⟨(disciplined .holdover), (3610 * sec), by decide +kernel⟩

theorem test_disciplineCommands_5 : ∃ (s : State) (p : Nat) (m : Bool) (u : Time), ptpActive s p = true ∧ isMember s = false :=
  ⟨(withVals [(timPtpMode, 0, 3)] (ethPut running 1 { EthState.empty with up := true })), 1, true, (10 * sec + 1), by decide +kernel⟩

theorem test_timestampsTriggersAndAlarms_1 : ∃ (s : State) (p : Nat) (tag : Nat) (a : Nat) (ptp : Bool) (u : Time) (b : Time) (pkt : List
    Byte), ((SMap.get EthState.empty s.eth p).sending = some (a, pkt, b, false)) ∧ p < 2 ∧ ((tsGet s p).length < 64) ∧ leAt pkt 0 2 = tag
    ∧ bitAt (byteOf pkt 2) 0 = true ∧ bitAt (byteOf pkt 2) 1 = ptp :=
  ⟨sendingTs, 1, 0x0102, 4, false, (10 * sec + 5), (9 * sec), stamped, by decide +kernel⟩

theorem test_timestampsTriggersAndAlarms_2 : ∃ (s : State) (p : Nat) (x : Nat × Bool × Time) (rest : List (Nat × Bool × Time)), tsGet s p
    = x :: rest :=
  ⟨{ running with tim := { running.tim with tsq := SMap.put [] [] 1 [(7, true, 5)] } }, 1, (7, true, 5), [], by decide +kernel⟩

theorem test_timestampsTriggersAndAlarms_3 : ∃ (s : State) (n : Nat) (k : Nat) (a : Time), n < 8 ∧ s.frm.running = true ∧ toutNext s n =
    some (a, k) ∧ s.dev.state ≠ .shadow :=
  ⟨(withRows [(timTout, 7, record [(0, 3), (2, 1), (4, 1000)])] running), 7, 101, (10 * sec), by decide +kernel⟩

theorem test_timestampsTriggersAndAlarms_4 : ∃ (s : State) (n : Nat) (k : Nat) (a : Time), n < 8 ∧ s.frm.running = true ∧ toutNext s n =
    some (a, k) ∧ s.dev.state = .shadow :=
  ⟨{ withRows [(timTout, 7, record [(0, 3), (2, 1), (4, 1000)])] running with dev := { running.dev with state := .shadow } }, 7, 101,
   (10 * sec), by decide +kernel⟩

theorem test_timestampsTriggersAndAlarms_5 : ∃ (s : State) (n : Nat) (up : Bool) (u : Time), n < 8 ∧ s.dev.state.live = true ∧ bitAt
    (s.cfg.row timTin n) (if up then 0 else 1) = true ∧ bitAt (s.cfg.row timTin n) 8 = true ∧ ((∀ v, (tinGet s n).accepted = some v →
    u16At (s.cfg.row timTin n) 2 * ns ≤ u - v)) ∧ ((tinGet s n).fifo = []) ∧ s.que.lost = 0 ∧ 96 ≤ qFree s 28 :=
  ⟨(withRows [(timTin, 7, record [(0, 3), (1, 1)])] running), 7, false, (10 * sec + 3), by decide +kernel, by decide +kernel,
   by decide +kernel, by decide +kernel,
   fun v h => by simp [show (tinGet (withRows [(timTin, 7, record [(0, 3), (1, 1)])] running) 7).accepted = none from by decide +kernel] at h,
   by decide +kernel⟩

theorem test_timestampsTriggersAndAlarms_6 : ∃ (s : State) (n : Nat), n < 4 ∧ s.frm.running = true ∧ bitAt (s.cfg.row timAlarm n) 128 =
    true ∧ SMap.get 0 s.tim.alarms n = 0 ∧ s.que.lost = 0 ∧ 96 ≤ qFree s 28 :=
  ⟨(withRows [(timAlarm, 3, record [(0, 10), (16, 1)])] running), 3, by decide +kernel⟩

theorem test_referencePulsesLockTheFrame_1 : ∃ (s : State) (u : Time) (v : Time), s.frm.running = true ∧ source s = 1 ∧ s.frm.lock.state =
    .acquiring ∧ s.frm.lock.last = some v ∧ spacingGood s.cfg (u - v) = true ∧ 7 ≤ s.frm.lock.good :=
  ⟨(locking 1 { loop0 with last := some (10 * sec), good := 7 }), (10 * sec + period Store.empty), (10 * sec), by decide +kernel⟩

theorem test_referencePulsesLockTheFrame_2 : ∃ (s : State) (u : Time), s.frm.running = true ∧ source s = 1 ∧ s.frm.lock.state = .holdover
    :=
  ⟨(locking 1 { loop0 with state := .holdover }), (10 * sec + 1), by decide +kernel⟩

theorem test_referencePulsesLockTheFrame_3 : ∃ (s : State) (u : Time) (e : Time) (p : Int), s.frm.running = true ∧ source s = 1 ∧
    s.frm.lock.state = .locked ∧ p = (u : Int) + s.cfg.vs frmGenDelay 0 * ns ∧ windowEdge s p = some e ∧ s.frm.lock.window ≠ some e ∧ (((e
    : Int) - p).natAbs ≤ s.cfg.v frmGenTol * ns) :=
  ⟨(locking 1 { loop0 with state := .locked }), (10 * sec + period Store.empty), (10 * sec + period Store.empty),
   (10 * sec + period Store.empty : Nat), by decide +kernel⟩

theorem test_referencePulsesLockTheFrame_4 : ∃ (s : State), s.frm.running = true ∧ (source s = 1 ∨ source s = 2) ∧ s.frm.lock.everLocked =
    true ∧ s.frm.lock.state ≠ .holdover ∧ windowMissed s = true :=
  ⟨(locking 2 { loop0 with everLocked := true, window := some (9 * sec) }), by decide +kernel⟩

theorem test_referencePulsesLockTheFrame_5 : ∃ (s : State), s.frm.lock.state ≠ .holdover ∧ 4 ≤ s.frm.lock.missing :=
  ⟨(locking 1 { loop0 with missing := 4 }), by decide +kernel⟩

theorem test_referencePulsesLockTheFrame_6 : ∃ (s : State) (u : Time), s.frm.running = true ∧ source s = 2 ∧ s.frm.lock.wclk + 1 < s.cfg.v
    frmWclkDiv :=
  ⟨(withVals [(frmWclkDiv, 0, 2)] (locking 2 loop0)), (10 * sec + 1), by decide +kernel⟩

theorem test_referencePulsesLockTheFrame_8 : ∃ (s : State) (u : Time) (v : Time), s.frm.ltc.start = some v ∧ s.frm.ltc.period ≠ 0 ∧ v + 8
    * s.frm.ltc.period ≤ u ∧ s.frm.ltc.counting = false :=
  ⟨{ running with frm := { running.frm with ltc := ltc0 } }, (10 * sec + 8 * (sec / 25)), (10 * sec), by decide +kernel⟩

theorem test_referencePulsesLockTheFrame_9 : ∃ (s : State), s.frm.ltc.counting = true ∧ 25 ≤ s.frm.ltc.counted ∧ s.frm.ltc.lost = false :=
  ⟨{ running with frm := { running.frm with ltc := { ltc0 with counting := true, counted := 25 } } }, by decide +kernel⟩

theorem test_energyAndTemperatures_1_1 : ∃ (s : State) (d : Nat) (c : Nat) (v : Nat) (x : Nat), s.dev.state.live = true ∧ g6Shed s = false
    ∧ d < 7 ∧ c < 256 ∧ x = (SMap.get none s.eng.trim (d * 256 + c)).getD (Config.workCoef (d * 256 + c)) ∧ 4 * ((v : Int) - x).natAbs ≤ x
    :=
  ⟨{ running with eng := { running.eng with trim := SMap.put none [] 1791 (some 8) } }, 6, 255, 9, 8, by decide +kernel,
   by decide +kernel, by decide +kernel, by decide +kernel, rfl, by decide +kernel⟩

theorem test_energyAndTemperatures_1_2 : ∃ (s : State) (d : Nat) (c : Nat) (v : Nat) (x : Nat), s.dev.state.live = true ∧ g6Shed s = false
    ∧ d < 7 ∧ c < 256 ∧ x = (SMap.get none s.eng.trim (d * 256 + c)).getD (Config.workCoef (d * 256 + c)) ∧ x < 4 * ((v : Int) - x).natAbs
    :=
  ⟨{ running with eng := { running.eng with trim := SMap.put none [] 1791 (some 8) } }, 6, 255, 5, 8, by decide +kernel,
   by decide +kernel, by decide +kernel, by decide +kernel, rfl, by decide +kernel⟩

theorem test_energyAndTemperatures_2 : ∃ (s : State) (u : Time), s.dev.state.powered = true :=
  ⟨running, (70 * sec), by decide +kernel⟩

theorem test_energyAndTemperatures_3 : ∃ (s : State) (os : List Nat), s.dev.state.powered = true :=
  ⟨running, [10000, 0, 4294967295], by decide +kernel⟩

theorem test_energyAndTemperatures_4 : ∃ (s : State) (x : Int) (xs : List Int), s.dev.state.powered = true :=
  ⟨running, 2000, [-5, 2001], by decide +kernel⟩

theorem test_energyAndTemperatures_5 : ∃ (s : State), s.dev.state.live = true ∧ 10 ≤ s.dev.hotMs :=
  ⟨{ running with dev := { running.dev with hotMs := 10 } }, by decide +kernel⟩

theorem test_energyAndTemperatures_6 : ∃ (s : State) (mv : List Nat), s.dev.rails = true :=
  ⟨running, [900, 1100], by decide +kernel⟩

theorem test_calibrationPassesAndLines_1 : ∃ (s : State), s.frm.running = true ∧ s.frm.begun = true ∧ s.cal.running = false ∧
    s.cal.startAt + s.cfg.v calInterval * sec ≤ s.tim.up ∧ g6Shed s = false ∧ s.cal.now = [] ∧ ((∀ g, g < 9 → spareIdle s g = true)) :=
  ⟨(withVals [(calInterval, 0, 10)] spares), by decide +kernel⟩

theorem test_calibrationPassesAndLines_2 : ∃ (s : State) (n : Nat) (as_ : List Bool), n ∈ s.cal.now ∧ true ∈ as_.take 4 :=
  ⟨{ spares with cal := { spares.cal with running := true, now := [71] } }, 71, [false, true], by decide +kernel⟩

theorem test_calibrationPassesAndLines_3 : ∃ (s : State) (n : Nat) (rest : List Bool), n ∈ s.cal.now :=
  ⟨{ spares with cal := { spares.cal with running := true, now := [71] } }, 71, [true], by decide +kernel⟩

theorem test_edgesNumberAndPresentFrames_1 : ∃ (s : State) (i : EdgeIn), s.frm.running = true ∧ s.frm.frames.length = 3 ∧
    s.upd.resetWanted = false ∧ s.dev.duskWanted = false ∧ s.upd.state ≠ 4 :=
  ⟨(withFrames .complete .computing .idle), fairEdge, by decide +kernel⟩

theorem test_edgesNumberAndPresentFrames_2_1 : ∃ (s : State) (i : EdgeIn) (f : Frame), s.frm.running = true ∧ s.frm.frames.length = 3 ∧
    s.upd.resetWanted = false ∧ s.dev.duskWanted = false ∧ s.upd.state ≠ 4 ∧ frameOf s (nextNum s) = some f ∧ s.dev.state = .run ∧
    s.red.pair = false ∧ s.red.roleAt = none ∧ f.cfg.v devRun = 1 ∧ f.stage = .complete :=
  ⟨(ranFrames .complete), fairEdge, { frame 101 .complete with cfg := Store.empty.setVal devRun 0 1 }, by decide +kernel⟩

theorem test_edgesNumberAndPresentFrames_2_2 : ∃ (s : State) (i : EdgeIn) (f : Frame), s.frm.running = true ∧ s.frm.frames.length = 3 ∧
    s.upd.resetWanted = false ∧ s.dev.duskWanted = false ∧ s.upd.state ≠ 4 ∧ frameOf s (nextNum s) = some f ∧ s.dev.state = .run ∧
    s.red.pair = false ∧ s.red.roleAt = none ∧ f.cfg.v devRun = 1 ∧ f.stage = .slipped :=
  ⟨(ranFrames .slipped), fairEdge, { frame 101 .slipped with cfg := Store.empty.setVal devRun 0 1 }, by decide +kernel⟩

theorem test_edgesNumberAndPresentFrames_3 : ∃ (s : State) (i : EdgeIn), s.frm.running = true ∧ s.frm.frames.length = 3 ∧
    s.upd.resetWanted = true :=
  ⟨{ framed with upd := { framed.upd with resetWanted := true } }, fairEdge, by decide +kernel⟩

theorem test_edgesNumberAndPresentFrames_4 : ∃ (s : State) (i : EdgeIn), s.frm.running = true ∧ s.frm.frames.length = 3 ∧
    s.upd.resetWanted = false ∧ s.dev.duskWanted = true :=
  ⟨{ framed with dev := { framed.dev with duskWanted := true } }, fairEdge, by decide +kernel⟩

theorem test_edgesNumberAndPresentFrames_5 : ∃ (s : State) (i : EdgeIn), s.frm.running = true ∧ s.frm.frames.length = 3 ∧
    s.upd.resetWanted = false ∧ s.dev.duskWanted = false ∧ s.upd.state = 4 ∧ s.upd.armed.getD 0 ≤ nextNum s :=
  ⟨{ framed with upd := { framed.upd with state := 4, armed := some 101 } }, fairEdge, by decide +kernel⟩

theorem test_edgesNumberAndPresentFrames_6 : ∃ (s : State) (i : EdgeIn), s.frm.running = false :=
  ⟨State.reset, fairEdge, by decide +kernel⟩

theorem test_framesAreLatchedComputedAndSlip_1 : ∃ (s : State), s.frm.running = true ∧ s.frm.frames.length < 3 ∧ s.eng.above < 7 :=
  ⟨running, by decide +kernel⟩

theorem test_framesAreLatchedComputedAndSlip_2 : ∃ (s : State) (f : Frame) (k : Nat) (y : Nat), working s = some f ∧ frameOf s f.num =
    some f ∧ s.frm.running = true ∧ inputHeld s f.num = true ∧ nextCanvas f.cfg f.canvas f.lines = some (k, y) :=
  ⟨{ running with frm := { running.frm with frames := [canvasFrame] } }, canvasFrame, 0, 0, by decide +kernel⟩

theorem test_framesAreLatchedComputedAndSlip_3 : ∃ (s : State) (u : Time) (f : Frame), working s = some f ∧ frameOf s f.num = some f ∧
    s.frm.running = true ∧ composed f = true ∧ inputHeld s f.num = true ∧ shadowing s = false ∧ max s.tim.now u < deadline s f.num :=
  ⟨{ running with frm := { running.frm with frames := [frame 102 .computing] } }, (10 * sec + 1), (frame 102 .computing),
   by decide +kernel⟩

theorem test_framesAreLatchedComputedAndSlip_4 : ∃ (s : State) (u : Time) (f : Frame), working s = some f ∧ frameOf s f.num = some f ∧
    s.frm.running = true ∧ composed f = true ∧ inputHeld s f.num = true ∧ deadline s f.num ≤ max s.tim.now u :=
  ⟨{ running with frm := { running.frm with frames := [frame 102 .computing] } }, (11 * sec), (frame 102 .computing), by decide +kernel⟩

theorem test_framesAreLatchedComputedAndSlip_5 : ∃ (s : State) (f : Frame), frameOf s (dueFrame s) = some f ∧ f.stage = .computing ∧
    s.frm.running = true :=
  ⟨{ running with frm := { running.frm with frames := [frame 102 .computing] } }, (frame 102 .computing), by decide +kernel⟩

theorem test_edgeRequestsAreAccepted_1 : ∃ (r : Req) (s : State) (v : State), ((∀ y ∈ r.items, edgeId y.id = true)) ∧ EdgeReady 0x02 r s v
    :=
  ⟨setTtl, running, (taken 0x02 setTtl running), by decide +kernel,
   edgeReady_of (by unfold Heard; decide +kernel) (by decide +kernel) (by unfold Fits; decide +kernel)⟩

theorem test_edgeRequestsAreAccepted_2 : ∃ (r : Req) (d : TableSpec) (s : State) (v : State), findTable (tblId r) = some d ∧ d.edge = true
    ∧ EdgeReady 0x20 r s v :=
  ⟨writeAlarm, timAlarm, running, (taken 0x20 writeAlarm running), rfl, rfl,
   edgeReady_of (by unfold Heard; decide +kernel) (by decide +kernel) (by unfold Fits; decide +kernel)⟩

theorem test_edgeRequestsAreAccepted_3 : ∃ (r : Req) (s : State) (v : State), EdgeReady 0x22 r s v :=
  ⟨unbind, running, (taken 0x22 unbind running),
   edgeReady_of (by unfold Heard; decide +kernel) (by decide +kernel) (by unfold Fits; decide +kernel)⟩

theorem test_edgeRequestsAreAccepted_4 : ∃ (r : Req) (s : State) (v : State), EdgeReady 0x23 r s v :=
  ⟨rewindA, running, (taken 0x23 rewindA running),
   edgeReady_of (by unfold Heard; decide +kernel) (by decide +kernel) (by unfold Fits; decide +kernel)⟩

theorem test_immediateRequestsActAtOnce_1 : ∃ (r : Req) (s : State) (v : State), ActsReady dmxRdmReq r s v :=
  ⟨(setting dmxRdmReq getReq), running, (acted dmxRdmReq getReq running),
   actsReady_of (by unfold Heard; decide +kernel) (by decide +kernel) (by unfold Fits; decide +kernel)⟩

theorem test_immediateRequestsActAtOnce_2 : ∃ (r : Req) (s : State) (v : State), ActsReady dmxRdmDisc r s v :=
  ⟨(setting dmxRdmDisc 0x8000), running, (acted dmxRdmDisc 0x8000 running),
   actsReady_of (by unfold Heard; decide +kernel) (by decide +kernel) (by unfold Fits; decide +kernel)⟩

theorem test_immediateRequestsActAtOnce_3 : ∃ (r : Req) (s : State) (v : State), ActsReady dalCmd r s v :=
  ⟨(setting dalCmd 0x7E900007), running, (acted dalCmd 0x7E900007 running),
   actsReady_of (by unfold Heard; decide +kernel) (by decide +kernel) (by unfold Fits; decide +kernel)⟩

theorem test_immediateRequestsActAtOnce_4 : ∃ (r : Req) (s : State) (v : State), ActsReady dalAddressRun r s v :=
  ⟨(setting dalAddressRun 0x80), running, (acted dalAddressRun 0x80 running),
   actsReady_of (by unfold Heard; decide +kernel) (by decide +kernel) (by unfold Fits; decide +kernel)⟩

theorem test_immediateRequestsActAtOnce_5 : ∃ (r : Req) (s : State) (v : State), ActsReady radTx r s v :=
  ⟨(setting radTx (record [(0, 3), (2, 0xFFFF)])), (radioOn 2 0 0xFFFF),
   (acted radTx (record [(0, 3), (2, 0xFFFF)]) (radioOn 2 0 0xFFFF)),
   actsReady_of (by unfold Heard; decide +kernel) (by decide +kernel) (by unfold Fits; decide +kernel)⟩

theorem test_immediateRequestsActAtOnce_6 : ∃ (r : Req) (s : State) (v : State), ActsReady queFlush r s v :=
  ⟨(setting queFlush 0x80000000), running, (acted queFlush 0x80000000 running),
   actsReady_of (by unfold Heard; decide +kernel) (by decide +kernel) (by unfold Fits; decide +kernel)⟩

theorem test_immediateRequestsActAtOnce_7 : ∃ (r : Req) (s : State) (v : State), ActsReady timRtcSet r s v :=
  ⟨(setting timRtcSet (sec / sec)), running, (acted timRtcSet (sec / sec) running),
   actsReady_of (by unfold Heard; decide +kernel) (by decide +kernel) (by unfold Fits; decide +kernel)⟩

theorem test_immediateRequestsActAtOnce_8 : ∃ (s : State) (p : ParamRow) (y : SetItem), p.id = dmxRdmReq.id :=
  ⟨running, dmxRdmReq, (itemOf dmxRdmReq 0), by decide +kernel⟩

theorem test_immediateRequestsActAtOnce_9 : ∃ (s : State) (p : ParamRow) (y : SetItem) (n : Nat), p.id = dmxRdmDisc.id ∧ n < 16 ∧ bitAt
    y.value n = true :=
  ⟨running, dmxRdmDisc, (itemOf dmxRdmDisc 32768), 15, by decide +kernel⟩

theorem test_immediateRequestsActAtOnce_10 : ∃ (s : State) (p : ParamRow) (y : SetItem), p.id = dalCmd.id :=
  ⟨running, dalCmd, (itemOf dalCmd 0), by decide +kernel⟩

theorem test_immediateRequestsActAtOnce_11 : ∃ (s : State) (p : ParamRow) (y : SetItem) (n : Nat), p.id = dalAddressRun.id ∧ n < 8 ∧ bitAt
    y.value n = true :=
  ⟨running, dalAddressRun, (itemOf dalAddressRun 128), 7, by decide +kernel⟩

theorem test_immediateRequestsActAtOnce_12 : ∃ (s : State) (p : ParamRow) (y : SetItem), p.id = radTx.id :=
  ⟨running, radTx, (itemOf radTx 0), by decide +kernel⟩

theorem test_immediateRequestsActAtOnce_13 : ∃ (s : State) (p : ParamRow) (y : SetItem) (n : Nat), p.id = queFlush.id ∧ n < 32 ∧ bitAt
    y.value n = true :=
  ⟨running, queFlush, (itemOf queFlush 2147483648), 31, by decide +kernel⟩

theorem test_immediateRequestsActAtOnce_14 : ∃ (s : State) (p : ParamRow) (y : SetItem), p.id = timRtcSet.id :=
  ⟨running, timRtcSet, (itemOf timRtcSet 0), by decide +kernel⟩

theorem test_readRequestsAnswer_1 : ∃ (r : Req) (s : State) (u : State) (b : List Byte), u = inService 0x01 r s ∧ Heard 0x01 r s ∧ r.node
    ≠ 0x3F ∧ getItems u r = .ok b ∧ Fits 0x01 r s u .ok 0 b :=
  ⟨getNum, running, (inService 0x01 getNum running), numItem, rfl, by unfold Heard; decide +kernel, by decide +kernel, rfl,
   by unfold Fits; decide +kernel⟩

theorem test_readRequestsAnswer_2 : ∃ (r : Req) (s : State) (u : State) (b : List Byte), u = inService 0x03 r s ∧ Heard 0x03 r s ∧ r.node
    ≠ 0x3F ∧ getItems u r = .ok b ∧ Fits 0x03 r s u .ok 0 (leBytes 8 u.frm.num ++ nodeBlock u b) :=
  ⟨getNum, running, (inService 0x03 getNum running), numItem, rfl, by unfold Heard; decide +kernel, by decide +kernel, rfl,
   by unfold Fits; decide +kernel⟩

theorem test_readRequestsAnswer_3 : ∃ (r : Req) (s : State) (u : State) (v : State), u = inService 0x21 r s ∧ Heard 0x21 r s ∧
    tableReadErr u (by_ 0x21 r s) r = none ∧ v = (if tblId r = 0x7002 then { u with dev := { u.dev with wakeRead := true } } else u) ∧
    Fits 0x21 r s v .ok 0 (r.payload ++ tableReadData u r) :=
  ⟨readRows, running, (inService 0x21 readRows running), readSeen, rfl, by unfold Heard; decide +kernel, by decide +kernel, rfl,
   by unfold Fits; decide +kernel⟩

theorem test_transactionsOpenCommitAndEnd_1 : ∃ (r : Req) (s : State) (u : State) (v : State), u = inService 0x10 r s ∧ Heard 0x10 r s ∧
    u.ox.open_.length < 32 ∧ v =
    { noteId u (newId u) with ox := { (noteId u (newId u)).ox with open_ := u.ox.open_ ++ [⟨newId u, (by_ 0x10 r s).ident, (by_ 0x10 r s).tenant, (by_ 0x10 r s).role, [], u.tim.up⟩] } }
    ∧ Fits 0x10 r s v .ok (newId u) [] :=
  ⟨openAsk, running, opening, openedRun, rfl, by unfold Heard; decide +kernel, by decide +kernel, rfl, by unfold Fits; decide +kernel⟩

theorem test_transactionsOpenCommitAndEnd_2 : ∃ (r : Req) (s : State) (u : State) (v : State) (x : OpenTxn) (j : Nat), u = inService 0x11
    r s ∧ Heard 0x11 r s ∧ openOf u (by_ 0x11 r s) r = .ok x ∧ commitForm r.payload = none ∧ commitEdgeErr u r.payload = none ∧ involved u
    x.items = [] ∧ j = (if byteOf r.payload 0 = 2 then commitNext u 1 else commitFrame u r.payload) ∧ txnErr (closeTxn u x.id) (by_ 0x11 r
    s).tenant (by_ 0x11 r s).role j x.items = none ∧ v = accept (closeTxn u x.id) ⟨x.id, j, (by_ 0x11 r s).tenant, (by_ 0x11 r s).role,
    x.items, true⟩ ∧ Fits 0x11 r s v .accepted 0 (leBytes 8 j) :=
  ⟨commitAsk, openRun, committing, (accept (closeTxn committing open9.id) acc9), open9, edge9, rfl, by unfold Heard; decide +kernel,
   open_found (by decide +kernel) (by decide +kernel), by decide +kernel, by decide +kernel, by decide +kernel, by decide +kernel,
   by decide +kernel, rfl, by unfold Fits; decide +kernel⟩

theorem test_transactionsOpenCommitAndEnd_3 : ∃ (r : Req) (s : State) (u : State) (x : OpenTxn), u = inService 0x12 r s ∧ Heard 0x12 r s ∧
    openOf u (by_ 0x12 r s) r = .ok x ∧ Fits 0x12 r s (closeTxn u x.id) .ok 0 [] :=
  ⟨abortAsk, openRun, (inService 0x12 abortAsk openRun), aborting, rfl, by unfold Heard; decide +kernel,
   open_found (by decide +kernel) (by decide +kernel), by unfold Fits; decide +kernel⟩

theorem test_mailboxPacketsThatNoRequestIs_1 : ∃ (s : State) (bs : List Byte), hostUp s = true ∧ bs.length < 24 :=
  ⟨running, [], by decide +kernel⟩

theorem test_mailboxPacketsThatNoRequestIs_2 : ∃ (s : State) (bs : List Byte), answers s .console = true ∧ 2 ≤ bs.length ∧ leNat (bs.drop
    (bs.length - 2)) ≠ crc16 (bs.take (bs.length - 2)) :=
  ⟨running, [1, 2, 3], by decide +kernel⟩

theorem test_mailboxPacketsThatNoRequestIs_3 : ∃ (s : State) (u : State) (r : Req) (op : Nat), op ∉ opcodes ∧ u = inService op r s ∧
    answers (advance s r.t) r.path = true ∧ pathBusy (advance s r.t) r.path = false ∧ seenOf (mbCount (takeRequest (advance s r.t) r.path
    (reqBytes op r)) r.path 0) op r = .fresh :=
  ⟨running, (inService 0x77 openAsk running), openAsk, 0x77, by decide +kernel, rfl, by decide +kernel⟩

theorem test_strandsDmxAndRdm_1 : ∃ (s : State) (p : Nat) (c : Store) (o : FrameOut) (n : Nat) (u : Time), transmits s = true ∧ p < 64 ∧
    sending s = (c, o, n) ∧ modeOf (c.row spnPin p) ≠ 0 ∧ ((∀ x, SMap.get none s.wired.strands p = some x → x.stop ≠ s.frm.next)) ∧ u =
    s.frm.next - spTtx (c.row spnPin p) (c.wirePixels p) * ns :=
  ⟨pinned, 63, (sending pinned).1, (sending pinned).2.1, (sending pinned).2.2,
   (pinned.frm.next - spTtx (pinned.cfg.row spnPin 63) 0 * ns), by decide +kernel, by decide +kernel, rfl, by decide +kernel,
   fun x h => by simp [show SMap.get none pinned.wired.strands 63 = none from by decide +kernel] at h, rfl⟩

theorem test_strandsDmxAndRdm_2 : ∃ (s : State) (p : Nat) (r : Nat) (e : Time), transmits s = true ∧ p < 16 ∧ r = dmxRec s p ∧ modeOf r ≠
    0 ∧ e = dmxTarget s r ∧ ((dmxGet s p).target ≠ dmxTargetNum s r + 1) :=
  ⟨dmxOn, 15, (dmxOn.cfg.row dmxPort 15), (dmxTarget dmxOn (dmxOn.cfg.row dmxPort 15)), by decide +kernel⟩

theorem test_strandsDmxAndRdm_3_1 : ∃ (s : State) (p : Nat) (q : Nat) (r : Nat) (u : Time) (rest : List Nat), transmits s = true ∧ p < 16
    ∧ r = dmxRec s p ∧ modeOf r = 2 ∧ ((dmxGet s p).flight = none) ∧ ((dmxGet s p).packetEnd ≤ u) ∧ ((dmxGet s p).retry = none) ∧ ((dmxGet
    s p).queue = q :: rest) ∧ u + (rdmBudget q + 176) * us ≤ dmxTarget s r - dmxTime r * ns :=
  ⟨(dmx15 { DmxState.empty with queue := [getReq] }), 15, getReq, (dmxOn.cfg.row dmxPort 15), (10 * sec), [], by decide +kernel⟩

theorem test_strandsDmxAndRdm_3_2 : ∃ (s : State) (p : Nat) (q : Nat) (r : Nat) (u : Time) (rest : List Nat), transmits s = true ∧ p < 16
    ∧ r = dmxRec s p ∧ modeOf r = 2 ∧ ((dmxGet s p).flight = none) ∧ ((dmxGet s p).packetEnd ≤ u) ∧ ((dmxGet s p).retry = none) ∧ ((dmxGet
    s p).queue = q :: rest) ∧ dmxTarget s r - dmxTime r * ns < u + (rdmBudget q + 176) * us ∧ ((dmxGet s p).deferredAt ≠ (dmxGet s
    p).packetEnd) :=
  ⟨(dmx15 { DmxState.empty with queue := [getReq], packetEnd := 1 }), 15, getReq, (dmxOn.cfg.row dmxPort 15), (20 * sec), [],
   by decide +kernel⟩

theorem test_strandsDmxAndRdm_4 : ∃ (s : State) (p : Nat) (ty : Nat) (u : Time) (pd : List Byte) (f : RdmFlight), ((dmxGet s p).flight =
    some f) ∧ f.poll = none ∧ f.disc = false :=
  ⟨(dmx15 { DmxState.empty with flight := some (getFlight 0) }), 15, 0, (10 * sec + ms), [1, 2], (getFlight 0), by decide +kernel⟩

theorem test_strandsDmxAndRdm_5_1 : ∃ (s : State) (p : Nat) (u : Time) (f : RdmFlight), ((dmxGet s p).flight = some f) ∧ f.disc = false ∧
    f.tries < 2 :=
  ⟨(dmx15 { DmxState.empty with flight := some (getFlight 1) }), 15, (10 * sec + ms), (getFlight 1), by decide +kernel⟩

theorem test_strandsDmxAndRdm_5_2 : ∃ (s : State) (p : Nat) (u : Time) (f : RdmFlight), ((dmxGet s p).flight = some f) ∧ f.disc = false ∧
    2 ≤ f.tries ∧ f.poll = none :=
  ⟨(dmx15 { DmxState.empty with flight := some (getFlight 2) }), 15, (10 * sec + ms), (getFlight 2), by decide +kernel⟩

theorem test_strandsDmxAndRdm_6 : ∃ (s : State) (p : Nat) (u : Time) (ids : List Nat), p < 16 ∧ ((dmxGet s p).disc = true) :=
  ⟨(dmx15 { DmxState.empty with disc := true }), 15, (11 * sec), [0x123456789ABC], by decide +kernel⟩

theorem test_strandsDmxAndRdm_7 : ∃ (s : State) (n : Nat) (p : Nat) (k : Nat), transmits s = true ∧ n < 1024 ∧ s.cfg.row dmxRdmTel n ≠ 0 ∧
    dmxPortOf s.cfg (u32At (s.cfg.row dmxRdmTel n) 0) = some p ∧ modeOf (s.cfg.row dmxPort p) = 2 ∧ k < 2 ∧ byteAt (s.cfg.row dmxRdmTel n)
    (12 + k) ≠ 255 ∧ intervalOver s (SMap.get none s.wired.telAt n) (u16At (s.cfg.row dmxPort p) 12) = true :=
  ⟨telemetry, 1023, 15, 1, by decide +kernel⟩

theorem test_daliBuses_1_1 : ∃ (s : State) (b v : Nat) (rest : List Nat), transmits s = true ∧ b < 8 ∧ modeOf (s.cfg.row dalBus b) = 1 ∧
    (daliGet s b).down = false ∧ (daliGet s b).seq = v :: rest :=
  ⟨dali7 { DaliState.empty with seq := [0x7E80] }, 7, 0x7E80, [], by decide +kernel⟩

theorem test_daliBuses_1_2 : ∃ (s : State) (b r : Nat) (rest : List Nat), transmits s = true ∧ b < 8 ∧ modeOf (s.cfg.row dalBus b) = 1 ∧
    (daliGet s b).down = false ∧ (daliGet s b).ask = none ∧ (daliGet s b).seq = [] ∧ (daliGet s b).cmds = r :: rest ∧ bitAt r 8 = false :=
  ⟨dali7 { DaliState.empty with cmds := [0x7E900000] }, 7, 0x7E900000, [], by decide +kernel⟩

theorem test_daliBuses_1_3 : ∃ (s : State) (b a f : Nat) (v rest : List Nat), transmits s = true ∧ b < 8 ∧ modeOf (s.cfg.row dalBus b) = 1 ∧
    (daliGet s b).down = false ∧ (daliGet s b).ask = none ∧ (daliGet s b).seq = [] ∧ (daliGet s b).cmds = [] ∧
    broadcastOf s.cfg b (daliGet s b) = none ∧ nextPending s.cfg b (daliGet s b) = some a ∧
    SMap.get none (daliGet s b).pending a = some v ∧ arcFrames a v = f :: rest :=
  ⟨dali7 { DaliState.empty with pending := SMap.put none [] 63 (some [200]) }, 7, 63, 63 * 512 + 200, [200], [], by decide +kernel⟩

theorem test_daliBuses_2 : ∃ (s : State) (b : Nat) (v : Nat), ((daliGet s b).lastFrame = some v) ∧ ((daliGet s b).collisions < 7) :=
  ⟨(dali7 { DaliState.empty with lastFrame := some 0x7E80, collisions := 6 }), 7, 0x7E80, by decide +kernel⟩

theorem test_daliBuses_3 : ∃ (s : State) (b : Nat) (v : Nat) (a : Nat) (l : List Nat), ((daliGet s b).lastFrame = some v) ∧ 7 ≤ (daliGet s
    b).collisions ∧ ((daliGet s b).seqFor = some (a, l)) ∧ a < 64 ∧ SMap.get none (daliGet s b).pending a = none :=
  ⟨(dali7 { DaliState.empty with lastFrame := some 0x7E80, collisions := 7, seqFor := some (63, [128]) }), 7, 0x7E80, 63, [128],
   by decide +kernel⟩

theorem test_daliBuses_4 : ∃ (s : State) (b : Nat) (a : Nat), transmits s = true ∧ b < 8 ∧ modeOf (s.cfg.row dalBus b) = 1 ∧ ((daliGet s
    b).down = false) ∧ ((daliGet s b).ask = none) ∧ ((daliGet s b).seq = []) ∧ ((daliGet s b).cmds = []) ∧ ((daliGet s b).pending = []) ∧
    ((daliFixture s.cfg b a).isSome = true) ∧ intervalOver s (SMap.get none (daliGet s b).polled a) (u16At (s.cfg.row dalBus b) 2) = true
    :=
  ⟨daliOn, 7, 63, by decide +kernel⟩

theorem test_daliBuses_5 : ∃ (s : State) (b : Nat) (a : Nat) (v : Nat) (u : Time), ((daliGet s b).ask = some { addr := a, kind := 3 }) ∧
    ((daliGet s b).seq = []) :=
  ⟨(dali7 { DaliState.empty with ask := some { addr := 64, kind := 3 } }), 7, 64, 255, (11 * sec), by decide +kernel⟩

theorem test_daliBuses_6 : ∃ (s : State) (b : Nat) (a : Nat) (v : Nat) (u : Time) (fx : Nat × Nat), ((daliGet s b).ask = some
    { addr := a, kind := 0 }) ∧ ((daliGet s b).seq = []) ∧ daliFixture s.cfg b a = some fx ∧ bitAt v 1 = true :=
  ⟨daliAsked, 7, 63, 2, (11 * sec), (5, daliAsked.cfg.row fixTable 5), by decide +kernel⟩

theorem test_daliBuses_7 : ∃ (s : State) (b : Nat) (a : Nat) (u : Time), ((daliGet s b).ask = some { addr := a, kind := 0 }) ∧ ((daliGet s
    b).seq = []) :=
  ⟨daliAsked, 7, 63, (11 * sec), by decide +kernel⟩

theorem test_daliBuses_8 : ∃ (s : State) (b : Nat), b < 8 ∧ ((daliGet s b).down = false) :=
  ⟨daliOn, 7, by decide +kernel⟩

theorem test_daliBuses_9 : ∃ (s : State) (b : Nat), ((daliGet s b).down = true) :=
  ⟨(dali7 { DaliState.empty with down := true }), 7, by decide +kernel⟩

theorem test_daliBuses_10 : ∃ (s : State) (b : Nat) (u : Time) (xs : List (Nat × Nat)), b < 8 ∧ ((daliGet s b).addressing.isSome = true)
    :=
  ⟨(dali7 { DaliState.empty with addressing := some true }), 7, (11 * sec), [(63, 0x123456), (64, 1)], by decide +kernel⟩

theorem test_daliBuses_11 : ∃ (s : State) (b : Nat), b < 8 :=
  ⟨running, 7, by decide +kernel⟩

theorem test_sacnOutput_1 : ∃ (s : State) (p : Nat) (i : Nat) (rest : List Nat) (u : Time) (k : List Byte), p < 2 ∧ ((sacnGet s p).todo =
    i :: rest) ∧ transmits s = true ∧ s.frm.num + 1 = (sacnGet s p).frame ∧ ((sacnGet s p).quiet = false) ∧ u = paceAt s p ∧ quietNow s p
    u = false ∧ k = sacnPacket (bitAt ((sending s).1.row sacUniv i) 49) (dataFrame s (sending s) p i (sacnGet s p).frame 0) :=
  ⟨sacnDue, 1, 9, [], (paceAt sacnDue 1), (sacnPacket true (dataFrame sacnDue (sending sacnDue) 1 9 101 0)), by decide +kernel,
   by decide +kernel, by decide +kernel, by decide +kernel, by decide +kernel, rfl, by decide +kernel, rfl⟩

theorem test_sacnOutput_2 : ∃ (s : State) (p : Nat) (n : Nat), quietAhead s p = true ∧ n = (sacnGet s p).todo.length + (dropSacn s p).1 :=
  ⟨sacnDue, 1, 1, by decide +kernel⟩

theorem test_sacnOutput_3 : ∃ (s : State) (p : Nat), syncAhead s p = true ∧ ((ethGet s p).up = true) :=
  ⟨(sacnPut sacnOn 1 { SacnPort.empty with frame := 101, carried := true, quiet := true }), 1, by decide +kernel⟩

theorem test_rasterPorts_1 : ∃ (s : State) (u : State) (p : Nat) (q : Nat), lineReady s p = true ∧ q = rasLineSlot s p ∧ u = advance s
    (s.frm.last + slotStart q) :=
  ⟨scanning, (advance scanning (scanning.frm.last + slotStart (rasLineSlot scanning 0))), 0, (rasLineSlot scanning 0), by decide +kernel,
   rfl, rfl⟩

theorem test_rasterPorts_2 : ∃ (s : State) (p : Nat) (c : Nat), lineReady s p = true ∧ ((rasGet s p).fetched ≤ (rasGet s p).line) ∧ c <
    rsW (rasRec s p) ∧ ((rasGet s p).under = none) :=
  ⟨scanning, 0, 3, by decide +kernel⟩

theorem test_rasterPorts_3 : ∃ (s : State) (p : Nat) (fwd : Bool), p < 2 ∧ transmits s = true ∧ phaseFree s p fwd = true ∧ rasSplit
    s.frm.shownCfg = false :=
  ⟨scanned, 0, false, by decide +kernel⟩

theorem test_rasterPorts_4 : ∃ (s : State) (p : Nat) (fwd : Bool), p < 2 ∧ transmits s = true ∧ phaseFree s p fwd = true ∧ phaseFree s (1
    - p) fwd = true ∧ rasSplit s.frm.shownCfg = true :=
  ⟨splitPorts, 1, true, by decide +kernel⟩

theorem test_rasterPorts_5 : ∃ (s : State) (p : Nat), p < 2 ∧ transmits s = true ∧ modeOf (rasRec s p) ≠ 0 ∧ ((rasGet s p).scanning =
    false ∨ rsH (rasRec s p) ≤ (rasGet s p).fetched) ∧ nextKnown s = true ∧ ((rasGet s p).moved = false) :=
  ⟨(rasPut { scanning with frm := { scanning.frm with frames := [frame 101 .slipped] } } 0 { RasterState.empty with fetched := 8 }), 0,
   by decide +kernel⟩

theorem test_directDriveAndMatrix_1 : ∃ (s : State) (c : Nat) (r : Nat) (u : Time) (own : Time) (a : Time), c < 48 ∧ drvLive s = true ∧ r
    = s.drv.cfg.row drvChan c ∧ modeOf r = 1 ∧ u = s.frm.last + (pinGet s c).index * (u32At r 4 * ns) ∧ u < s.frm.next ∧ own = (if
    (pointGet s c).forced then 0 else min ((pinGet s c).nOn * step62) (s.frm.next - u)) ∧ a = (if (pinGet s c).probe ≠ 0 ∧ own < snsTmin *
    ns then min (snsTmin * ns) (s.frm.next - u) else own) :=
  ⟨(pin47 { Pin.empty with nOn := 7, index := 166 }), 47, (pwm47.drv.cfg.row drvChan 47), (10 * sec + 166 * (100000 * ns)), (7 * step62),
   (7 * step62), by decide +kernel, by decide +kernel, by decide +kernel, by decide +kernel, rfl, by decide +kernel⟩

theorem test_directDriveAndMatrix_2 : ∃ (s : State) (c : Nat) (r : Nat) (u : Time) (m : Nat × Bool) (on : Bool), c < 48 ∧ drvLive s = true
    ∧ r = s.drv.cfg.row drvChan c ∧ modeOf r = 2 ∧ u = s.frm.last + (pinGet s c).index * (u32At r 4 * ns) ∧ u < s.frm.next ∧ m = (if
    (pinGet s c).probe ≠ 0 then ((pinGet s c).acc, true) else pdmSlot (pinGet s c).acc (pinGet s c).out) ∧ on = (m.2 && (!(pointGet s
    c).forced || ((pinGet s c).level && decide ((pinGet s c).index ≠ 0)))) :=
  ⟨pdm47, 47, (record [(0, 2), (4, 16)]), (10 * sec), (pdmSlot 0x8000 0), (pdmSlot 0x8000 0).2, by decide +kernel, by decide +kernel,
   by decide +kernel, by decide +kernel, rfl, by decide +kernel⟩

theorem test_directDriveAndMatrix_3 : ∃ (s : State) (r : Nat) (row : Nat) (u : Time) (a : Time) (b : Time), drvLive s = true ∧ r = mxRec s
    ∧ mxMode s ≠ 0 ∧ u = mxStart s ∧ (mxMode s ≠ 1 ∨ u < s.frm.next) ∧ row = s.drv.slots % max 1 (byteAt r 1) ∧ a = u + u16At r 8 * ns ∧ b
    = (if mxMode s = 1 then min (u + u32At r 4 * ns) s.frm.next else u + u32At r 4 * ns) :=
  ⟨(matrixOn 1), (mxRec (matrixOn 1)), 0, (10 * sec), (10 * sec + 100 * ns), (10 * sec + 2000 * ns), by decide +kernel, by decide +kernel,
   by decide +kernel, rfl, by decide +kernel⟩

theorem test_directDriveAndMatrix_4 : ∃ (s : State) (u : Time) (m : SMap Nat), mxMode s = 2 ∧ s.frm.running = true ∧ ((∀ a, s.drv.msyncAt
    = some a → a + us < u)) ∧ s.drv.eligible = some m :=
  ⟨{ matrixOn 2 with drv := { (matrixOn 2).drv with eligible := some [(33, 5)] } }, (10 * sec + 5), [(33, 5)], by decide +kernel,
   by decide +kernel, (fun a h => nomatch h), by decide +kernel⟩

theorem test_directDriveAndMatrix_5 : ∃ (s : State) (u : Time) (a : Time), s.drv.msyncAt = some a ∧ u ≤ a + us :=
  ⟨{ matrixOn 2 with drv := { (matrixOn 2).drv with msyncAt := some 5 } }, (5 + us), 5, by decide +kernel⟩

theorem test_directDriveAndMatrix_6 : ∃ (s : State), mxMode s = 2 ∧ s.frm.running = true ∧ 4 ≤ s.drv.msyncIdle ∧ condHolds s 0x0604 0 =
    false :=
  ⟨{ matrixOn 2 with drv := { (matrixOn 2).drv with msyncIdle := 4 } }, by decide +kernel⟩

theorem test_lampDiagnosis_1 : ∃ (s : State) (p : Nat) (c : Nat) (k : Nat) (u : Time) (b : Bool), measurable s p = true ∧ snsTmin ≤
    (pointGet s p).onNs ∧ ((pointGet s p).measured = false) ∧ ((pointGet s p).probing = b) ∧ u = (pointGet s p).rise + (s.cfg.sense
    p).2.2.2.2.2.2 * ns ∧ k = sampleClass (s.cfg.sense p).2.2.2.1 (s.cfg.sense p).2.2.2.2.1 (s.cfg.sense p).2.2.2.2.2.1 c :=
  ⟨(point47 { Point.empty with onNs := 1000, rise := 10 * sec }), 47, 9,
   (sampleClass (pwm47.cfg.sense 47).2.2.2.1 (pwm47.cfg.sense 47).2.2.2.2.1 (pwm47.cfg.sense 47).2.2.2.2.2.1 9),
   (10 * sec + (pwm47.cfg.sense 47).2.2.2.2.2.2 * ns), false, by decide +kernel, by decide +kernel, by decide +kernel, by decide +kernel,
   rfl, by decide +kernel⟩

theorem test_lampDiagnosis_2 : ∃ (s : State) (p : Nat), measurable s p = true ∧ s.cfg.v drvDiagStale ≤ (pointGet s p).idle ∧ ((pointGet s
    p).state < 2) :=
  ⟨(point47 { Point.empty with idle := 240, state := 1 }), 47, by decide +kernel⟩

theorem test_lampDiagnosis_3 : ∃ (s : State) (p : Nat), measurable s p = true ∧ ((pointGet s p).state = 4) ∧ ((s.cfg.sense p).2.1 = true)
    ∧ g6Shed s = false ∧ ((pointGet s p).since ≤ s.frm.num) ∧ ((s.frm.num - (pointGet s p).since) % s.cfg.v drvGlintInterval = 0) ∧
    ((pointGet s p).probedIn ≠ s.frm.num + 1) ∧ (drivenNow s p ≠ 0 ∨ (s.cfg.sense p).2.2.1 = true) ∧ ((∀ k, s.cfg.taker p = some k → bitAt
    (SMap.get 0 s.src.fault k.1) k.2 = false)) ∧ probeAhead s p = true :=
  ⟨(point47 { Point.empty with state := 4, since := 100 }), 47, by decide +kernel, by decide +kernel, by decide +kernel,
   by decide +kernel, by decide +kernel, by decide +kernel, by decide +kernel, by decide +kernel,
   (fun k h => by rw [show (point47 { Point.empty with state := 4, since := 100 }).cfg.taker 47 = some (5, 0) by decide +kernel] at h; cases h; decide +kernel),
   by decide +kernel⟩

theorem test_radioSlotsAndTransmission_1_1 : ∃ (s : State) (v : State) (p : Nat) (k : Nat) (x : Slot) (y : Slot) (u : Time), radioLive s p
    = true ∧ u = asnStart s.cfg (nextSlot s p) - 1000 * us ∧ chooseCell (radPut (advance s u) p
    { radGet s p with slot := none, sfd := none, fetched := false }) p (nextSlot s p) = (v, some y) ∧ x =
    { y with frame := slotPsdu v p y } ∧ (((u + k * us : Nat) : Int) ≤ scriptsBy v p x) :=
  ⟨(radioOn 2 0 0xFFFF), chosen.1, 3, 100, prepared, (chosen.2.getD (slot 0 false)), (asnStart Store.empty 1001 - 1000 * us),
   by decide +kernel, by decide +kernel, by decide +kernel, rfl, by decide +kernel⟩

theorem test_radioSlotsAndTransmission_1_2 : ∃ (s : State) (v : State) (p : Nat) (k : Nat) (x : Slot) (y : Slot) (u : Time), radioLive s p
    = true ∧ u = asnStart s.cfg (nextSlot s p) - 1000 * us ∧ chooseCell (radPut (advance s u) p
    { radGet s p with slot := none, sfd := none, fetched := false }) p (nextSlot s p) = (v, some y) ∧ x =
    { y with frame := slotPsdu v p y } ∧ scriptsBy v p x < ((u + k * us : Nat) : Int) :=
  ⟨(radioOn 2 0 0xFFFF), chosen.1, 3, 1000000, prepared, (chosen.2.getD (slot 0 false)), (asnStart Store.empty 1001 - 1000 * us),
   by decide +kernel, by decide +kernel, by decide +kernel, rfl, by decide +kernel⟩

theorem test_radioSlotsAndTransmission_2 : ∃ (s : State) (p : Nat) (x : Slot), ((radGet s p).slot = some x) ∧ radioLive s p = true ∧
    x.started = false :=
  ⟨(slotted 2 0 false), 3, (slot 0 false), by decide +kernel⟩

theorem test_radioSlotsAndTransmission_3 : ∃ (s : State) (p : Nat) (x : Slot), ((radGet s p).slot = some x) ∧ radioLive s p = true ∧
    x.started = true ∧ x.done = false ∧ x.what ≠ 0 :=
  ⟨(slotted 1 1 true), 3, (slot 1 true), by decide +kernel⟩

theorem test_radioSlotsAndTransmission_4_1 : ∃ (s : State) (p : Nat) (x : Slot) (u : Time), ((radGet s p).slot = some x) ∧ radioLive s p =
    true ∧ x.started = true ∧ x.what = 0 :=
  ⟨(slotted 2 0 true), 3, (slot 0 true), (10 * sec + 12200 * us), by decide +kernel⟩

theorem test_radioSlotsAndTransmission_4_2 : ∃ (s : State) (p : Nat) (x : Slot) (u : Time), ((radGet s p).slot = some x) ∧ radioLive s p =
    true ∧ x.started = true ∧ x.what ≠ 0 ∧ x.done = true ∧ ((radGet s p).sfd = none) :=
  ⟨(radPut (slotted 1 1 true) 3 { RadioPort.empty with slot := some { slot 1 true with done := true } }), 3,
   { slot 1 true with done := true }, (10 * sec + 12200 * us), by decide +kernel⟩

theorem test_radioSlotsAndTransmission_5 : ∃ (s : State) (p : Nat) (x : Slot), ((radGet s p).slot = some x) ∧ radioLive s p = true ∧
    x.started = true ∧ x.what = 0 ∧ ((radGet s p).sfd.isSome = true) :=
  ⟨(radPut (slotted 2 0 true) 3 { radGet (slotted 2 0 true) 3 with sfd := some (true, 5) }), 3, (slot 0 true), by decide +kernel⟩

theorem test_radioReceptionAndCommands_1_1 : ∃ (s : State) (p : Nat) (nb : Nat) (cell : Nat) (x : Slot) (f : RadioFrame) (m : MacFrame) (a
    : Time), ((radGet s p).slot = some x) ∧ radioLive s p = true ∧ x.started = true ∧ x.what = 0 ∧ ((radGet s p).fetched = true) ∧
    ((radGet s p).sfd = some (true, a)) ∧ parseMac f.psdu = some m ∧ cell = s.cfg.row radCell (p * 16384 + x.cell) ∧ ((listens s p x.n
    cell).1 ≤ (a : Int)) ∧ ((a : Int) < (listens s p x.n cell).2) ∧ neighFrom s p m = some nb ∧ ((neighOf s (p * 4096 + nb)).state = 1) ∧
    verdictOf s p nb m (openFrom s p nb m) = 0 :=
  ⟨(hearing 1), 3, 4095, (hearing 1).cfg.row radCell 65535, (slot 0 true), heardFrame, heardMac, (10 * sec + 12200 * us),
   by decide +kernel⟩

theorem test_radioReceptionAndCommands_1_2 : ∃ (s : State) (p : Nat) (nb : Nat) (cell : Nat) (x : Slot) (f : RadioFrame) (m : MacFrame) (a
    : Time), ((radGet s p).slot = some x) ∧ radioLive s p = true ∧ x.started = true ∧ x.what = 0 ∧ ((radGet s p).fetched = true) ∧
    ((radGet s p).sfd = some (true, a)) ∧ parseMac f.psdu = some m ∧ cell = s.cfg.row radCell (p * 16384 + x.cell) ∧ ((listens s p x.n
    cell).1 ≤ (a : Int)) ∧ ((a : Int) < (listens s p x.n cell).2) ∧ neighFrom s p m = some nb ∧ ((neighOf s (p * 4096 + nb)).state = 1) ∧
    verdictOf s p nb m (openFrom s p nb m) = 1 :=
  ⟨(hearing 3), 3, 4095, (hearing 3).cfg.row radCell 65535, (slot 0 true), heardFrame, heardMac, (10 * sec + 12200 * us),
   by decide +kernel⟩

theorem test_radioReceptionAndCommands_2 : ∃ (s : State) (p : Nat) (u : Time) (c : Int) (f : HostFrame), ((radGet s p).awaiting = some f)
    ∧ radioLive s p = true :=
  ⟨(radPut (hearing 1) 3 { RadioPort.empty with awaiting := some hostFrame }), 3, (11 * sec), (-5), hostFrame, by decide +kernel⟩

theorem test_radioReceptionAndCommands_3 : ∃ (s : State) (p : Nat) (f : HostFrame), ((radGet s p).awaiting = some f) ∧ radioLive s p =
    true ∧ ((neighOf s (p * 4096 + f.neigh)).state ≠ 2) ∧ f.tries < s.cfg.v radMaxRetries :=
  ⟨(radPut (hearing 1) 3 { RadioPort.empty with awaiting := some hostFrame }), 3, hostFrame, by decide +kernel⟩

theorem test_radioReceptionAndCommands_4 : ∃ (s : State) (p : Nat) (nb : Nat) (g : Nat) (u : Time), radioLive s p = true ∧ nb < 4096 ∧
    ((neighOf s (p * 4096 + nb)).state = 1) ∧ g = guardOf (s.cfg.row radPort p) (u - (neighOf s (p * 4096 + nb)).contact) :=
  ⟨(hearing 1), 3, 4095, (guardOf ((hearing 1).cfg.row radPort 3) (1000 * sec)), (1010 * sec), by decide +kernel⟩

theorem test_radioReceptionAndCommands_5 : ∃ (s : State) (p : Nat), radioLive s p = true ∧ s.dev.state = .run ∧ (((activeCells s p
    (nextSlot s p)).any fun x => bitAt x.2 24 && byteAt x.2 7 == 1) = true) :=
  ⟨(radioOn 1 1 0xFFFF), 3, by decide +kernel⟩

theorem test_radioReceptionAndCommands_6 : ∃ (s : State) (p : Nat) (u : Time) (a : Time), p < 4 ∧ ((radGet s p).civicSince = some a) ∧ a +
    60 * sec ≤ u :=
  ⟨(radPut (hearing 1) 3 { RadioPort.empty with civicSince := some sec }), 3, (61 * sec), sec, by decide +kernel⟩

theorem test_ethernetTransmitsAndReceives_1 : ∃ (s : State) (p : Nat) (u : Time) (k : List Byte) (rest : List (List Byte)), ethSends s p =
    true ∧ ((ethGet s p).sending = none) ∧ ((ethGet s p).ownPause = none) ∧ ((ethGet s p).syncHeld = none) ∧ ((ethGet s p).pauseEnd =
    none) ∧ quietNow s p u = false ∧ ((ethGet s p).up = true) ∧ ((qGet s (3 + 4 * p)).packets = k :: rest) ∧ txHeld s p k = false ∧
    descFault (ethRec s p) k = none ∧ ((isSacn k = true → transmits s = true)) :=
  ⟨(withQueue 7 { Queue.empty with packets := [txPacket] } ethUp), 1, (10 * sec + 1), txPacket, [], by decide +kernel⟩

theorem test_ethernetTransmitsAndReceives_2 : ∃ (s : State) (p : Nat) (q : Nat) (u : Time) (a : Time) (k : List Byte) (miss : Bool), p < 2
    ∧ ((ethGet s p).sending = some (q, k, a, miss)) :=
  ⟨(ethPut running 1 { EthState.empty with sending := some (7, txPacket, 10 * sec, false) }), 1, 7, (10 * sec + 9), (10 * sec), txPacket,
   false, by decide +kernel⟩

theorem test_ethernetTransmitsAndReceives_3 : ∃ (s : State) (p : Nat) (up : Bool), p < 2 ∧ ((ethGet s p).up ≠ up) ∧ modeOf (ethRec s p) ≠
    0 :=
  ⟨running, 1, true, by decide +kernel⟩

theorem test_ethernetTransmitsAndReceives_4_1 : ∃ (s : State) (p : Nat) (u : Time) (f : EthFrame), ethHears s p = true ∧ f.wireLen ≤ 63 :=
  ⟨ethUp, 1, (10 * sec + 1), { frameOf_ 0x1234 with wireLen := 63 }, by decide +kernel⟩

theorem test_ethernetTransmitsAndReceives_4_2 : ∃ (s : State) (p : Nat) (u : Time) (f : EthFrame), ethHears s p = true ∧ 64 ≤ f.wireLen ∧
    f.wireLen ≤ epMax (ethRec s p) ∧ f.fcsGood = false :=
  ⟨ethUp, 1, (10 * sec + 1), { frameOf_ 0x1234 with fcsGood := false }, by decide +kernel⟩

theorem test_ethernetTransmitsAndReceives_5 : ∃ (s : State) (p : Nat) (u : Time) (f : EthFrame), ethHears s p = true ∧ 64 ≤ f.wireLen ∧
    f.wireLen ≤ epMax (ethRec s p) ∧ f.fcsGood = true ∧ addrAccepted s p (beAt f.bytes 0 6) = true ∧ ((viewOf f.bytes).etype ≠ 0x8808) ∧
    isPtp s p (viewOf f.bytes) = false ∧ ((viewOf f.bytes).udpPort = none) ∧ streamLayer s p (viewOf f.bytes) = none ∧ forZhotex s p
    (viewOf f.bytes) f.bytes = false ∧ (((List.range 64).find? fun i => filterTakes (s.cfg.row ethFilter (p * 64 + i)) (viewOf f.bytes)) =
    none) ∧ bitAt (ethRec s p) 11 = false ∧ ((qGet s (8 + 4 * p)).waiting = []) ∧ 40 + f.bytes.length ≤ qFree s (8 + 4 * p) :=
  ⟨ethAll, 1, (10 * sec + 1), (frameOf_ 0x1234), by decide +kernel⟩

theorem test_pauseIsKeptAndBroken_1 : ∃ (s : State) (p : Nat) (e : Time), p < 2 ∧ ((ethGet s p).pauseEnd = some e) ∧ e ≤ watchdogAt s p :=
  ⟨(paused (10 * sec + 2000 * us)), 1, (10 * sec + 2000 * us), by decide +kernel⟩

theorem test_pauseIsKeptAndBroken_2 : ∃ (s : State) (p : Nat) (e : Time), p < 2 ∧ ((ethGet s p).pauseEnd = some e) ∧ watchdogAt s p < e :=
  ⟨(paused (10 * sec + 2000 * us + 1)), 1, (10 * sec + 2000 * us + 1), by decide +kernel⟩

theorem test_pauseIsKeptAndBroken_3 : ∃ (s : State) (p : Nat) (u : Time), p < 2 ∧ ((ethGet s p).ignoreUntil = some u) :=
  ⟨(ethPut running 1 { EthState.empty with ignoreUntil := some 7 }), 1, 7, by decide +kernel⟩

theorem test_pauseIsKeptAndBroken_4 : ∃ (s : State) (p : Nat), p < 2 ∧ ethSends s p = true ∧ ((ethGet s p).paused = true) ∧ ((ethGet s
    p).ownPause = none) ∧ (((rxQueues p).any fun q => (qGet s q).high) = true) :=
  ⟨(withQueue 15 { Queue.empty with high := true } (ethPut running 1 { EthState.empty with paused := true })), 1, by decide +kernel⟩

theorem test_pauseIsKeptAndBroken_5 : ∃ (s : State) (p : Nat) (q : Nat) (u : Time) (f : EthFrame), ethHears s p = true ∧ 64 ≤ f.wireLen ∧
    f.wireLen ≤ epMax (ethRec s p) ∧ f.fcsGood = true ∧ addrAccepted s p (beAt f.bytes 0 6) = true ∧ ((viewOf f.bytes).etype = 0x8808) ∧
    beAt f.bytes (viewOf f.bytes).off 2 = 1 ∧ beAt f.bytes ((viewOf f.bytes).off + 2) 2 = q ∧ q ≠ 0 ∧ bitAt (ethRec s p) 9 = true ∧ ((∀ v,
    (ethGet s p).ignoreUntil = some v → v ≤ u)) :=
  ⟨(ethPut ethAll 1 { EthState.empty with up := true, ignoreUntil := some (10 * sec) }), 1, 65535, (10 * sec), pauseFrame,
   by decide +kernel, by decide +kernel, by decide +kernel, by decide +kernel, by decide +kernel, by decide +kernel, by decide +kernel,
   by decide +kernel, by decide +kernel, by decide +kernel, by intro v h; cases h; decide +kernel⟩

theorem test_cascadeLinksAndEnumeration_1 : ∃ (s : State) (p : Nat) (l : Nat) (n : Nat), s.dev.state.powered = true ∧ s.dev.resetN = true
    ∧ p < 2 ∧ l < 8 ∧ 64 ≤ n :=
  ⟨running, 1, 7, 64, by decide +kernel⟩

theorem test_cascadeLinksAndEnumeration_2 : ∃ (s : State) (p : Nat) (l : Nat), p < 2 ∧ bitAt (casGet s p).lanes l = true :=
  ⟨(casPut running 1 (port 2)), 1, 7, by decide +kernel⟩

theorem test_cascadeLinksAndEnumeration_3 : ∃ (s : State) (p : Nat) (n : Nat), p < 2 ∧ ((casGet s p).state = 0) ∧ ((casGet s p).lanes =
    255) ∧ 1 ≤ (casGet s p).matched :=
  ⟨(casPut running 1 { port 0 with matched := 1 }), 1, 0, by decide +kernel⟩

theorem test_cascadeLinksAndEnumeration_4 : ∃ (s : State) (p : Nat) (m : Nat) (e : Bool) (role : Nat) (ds : Nat), p < 2 ∧ ((casGet s
    p).state = 1) ∧ ((casGet s p).lanes = 255) ∧ casSpeaks s p = true ∧ m = casMode s p ∧ ((casGet s p).delays ≠ []) ∧ delayPs s p ≤
    300000 ∧ (¬ (p = 0 ∧ m = 1 ∧ s.dev.stackEn = true ∧ s.stk.role = 1)) :=
  ⟨(casPut (stacked 1) 1 { port 1 with delays := [65536] }), 1, 1, true, 1, 0, by decide +kernel⟩

theorem test_cascadeLinksAndEnumeration_5 : ∃ (s : State), s.dev.state.powered = true ∧ s.dev.resetN = true ∧ s.dev.stackEn = true ∧
    s.stk.role = 0 :=
  ⟨(stacked 0), by decide +kernel⟩

theorem test_cascadeLinksAndEnumeration_6 : ∃ (s : State) (i : Nat) (n : Nat) (v : Nat), isMember s = true :=
  ⟨(stacked 2), 4, 7, 1, by decide +kernel⟩

theorem test_cascadeLinksAndEnumeration_7 : ∃ (s : State) (i : Nat) (n : Nat) (v : Nat) (c : Nat), isMember s = true ∧ s.stk.candidate =
    some c ∧ s.stk.enumerated = false :=
  ⟨{ stacked 2 with stk := { (stacked 2).stk with candidate := some 4, enumerated := false } }, 4, 7, 1, 4, by decide +kernel⟩

theorem test_cascadeLinksAndEnumeration_8 : ∃ (s : State) (c : Nat) (l : List MemberIn), s.dev.stackEn = true ∧ s.stk.role = 1 :=
  ⟨(stacked 1), 5, [⟨3, true, 6, List.replicate 32 0⟩], by decide +kernel⟩

theorem test_cascadeLinksAndEnumeration_9 : ∃ (s : State) (c : Nat) (m : MemberIn), s.dev.stackEn = true ∧ s.stk.role = 1 ∧ s.upd.state =
    6 ∧ m.hash = manifestHash (runningManifest s) :=
  ⟨trialMaster, 5, ⟨3, true, 8, manifestHash (runningManifest trialMaster)⟩, by decide +kernel, by decide +kernel, by decide +kernel, rfl⟩

theorem test_cascadeLinksAndEnumeration_10 : ∃ (s : State) (p : Nat) (c : Nat) (q : Nat) (n : Nat) (i : Nat) (x : CasClass), p < 2 ∧ 1 ≤ c
    ∧ c ≤ 3 ∧ x = SMap.get CasClass.empty (casGet s p).cls c ∧ x.unacked.findIdx? (·.1 = q) = some i ∧ x.waiting = [] :=
  ⟨(casPut (stacked 1) 1 { port 2 with cls := SMap.put CasClass.empty [] 3 sentTwo }), 1, 3, 5, 2, 1, sentTwo, by decide +kernel,
   by decide +kernel, by decide +kernel, rfl, by decide +kernel⟩

theorem test_cascadeLinksAndEnumeration_11 : ∃ (s : State) (p : Nat) (c : Nat) (x : CasClass), p < 2 ∧ c ≠ 2 ∧ casUp s p = true ∧ x =
    SMap.get CasClass.empty (casGet s p).cls c ∧ x.unacked ≠ [] :=
  ⟨(casPut (stacked 1) 1 { port 2 with cls := SMap.put CasClass.empty [] 1 sentTwo }), 1, 1, sentTwo, by decide +kernel,
   by decide +kernel, by decide +kernel, rfl, by decide +kernel⟩

theorem test_timeMessagesMeasureTheStack_1 : ∃ (s : State) (u : Time), s.dev.state.powered = true ∧ s.dev.resetN = true ∧ sendsTime
    (advance s u) 1 = true ∧ casUp s 1 = true :=
  ⟨(casPut (stacked 1) 1 (port 2)), (10 * sec + 7), by decide +kernel⟩

theorem test_timeMessagesMeasureTheStack_2 : ∃ (s : State) (u : Time), s.dev.state.powered = true ∧ s.dev.resetN = true ∧ s.dev.stackEn =
    true :=
  ⟨(stacked 1), (10 * sec + 7), by decide +kernel⟩

theorem test_timeMessagesMeasureTheStack_3 : ∃ (s : State) (u : Time) (q : Nat) (r : Nat) (p : Nat), p = timePort s ∧ 1 ≤ (casGet s
    p).state ∧ casSpeaks s p = true :=
  ⟨(casPut (stacked 2) 0 (port 1)), (10 * sec + 7), 3, 0, 0, by decide +kernel⟩

theorem test_timeMessagesMeasureTheStack_4 : ∃ (s : State) (u : Time) (v : Time), isMember s = true ∧ s.dev.state.powered = true ∧ casUp s
    0 = true :=
  ⟨(casPut (stacked 2) 0 (port 2)), (10 * sec + 7), (10 * sec), by decide +kernel⟩

theorem test_timeMessagesMeasureTheStack_6 : ∃ (s : State) (p : Nat) (a : Time) (b : Time) (q : Nat) (r : Nat), p < 2 ∧ ((casGet s
    p).state ≠ 0) ∧ ((p = 1 → ∃ v, SMap.get none (casGet s p).probes q = some v)) :=
  ⟨(casPut (stacked 2) 1 { port 1 with probes := SMap.put none [] 3 (some sec) }), 1, 5, 9, 3, 0, by decide, by decide +kernel,
   (fun _ => ⟨sec, by decide +kernel⟩)⟩

theorem test_membersFollowTheEdgesOfTheStack_1 : ∃ (s : State) (k : Nat) (e : Time) (b : Bool), hearsEdges s = true ∧ s.frm.running = true
    ∧ k = nextNum s ∧ SMap.get none s.stk.edges k = none :=
  ⟨(stacked 2), 101, (10 * sec + period Store.empty + 3), false, by decide +kernel⟩

theorem test_membersFollowTheEdgesOfTheStack_3 : ∃ (s : State) (h : Int), s.stk.oHat = some h :=
  ⟨{ stacked 2 with stk := { (stacked 2).stk with oHat := some 7, o := 90000000000 } }, 7, by decide +kernel⟩

theorem test_membersFollowTheEdgesOfTheStack_4 : ∃ (s : State), hearsEdges s = true ∧ 4 ≤ s.stk.missed ∧ s.stk.detached = false :=
  ⟨{ stacked 2 with stk := { (stacked 2).stk with missed := 4 } }, by decide +kernel⟩

theorem test_membersFollowTheEdgesOfTheStack_5 : ∃ (s : State) (p : Nat) (k : Nat) (n : Nat) (f : Frame), s.dev.stackEn = true ∧ p < 2 ∧
    frameOf s k = some f ∧ f.stage ≠ .slipped ∧ f.stage ≠ .idle :=
  ⟨{ stacked 2 with frm := { running.frm with frames := [frame 102 .computing] } }, 1, 102, 5, (frame 102 .computing), by decide +kernel⟩

theorem test_membersFollowTheEdgesOfTheStack_6 : ∃ (s : State) (i : Nat) (n : Nat) (j : Nat) (x : AccTxn), isMember s = true ∧
    s.stk.staged.find? (·.id = i) = some x ∧ ((∀ y ∈ x.items, y.op ≠ 0x62)) :=
  ⟨{ stacked 2 with stk := { (stacked 2).stk with staged := [accTxn] } }, 9, 103, 103, accTxn, by decide +kernel⟩

theorem test_relayMessagesReachTheirNode_1_1 : ∃ (s : State) (u : State) (h : RelayHdr) (op : Nat) (r : Req), isMember s = true ∧ r.node ≠
    0x3F ∧ u = tookDown (advance s r.t) (reqBytes op r).length ∧ r.node ≠ s.stk.index :=
  ⟨(casPut (stacked 2) 1 (port 2)),
   (tookDown (advance (casPut (stacked 2) 1 (port 2)) bare.t) (reqBytes 0x01 { bare with target := 3 }).length), hdr, 0x01,
   { bare with target := 3 }, by decide +kernel, by decide +kernel, rfl, by decide +kernel⟩

theorem test_relayMessagesReachTheirNode_1_2 : ∃ (s : State) (u : State) (h : RelayHdr) (op : Nat) (r : Req), isMember s = true ∧ r.node ≠
    0x3F ∧ u = tookDown (advance s r.t) (reqBytes op r).length ∧ r.node = s.stk.index ∧ s.stk.enumerated = true ∧ op ≠ 0x30 ∧ answers u
    (relayPath h) = true :=
  ⟨(stacked 2), (tookDown (advance (stacked 2) bare.t) (reqBytes 0x01 { bare with target := 2 }).length), hdr, 0x01,
   { bare with target := 2 }, by decide +kernel, by decide +kernel, rfl, by decide +kernel⟩

theorem test_relayMessagesReachTheirNode_2 : ∃ (s : State) (u : State) (h : RelayHdr) (k : Nat) (m : Nat) (xs : List (Nat × Req)) (ys :
    List Item) (e : Option Err), takesRelay s = true ∧ s.stk.detached = false ∧ u = tookDown s (16 + (xs.map fun x => up8 (reqBytes x.1
    x.2).length).sum) ∧ ys = xs.map (fun x => { op := x.1, req := { x.2 with path := relayPath h } }) ∧ e = (stageErr u h k m ys).2 :=
  ⟨(stacked 2), staging, hdr, 103, 0, [(0x02, bare)], [{ op := 0x02, req := { bare with path := relayPath hdr } }],
   (stageErr staging hdr 103 0 [{ op := 0x02, req := { bare with path := relayPath hdr } }]).2, by decide +kernel, by decide +kernel, rfl,
   rfl, rfl⟩

theorem test_relayMessagesReachTheirNode_3 : ∃ (s : State) (h : RelayHdr) (k : Nat) (b : List Byte) (x : Relay), isMember s = false ∧
    s.stk.relays.find? (fun x => (x.stage.map (·.1)) == some h.txnId && bitAt x.waiting h.node && x.answers.elem (h.node, leBytes 2
    h.relayId)) = some x ∧ x.waiting ≠ 2 ^ h.node :=
  ⟨{ stacked 1 with stk := { (stacked 1).stk with relays := [{ relay with stage := some (9, 103) }] } }, hdr, 103, [],
   { relay with stage := some (9, 103) }, by decide +kernel⟩

theorem test_relayMessagesReachTheirNode_4 : ∃ (s : State) (h : RelayHdr) (b : List Byte) (x : Relay), isMember s = false ∧
    s.stk.relays.find? (fun x => x.id == h.relayId && x.stage.isNone && bitAt x.waiting h.node) = some x ∧ x.target ≠ 0x3F :=
  ⟨{ stacked 1 with stk := { (stacked 1).stk with relays := [relay] } }, hdr, [], relay, by decide +kernel⟩

theorem test_relayMessagesReachTheirNode_5 : ∃ (s : State) (h : RelayHdr), isMember s = true :=
  ⟨(casPut { stacked 2 with stk := { (stacked 2).stk with staged := [accTxn] } } 0 (port 2)), hdr, by decide +kernel⟩

theorem test_relayMessagesReachTheirNode_6_1 : ∃ (s : State) (h : RelayHdr) (role : Nat) (k : Nat), isMember s = true ∧ (s.frm.running =
    false ∨ s.frm.num < k) :=
  ⟨(stacked 2), hdr, 1, 102, by decide +kernel⟩

theorem test_relayMessagesReachTheirNode_6_2 : ∃ (s : State) (h : RelayHdr) (role : Nat) (k : Nat), isMember s = true ∧ s.frm.running =
    true ∧ k ≤ s.frm.num :=
  ⟨(stacked 2), hdr, 1, 100, by decide +kernel⟩

theorem test_relayMessagesReachTheirNode_7 : ∃ (s : State) (h : RelayHdr) (b : List Byte), s.dev.stackEn = true ∧ isMember s = false ∧ 24
    ≤ b.length :=
  ⟨(stacked 1), hdr, pkt, by decide +kernel⟩

theorem test_relayMessagesReachTheirNode_8 : ∃ (s : State) (h : RelayHdr) (k : Nat) (b : List Byte), isMember s = true :=
  ⟨(casPut (stacked 2) 0 (port 2)), hdr, 1, [1], by decide +kernel⟩

theorem test_theLeasePassesBetweenUnits_1 : ∃ (s : State) (k : Nat) (f : Nat) (d : Nat) (c : List Nat) (a : Time), s.red.role = 1 ∧
    SMap.get none s.red.sent k = some a :=
  ⟨{ paired 1 with red := { (paired 1).red with sent := SMap.put none [] 100 (some sec) } }, 100, 1, 6, [0], sec, by decide +kernel⟩

theorem test_theLeasePassesBetweenUnits_2 : ∃ (s : State) (u : Time), s.dev.state = .shadow ∧ s.red.pair = true ∧ isMember s = false ∧
    s.red.role ≠ 1 ∧ deadlineD s ≤ u ∧ s.red.fit = 1 ∧ s.red.peerAct = false :=
  ⟨shadowed, (10 * sec), by decide +kernel⟩

theorem test_theLeasePassesBetweenUnits_3 : ∃ (s : State) (u : Time), s.red.peerAct = true :=
  ⟨{ shadowed with red := { shadowed.red with peerAct := true } }, (10 * sec), by decide +kernel⟩

theorem test_theLeasePassesBetweenUnits_5 : ∃ (s : State) (u : Time), s.dev.state.powered = true ∧ s.red.pair = true ∧ s.red.actOut =
    false ∧ s.red.lastActive + s.cfg.v redTestDays * 86400 * sec < max s.tim.now u :=
  ⟨(withVals [(redTestDays, 0, 1)] { paired 0 with red := { (paired 0).red with lastActive := 0 } }), (86400 * sec + 1),
   by decide +kernel⟩

theorem test_mirrorMessagesKeepTheShadow_1 : ∃ (s : State) (d : Nat) (n : Nat) (v : Nat) (l : Nat), s.red.pair = true ∧ s.red.role ≠ 1 :=
  ⟨shadowed, 5, 1, 1, 0, by decide +kernel⟩

theorem test_mirrorMessagesKeepTheShadow_2 : ∃ (s : State) (j : Nat) (xs : List (Nat × Req)), s.dev.state = .shadow ∧ s.red.pair = true ∧
    nextLatch s ≤ j :=
  ⟨shadowed, 101, [], by decide +kernel⟩

theorem test_mirrorMessagesKeepTheShadow_3 : ∃ (s : State) (u : Time) (j : Nat) (i : Nat) (xs : List (Nat × Req)), s.dev.state = .shadow ∧
    s.red.pair = true :=
  ⟨shadowed, (10 * sec + 1), 102, 7, [], by decide +kernel⟩

theorem test_mirrorMessagesKeepTheShadow_4 : ∃ (s : State) (k : Nat) (st : Nat) (h : Nat) (rs : List Nat) (ts : List Int) (fs : List (Nat
    × Int × Nat)), s.dev.state = .shadow ∧ s.red.pair = true :=
  ⟨shadowed, 101, 0, 1, [0, 0], [400], [(5, 400, 0)], by decide +kernel⟩

theorem test_mirrorMessagesKeepTheShadow_5 : ∃ (s : State) (k : Nat) (sq : List (Nat × Nat)) (cs : List (Nat × Nat)) (nb : List (Nat × Nat
    × Nat × Nat)) (cm : List (Nat × Nat × Nat × Nat × List Nat)), s.dev.state = .shadow ∧ s.red.pair = true ∧ ((cs.map (·.1)).Nodup) :=
  ⟨shadowed, 101, [(1, 7)], [(16, 99)], [], [], by decide +kernel⟩

theorem test_mirrorMessagesKeepTheShadow_6 : ∃ (s : State) (k : Nat) (a : List (Nat × Nat)) (b : List (Nat × Nat)), s.dev.state = .shadow
    ∧ s.red.pair = true ∧ s.red.role ≠ 1 ∧ SMap.get none s.red.own k = some a ∧ ((∀ y, s.red.hello = some y → y.2.2.2.2 = resultLevel s))
    :=
  ⟨{ shadowed with red := { shadowed.red with own := SMap.put none [] 100 (some [(3, 77)]) } }, 100, [(3, 77)], [(3, 78)],
   by decide +kernel, by decide +kernel, by decide +kernel, by decide +kernel, (fun y h => nomatch h)⟩

/-- On a part of device ID 0 an INSTALL is authentic; what the other parts' envelopes need differs in the ID alone. -/
theorem test_keyUpdatesAndAttestation_1 (hid : Config.deviceId = 0) :
    ∃ (r : Req) (s u : State) (b body : List Byte), KeyReady 1 r s u b body :=
  have a : envBody (inService 0x50 installAsk (island 2)) installAsk.payload = some (List.replicate 16 7) := by decide +kernel
  ⟨installAsk, island 2, _, _, _, keyReady_of (by unfold Heard; decide +kernel) (by decide +kernel) (by unfold Fits; decide +kernel) a
    (envErr_none (by decide +kernel) (by decide +kernel) (by rw [hid]; decide +kernel) a (by decide +kernel) (by decide +kernel)
      (by decide +kernel))⟩

theorem test_keyUpdatesAndAttestation_2 : ∃ (r : Req) (s : State) (u : State) (b : List Byte) (body : List Byte), KeyReady 2 r s u b body
    :=
  ⟨envAsk, keyed, invalidating, envelope, [],
   ⟨rfl, by unfold Heard; decide +kernel, envAsk_payload.symm, by decide +kernel, envelope_passes, envelope_body, by unfold Fits; decide +kernel⟩⟩

/-- On a part of device ID 0 whose fuses hold a known root key and wrap secret, each life-cycle OP is authentic. -/
theorem test_keyUpdatesAndAttestation_3 (hid : Config.deviceId = 0) (hk : Config.fuseKeys 0 = basePoint384) (hw : Config.fuseKeys 2 = secret) :
    ∃ (r : Req) (s u : State) (b body : List Byte), KeyReady 0x10 r s u b body :=
  have a := signed_body (s := inService 0x50 provisionAsk (island 0)) (b := provisionAsk.payload) (body := provisionBody) (w := secret)
    ((if_pos (by decide +kernel)).trans hw) (by decide +kernel) (by decide +kernel)
  ⟨provisionAsk, island 0, _, _, _, keyReady_of (by unfold Heard; decide +kernel) (by decide +kernel) (by unfold Fits; decide +kernel) a
    (envErr_none (by decide +kernel) (signed_ok
      (show rootKey _ = some (3, basePoint384) from by simp only [rootKey, show (inService 0x50 provisionAsk (island 0)).sec.lifecycle = 0 from by decide +kernel, hk]; rfl)
      (by decide +kernel)) (by rw [hid]; decide +kernel) a (by decide +kernel) (by decide +kernel) (by decide +kernel))⟩

theorem test_keyUpdatesAndAttestation_4 (hid : Config.deviceId = 0) (hk : Config.fuseKeys 0 = basePoint384) (hw : Config.fuseKeys 2 = secret) :
    ∃ (r : Req) (s u : State) (b body : List Byte), KeyReady 0x11 r s u b body :=
  have a := signed_body (s := inService 0x50 ownerAsk (island 1)) (b := ownerAsk.payload) (body := ownerBody) (w := secret)
    ((if_pos (by decide +kernel)).trans hw) (by decide +kernel) (by decide +kernel)
  ⟨ownerAsk, island 1, _, _, _, keyReady_of (by unfold Heard; decide +kernel) (by decide +kernel) (by unfold Fits; decide +kernel) a
    (envErr_none (by decide +kernel) (signed_ok
      (show rootKey _ = some (3, basePoint384) from by simp only [rootKey, show (inService 0x50 ownerAsk (island 1)).sec.lifecycle = 1 from by decide +kernel, hk]; rfl)
      (by decide +kernel)) (by rw [hid]; decide +kernel) a (by decide +kernel) (by decide +kernel) (by decide +kernel))⟩

theorem test_keyUpdatesAndAttestation_5 (hid : Config.deviceId = 0) :
    ∃ (r : Req) (s u : State) (b body : List Byte), KeyReady 0x12 r s u b body :=
  have a := signed_body (s := inService 0x50 return_Ask (island 2)) (b := return_Ask.payload) (body := []) (w := secret)
    (by decide +kernel) (by decide +kernel) (by decide +kernel)
  ⟨return_Ask, island 2, _, _, _, keyReady_of (by unfold Heard; decide +kernel) (by decide +kernel) (by unfold Fits; decide +kernel) a
    (envErr_none (by decide +kernel) (signed_ok
      (show rootKey _ = some (2, basePoint) from by decide +kernel)
      (by decide +kernel)) (by rw [hid]; decide +kernel) a (by decide +kernel) (by decide +kernel) (by decide +kernel))⟩

theorem test_keyUpdatesAndAttestation_6 (hid : Config.deviceId = 0) (hk : Config.fuseKeys 1 = basePoint384) (hw : Config.fuseKeys 3 = secret) :
    ∃ (r : Req) (s u : State) (b body : List Byte), KeyReady 0x13 r s u b body :=
  have a := signed_body (s := inService 0x50 reprovisionAsk (island 3)) (b := reprovisionAsk.payload) (body := []) (w := secret)
    (by simp only [wrapSecret, show (inService 0x50 reprovisionAsk (island 3)).sec.lifecycle = 3 from by decide +kernel]; exact hw) (by decide +kernel) (by decide +kernel)
  ⟨reprovisionAsk, island 3, _, _, _, keyReady_of (by unfold Heard; decide +kernel) (by decide +kernel) (by unfold Fits; decide +kernel) a
    (envErr_none (by decide +kernel) (signed_ok
      (show rootKey _ = some (3, basePoint384) from by simp only [rootKey, show (inService 0x50 reprovisionAsk (island 3)).sec.lifecycle = 3 from by decide +kernel, hk]; rfl)
      (by decide +kernel)) (by rw [hid]; decide +kernel) a (by decide +kernel) (by decide +kernel) (by decide +kernel))⟩

theorem test_keyUpdatesAndAttestation_7 (hid : Config.deviceId = 0) :
    ∃ (r : Req) (s u : State) (b body : List Byte), KeyReady 0x14 r s u b body :=
  have a := signed_body (s := inService 0x50 retireAsk (island 2)) (b := retireAsk.payload) (body := []) (w := secret)
    (by decide +kernel) (by decide +kernel) (by decide +kernel)
  ⟨retireAsk, island 2, _, _, _, keyReady_of (by unfold Heard; decide +kernel) (by decide +kernel) (by unfold Fits; decide +kernel) a
    (envErr_none (by decide +kernel) (signed_ok
      (show rootKey _ = some (2, basePoint) from by decide +kernel)
      (by decide +kernel)) (by rw [hid]; decide +kernel) a (by decide +kernel) (by decide +kernel) (by decide +kernel))⟩

theorem test_keyUpdatesAndAttestation_8 : ∃ (r : Req) (s : State) (u : State) (e : Status), u = inService 0x50 r s ∧ Heard 0x50 r s ∧
    envErr u (by_ 0x50 r s) r.path r.payload = some e :=
  ⟨badAsk, keyed, (inService 0x50 badAsk keyed), .eSize, rfl, by unfold Heard; decide +kernel, by decide +kernel⟩

theorem test_keyUpdatesAndAttestation_9 : ∃ (r : Req) (s : State) (u : State), u = inService 0x51 r s ∧ Heard 0x51 r s ∧ keyState u 6 = 1
    ∧ islandOut u = false ∧ Fits 0x51 r s (secCount u 2) .ok 0 (attestBytes u ++ hmac (slotOf u 6).key (r.payload ++ attestBytes u)) :=
  ⟨attestAsk, keyed, (inService 0x51 attestAsk keyed), rfl, by unfold Heard; decide +kernel, by decide +kernel, by decide +kernel,
   by unfold Fits; decide +kernel⟩

theorem test_tamperTestsAndActivationResets_1 : ∃ (s : State) (i : Nat) (u : Time), s.dev.state ≠ .off ∧ tamperWatched s i = true :=
  ⟨running, 4, (11 * sec), by decide +kernel⟩

theorem test_tamperTestsAndActivationResets_2 : ∃ (s : State) (n : Nat) (b : Bool), s.dev.state.powered = true ∧ s.dev.state ≠ .dawn :=
  ⟨running, 4, true, by decide +kernel⟩

theorem test_tamperTestsAndActivationResets_3 : ∃ (s : State), s.upd.state = 5 ∧ s.upd.sel.trial = false ∧ s.dev.state.powered = true :=
  ⟨{ inState .ready with upd := { State.reset.upd with state := 5 } }, by decide +kernel⟩

theorem test_tamperTestsAndActivationResets_4 : ∃ (s : State) (u : Time) (a : Time), s.upd.windowAt = some a ∧ s.upd.state = 6 ∧ a +
    s.cfg.v updConfirmS * sec ≤ (advance s u).tim.up :=
  ⟨{ running with upd := { running.upd with state := 6, windowAt := some 0 } }, (10000 * sec), 0, by decide +kernel⟩

theorem test_imagesAreLoadedVerifiedArmedAndConfirmed_1 : ∃ (r : Req) (s : State) (u : State) (d : List Byte), u = inService 0x60 r s ∧
    Heard 0x60 r s ∧ imageErr u (by_ 0x60 r s) = none ∧ hostLoads u = false ∧ leAt r.payload 0 4 = 0 ∧ leAt r.payload 4 4 = 0 ∧ d =
    r.payload.drop 8 ∧ 8 ≤ d.length ∧ d.length % 8 = 0 ∧ ((24 ≤ d.length → d.length < manifestLen d)) ∧ (u.upd.state < 4 ∨ 6 <
    u.upd.state) ∧ Fits 0x60 r s u .ok 0 (List.replicate 8 0) :=
  ⟨chunkAsk, (updating 0 Download.empty), (inService 0x60 chunkAsk (updating 0 Download.empty)), (chunkAsk.payload.drop 8), rfl,
   by unfold Heard; decide +kernel, by decide +kernel, by decide +kernel, by decide +kernel, by decide +kernel, by decide +kernel,
   by decide +kernel, by decide +kernel, by decide +kernel, by decide +kernel, by unfold Fits; decide +kernel⟩

theorem test_imagesAreLoadedVerifiedArmedAndConfirmed_2 : ∃ (r : Req) (s : State) (u : State) (d : List Byte) (b : List Byte) (m : List
    Byte) (off : Nat) (i : Nat) (x : Download), u = inService 0x60 r s ∧ Heard 0x60 r s ∧ imageErr u (by_ 0x60 r s) = none ∧ hostLoads u =
    false ∧ leAt r.payload 0 4 = 1 ∧ off = leAt r.payload 4 4 ∧ d = r.payload.drop 8 ∧ m = u.upd.dl.manifest ∧ i = off / 65536 ∧
    u.upd.state = 1 ∧ u.upd.dl.complete = true ∧ d ≠ [] ∧ (off + d.length = setLen m ∨ d.length % 1024 = 0) ∧ off % 1024 = 0 ∧ off +
    d.length ≤ setLen m ∧ ((off + d.length - 1) / 65536 = i) ∧ bitAt u.upd.dl.progress i = false ∧ m.length ≤ off ∧ u.upd.dl.seg = some i
    ∧ x = putBlocks u.upd.dl (off % 65536 / 1024) d ∧ segBytes x i = some b ∧ Fits 0x60 r s u .ok 0 (List.replicate 8 0) :=
  ⟨dataAsk, (updating 1 halfDone), (inService 0x60 dataAsk (updating 1 halfDone)), (List.replicate 1024 7), segment0, shortManifest, 1024,
   0, (putBlocks halfDone 1 (List.replicate 1024 7)), rfl, by unfold Heard; decide +kernel, by decide +kernel, by decide +kernel,
   by decide +kernel, by decide +kernel, by decide +kernel, by decide +kernel, by decide +kernel, by decide +kernel, by decide +kernel,
   by decide +kernel, by decide +kernel, by decide +kernel, by decide +kernel, by decide +kernel, by decide +kernel, by decide +kernel,
   by decide +kernel, rfl, by decide +kernel, by unfold Fits; decide +kernel⟩

theorem test_imagesAreLoadedVerifiedArmedAndConfirmed_3 : ∃ (r : Req) (s : State) (u : State), u = inService 0x61 r s ∧ Heard 0x61 r s ∧
    imageErr u (by_ 0x61 r s) = none ∧ hostLoads u = false ∧ (u.upd.state = 2 ∨ u.upd.state = 8) ∧ Fits 0x61 r s u .ok 0 (manifestHash
    (imageOf u (otherSet u)).manifest) :=
  ⟨openAsk, (updating 2 Download.empty), (inService 0x61 openAsk (updating 2 Download.empty)), rfl, by unfold Heard; decide +kernel,
   by decide +kernel, by decide +kernel, by decide +kernel, by unfold Fits; decide +kernel⟩

theorem test_imagesAreLoadedVerifiedArmedAndConfirmed_4_1 : ∃ (r : Req) (s : State) (u : State), u = inService 0x62 r s ∧ Heard 0x62 r s ∧
    toStack u r = false ∧ imageErr u (by_ 0x62 r s) = none ∧ armPayload r.payload = none ∧ armErr u r.payload = none ∧ Fits 0x62 r s u .ok
    0 (List.replicate 8 0) ∧ byteOf r.payload 0 = 1 :=
  ⟨armAsk, (updating 3 Download.empty), (inService 0x62 armAsk (updating 3 Download.empty)), rfl, by unfold Heard; decide +kernel,
   by decide +kernel, by decide +kernel, by decide +kernel, by decide +kernel, by unfold Fits; decide +kernel, by decide +kernel⟩

theorem test_imagesAreLoadedVerifiedArmedAndConfirmed_4_2 : ∃ (r : Req) (s : State) (u : State), u = inService 0x62 r s ∧ Heard 0x62 r s ∧
    toStack u r = false ∧ imageErr u (by_ 0x62 r s) = none ∧ armPayload r.payload = none ∧ armErr u r.payload = none ∧ Fits 0x62 r s u .ok
    0 (List.replicate 8 0) ∧ byteOf r.payload 0 = 2 :=
  ⟨disarmAsk, armed, (inService 0x62 disarmAsk armed), rfl, by unfold Heard; decide +kernel, by decide +kernel, by decide +kernel,
   by decide +kernel, by decide +kernel, by unfold Fits; decide +kernel, by decide +kernel⟩

theorem test_imagesAreLoadedVerifiedArmedAndConfirmed_5 : ∃ (r : Req) (s : State) (u : State), u = inService 0x63 r s ∧ Heard 0x63 r s ∧
    toStack u r = false ∧ imageErr u (by_ 0x63 r s) = none ∧ u.upd.state = 6 ∧ r.payload = manifestHash (runningManifest u) ∧ Fits 0x63 r
    s u .ok 0 [] :=
  ⟨confirmAsk, (updating 6 Download.empty), (inService 0x63 confirmAsk (updating 6 Download.empty)), rfl, by unfold Heard; decide +kernel,
   by decide +kernel, by decide +kernel, by decide +kernel, by decide +kernel, by unfold Fits; decide +kernel⟩

theorem test_actOutStaysLowWhilePeerActIsHigh_1 : ∃ (s : State), s.red.peerAct = true :=
  ⟨{ paired 1 with red := { (paired 1).red with peerAct := true, actOut := true } }, by decide +kernel⟩

theorem test_shortPacketsAreMalformed_1 : ∃ (s : State) (p : Path) (bs : List Byte), hostUp s = true ∧ bs.length < 24 ∧ ((∀ n q, p = .mb2
    n q → s.dev.state ≠ .dawn ∧ s.dev.state ≠ .dusk)) :=
  ⟨running, .mb0, (List.replicate 23 0), by decide +kernel, by decide +kernel, (fun n q h => nomatch h)⟩

theorem test_interruptsSendOneMessage_2 : ∃ (s : State) (n : Nat), bitAt s.host.intStatus n = true :=
  ⟨{ running with host := { running.host with intStatus := 2 ^ 38 } }, 38, by decide +kernel⟩

theorem test_interruptsSendOneMessage_3 : ∃ (s : State) (n : Nat), bitAt s.host.intStatus n = false :=
  ⟨running, 38, by decide +kernel⟩

theorem test_interruptsSendOneMessage_4 : ∃ (s : State) (v : BitVec 64), hostUp s = true ∧ ((∀ n, n < 32 → msixMasked s n = false)) :=
  ⟨{ running with host := { running.host with msixTable := (List.range 32).foldl (fun m n => SMap.put 1#8 m (16 * n + 12) 0#8) [] } }, 5,
   by decide +kernel⟩

theorem test_aShadowHoldsTheActiveAliveUntilD_1 : ∃ (s : State), s.red.first = false :=
  ⟨shadowed, by decide +kernel⟩

theorem test_aShadowHoldsTheActiveAliveUntilD_3 : ∃ (s : State) (u : Time), s.dev.state = .shadow ∧ s.red.role ≠ 1 ∧ u < deadlineD s ∧
    s.red.released = none :=
  ⟨{ shadowed with red := { shadowed.red with r := 10 * sec } }, (10 * sec + 1), by decide +kernel⟩

theorem test_aShadowHoldsTheActiveAliveUntilD_4 : ∃ (s : State) (u : Time) (v : Time) (k : Nat) (b : Bool), s.dev.state = .shadow ∧
    s.red.pair = true ∧ s.red.takenAt = none ∧ u < deadlineD s :=
  ⟨{ shadowed with red := { shadowed.red with r := 10 * sec } }, (10 * sec + 1), 0, 100, false, by decide +kernel⟩

theorem test_aShadowHoldsTheActiveAliveUntilD_5 : ∃ (s : State) (u : Time) (v : Time) (k : Nat) (b : Bool), deadlineD s ≤ u :=
  ⟨shadowed, (11 * sec), 0, 100, false, by decide +kernel⟩

/-! ### Well-formedness: each check refuses an ill-formed command -/

/-- A request whose path is no path. -/
def noPath (p : Path) : Req := { bare with path := p }

theorem test_wf_refuses_requests :
    (([noPath (.mb2 (2 ^ 32) 0), noPath (.mb2 0 2), noPath (.mb3 4 0 1 0 0), noPath (.mb3 0 8 1 0 0), noPath (.mb3 0 0 0 0 0),
      noPath (.mb3 0 0 5 0 0), noPath (.mb3 0 0 1 (2 ^ 32) 0), noPath (.mb3 0 0 1 0 65536)] : List Req).all fun r =>
      ([.get r, .set r, .snapshotGet r, .tableWrite r, .tableRead r, .txnOpen r, .txnCommitAt r, .txnAbort r, .streamBind r, .rewind r,
        .timRtcSet r, .fixSceneRecall r, .fixSceneRelease r, .fixFaultClear r, .fixFloorSet r, .fixEnableSet r, .dmxRdmReq r,
        .dmxRdmDisc r, .dalCmd r, .dalAddressRun r, .radTx r, .queFlush r, .redSwitch r, .redUnfitClear r, .keyUpdateInstall r,
        .keyUpdateInvalidate r, .keyUpdateProvision r, .keyUpdateTakeOwnership r, .keyUpdateReturn r, .keyUpdateReprovision r,
        .keyUpdateRetire r, .attest r, .imageBlockManifest r, .imageBlockData r, .imageVerify r, .imageArm r, .imageDisarm r,
        .imageConfirm r, .logRead r, .logClear r, .cursorSet r, .windowRead r, .diagStatus r, .diagRestart r, .diagDusk r, .diagRegRead r,
        .calStart r, .unknownOpcodeRequest 0 r] : List Instr).all fun i => !i.wf) = true := by decide +kernel

theorem test_wf_refuses_long_request : Req.wf { bare with body := List.replicate 73705 0 } = false := by decide +kernel

theorem test_wf_refuses_system :
    ([.mainRailsInRange 4 false false, .resetNRelease 4 false false, .dawnEnd { fairDawn with margin := 65536 },
      .dawnEnd fairDawn, .dawnEnd { fairDawn with rails := List.replicate 8 0, fail := some (8, 0, 0) }, .wakeEvent 4 true 0 0,
      .dieTempSample [], .railMeasure [1], .tsnsRead [1], .frameEdge { margin := 65536, energy := List.replicate 16 0 },
      .frameEdge { margin := 0, energy := [] }, .ptpOffsetSample 0 0 0 0, .ptpOffsetSample 0 0 5 0, .txTimestampCapture 2 0 true 0,
      .txTimestampCapture 0 65536 true 0, .txTimestampPop 2, .toutPulse 8, .timAlarmFire 4, .tinCapture 8 true 0,
      .energyRetrim 7 0 0, .energyRetrim 0 256 0, .tamperEvent 5 0, .selftestFailure 65536 true, .logTokenAdd 65536, .logClearDone 8 0,
      .calLineCalibrate 0 [], .calLineCalibrate 0 (List.replicate 5 true), .threadWake 256 0 0 none 0, .threadWake 0 6 0 none 0,
      .threadWake 0 0 0 (some 256) 0, .threadBlock 4 0, .threadSlice 4 0, .threadExit 4 0, .ptpMessageInterval 2 0 0] :
      List Instr).all (fun i => !i.wf) = true := by decide +kernel

theorem test_wf_refuses_content :
    ([.dmaDescriptorRead [], .ringSpaceFreed 2, .layerSourceLost 64,
      .contentStreamReceived 0 32 true { header := List.replicate 64 0, map := [], data := [] },
      .contentStreamReceived 0 0 true { header := [], map := [], data := [] }, .bar2RingWrite 0 [], .dramGrant [], .scheduleFire 1024] :
      List Instr).all (fun i => !i.wf) = true := by decide +kernel

theorem test_wf_refuses_outputs :
    ([.strandTxStart 64, .dmxPacketStart 16, .rdmTransactionStart 16 0, .rdmResponse 16 0 0 true [], .rdmResponse 0 0 256 true [],
      .rdmResponse 0 0 0 true (List.replicate 232 0), .rdmResponseTimeout 16 0, .rdmDiscDone 16 0 [], .rdmDiscDone 0 0 [2 ^ 48],
      .rdmTelemetryPoll 1024, .daliFrameSend 8, .daliCollision 8, .daliBackwardFrame 8 0 0, .daliBackwardFrame 0 256 0, .daliPoll 8 0,
      .daliPoll 0 64, .daliReplyTimeout 8 0, .daliBusDown 8, .daliBusRestored 8, .dalAddressDone 8 0 [], .dalAddressDone 0 0 [(64, 0)],
      .dalAddressDone 0 0 [(0, 2 ^ 24)], .daliDeviceFrame 8, .sacnDataPacket 2, .sacnQuietStart 2, .sacnSyncPacket 2,
      .rasterLineStart 2 none, .rasterPhaseStep 2 true, .rasterFetchAdvance 2, .pwmPeriodStart 48, .pdmSlot 48, .snsSample 560 0 0 false,
      .diagStaleExpiry 560, .glintProbe 48] : List Instr).all (fun i => !i.wf) = true := by decide +kernel

theorem test_wf_refuses_radio_and_ethernet :
    ([.radioCellPrepare 4 0, .radioSlotStart 4, .radioTxtrig 4, .radioSfdStamp 4 0, .radioRxFetch 4 true, .radioFrameReceived 4 heardFrame,
      .radioFrameReceived 0 { heardFrame with rssi := 256 }, .radioFrameReceived 0 { heardFrame with lqi := 256 },
      .radioFrameReceived 0 { heardFrame with psdu := List.replicate 2048 0 },
      .radioAckReceived 4 0 0, .radioAckReceived 0 0 2048, .radioAckReceived 0 0 (-2049), .radioAckTimeout 4, .radioGuardEval 4 0 0,
      .radioGuardEval 0 4096 0, .commandFrameBuild 4, .radioCivicDeferred 4 0, .ethRxFrame 2 0 (frameOf_ 0),
      .ethRxFrame 0 0 { frameOf_ 0 with wireLen := 1 }, .pauseExpiry 2, .pauseWatchdog 2, .pauseIgnoreEnd 2, .pauseRefresh 2,
      .ethTxFrameStart 2 0, .ethTxComplete 2 0, .ethLinkChange 2 true] : List Instr).all (fun i => !i.wf) = true := by decide +kernel

theorem test_wf_refuses_host :
    ([.headWrite 32 0, .qregFlush 32 0, .queueFlushDone 32, .pushLenWrite 32 0, .queuePushResume 32, .qspiRead (2 ^ 24) 0,
      .qspiRead 0 65537, .qspiWrite (2 ^ 24) [], .qspiWrite 0 (List.replicate 65537 0), .regWrite (2 ^ 24) [0], .regWrite 0 [],
      .mbMalformed .mb0 (List.replicate 24 0), .mbMalformed (.mb2 (2 ^ 32) 0) [], .consoleFrameError (List.replicate 73729 0),
      .unknownOpcodeRequest 65536 bare] : List Instr).all (fun i => !i.wf) = true := by decide +kernel

/-- A relay header with a field too wide. -/
def badHdrs : List RelayHdr :=
  [{ hdr with path := 256 }, { hdr with tenant := 256 }, { hdr with role := 256 }, { hdr with session := 2 ^ 32 },
    { hdr with relayId := 65536 }, { hdr with txnId := 65536 }, { hdr with status := 256 }, { hdr with node := 64 }]

theorem test_wf_refuses_relays :
    (badHdrs.all fun h => ([.relayRequest h 0 bare, .relayResponse h [], .relayStage h 0 0 [], .relayVerdict h 0 [], .relayDiscard h,
      .relayRole h 1 0, .relayNotify h (List.replicate 24 0)] : List Instr).all fun i => !i.wf) = true := by decide +kernel

theorem test_wf_refuses_stack_and_mirror :
    ([.cascadeLaneLock 2 0 0, .cascadeLaneLock 0 8 0, .cascadeLockLoss 2 0, .cascadeLockLoss 0 8, .cascadeAlignSlot 2 (List.replicate 8 0),
      .cascadeAlignSlot 0 [], .cascadeLinkSlot 2 1 true 0 0, .cascadeLinkSlot 0 0 true 0 0, .cascadeLinkSlot 0 3 true 0 0,
      .cascadeLinkSlot 0 1 true 3 0, .cascadeLinkSlot 0 1 true 0 8, .enumReceived 256 true 0 0, .enumReceived 0 true 33 0,
      .enumReceived 0 true 0 65536, .reportReceived ⟨256, []⟩, .reportReceived ⟨0, [⟨32, true, 0, List.replicate 32 0⟩]⟩,
      .probeReceived 0 65536 0 true, .echoReceived 2 0 0 0 0 true,
      .echoReceived 0 0 0 65536 0 true, .edgeReceived (2 ^ 64) 0 true true, .slipReceived 2 0 0, .slipReceived 0 (2 ^ 64) 0,
      .slipReceived 0 0 32, .commitReceived 65536 0 0, .commitReceived 0 64 0, .commitReceived 0 0 (2 ^ 64), .creditReceived 2 1 0 0,
      .creditReceived 0 0 0 0, .creditReceived 0 4 0 0, .creditReceived 0 1 65536 0, .creditReceived 0 1 0 65536, .cmdRetransmit 2 1,
      .cmdRetransmit 0 2, .relayRole hdr 0 0, .relayRole hdr 3 0, .relayNotify hdr [], .relayRequest hdr 0 (noPath (.mb2 (2 ^ 32) 0)),
      .heartbeatReceived 0 (2 ^ 64) 0 true, .mirrorAckReceived 0 4 0 [], .mirrorAckReceived 0 0 8 [], .helloReceived (2 ^ 128) 0 true 0 0,
      .helloReceived 0 33 true 0 0, .helloReceived 0 0 true 65536 0, .helloReceived 0 0 true 0 65536, .journalReceived 0 0 65536 [],
      .inputReceived 0 256 0 [0, 0, 0, 0] (List.replicate 8 0) [], .inputReceived 0 0 9 [0, 0, 0, 0] (List.replicate 8 0) [],
      .inputReceived 0 0 0 [] (List.replicate 8 0) [], .inputReceived 0 0 0 [0, 0, 0, 0] [] [], .resultReceived 0 [(65536, 0)],
      .continuityReceived 0 [(32768, 0)] [] [] [], .continuityReceived 0 [] [(512, 0)] [] []] : List Instr).all (fun i => !i.wf) = true := by
  decide +kernel

theorem test_wf_accepts :
    ([.get bare, .dawnEnd { fairDawn with rails := List.replicate 8 0 }, .wakeEvent 3 true 0 0, .radioFrameReceived 3 heardFrame,
      .ethRxFrame 1 0 { frameOf_ 0 with wireLen := 64 }, .relayRole hdr 2 0, .cmdRetransmit 1 3, .threadWake 255 5 0 (some 255) 0] :
      List Instr).all Instr.wf = true := by decide +kernel

/-! ### Functions against values from their standards and from the spec's examples -/

/-- FIPS 180-4, the hash of abc. -/
theorem test_sha256_abc : beNat (sha256 [0x61, 0x62, 0x63]) = 0xBA7816BF8F01CFEA414140DE5DAE2223B00361A396177A9CB410FF61F20015AD := by
  decide +kernel

/-- RFC 4231, case 1. -/
theorem test_hmac_case1 : beNat (hmac (List.replicate 20 0x0B) [0x48, 0x69, 0x20, 0x54, 0x68, 0x65, 0x72, 0x65])
    = 0xB0344C61D8DB38535CA8AFCEAF0BF12B881DC200C9833DA726E9376C2E32CFF7 := by decide +kernel

/-- The check value of CRC-32. -/
theorem test_crc32_check : crc32 [0x31, 0x32, 0x33, 0x34, 0x35, 0x36, 0x37, 0x38, 0x39] = 0xCBF43926 := by decide +kernel

/-- The check value of the console's CRC-16. -/
theorem test_crc16_check : crc16 [0x31, 0x32, 0x33, 0x34, 0x35, 0x36, 0x37, 0x38, 0x39] = 0x29B1 := by decide +kernel

/-! ### The spec's worked examples -/

/-- Example 4-1: two layers over a background of 20,000. -/
theorem test_example_4_1 : blend1 0 50000 49152 20000 = 42500 ∧ blend1 1 30000 13107 42500 = 48500 := by decide +kernel

/-- Example 2-1: the edges E(k−1) and E(k) and the penumbra at 120 Hz. -/
theorem test_example_2_1 :
    let c := (Store.empty.setVal frmRateNum 0 120).setVal frmRateDen 0 1
    gridAt c 212067072001 = 1767225600 * sec + 8333333 * ns + 0x5555 ∧ gridAt c 212067072002 = 1767225600 * sec + 16666666 * ns + 0xAAAB
      ∧ penumbra c = 2083333 * ns + 0x5555 := by decide +kernel

/-- Example 5-1: a tent footprint of 4 by 4 over 40,000, 40,000, 20,000 and 20,000. -/
theorem test_example_5_1 :
    sample ((List.range 8).flatMap fun _ => [40000, 40000, 20000, 20000]) 4 0 (0x5B * 2 ^ 32) = 30000 := by decide +kernel

/-- Example 5-2: the fade to 45,875 over 600 frames at 257 and 258, and sunset less 600 s in device time. -/
theorem test_example_5_2 :
    fadeCh 0 45875 600 257 = 19650 ∧ fadeCh 0 45875 600 258 = 19726
      ∧ ofLocal ((Store.empty.setVal devTzOffset 0 60).setVal devUtcTai 0 37) 20624 (74497 - 600) = (1781983934 * sec : Nat) := by
  decide +kernel

/-- The emitter entry `n` of a model: x, y, flux, power, and the flux and shifts at the high point. -/
def emitterAt (n x y flux power hi dx dy : Nat) : List (Nat × Nat) :=
  let o := 32 + 14 * n
  [(o, x), (o + 2, y), (o + 4, flux), (o + 6, power), (o + 8, 128), (o + 9, hi), (o + 11, dx), (o + 13, dy)]

/-- Model 17 of Example 6-1. -/
def model17 : Nat :=
  record ([(0, 6), (2, 20493), (4, 21561), (6, 256), (8, 256), (10, 65536 - 320), (12, 1360), (14, 640), (16, 655), (18, 45875)]
    ++ emitterAt 0 45351 20185 4096 1200 31 80 176 ++ emitterAt 1 37356 28049 4915 1200 90 0 0
    ++ emitterAt 2 12452 46531 8192 1500 115 0 0 ++ emitterAt 3 5243 29491 4096 1000 110 0 0
    ++ emitterAt 4 10158 1638 1024 900 102 248 16 ++ emitterAt 5 21627 22938 9830 2000 110 0 0)

/-- Example 6-1: the drives at 25 °C. -/
theorem test_example_6_1 : (solveFixture 1 0 false model17 0 400 1 [8388608, 0, 0]).d24 = [8782327, 0, 0, 0, 129690, 0] := by decide +kernel

/-- Example 6-1: the derating at 48 °C. -/
theorem test_example_6_1_derating : derScale model17 768 = 60296 := by decide +kernel

/-- The pin of Example 7-1: NRZ at 1,250 ns with three fields of 8 bits. -/
def pin7 : Nat := record [(0, 1), (2, 1250), (4, 400), (6, 800), (8, 280000), (12, 3), (16, 0x71), (18, 0x70), (20, 0x72)]

/-- Example 7-1: 545 pixels take 16,630,000 ns. -/
theorem test_example_7_1 : spBpp pin7 = 24 ∧ spTtx pin7 545 = 16630000 ∧ spTtx pin7 267 = 8290000 := by decide +kernel

/-- The port record of Example 8-1. -/
def facade : Nat := record [(0, 2), (1, 3), (3, 3), (4, 2880), (6, 1152), (8, 14400), (12, 1000)]

/-- Example 8-1: the packet's size and time, and two codes of RGB12 LINEAR. -/
theorem test_example_8_1 :
    rsPb facade = 2160 ∧ rsSlots facade = 543 ∧ rsPkt facade = 286704 ∧ rasCode facade 32768 = 2048 ∧ rasCode facade 65535 = 4095 := by
  decide +kernel

/-- Example 8-1: the header of line 576 on RAS1. -/
theorem test_example_8_1_header :
    rasHeader (rasPut (withRows [(rasPort, 0, facade), (rasPort, 1, facade)] running) 1 { RasterState.empty with frame := 106033536000 }) 1 576
      = [0x01, 0x03, 0x0C, 0x00, 0x00, 0x5C, 0x17, 0xB0, 0x18, 0, 0, 0, 0x40, 0x02, 0x40, 0x0B, 0x40, 0x0B, 0x80, 0x16, 0x80, 0x04, 0x70, 0x08,
          0, 0, 0, 0, 0, 0, 0, 0] := by decide +kernel

/-- Example 9-1: the on-times of three drives at 20 kHz. -/
theorem test_example_9_1 : pwmOn 1024 50000 0 = 12500 ∧ pwmOn 1311 50000 0 = 16003 ∧ pwmOn 1310 50000 0 = 15991 := by decide +kernel

/-- Example 10-1: the PSDU of a command frame with seven group items, and the guard time of a luminaire. -/
theorem test_example_10_1 : psduLen 6 43 = 76 ∧ guardOf (record [(20, 100), (22, 20)]) (44500000 * us) = 1880 := by decide +kernel

/-- Example 14-1: the detail block of the conflict. -/
theorem test_example_14_1 :
    errBytes running { status := .eConflict, item := 0, param := 0x4401, record := 0, ownerParam := 0x4400, ownerRecord := 5 }
      = [0x00, 0x00, 0x00, 0x14, 0x01, 0x44, 0x00, 0x00, 0x00, 0x00, 0x00, 0x00, 0x00, 0x44, 0x00, 0x00, 0x05, 0, 0, 0, 0, 0, 0, 0] := by
  decide +kernel

/-- Example 22-2: the trace record of a pre-emption. -/
theorem test_example_22_2 :
    traceBytes { running with frm := { running.frm with num := 106033572004 } } 2 2 24 65 (some 23) 0x1018 (1767226200 * sec + 67012340 * ns)
      = [0x02, 0xE2, 0x41, 0x17, 0x18, 0x10, 0xA4, 0xE8, 0xF4, 0x86, 0xFE, 0x03, 0x58, 0xBB, 0x55, 0x69] := by decide +kernel

/-- Example 18-1: an INSTALL of a key of 16 bytes under a CONTROL key is 128 bytes long. -/
theorem test_example_18_1 : envSizeOk (leBytes 128 (record [(0, 0xC1E7), (2, 1), (3, 1), (4, 1), (42, 16)])) = true := by decide +kernel

/-- Example 19-1: the length of the manifest. -/
theorem test_example_19_1 : manifestLen (leBytes 28 (record [(3, 1), (22, 176)])) = 5880 := by decide +kernel

end Sys2Proof.Tests
end

section
/-! SUPPORT. The vitals of a block: the little of its state that the power invariant speaks of, with the waiting commands and the fabric
readings. -/

namespace Sys2Proof.Machine

/-! ### The vitals of a block -/

/-- What the invariants of the block speak of: the waiting commands, the device state with its SAFE cause, the main rails, whether edges
run, and the fabric readings. -/
structure Vitals where
  pending : List Instr
  state : DevState
  safeCause : Nat
  rails : Bool
  running : Bool
  fab : Fabric

/-- The vitals of a block. -/
def vitals (s : State) : Vitals :=
  { pending := s.pending, state := s.dev.state, safeCause := s.dev.safeCause, rails := s.dev.rails, running := s.frm.running, fab := s.fab }

/-- The vitals that a command leaves, where it goes on. -/
def vitalsOf : Host.Outcome State Fault Refusal → Option Vitals
  | .next t => some (vitals t)
  | _ => none

@[simp] theorem vitalsOf_next (t : State) : vitalsOf (.next t) = some (vitals t) := rfl

/-- New parts that agree with the block in what the vitals show. -/
@[simp] theorem vitals_mk {s : State} {dev tim frm con src fix wired ras drv rad eth que host ox stk red eng sec upd log cal sch fab}
    {imm free out}
    (hs : dev.state = s.dev.state) (hc : dev.safeCause = s.dev.safeCause) (hr : dev.rails = s.dev.rails)
    (he : frm.running = s.frm.running) (hf : fab = s.fab) :
    vitals ⟨s.pending, dev, tim, frm, con, src, fix, wired, ras, drv, rad, eth, que, host, ox, stk, red, eng, sec, upd, log, cal, sch,
      fab, imm, free, out⟩ = vitals s := by
  simp [vitals, hs, hc, hr, he, hf]

/-- A frame of the model's laws that spares these parts spares the vitals. -/
theorem ChangesOnly.vitals {ps : List Part} {s t : State} (h : ChangesOnly ps s t)
    (hp : ∀ p ∈ [Part.pending, Part.dev, Part.frm, Part.fab], p ∉ ps) : vitals t = vitals s := by
  have hq : t.pending = s.pending := h .pending (hp _ (by simp))
  have hd : t.dev = s.dev := h .dev (hp _ (by simp))
  have hf : t.frm = s.frm := h .frm (hp _ (by simp))
  have hb : t.fab = s.fab := h .fab (hp _ (by simp))
  simp only [Machine.vitals, hq, hd, hf, hb]

@[simp] theorem vitals_ite (c : Prop) [Decidable c] (s t : State) : vitals (if c then s else t) = if c then vitals s else vitals t :=
  apply_ite vitals c s t

@[simp] theorem vitals_ite_fst {α : Type} (c : Prop) [Decidable c] (x y : State × α) :
    vitals (if c then x else y).1 = if c then vitals x.1 else vitals y.1 := apply_ite (fun z : State × α => vitals z.1) c x y

@[simp] theorem vitals_ite_snd {α : Type} (c : Prop) [Decidable c] (x y : α × State) :
    vitals (if c then x else y).2 = if c then vitals x.2 else vitals y.2 := apply_ite (fun z : α × State => vitals z.2) c x y

/-- A fold leaves the vitals alone whose steps do, on an accumulator that carries the block. -/
theorem foldl_vitals_of {α β : Type} (g : β → State) {f : β → α → β} (h : ∀ a x, vitals (g (f a x)) = vitals (g a))
    (l : List α) (b : β) : vitals (g (l.foldl f b)) = vitals (g b) := by
  induction l generalizing b with
  | nil => rfl
  | cons x l ih => exact (ih (f b x)).trans (h b x)

@[simp] theorem foldl_vitals {α : Type} {f : State → α → State} (h : ∀ a x, vitals (f a x) = vitals a) (l : List α) (s : State) :
    vitals (l.foldl f s) = vitals s := foldl_vitals_of id h l s

@[simp] theorem putFrame_running (s : State) (f : Frame) : (putFrame s f).frm.running = s.frm.running := rfl
@[simp] theorem dropTxns_running (s : State) : (dropTxns s).frm.running = s.frm.running := rfl

/-- The block in a state in which no edges run, with a SAFE cause. -/
def Vitals.halt (v : Vitals) (x : DevState) (cause : Nat) : Vitals := { v with state := x, safeCause := cause, running := false }

@[simp] theorem Vitals.halt_rails (v : Vitals) (x : DevState) (c : Nat) : (v.halt x c).rails = v.rails := rfl

/-- The power invariant, of vitals. -/
def Vitals.Sound (v : Vitals) : Prop :=
  (v.state = .safe ↔ v.safeCause ≠ 0) ∧ (v.running = true → v.state.live = true) ∧ (v.state.powered = true → v.rails = true)

theorem powerInv_iff (s : State) : PowerInv s ↔ (vitals s).Sound := Iff.rfl

/-- Blocks with the same vitals meet the power invariant together. -/
theorem PowerInv.of_vitals {s t : State} (hs : PowerInv s) (h : vitals t = vitals s) : PowerInv t := by
  rw [powerInv_iff, h]
  exact hs

/-- With the rails in range, or in a state that needs none, a halted block meets the invariant when it shows a cause in SAFE alone. -/
theorem Vitals.Sound.halt {v : Vitals} {x : DevState} {c : Nat} (hc : x = .safe ↔ c ≠ 0) (hr : x.powered = true → v.rails = true) :
    (v.halt x c).Sound :=
  ⟨hc, fun h => (Bool.false_ne_true h).elim, hr⟩

/-- Edges run in states that need the main rails. -/
theorem powered_of_live {x : DevState} (h : x.live = true) : x.powered = true := by
  cases x <;> simp_all [DevState.live, DevState.powered]

/-- A move among the states with edges: cause, rails and edges stay. -/
structure Vitals.LiveStep (v w : Vitals) : Prop where
  live : w.state.live = true
  same : w = { v with state := w.state, fab := w.fab }

theorem Vitals.LiveStep.trans {u v w : Vitals} (h : u.LiveStep v) (k : v.LiveStep w) : u.LiveStep w :=
  ⟨k.live, k.same.trans (by rw [h.same])⟩

theorem Vitals.Sound.liveStep {v w : Vitals} (hv : v.Sound) (hl : v.state.live = true) (h : v.LiveStep w) : w.Sound := by
  obtain ⟨hc, _, hr⟩ := hv
  have hns {x : DevState} (hx : x.live = true) : x ≠ .safe := by rintro rfl; cases hx
  have h0 : v.safeCause = 0 := by
    by_contra hne
    exact hns hl (hc.mpr hne)
  rw [h.same]
  exact ⟨⟨fun e => (hns h.live e).elim, fun e => (e h0).elim⟩, fun _ => h.live, fun _ => hr (powered_of_live hl)⟩

/-- The power invariant holds of the block that a command leaves. -/
def SoundAfter (o : Host.Outcome State Fault Refusal) : Prop := ∀ t, o = .next t → PowerInv t

@[simp] theorem soundAfter_next (t : State) : SoundAfter (.next t) ↔ PowerInv t :=
  ⟨fun h => h t rfl, fun h u hu => by cases hu; exact h⟩

/-- A command that leaves the vitals alone keeps the invariant. -/
theorem PowerInv.soundAfter {s : State} {o : Host.Outcome State Fault Refusal} (hs : PowerInv s) (h : vitalsOf o = some (vitals s)) :
    SoundAfter o := by
  rintro t rfl
  exact hs.of_vitals (Option.some.inj h)

theorem PowerInv.rails {s : State} (hs : PowerInv s) (h : s.dev.state.powered = true) : s.dev.rails = true := hs.2.2 h

theorem PowerInv.live {s : State} (hs : PowerInv s) (h : s.frm.running = true) : s.dev.state.live = true := hs.2.1 h

end Sys2Proof.Machine
end

section
/-! SUPPORT. What leaves the vitals alone: one lemma for each function of the model that moves neither the device state nor the
edges, in the order of the model, down to the commands themselves. A proof about a command goes through these and unfolds no shared operation. -/

namespace Sys2Proof.Machine

/-! ### Time, output history and interrupt sources -/

@[simp] theorem emit_vitals (s : State) (x : Sent) : vitals (emit s x) = vitals s := (emit_changes _ _).vitals (by decide)

@[simp] theorem advance_vitals (s : State) (t : Time) : vitals (advance s t) = vitals s :=
  (advance_changes _ _).vitals (by decide)

@[simp] theorem takeFree_vitals (s : State) : vitals (takeFree s).2 = vitals s := by simp [takeFree]

@[simp] theorem msixSend_vitals (s : State) (v : Nat) : vitals (msixSend s v) = vitals s :=
  (msixSend_changes _ _).vitals (by decide)

@[simp] theorem raise_vitals (s : State) (n : Nat) : vitals (raise s n) = vitals s := (raise_changes _ _).vitals (by decide)

/-! ### Queues, cascade sending, notifications, the recorder, guarantees and transactions -/

@[simp] theorem qPut_vitals (s : State) (q : Nat) (x : Queue) : vitals (qPut s q x) = vitals s :=
  (qPut_changes _ _ _).vitals (by decide)

@[simp] theorem watermark_vitals (s : State) (q : Nat) : vitals (watermark s q) = vitals s :=
  (watermark_changes _ _).vitals (by decide)

@[simp] theorem qCommit_vitals (s : State) (q : Nat) (hostSlot : Bool) (pkt : List Byte) : vitals (qCommit s q hostSlot pkt) = vitals s :=
  (qCommit_changes _ _ _ _).vitals (by decide)

@[simp] theorem qPush_vitals (s : State) (q : Nat) (hostSlot : Bool) (pkt : List Byte) : vitals (qPush s q hostSlot pkt) = vitals s :=
  (qPush_changes _ _ _ _).vitals (by decide)

@[simp] theorem qResume_vitals (s : State) (q : Nat) : vitals (qResume s q) = vitals s := (qResume_changes _ _).vitals (by decide)

@[simp] theorem qResumeAll_vitals (n : Nat) (s : State) (q : Nat) : vitals (qResumeAll n s q) = vitals s := by
  induction n generalizing s with
  | zero => rfl
  | succ n ih => simp [qResumeAll, ih]

@[simp] theorem qDiscard_vitals (s : State) (q : Nat) : vitals (qDiscard s q) = vitals s := by simp [qDiscard]
@[simp] theorem qOffer_vitals (s : State) (q : Nat) (pkt : List Byte) : vitals (qOffer s q pkt).2 = vitals s := by simp [qOffer]
@[simp] theorem qPop_vitals (s : State) (q : Nat) : vitals (qPop s q).2 = vitals s := (qPop_changes _ _).vitals (by decide)

@[simp] theorem casPut_vitals (s : State) (p : Nat) (x : CasPort) : vitals (casPut s p x) = vitals s :=
  (casPut_changes _ _ _).vitals (by decide)

@[simp] theorem casClassPut_vitals (s : State) (p c : Nat) (x : CasClass) : vitals (casClassPut s p c x) = vitals s :=
  (casClassPut_changes _ _ _ _).vitals (by decide)

@[simp] theorem casPump_vitals (n : Nat) (s : State) (p c : Nat) : vitals (casPump n s p c) = vitals s :=
  (casPump_changes _ _ _ _).vitals (by decide)

@[simp] theorem casQueue_vitals (s : State) (p c : Nat) (ps : List CasPacket) : vitals (casQueue s p c ps) = vitals s :=
  (casQueue_changes _ _ _ _).vitals (by decide)

@[simp] theorem casSend_vitals (s : State) (p c dst : Nat) (m : List Byte) : vitals (casSend s p c dst m) = vitals s :=
  (casSend_changes _ _ _ _ _).vitals (by decide)

@[simp] theorem casTook_vitals (s : State) (p c len : Nat) : vitals (casTook s p c len) = vitals s := by simp [casTook]

@[simp] theorem casTime_vitals (s : State) (p subtype : Nat) (body : List Byte) : vitals (casTime s p subtype body) = vitals s :=
  (casTime_changes _ _ _ _).vitals (by decide)

@[simp] theorem sendMb2_vitals (s : State) (p n : Nat) (m : List Byte) : vitals (sendMb2 s p n m) = vitals s :=
  (sendMb2_changes _ _ _ _).vitals (by decide)

@[simp] theorem noteCopies_vitals (l : List (Nat × Nat)) (s : State) (b : List Byte) : vitals (noteCopies l s b) = vitals s :=
  (noteCopies_changes _ _ _).vitals (by decide)

@[simp] theorem noteOut_vitals (s : State) (pkt : List Byte) : vitals (noteOut s pkt) = vitals s :=
  (noteOut_changes _ _).vitals (by decide)

@[simp] theorem notifyBytes_vitals (s : State) (pkt : List Byte) : vitals (notifyBytes s pkt) = vitals s :=
  (notifyBytes_changes _ _).vitals (by decide)

@[simp] theorem notifyAt_vitals (s : State) (code : Nat) (t : Time) (body : List Byte) : vitals (notifyAt s code t body) = vitals s :=
  (notifyAt_changes _ _ _ _).vitals (by decide)

@[simp] theorem notify_vitals (s : State) (code : Nat) (body : List Byte) : vitals (notify s code body) = vitals s :=
  (notify_changes _ _ _).vitals (by decide)

@[simp] theorem lossMarker_vitals (s : State) : vitals (lossMarker s) = vitals s := by simp [lossMarker]

@[simp] theorem writeSlot_vitals (s : State) (log slot : Nat) (r : List Byte) : vitals (writeSlot s log slot r) = vitals s :=
  (writeSlot_changes _ _ _ _).vitals (by decide)

@[simp] theorem logCount_vitals (s : State) (log k n : Nat) : vitals (logCount s log k n) = vitals s :=
  (logCount_changes _ _ _ _).vitals (by decide)

@[simp] theorem repeatSlot_vitals (s : State) (log slot : Nat) : vitals (repeatSlot s log slot) = vitals s :=
  (repeatSlot_changes _ _ _).vitals (by decide)

@[simp] theorem writeEvent_vitals (s : State) (log code sev flags p0 p1 p2 : Nat) :
    vitals (writeEvent s log code sev flags p0 p1 p2) = vitals s :=
  (writeEvent_changes _ _ _ _ _ _ _ _).vitals (by decide)

@[simp] theorem putBucket_vitals (s : State) (code : Nat) (b : Bucket) : vitals (putBucket s code b) = vitals s :=
  (putBucket_changes _ _ _).vitals (by decide)

@[simp] theorem recordEvent_vitals (s : State) (log code sev p0 p1 p2 : Nat) : vitals (recordEvent s log code sev p0 p1 p2) = vitals s :=
  (recordEvent_changes _ _ _ _ _ _ _).vitals (by decide)

@[simp] theorem logEv_vitals (s : State) (code p0 p1 p2 : Nat) : vitals (logEv s code p0 p1 p2) = vitals s :=
  (logEv_changes _ _ _ _ _).vitals (by decide)

@[simp] theorem setCond_vitals (s : State) (code obj : Nat) (b : Bool) : vitals (setCond s code obj b) = vitals s :=
  (setCond_changes _ _ _ _).vitals (by decide)

@[simp] theorem logEntry_vitals (s : State) (b : Bool) (code obj p0 p1 p2 : Nat) : vitals (logEntry s b code obj p0 p1 p2) = vitals s :=
  (logEntry_changes _ _ _ _ _ _ _).vitals (by decide)

@[simp] theorem breakG_vitals (s : State) (level code source n : Nat) : vitals (breakG s level code source n) = vitals s :=
  (breakG_changes _ _ _ _ _).vitals (by decide)

@[simp] theorem restoreG_vitals (s : State) (level code source : Nat) : vitals (restoreG s level code source) = vitals s := by
  simp [restoreG]

@[simp] theorem setG_vitals (s : State) (b : Bool) (level code source n : Nat) :
    vitals (setG s b level code source n) = vitals s := by simp [setG]

@[simp] theorem holdRewinds_vitals (s : State) (x : AccTxn) : vitals (holdRewinds s x) = vitals s :=
  (holdRewinds_changes _ _).vitals (by decide)

@[simp] theorem dropHolds_vitals (s : State) (id : Nat) : vitals (dropHolds s id) = vitals s := by simp [dropHolds]
@[simp] theorem enlist_vitals (s : State) (x : AccTxn) : vitals (enlist s x) = vitals s := (enlist_changes _ _).vitals (by decide)

@[simp] theorem noteDiscards_vitals (s : State) : vitals (noteDiscards s) = vitals s :=
  (noteDiscards_changes _).vitals (by decide)

@[simp] theorem dropTxns_vitals (s : State) : vitals (dropTxns s) = vitals s := by simp [dropTxns]

/-! ### Frame edges and the lock loop -/

@[simp] theorem putFrame_vitals (s : State) (f : Frame) : vitals (putFrame s f) = vitals s := by simp [putFrame]
@[simp] theorem renumber_vitals (s : State) (d : Int) : vitals (renumber s d) = vitals s := by simp [renumber]
@[simp] theorem lockAt_vitals (s : State) (p : Int) : vitals (lockAt s p) = vitals s := by simp [lockAt]

@[simp] theorem usePulse_vitals (s : State) (t : Time) : vitals (usePulse s t) = vitals s := by
  unfold usePulse
  dsimp only
  repeat' split
  all_goals simp

/-! ### Ingress rings and DMA -/

@[simp] theorem ringPut_vitals (s : State) (i : Nat) (r : Ring) : vitals (ringPut s i r) = vitals s := by simp [ringPut]
@[simp] theorem ringCount_vitals (s : State) (i k n : Nat) : vitals (ringCount s i k n) = vitals s := by simp [ringCount]
@[simp] theorem badEntry_vitals (s : State) (i off : Nat) : vitals (badEntry s i off) = vitals s := by simp [badEntry]
@[simp] theorem overwrite_vitals (s : State) (i limit : Nat) : vitals (overwrite s i limit) = vitals s := by simp [overwrite]
@[simp] theorem ringWrite_vitals (s : State) (i : Nat) (e : Entry) : vitals (ringWrite s i e) = vitals s := by simp [ringWrite]
@[simp] theorem ringOffer_vitals (s : State) (i : Nat) (e : Entry) : vitals (ringOffer s i e) = vitals s := by simp [ringOffer]
@[simp] theorem dmaDone_vitals (s : State) (seq status : Nat) : vitals (dmaDone s seq status) = vitals s := by simp [dmaDone]
@[simp] theorem dmaFail_vitals (s : State) (seq status : Nat) : vitals (dmaFail s seq status) = vitals s := by simp [dmaFail]

@[simp] theorem entryDone_vitals (s : State) (e : Entry) : vitals (entryDone s e) = vitals s := by
  unfold entryDone
  split <;> simp

@[simp] theorem sendStreams_vitals (s : State) (e : Entry) : vitals (sendStreams s e) = vitals s := by simp [sendStreams]

@[simp] theorem passStream_vitals (s : State) (stream : Nat) (m : List Byte) : vitals (passStream s stream m) = vitals s := by
  simp [passStream]

@[simp] theorem execDmaTailWrite_vitals (v : BitVec 64) (s : State) : vitalsOf (execDmaTailWrite v s) = some (vitals s) := by
  simp [execDmaTailWrite]

@[simp] theorem execDmaBaseWrite_vitals (v : BitVec 64) (s : State) : vitalsOf (execDmaBaseWrite v s) = some (vitals s) := by
  simp [execDmaBaseWrite]

@[simp] theorem execDmaSizeWrite_vitals (v : BitVec 64) (s : State) : vitalsOf (execDmaSizeWrite v s) = some (vitals s) := by
  simp [execDmaSizeWrite]

@[simp] theorem execDmaDescriptorRead_vitals (desc : List Byte) (s : State) :
    vitalsOf (execDmaDescriptorRead desc s) = some (vitals s) := by simp [execDmaDescriptorRead]

@[simp] theorem execDmaEntryWritten_vitals (t : Time) (pcieError : Bool) (map : List Nat) (data : List Byte) (s : State) :
    vitalsOf (execDmaEntryWritten t pcieError map data s) = some (vitals s) := by
  unfold execDmaEntryWritten
  dsimp only
  split <;> simp

@[simp] theorem execRingSpaceFreed_vitals (ring : Nat) (s : State) : vitalsOf (execRingSpaceFreed ring s) = some (vitals s) := by
  unfold execRingSpaceFreed
  dsimp only
  split <;> simp

@[simp] theorem execRingACtrlWrite_vitals (v : BitVec 64) (s : State) : vitalsOf (execRingACtrlWrite v s) = some (vitals s) := by
  simp [execRingACtrlWrite]

@[simp] theorem bar2Byte_vitals (s : State) (x : Nat × Byte) : vitals (bar2Byte s x) = vitals s := by simp [bar2Byte]

@[simp] theorem execBar2RingWrite_vitals (offset : Nat) (bytes : List Byte) (s : State) :
    vitalsOf (execBar2RingWrite offset bytes s) = some (vitals s) := by
  have h (xs : List (Nat × Byte)) : vitals (xs.foldl bar2Byte s) = vitals s := foldl_vitals bar2Byte_vitals xs s
  unfold execBar2RingWrite
  dsimp only
  repeat' split
  all_goals simp only [vitalsOf_next, ringCount_vitals, h]

@[simp] theorem bar2Take_vitals (s : State) (pos : Nat) : vitals (bar2Take s pos) = vitals s := by simp [bar2Take]

@[simp] theorem execRingAWpWrite_vitals (v : BitVec 64) (s : State) : vitalsOf (execRingAWpWrite v s) = some (vitals s) := by
  unfold execRingAWpWrite
  extract_lets size off r stop
  split
  · simp
  · split
    · simp
    · exact congrArg some (foldl_vitals bar2Take_vitals _ s)

@[simp] theorem execCaptureRelWrite_vitals (v : BitVec 64) (s : State) : vitalsOf (execCaptureRelWrite v s) = some (vitals s) := by
  simp [execCaptureRelWrite]

@[simp] theorem execContentStreamReceived_vitals (t : Time) (stream : Nat) (complete : Bool) (e : EntryIn) (s : State) :
    vitalsOf (execContentStreamReceived t stream complete e s) = some (vitals s) := by
  unfold execContentStreamReceived
  dsimp only
  split <;> simp

@[simp] theorem testWindow_vitals (s : State) (c : Store) (i : Nat) (a b : Int) : vitals (testWindow s c i a b) = vitals s := by
  simp [testWindow]

@[simp] theorem latchLayer_vitals (s : State) (old new : Store) (k : Nat) (i : Nat) :
    vitals (latchLayer s old new k i) = vitals s := by
  unfold latchLayer
  dsimp only
  repeat' split
  all_goals simp

@[simp] theorem moveMarks_vitals (s : State) (new : Store) (k i : Nat) : vitals (moveMarks s new k i) = vitals s := by
  simp [moveMarks]

@[simp] theorem dropStreams_vitals (s : State) (k : Nat) : vitals (dropStreams s k) = vitals s := by
  refine foldl_vitals (fun a x => ?_) _ s
  split <;> simp

@[simp] theorem latchLayers_vitals (s : State) (old new : Store) (k : Nat) : vitals (latchLayers s old new k).1 = vitals s := by
  unfold latchLayers
  dsimp only
  rw [moveMarks_vitals, moveMarks_vitals]
  refine (foldl_vitals (fun a i => latchLayer_vitals a old new k i) _ _).trans ?_
  rw [testWindow_vitals, testWindow_vitals, dropStreams_vitals]

@[simp] theorem execLayerSourceLost_vitals (layer : Nat) (s : State) : vitalsOf (execLayerSourceLost layer s) = some (vitals s) := by
  simp [execLayerSourceLost]

@[simp] theorem emptyRing_vitals (s : State) (i : Nat) : vitals (emptyRing s i) = vitals s := by
  unfold emptyRing
  simp only [vitals_mk, vitals_ite, ringPut_vitals, ite_self, foldl_vitals, dmaDone_vitals, implies_true]
  refine foldl_vitals (fun a e => ?_) _ s
  split
  · exact dmaDone_vitals a _ 3
  · rfl

/-! ### PTP -/

@[simp] theorem ptpPush_vitals (s : State) (port : Nat) (m : PtpMsg) : vitals (ptpPush s port m) = vitals s := by simp [ptpPush]

@[simp] theorem ptpOwn_vitals (s : State) (port ty flags : Nat) (corr : Int) (body : List Byte) :
    vitals (ptpOwn s port ty flags corr body).1 = vitals s := by simp [ptpOwn]

@[simp] theorem ptpAwait_vitals (s : State) (port : Nat) (x : PtpPending) : vitals (ptpAwait s port x) = vitals s := by
  simp [ptpAwait]

@[simp] theorem toHoldover_vitals (s : State) : vitals (toHoldover s) = vitals s := by simp [toHoldover]
@[simp] theorem losesSource_vitals (s : State) : vitals (losesSource s) = vitals s := by simp [losesSource]
@[simp] theorem toFree_vitals (s : State) : vitals (toFree s) = vitals s := by simp [toFree]

@[simp] theorem ptpDecide_vitals (s : State) (heardNone : Option Nat) : vitals (ptpDecide s heardNone) = vitals s := by
  simp [ptpDecide]

@[simp] theorem ptpClear_vitals (s : State) : vitals (ptpClear s) = vitals s := by simp [ptpClear]
@[simp] theorem ptpMaster_vitals (s : State) (p : Nat) (t : Time) : vitals (ptpMaster s p t) = vitals s := by simp [ptpMaster]
@[simp] theorem ptpSlave_vitals (s : State) (p : Nat) : vitals (ptpSlave s p) = vitals s := by simp [ptpSlave]

@[simp] theorem ptpAnswer_vitals (s : State) (p ty : Nat) (m : List Byte) (t : Time) : vitals (ptpAnswer s p ty m t) = vitals s := by
  simp [ptpAnswer]

@[simp] theorem ptpFollowUp_vitals (s : State) (p tag : Nat) (t : Time) : vitals (ptpFollowUp s p tag t) = vitals s := by
  unfold ptpFollowUp
  dsimp only
  split <;> simp

@[simp] theorem takePtp_vitals (s : State) (p : Nat) (m : List Byte) (t : Time) : vitals (takePtp s p m t) = vitals s := by
  simp [takePtp]

/-! ### Device time, TOUT, TIN and alarms -/

@[simp] theorem loadRtc_vitals (s : State) (t : Time) : vitals (loadRtc s t) = vitals s := by simp [loadRtc]

@[simp] theorem execRtcUpdate_vitals (t : Time) (s : State) : vitalsOf (execRtcUpdate t s) = some (vitals s) := by
  unfold execRtcUpdate
  dsimp only
  split <;> simp

@[simp] theorem takeSample_vitals (s : State) (o fine : Int) (interval : Nat) :
    vitals (takeSample s o fine interval) = vitals s := by simp [takeSample]

@[simp] theorem execSyncSampleTimeout_vitals (t : Time) (s : State) : vitalsOf (execSyncSampleTimeout t s) = some (vitals s) := by
  simp [execSyncSampleTimeout]

@[simp] theorem execHoldoverExpiry_vitals (t : Time) (s : State) : vitalsOf (execHoldoverExpiry t s) = some (vitals s) := by
  simp [execHoldoverExpiry]

@[simp] theorem execPtpMessageInterval_vitals (port : Nat) (master : Bool) (t : Time) (s : State) :
    vitalsOf (execPtpMessageInterval port master t s) = some (vitals s) := by simp [execPtpMessageInterval]

@[simp] theorem tsFull_vitals (s : State) (p : Nat) : vitals (tsFull s p) = vitals s := by simp [tsFull]

@[simp] theorem execTxTimestampCapture_vitals (port tag : Nat) (ptp : Bool) (t : Time) (s : State) :
    vitalsOf (execTxTimestampCapture port tag ptp t s) = some (vitals s) := by
  unfold execTxTimestampCapture
  dsimp only
  repeat' split
  all_goals simp

@[simp] theorem execTxTimestampPop_vitals (port : Nat) (s : State) : vitalsOf (execTxTimestampPop port s) = some (vitals s) := by
  unfold execTxTimestampPop
  split <;> simp

@[simp] theorem toutPut_vitals (s : State) (n : Nat) (x : ToutState) : vitals (toutPut s n x) = vitals s := by simp [toutPut]

@[simp] theorem execToutPulse_vitals (n : Nat) (s : State) : vitalsOf (execToutPulse n s) = some (vitals s) := by
  unfold execToutPulse
  repeat' split
  all_goals simp

@[simp] theorem toutChanged_vitals (s : State) (old new : Store) (k : Nat) (n : Nat) :
    vitals (toutChanged s old new k n) = vitals s := by simp [toutChanged]

@[simp] theorem toutBegin_vitals (s : State) : vitals (toutBegin s) = vitals s := foldl_vitals (fun a n => toutPut_vitals a n _) _ s

@[simp] theorem execTimAlarmFire_vitals (n : Nat) (s : State) : vitalsOf (execTimAlarmFire n s) = some (vitals s) := by
  simp [execTimAlarmFire]

@[simp] theorem alarmChanged_vitals (s : State) (old new : Store) (t : Time) (n : Nat) :
    vitals (alarmChanged s old new t n) = vitals s := by simp [alarmChanged]

@[simp] theorem alarmBegin_vitals (s : State) : vitals (alarmBegin s) = vitals s := by simp [alarmBegin]

@[simp] theorem timedBegin_vitals (s : State) : vitals (timedBegin s) = vitals s := by
  unfold timedBegin
  rw [alarmBegin_vitals, toutBegin_vitals]

@[simp] theorem tinPut_vitals (s : State) (n : Nat) (x : TinState) : vitals (tinPut s n x) = vitals s := by simp [tinPut]

@[simp] theorem tinDrain_vitals (n k : Nat) (s : State) : vitals (tinDrain n k s) = vitals s := by
  induction k generalizing s with
  | zero => rfl
  | succ k ih =>
    unfold tinDrain
    split <;> simp [ih]

@[simp] theorem execTinCapture_vitals (n : Nat) (rising : Bool) (t : Time) (s : State) :
    vitalsOf (execTinCapture n rising t s) = some (vitals s) := by simp [execTinCapture]

@[simp] theorem afterQ28_vitals (s : State) : vitals (afterQ28 s) = vitals s :=
  (foldl_vitals (fun a n => tinDrain_vitals n 16 a) _ _).trans (lossMarker_vitals s)

/-! ### Level sources -/

@[simp] theorem execSacnClose_vitals (s : State) : vitalsOf (execSacnClose s) = some (vitals s) := by simp [execSacnClose]

@[simp] theorem latchScenes_vitals (s : State) (c : Store) (j : Nat) (vals : List Nat) :
    vitals (latchScenes s c j vals) = vitals s := by simp [latchScenes]

@[simp] theorem latchSchedule_vitals (s : State) (c : Store) (j : Nat) : vitals (latchSchedule s c j).1 = vitals s := by
  simp [latchSchedule]

@[simp] theorem execScheduleFire_vitals (entry : Nat) (s : State) : vitalsOf (execScheduleFire entry s) = some (vitals s) := by
  simp [execScheduleFire]

@[simp] theorem catchUp_vitals (s : State) (upTo : Time) : vitals (catchUp s upTo) = vitals s := by simp [catchUp]
@[simp] theorem catchUpRun_vitals (s : State) : vitals (catchUpRun s) = vitals s := by simp [catchUpRun]
@[simp] theorem holdCheck_vitals (s : State) : vitals (holdCheck s) = vitals s := by simp [holdCheck]
@[simp] theorem holdLog_vitals (s : State) : vitals (holdLog s) = vitals s := by simp [holdLog]
@[simp] theorem solarLog_vitals (s : State) (date : Nat) : vitals (solarLog s date) = vitals s := by simp [solarLog]

@[simp] theorem solarShown_vitals (s : State) (x : Option Int) : vitals (solarShown s x).2 = vitals s := by
  unfold solarShown
  split <;> simp

@[simp] theorem execSolarCompute_vitals (date : Nat) (s : State) : vitalsOf (execSolarCompute date s) = some (vitals s) := by
  simp [execSolarCompute]

@[simp] theorem execPtpOffsetSample_vitals (t : Time) (o : Int) (src : Nat) (interval : Nat) (s : State) :
    vitalsOf (execPtpOffsetSample t o src interval s) = some (vitals s) := by
  unfold execPtpOffsetSample
  dsimp only
  split <;> simp

/-! ### The computation of a frame -/

@[simp] theorem computeFrame_vitals (s : State) (f : Frame) : vitals (computeFrame s f).1 = vitals s := by
  unfold computeFrame
  dsimp only
  exact foldl_vitals_of Prod.fst (fun a x => by simp) _ (s, FrameOut.empty)

/-! ### Strand pins, DMX512-A and DALI -/

@[simp] theorem execStrandTxStart_vitals (pin : Nat) (s : State) : vitalsOf (execStrandTxStart pin s) = some (vitals s) := by
  simp [execStrandTxStart]

@[simp] theorem dmxPut_vitals (s : State) (p : Nat) (x : DmxState) : vitals (dmxPut s p x) = vitals s := by simp [dmxPut]
@[simp] theorem dmxCount_vitals (s : State) (p k : Nat) : vitals (dmxCount s p k) = vitals s := by simp [dmxCount]
@[simp] theorem dmxEdge_vitals (s : State) (n : Nat) : vitals (dmxEdge s n) = vitals s := by simp [dmxEdge]

@[simp] theorem rdmEnd_vitals (s : State) (port : Nat) (f : RdmFlight) (status ty : Nat) (pd : List Byte) :
    vitals (rdmEnd s port f status ty pd) = vitals s := by
  unfold rdmEnd
  split <;> simp

@[simp] theorem execDmxPacketStart_vitals (port : Nat) (s : State) : vitalsOf (execDmxPacketStart port s) = some (vitals s) := by
  unfold execDmxPacketStart
  dsimp only
  repeat' split
  all_goals simp

@[simp] theorem rdmBegin_vitals (s : State) (port : Nat) (t : Time) (f : RdmFlight) (y : DmxState) :
    vitals (rdmBegin s port t f y) = vitals s := by simp [rdmBegin]

@[simp] theorem execRdmTransactionStart_vitals (port : Nat) (t : Time) (s : State) :
    vitalsOf (execRdmTransactionStart port t s) = some (vitals s) := by
  unfold execRdmTransactionStart
  dsimp only
  repeat' split
  all_goals simp

@[simp] theorem rdmFail_vitals (s : State) (port : Nat) (f : RdmFlight) (counter status : Nat) :
    vitals (rdmFail s port f counter status) = vitals s := by simp [rdmFail]

@[simp] theorem orFault_vitals (s : State) (fixture mask : Nat) : vitals (orFault s fixture mask) = vitals s := by simp [orFault]

@[simp] theorem setTemp_vitals (s : State) (fixture : Nat) (t : Int) : vitals (setTemp s fixture t) = vitals s := by
  simp [setTemp]

@[simp] theorem pollResult_vitals (s : State) (d : Nat × Nat) (pd : List Byte) : vitals (pollResult s d pd) = vitals s := by
  simp [pollResult]

@[simp] theorem execRdmResponse_vitals (port : Nat) (t : Time) (respType : Nat) (checksumOk : Bool) (pd : List Byte) (s : State) :
    vitalsOf (execRdmResponse port t respType checksumOk pd s) = some (vitals s) := by
  unfold execRdmResponse
  dsimp only
  repeat' split
  all_goals simp

@[simp] theorem execRdmResponseTimeout_vitals (port : Nat) (t : Time) (s : State) :
    vitalsOf (execRdmResponseTimeout port t s) = some (vitals s) := by
  unfold execRdmResponseTimeout
  dsimp only
  split <;> simp

@[simp] theorem execRdmDiscDone_vitals (port : Nat) (t : Time) (uids : List Nat) (s : State) :
    vitalsOf (execRdmDiscDone port t uids s) = some (vitals s) := by simp [execRdmDiscDone]

@[simp] theorem execRdmTelemetryPoll_vitals (record : Nat) (s : State) :
    vitalsOf (execRdmTelemetryPoll record s) = some (vitals s) := by
  unfold execRdmTelemetryPoll
  dsimp only
  repeat' split
  all_goals simp

@[simp] theorem rdmSubmit_vitals (s : State) (r : Nat) : vitals (rdmSubmit s r) = vitals s := by simp [rdmSubmit]
@[simp] theorem discStart_vitals (s : State) (mask : Nat) : vitals (discStart s mask) = vitals s := by simp [discStart]
@[simp] theorem daliPut_vitals (s : State) (b : Nat) (x : DaliState) : vitals (daliPut s b x) = vitals s := by simp [daliPut]
@[simp] theorem daliCount_vitals (s : State) (b k : Nat) : vitals (daliCount s b k) = vitals s := by simp [daliCount]
@[simp] theorem daliEdge_vitals (s : State) (c : Store) (o : FrameOut) : vitals (daliEdge s c o) = vitals s := by simp [daliEdge]
@[simp] theorem daliOut_vitals (s : State) (b v : Nat) (x : DaliState) : vitals (daliOut s b v x) = vitals s := by simp [daliOut]

@[simp] theorem execDaliFrameSend_vitals (bus : Nat) (s : State) : vitalsOf (execDaliFrameSend bus s) = some (vitals s) := by
  unfold execDaliFrameSend
  dsimp only
  repeat' split
  all_goals simp

@[simp] theorem dalReply_vitals (s : State) (b result value : Nat) : vitals (dalReply s b result value) = vitals s := by
  simp [dalReply]

@[simp] theorem execDaliCollision_vitals (bus : Nat) (s : State) : vitalsOf (execDaliCollision bus s) = some (vitals s) := by
  unfold execDaliCollision
  dsimp only
  split <;> simp

@[simp] theorem daliQuery_vitals (s : State) (b a from_ : Nat) : vitals (daliQuery s b a from_) = vitals s := by simp [daliQuery]

@[simp] theorem execDaliPoll_vitals (bus address : Nat) (s : State) : vitalsOf (execDaliPoll bus address s) = some (vitals s) := by
  simp [execDaliPoll]

@[simp] theorem allFault_vitals (s : State) (x : Nat × Nat) : vitals (allFault s x) = vitals s := by simp [allFault]

@[simp] theorem execDaliBackwardFrame_vitals (bus value : Nat) (t : Time) (s : State) :
    vitalsOf (execDaliBackwardFrame bus value t s) = some (vitals s) := by
  unfold execDaliBackwardFrame
  dsimp only
  repeat' split
  all_goals simp

@[simp] theorem execDaliReplyTimeout_vitals (bus : Nat) (t : Time) (s : State) :
    vitalsOf (execDaliReplyTimeout bus t s) = some (vitals s) := by
  unfold execDaliReplyTimeout
  dsimp only
  split <;> simp

@[simp] theorem execDaliBusDown_vitals (bus : Nat) (s : State) : vitalsOf (execDaliBusDown bus s) = some (vitals s) := by
  simp [execDaliBusDown]

@[simp] theorem execDaliBusRestored_vitals (bus : Nat) (s : State) : vitalsOf (execDaliBusRestored bus s) = some (vitals s) := by
  simp [execDaliBusRestored]

@[simp] theorem execDalAddressDone_vitals (bus : Nat) (t : Time) (found : List (Nat × Nat)) (s : State) :
    vitalsOf (execDalAddressDone bus t found s) = some (vitals s) := by simp [execDalAddressDone]

@[simp] theorem execDaliDeviceFrame_vitals (bus : Nat) (s : State) : vitalsOf (execDaliDeviceFrame bus s) = some (vitals s) := by
  simp [execDaliDeviceFrame]

@[simp] theorem dalSubmit_vitals (s : State) (r : Nat) : vitals (dalSubmit s r) = vitals s := by simp [dalSubmit]
@[simp] theorem dalRunStart_vitals (s : State) (v : Nat) : vitals (dalRunStart s v) = vitals s := by simp [dalRunStart]

/-! ### Raster ports -/

@[simp] theorem rasPut_vitals (s : State) (p : Nat) (x : RasterState) : vitals (rasPut s p x) = vitals s := by simp [rasPut]
@[simp] theorem rasCount_vitals (s : State) (p k : Nat) : vitals (rasCount s p k) = vitals s := by simp [rasCount]

@[simp] theorem rasUnder_vitals (s : State) (p y : Nat) (own : Bool) : vitals (rasUnder s p y own) = vitals s := by
  simp [rasUnder]

@[simp] theorem rasSend_vitals (s : State) (p idle : Nat) (blocks : List (Bool × List Byte)) :
    vitals (rasSend s p idle blocks) = vitals s := by simp [rasSend]

@[simp] theorem execRasterLineStart_vitals (port : Nat) (fetched : Option Nat) (s : State) :
    vitalsOf (execRasterLineStart port fetched s) = some (vitals s) := by
  unfold execRasterLineStart
  dsimp only
  repeat' split
  all_goals simp

@[simp] theorem phaseStep_vitals (s : State) (p : Nat) (forward : Bool) : vitals (phaseStep s p forward) = vitals s := by
  simp [phaseStep]

@[simp] theorem execRasterPhaseStep_vitals (port : Nat) (forward : Bool) (s : State) :
    vitalsOf (execRasterPhaseStep port forward s) = some (vitals s) := by simp [execRasterPhaseStep]

@[simp] theorem execRasterFetchAdvance_vitals (port : Nat) (s : State) :
    vitalsOf (execRasterFetchAdvance port s) = some (vitals s) := by
  unfold execRasterFetchAdvance
  dsimp only
  split <;> simp

@[simp] theorem rasFetch_vitals (s : State) (p : Nat) : vitals (rasFetch s p) = vitals s := by simp [rasFetch]

@[simp] theorem execDramGrant_vitals (requests : List Nat) (s : State) :
    vitalsOf (execDramGrant requests s) = some (vitals s) := by
  unfold execDramGrant
  dsimp only
  repeat' split
  all_goals simp

@[simp] theorem rasFinish_vitals (s : State) (p : Nat) (len : Time) : vitals (rasFinish s p len) = vitals s := by simp [rasFinish]

@[simp] theorem rasEdge_vitals (s : State) (old new : Store) (slipped : Bool) (len : Time) (p : Nat) :
    vitals (rasEdge s old new slipped len p) = vitals s := by simp [rasEdge]

/-! ### Direct drive, the matrix and lamp diagnosis -/

@[simp] theorem pointPut_vitals (s : State) (p : Nat) (x : Point) : vitals (pointPut s p x) = vitals s := by simp [pointPut]
@[simp] theorem pinPut_vitals (s : State) (ch : Nat) (x : Pin) : vitals (pinPut s ch x) = vitals s := by simp [pinPut]
@[simp] theorem drvCount_vitals (s : State) (k : Nat) : vitals (drvCount s k) = vitals s := by simp [drvCount]

@[simp] theorem pointActive_vitals (s : State) (p : Nat) (rise active : Time) (probe : Bool) :
    vitals (pointActive s p rise active probe) = vitals s := by simp [pointActive]

@[simp] theorem execPwmPeriodStart_vitals (channel : Nat) (s : State) :
    vitalsOf (execPwmPeriodStart channel s) = some (vitals s) := by
  unfold execPwmPeriodStart
  dsimp only
  split <;> simp

@[simp] theorem execPdmSlot_vitals (channel : Nat) (s : State) : vitalsOf (execPdmSlot channel s) = some (vitals s) := by
  unfold execPdmSlot
  dsimp only
  split <;> simp

@[simp] theorem execMatrixRowSlot_vitals (s : State) : vitalsOf (execMatrixRowSlot s) = some (vitals s) := by
  unfold execMatrixRowSlot
  dsimp only
  split <;> simp

@[simp] theorem mxCut_vitals (s : State) (t : Time) : vitals (mxCut s t) = vitals s := by simp [mxCut]
@[simp] theorem mxSwap_vitals (s : State) (m : SMap Nat) (t : Time) : vitals (mxSwap s m t) = vitals s := by simp [mxSwap]
@[simp] theorem probesIn_vitals (s : State) : vitals (probesIn s) = vitals s := by simp [probesIn]

@[simp] theorem execMsyncEdge_vitals (t : Time) (s : State) : vitalsOf (execMsyncEdge t s) = some (vitals s) := by
  unfold execMsyncEdge
  repeat' split
  all_goals simp

@[simp] theorem execMsyncLost_vitals (s : State) : vitalsOf (execMsyncLost s) = some (vitals s) := by
  unfold execMsyncLost
  split <;> simp

@[simp] theorem lampPush_vitals (s : State) (p : Nat) (rep : List Byte) : vitals (lampPush s p rep) = vitals s := by
  unfold lampPush
  dsimp only
  split <;> simp

@[simp] theorem afterQ29_vitals (s : State) : vitals (afterQ29 s) = vitals s := by
  refine foldl_vitals (fun a x => ?_) _ s
  split <;> simp

@[simp] theorem lampVerdict_vitals (s : State) (p new prev : Nat) (byProbe : Bool) (t : Time) :
    vitals (lampVerdict s p new prev byProbe t) = vitals s := by simp [lampVerdict]

@[simp] theorem measure_vitals (s : State) (p k : Nat) (probe : Bool) (t : Time) : vitals (measure s p k probe t) = vitals s := by
  simp [measure]

@[simp] theorem execSnsSample_vitals (point : Nat) (t : Time) (tenMv : Nat) (probe : Bool) (s : State) :
    vitalsOf (execSnsSample point t tenMv probe s) = some (vitals s) := by
  unfold execSnsSample
  dsimp only
  split <;> simp

@[simp] theorem execDiagStaleExpiry_vitals (point : Nat) (s : State) :
    vitalsOf (execDiagStaleExpiry point s) = some (vitals s) := by
  unfold execDiagStaleExpiry
  dsimp only
  split <;> simp

@[simp] theorem placeProbe_vitals (s : State) (p : Nat) : vitals (placeProbe s p) = vitals s := by simp [placeProbe]

@[simp] theorem execGlintProbe_vitals (point : Nat) (s : State) : vitalsOf (execGlintProbe point s) = some (vitals s) := by
  simp [execGlintProbe]

@[simp] theorem resetPoints_vitals (s : State) : vitals (resetPoints s) = vitals s := by simp [resetPoints]

@[simp] theorem clearPoints_vitals (s : State) (c : Store) (fixture : Nat) : vitals (clearPoints s c fixture) = vitals s := by
  simp [clearPoints]

@[simp] theorem unforce_vitals (s : State) (c : Store) (fixture : Nat) : vitals (unforce s c fixture) = vitals s := by
  simp [unforce]

@[simp] theorem pointEdge_vitals (s : State) (old new : Store) (p : Nat) : vitals (pointEdge s old new p) = vitals s := by
  simp [pointEdge]

@[simp] theorem pinEdge_vitals (s : State) (c : Store) (o : FrameOut) (slipped : Bool) (ch : Nat) :
    vitals (pinEdge s c o slipped ch) = vitals s := by simp [pinEdge]

@[simp] theorem mxEdge_vitals (s : State) (c : Store) (o : FrameOut) (slipped : Bool) :
    vitals (mxEdge s c o slipped) = vitals s := by simp [mxEdge]

@[simp] theorem drvEdge_vitals (s : State) (old new c : Store) (o : FrameOut) (slipped : Bool) :
    vitals (drvEdge s old new c o slipped) = vitals s := by simp [drvEdge]

@[simp] theorem drvRest_vitals (s : State) : vitals (drvRest s) = vitals s := by simp [drvRest]

/-! ### Delay lines and their calibration -/

@[simp] theorem linePut_vitals (s : State) (n : Nat) (x : Line) : vitals (linePut s n x) = vitals s := by simp [linePut]
@[simp] theorem calCount_vitals (s : State) (k n : Nat) : vitals (calCount s k n) = vitals s := by simp [calCount]
@[simp] theorem calPosPut_vitals (s : State) (g p : Nat) : vitals (calPosPut s g p) = vitals s := by simp [calPosPut]
@[simp] theorem lineBack_vitals (s : State) (n : Nat) : vitals (lineBack s n) = vitals s := by simp [lineBack]

@[simp] theorem groupBegin_vitals (s : State) (g : Nat) : vitals (groupBegin s g) = vitals s := by
  unfold groupBegin
  dsimp only
  repeat' split
  all_goals simp

@[simp] theorem calBegin_vitals (s : State) : vitals (calBegin s) = vitals s := by simp [calBegin]
@[simp] theorem calEnd_vitals (s : State) : vitals (calEnd s) = vitals s := by simp [calEnd]
@[simp] theorem calEdge_vitals (s : State) : vitals (calEdge s) = vitals s := by simp [calEdge]
@[simp] theorem calStartPass_vitals (s : State) : vitals (calStartPass s) = vitals s := by simp [calStartPass]

@[simp] theorem execCalPassStart_vitals (s : State) : vitalsOf (execCalPassStart s) = some (vitals s) := by
  simp [execCalPassStart]

@[simp] theorem calResult_vitals (s : State) (n : Nat) (attempts : List Bool) : vitals (calResult s n attempts) = vitals s := by
  simp [calResult]

@[simp] theorem execCalLineCalibrate_vitals (line : Nat) (attempts : List Bool) (s : State) :
    vitalsOf (execCalLineCalibrate line attempts s) = some (vitals s) := by simp [execCalLineCalibrate]

@[simp] theorem dawnFailLine_vitals (s : State) (n : Nat) : vitals (dawnFailLine s n) = vitals s := by simp [dawnFailLine]
@[simp] theorem dawnPassLine_vitals (s : State) (n : Nat) : vitals (dawnPassLine s n) = vitals s := by simp [dawnPassLine]

@[simp] theorem calDawn_vitals (s : State) (bad : List Nat) : vitals (calDawn s bad) = vitals s := by
  simp only [calDawn, calCount_vitals, vitals_mk]
  refine foldl_vitals (fun a n => ?_) _ s
  simp

@[simp] theorem calKeep_vitals (s : State) : vitals (calKeep s) = vitals s := by
  refine foldl_vitals (fun a n => ?_) _ s
  dsimp only
  repeat' split
  all_goals simp

/-! ### Radio medium access -/

@[simp] theorem radPut_vitals (s : State) (p : Nat) (x : RadioPort) : vitals (radPut s p x) = vitals s :=
  (radPut_changes _ _ _).vitals (by decide)

@[simp] theorem radCount_vitals (s : State) (p k n : Nat) : vitals (radCount s p k n) = vitals s :=
  (radCount_changes _ _ _ _).vitals (by decide)

@[simp] theorem neighPut_vitals (s : State) (i : Nat) (x : Neigh) : vitals (neighPut s i x) = vitals s := by simp [neighPut]
@[simp] theorem keyStale_vitals (s : State) (p key : Nat) : vitals (keyStale s p key) = vitals s := by simp [keyStale]

@[simp] theorem charge_vitals (s : State) (band second time : Nat) : vitals (charge s band second time) = vitals s := by
  simp [charge]

@[simp] theorem useFc_vitals (s : State) (key : Nat) : vitals (useFc s key) = vitals s := by simp [useFc]

@[simp] theorem bookFault_vitals (s : State) (p : Nat) (o : Offer) (fault : Nat) : vitals (bookFault s p o fault) = vitals s := by
  simp [bookFault]

@[simp] theorem firstTx_vitals (p : Nat) (n : Int) (l : List (Nat × Nat)) (s : State) : vitals (firstTx p n l s).1 = vitals s := by
  induction l generalizing s with
  | nil => rfl
  | cons x l ih =>
    unfold firstTx
    repeat' split
    all_goals simp [ih]

@[simp] theorem countBeacons_vitals (s : State) (p : Nat) (cells : List (Nat × Nat)) :
    vitals (countBeacons s p cells) = vitals s := by simp [countBeacons]

@[simp] theorem chooseCell_vitals (s : State) (p : Nat) (n : Int) : vitals (chooseCell s p n).1 = vitals s := by
  have h := firstTx_vitals p n ((activeCells s p n).filter fun x => bitAt x.2 24) s
  unfold chooseCell
  dsimp only
  split
  next he => rw [he] at h; simpa using h
  next he => rw [he] at h; simpa using h

@[simp] theorem runScript_vitals (s : State) (p first channel : Nat) (psdu : List Byte) :
    vitals (runScript s p first channel psdu) = vitals s := by simp [runScript]

@[simp] theorem execRadioCellPrepare_vitals (port scriptUs : Nat) (s : State) :
    vitalsOf (execRadioCellPrepare port scriptUs s) = some (vitals s) := by
  unfold execRadioCellPrepare
  dsimp only
  split
  next => rfl
  next =>
    generalize hs1 : radPut (advance s _) port _ = s1
    have h := chooseCell_vitals s1 port (nextSlot s port)
    have h1 : vitals s1 = vitals s := by simp [← hs1]
    split
    next he => rw [he] at h; simpa [h1] using h
    next he =>
      rw [he, h1] at h
      split <;> simp [h]

@[simp] theorem execRadioSlotStart_vitals (port : Nat) (s : State) : vitalsOf (execRadioSlotStart port s) = some (vitals s) := by
  unfold execRadioSlotStart
  repeat' split
  all_goals simp

@[simp] theorem txDone_vitals (s : State) (p status handle : Nat) : vitals (txDone s p status handle) = vitals s := by
  simp [txDone]

@[simp] theorem afterTx_vitals (s : State) (p : Nat) (x : Slot) : vitals (afterTx s p x) = vitals s := by
  unfold afterTx
  split <;> simp

@[simp] theorem execRadioTxtrig_vitals (port : Nat) (s : State) : vitalsOf (execRadioTxtrig port s) = some (vitals s) := by
  unfold execRadioTxtrig
  repeat' split
  all_goals simp

@[simp] theorem execRadioSfdStamp_vitals (port : Nat) (t : Time) (s : State) :
    vitalsOf (execRadioSfdStamp port t s) = some (vitals s) := by
  unfold execRadioSfdStamp
  repeat' split
  all_goals simp

@[simp] theorem execRadioRxFetch_vitals (port : Nat) (complete : Bool) (s : State) :
    vitalsOf (execRadioRxFetch port complete s) = some (vitals s) := by
  unfold execRadioRxFetch
  repeat' split
  all_goals simp

@[simp] theorem execRadioAckReceived_vitals (port : Nat) (sfd : Time) (correctionUs : Int) (s : State) :
    vitalsOf (execRadioAckReceived port sfd correctionUs s) = some (vitals s) := by
  unfold execRadioAckReceived
  repeat' split
  all_goals simp

@[simp] theorem execRadioAckTimeout_vitals (port : Nat) (s : State) :
    vitalsOf (execRadioAckTimeout port s) = some (vitals s) := by
  unfold execRadioAckTimeout
  repeat' split
  all_goals simp

@[simp] theorem radTxSubmit_vitals (s : State) (b : List Byte) : vitals (radTxSubmit s b) = vitals s := by simp [radTxSubmit]

/-! ### Radio luminaires, neighbours and reception -/

@[simp] theorem radioEdge_vitals (s : State) (e : Time) (c : Store) (o : FrameOut) : vitals (radioEdge s e c o) = vitals s := by
  simp [radioEdge]

@[simp] theorem execCommandFrameBuild_vitals (port : Nat) (s : State) :
    vitalsOf (execCommandFrameBuild port s) = some (vitals s) := by
  unfold execCommandFrameBuild
  dsimp only
  split <;> simp

@[simp] theorem execRadioCivicDeferred_vitals (port : Nat) (t : Time) (s : State) :
    vitalsOf (execRadioCivicDeferred port t s) = some (vitals s) := by
  unfold execRadioCivicDeferred
  repeat' split
  all_goals simp

@[simp] theorem execRadioGuardEval_vitals (port neigh : Nat) (t : Time) (s : State) :
    vitalsOf (execRadioGuardEval port neigh t s) = some (vitals s) := by
  unfold execRadioGuardEval
  dsimp only
  repeat' split
  all_goals simp

@[simp] theorem openWindows_vitals (s : State) (t : Time) : vitals (openWindows s t) = vitals s := by simp [openWindows]

@[simp] theorem sendAck_vitals (s : State) (p nb : Nat) (h : HeardFrame) : vitals (sendAck s p nb h).2 = vitals s := by
  simp [sendAck]

@[simp] theorem keepTime_vitals (s : State) (p nb : Nat) (h : HeardFrame) (timed : Bool) :
    vitals (keepTime s p nb h timed).2 = vitals s := by simp [keepTime]

@[simp] theorem takeReport_vitals (s : State) (p nb : Nat) (n : Int) (b : List Byte) :
    vitals (takeReport s p nb n b) = vitals s := by
  unfold takeReport
  dsimp only
  repeat' split
  all_goals simp

@[simp] theorem rejoin_vitals (s : State) (p nb : Nat) : vitals (rejoin s p nb) = vitals s := by
  unfold rejoin
  dsimp only
  split <;> simp

@[simp] theorem receive_vitals (s : State) (p nb cell : Nat) (h : HeardFrame) : vitals (receive s p nb cell h) = vitals s := by
  unfold receive
  dsimp only
  split <;> simp

@[simp] theorem judge_vitals (s : State) (p cell : Nat) (h : HeardFrame) : vitals (judge s p cell h) = vitals s := by
  unfold judge
  split <;> simp

@[simp] theorem execRadioFrameReceived_vitals (port : Nat) (f : RadioFrame) (s : State) :
    vitalsOf (execRadioFrameReceived port f s) = some (vitals s) := by
  unfold execRadioFrameReceived
  repeat' split
  all_goals simp

@[simp] theorem neighCommitted_vitals (s : State) (i : Nat) (t : Time) : vitals (neighCommitted s i t) = vitals s := by
  simp [neighCommitted]

@[simp] theorem portCommitted_vitals (s : State) (p : Nat) : vitals (portCommitted s p) = vitals s := by simp [portCommitted]
@[simp] theorem radioDawn_vitals (s : State) : vitals (radioDawn s) = vitals s := by simp [radioDawn]
@[simp] theorem cellCommitted_vitals (s : State) (i : Nat) : vitals (cellCommitted s i) = vitals s := by simp [cellCommitted]

/-! ### Ethernet -/

@[simp] theorem ethPut_vitals (s : State) (p : Nat) (x : EthState) : vitals (ethPut s p x) = vitals s :=
  (ethPut_changes _ _ _).vitals (by decide)

@[simp] theorem ethCount_vitals (s : State) (p k : Nat) : vitals (ethCount s p k) = vitals s :=
  (ethCount_changes _ _ _).vitals (by decide)

@[simp] theorem ethEmit_vitals (s : State) (p prio : Nat) (t : Time) (frame : List Byte) :
    vitals (ethEmit s p prio t frame) = vitals s := by simp [ethEmit]

@[simp] theorem execEthLinkChange_vitals (port : Nat) (up : Bool) (s : State) :
    vitalsOf (execEthLinkChange port up s) = some (vitals s) := by
  unfold execEthLinkChange
  split <;> simp

@[simp] theorem sacnPut_vitals (s : State) (p : Nat) (x : SacnPort) : vitals (sacnPut s p x) = vitals s := by simp [sacnPut]

@[simp] theorem ethDone_vitals (s : State) (p : Nat) (pkt : List Byte) (status : Nat) (t : Time) :
    vitals (ethDone s p pkt status t) = vitals s := by simp [ethDone]

@[simp] theorem txFlushed_vitals (s : State) (q : Nat) (pkts : List (List Byte)) : vitals (txFlushed s q pkts) = vitals s := by
  simp [txFlushed]

@[simp] theorem pickQueue_vitals (p : Nat) (l : List Nat) (s : State) : vitals (pickQueue p l s).1 = vitals s := by
  induction l generalizing s with
  | nil => rfl
  | cons q l ih =>
    unfold pickQueue
    split
    · exact ih s
    · split <;> simp [ih]

@[simp] theorem execEthTxFrameStart_vitals (port : Nat) (t : Time) (s : State) :
    vitalsOf (execEthTxFrameStart port t s) = some (vitals s) := by
  have h := pickQueue_vitals port ([3, 2, 1, 0].map (· + 4 * port)) (advance s t)
  unfold execEthTxFrameStart
  dsimp only
  generalize pickQueue port ([3, 2, 1, 0].map (· + 4 * port)) (advance s t) = x at h ⊢
  rw [advance_vitals] at h
  obtain ⟨s1, o⟩ := x
  repeat' split
  all_goals simp_all

@[simp] theorem execEthTxComplete_vitals (port : Nat) (t : Time) (s : State) :
    vitalsOf (execEthTxComplete port t s) = some (vitals s) := by
  unfold execEthTxComplete
  dsimp only
  repeat' split
  all_goals simp

@[simp] theorem pauseReceived_vitals (s : State) (p quanta : Nat) (t : Time) : vitals (pauseReceived s p quanta t) = vitals s := by
  simp [pauseReceived]

@[simp] theorem syncRelease_vitals (s : State) (p : Nat) : vitals (syncRelease s p) = vitals s := by
  unfold syncRelease
  split <;> simp

@[simp] theorem execPauseExpiry_vitals (port : Nat) (s : State) : vitalsOf (execPauseExpiry port s) = some (vitals s) := by
  unfold execPauseExpiry
  repeat' split
  all_goals simp

@[simp] theorem execPauseWatchdog_vitals (port : Nat) (s : State) : vitalsOf (execPauseWatchdog port s) = some (vitals s) := by
  unfold execPauseWatchdog
  dsimp only
  repeat' split
  all_goals simp

@[simp] theorem execPauseIgnoreEnd_vitals (port : Nat) (s : State) : vitalsOf (execPauseIgnoreEnd port s) = some (vitals s) := by
  unfold execPauseIgnoreEnd
  repeat' split
  all_goals simp

@[simp] theorem pauseCheck_vitals (s : State) (p : Nat) : vitals (pauseCheck s p) = vitals s := by simp [pauseCheck]

@[simp] theorem execPauseRefresh_vitals (port : Nat) (s : State) : vitalsOf (execPauseRefresh port s) = some (vitals s) := by
  unfold execPauseRefresh
  dsimp only
  split <;> simp

@[simp] theorem sacnJoins_vitals (s : State) (o c : Store) : vitals (sacnJoins s o c) = vitals s := by simp [sacnJoins]

@[simp] theorem sacnTake_vitals (s : State) (u : Nat) (x : SacnSrc) (stop : Bool) : vitals (sacnTake s u x stop) = vitals s := by
  simp [sacnTake]

@[simp] theorem takeSacn_vitals (s : State) (b : List Byte) (t : Time) : vitals (takeSacn s b t) = vitals s := by simp [takeSacn]

@[simp] theorem streamEnd_vitals (s : State) (layer : Nat) (x : StreamRx) : vitals (streamEnd s layer x) = vitals s := by
  simp [streamEnd]

@[simp] theorem takeRtp_vitals (s : State) (layer : Nat) (b : List Byte) (t : Time) :
    vitals (takeRtp s layer b t) = vitals s := by
  unfold takeRtp
  dsimp only
  repeat' split
  all_goals simp

@[simp] theorem steer_vitals (s : State) (p q filter : Nat) (big stamped : Bool) (f : EthFrame) (bytes : List Byte)
    (v : RxView) (t : Time) :
    vitals (steer s p q filter big stamped f bytes v t) = vitals s := by simp [steer]

@[simp] theorem applyFilters_vitals (s : State) (p : Nat) (big : Bool) (f : EthFrame) (bytes : List Byte) (v : RxView)
    (t : Time) :
    vitals (applyFilters s p big f bytes v t) = vitals s := by
  unfold applyFilters
  split <;> simp

@[simp] theorem zhotexTakes_vitals (s : State) (p : Nat) (v : RxView) (b : List Byte) :
    vitals (zhotexTakes s p v b) = vitals s := by
  unfold zhotexTakes
  split <;> simp

@[simp] theorem mb2Count_vitals (s : State) (k : Nat) : vitals (mb2Count s k) = vitals s := by simp [mb2Count]

@[simp] theorem takeMb2_vitals (s : State) (p : Nat) (src d : List Byte) (frag : Bool) :
    vitals (takeMb2 s p src d frag) = vitals s := by
  unfold takeMb2
  dsimp only
  repeat' split
  all_goals simp

@[simp] theorem classify_vitals (s : State) (p : Nat) (f : EthFrame) (t : Time) : vitals (classify s p f t) = vitals s := by
  unfold classify
  dsimp only
  repeat' split
  all_goals simp

@[simp] theorem execEthRxFrame_vitals (port : Nat) (t : Time) (f : EthFrame) (s : State) :
    vitalsOf (execEthRxFrame port t f s) = some (vitals s) := by
  unfold execEthRxFrame
  dsimp only
  repeat' split
  all_goals simp

/-! ### Cascade ports and stacks -/

@[simp] theorem casCount_vitals (s : State) (p k n : Nat) : vitals (casCount s p k n) = vitals s :=
  (casCount_changes _ _ _ _).vitals (by decide)

@[simp] theorem execCascadeLaneLock_vitals (port lane goodHeaders : Nat) (s : State) :
    vitalsOf (execCascadeLaneLock port lane goodHeaders s) = some (vitals s) := by simp [execCascadeLaneLock]

@[simp] theorem detach_vitals (s : State) (p : Nat) : vitals (detach s p) = vitals s := by simp [detach]
@[simp] theorem leaveUp_vitals (s : State) (p new : Nat) : vitals (leaveUp s p new) = vitals s := by simp [leaveUp]

@[simp] theorem execCascadeLockLoss_vitals (port lane : Nat) (s : State) :
    vitalsOf (execCascadeLockLoss port lane s) = some (vitals s) := by simp [execCascadeLockLoss]

@[simp] theorem sendLink_vitals (s : State) (p : Nat) : vitals (sendLink s p) = vitals s := by simp [sendLink]

@[simp] theorem execCascadeAlignSlot_vitals (port : Nat) (counts : List Nat) (s : State) :
    vitalsOf (execCascadeAlignSlot port counts s) = some (vitals s) := by simp [execCascadeAlignSlot]

@[simp] theorem casProbe_vitals (s : State) (p subtype : Nat) (body : List Byte) :
    vitals (casProbe s p subtype body) = vitals s := by simp [casProbe]

@[simp] theorem startEnum_vitals (s : State) : vitals (startEnum s) = vitals s := by simp [startEnum]

@[simp] theorem execEnumReceived_vitals (index : Nat) (final : Bool) (nodes proto : Nat) (s : State) :
    vitalsOf (execEnumReceived index final nodes proto s) = some (vitals s) := by
  unfold execEnumReceived
  dsimp only
  repeat' split
  all_goals simp

@[simp] theorem sendSync_vitals (s : State) : vitals (sendSync s) = vitals s := by simp [sendSync]

@[simp] theorem execSyncSend_vitals (t : Time) (s : State) : vitalsOf (execSyncSend t s) = some (vitals s) := by
  unfold execSyncSend
  dsimp only
  split <;> simp

@[simp] theorem execProbeSend_vitals (t : Time) (s : State) : vitalsOf (execProbeSend t s) = some (vitals s) := by
  simp [execProbeSend]

@[simp] theorem timeCrc_vitals (s : State) (p : Nat) : vitals (timeCrc s p) = vitals s := by simp [timeCrc]

@[simp] theorem execSyncReceived_vitals (tRx tSync : Time) (crcOk : Bool) (s : State) :
    vitalsOf (execSyncReceived tRx tSync crcOk s) = some (vitals s) := by
  unfold execSyncReceived
  dsimp only
  repeat' split
  all_goals simp

@[simp] theorem execProbeReceived_vitals (t : Time) (seq residence : Nat) (crcOk : Bool) (s : State) :
    vitalsOf (execProbeReceived t seq residence crcOk s) = some (vitals s) := by simp [execProbeReceived]

@[simp] theorem execEchoReceived_vitals (port : Nat) (t1 t4 : Time) (seq residence : Nat) (crcOk : Bool) (s : State) :
    vitalsOf (execEchoReceived port t1 t4 seq residence crcOk s) = some (vitals s) := by simp [execEchoReceived]

@[simp] theorem placeNext_vitals (s : State) (e : Time) : vitals (placeNext s e) = vitals s := by simp [placeNext]
@[simp] theorem sendEdge_vitals (s : State) : vitals (sendEdge s) = vitals s := by simp [sendEdge]

@[simp] theorem followEdge_vitals (s : State) (k : Nat) : vitals (followEdge s k) = vitals s := by
  unfold followEdge
  dsimp only
  repeat' split
  all_goals simp

@[simp] theorem execEdgeHoldover_vitals (s : State) : vitalsOf (execEdgeHoldover s) = some (vitals s) := by
  simp [execEdgeHoldover]

@[simp] theorem slipFrame_vitals (s : State) (k node : Nat) : vitals (slipFrame s k node) = vitals s := by
  unfold slipFrame
  split <;> simp

@[simp] theorem sendSlip_vitals (s : State) (k : Nat) : vitals (sendSlip s k) = vitals s := by simp [sendSlip]

@[simp] theorem execSlipReceived_vitals (port k node : Nat) (s : State) :
    vitalsOf (execSlipReceived port k node s) = some (vitals s) := by simp [execSlipReceived]

@[simp] theorem noteDiscarded_vitals (s : State) (x : AccTxn) : vitals (noteDiscarded s x) = vitals s := by simp [noteDiscarded]
@[simp] theorem commitMissing_vitals (s : State) (j : Nat) : vitals (commitMissing s j) = vitals s := by simp [commitMissing]

@[simp] theorem execCreditReceived_vitals (port cls seq credits : Nat) (s : State) :
    vitalsOf (execCreditReceived port cls seq credits s) = some (vitals s) := by simp [execCreditReceived]

@[simp] theorem execCmdRetransmit_vitals (port cls : Nat) (s : State) :
    vitalsOf (execCmdRetransmit port cls s) = some (vitals s) := by simp [execCmdRetransmit]

/-! ### Redundant pairs -/

@[simp] theorem redCount_vitals (s : State) (k : Nat) : vitals (redCount s k) = vitals s :=
  (redCount_changes _ _).vitals (by decide)

@[simp] theorem mirSend_vitals (s : State) (mtype : Nat) (body : List Byte) : vitals (mirSend s mtype body) = vitals s :=
  (mirSend_changes _ _ _).vitals (by decide)

@[simp] theorem mirTook_vitals (s : State) (len : Nat) : vitals (mirTook s len) = vitals s := by simp [mirTook]
@[simp] theorem sendHello_vitals (s : State) : vitals (sendHello s) = vitals s := by simp [sendHello]
@[simp] theorem sendSnapshot_vitals (s : State) : vitals (sendSnapshot s) = vitals s := by simp [sendSnapshot]
@[simp] theorem sendJournal_vitals (s : State) (x : AccTxn) : vitals (sendJournal s x) = vitals s := by simp [sendJournal]

@[simp] theorem linkUp_vitals (s : State) (p : Nat) : vitals (linkUp s p) = vitals s := by
  unfold linkUp
  dsimp only
  repeat' split
  all_goals simp

@[simp] theorem execCascadeLinkSlot_vitals (port mode : Nat) (stackEn : Bool) (role devState : Nat) (s : State) :
    vitalsOf (execCascadeLinkSlot port mode stackEn role devState s) = some (vitals s) := by simp [execCascadeLinkSlot]

@[simp] theorem announceRole_vitals (s : State) (k : Nat) : vitals (announceRole s k) = vitals s := by simp [announceRole]

@[simp] theorem enterShadow_vitals (s : State) (t : Time) (first : Bool) : vitals (enterShadow s t first) = vitals s := by
  simp [enterShadow]

@[simp] theorem sendHeartbeat_vitals (s : State) (k : Nat) (e : Time) : vitals (sendHeartbeat s k e) = vitals s := by
  simp [sendHeartbeat]

@[simp] theorem sendContinuity_vitals (s : State) (k : Nat) : vitals (sendContinuity s k) = vitals s := by simp [sendContinuity]
@[simp] theorem gratuitous_vitals (s : State) (p : Nat) : vitals (gratuitous s p) = vitals s := by simp [gratuitous]
@[simp] theorem raiseCounters_vitals (s : State) : vitals (raiseCounters s) = vitals s := by simp only [raiseCounters, vitals_mk]
@[simp] theorem resendCommands_vitals (s : State) : vitals (resendCommands s) = vitals s := by simp [resendCommands]

@[simp] theorem execHeartbeatReceived_vitals (t : Time) (k : Nat) (sentAt : Time) (release : Bool) (s : State) :
    vitalsOf (execHeartbeatReceived t k sentAt release s) = some (vitals s) := by simp [execHeartbeatReceived]

@[simp] theorem execMirrorAckReceived_vitals (k fit devState : Nat) (counters : List Nat) (s0 : State) :
    vitalsOf (execMirrorAckReceived k fit devState counters s0) = some (vitals s0) := by simp [execMirrorAckReceived]

@[simp] theorem execLeaseTake_vitals (t : Time) (s : State) : vitalsOf (execLeaseTake t s) = some (vitals s) := by
  unfold execLeaseTake
  dsimp only
  repeat' split
  all_goals simp

@[simp] theorem execPeerActChange_vitals (level : Bool) (t : Time) (s : State) :
    vitalsOf (execPeerActChange level t s) = some (vitals s) := by
  unfold execPeerActChange
  dsimp only
  split <;> simp

@[simp] theorem execHelloReceived_vitals (deviceId nodes : Nat) (active : Bool) (proto resultLevel : Nat) (s0 : State) :
    vitalsOf (execHelloReceived deviceId nodes active proto resultLevel s0) = some (vitals s0) := by simp [execHelloReceived]

@[simp] theorem execSnapshotReceived_vitals (part : Nat) (last : Bool) (j : Nat) (items : List (Nat × Req)) (s0 : State) :
    vitalsOf (execSnapshotReceived part last j items s0) = some (vitals s0) := by simp [execSnapshotReceived]

@[simp] theorem execJournalReceived_vitals (t : Time) (j txnId : Nat) (items : List (Nat × Req)) (s : State) :
    vitalsOf (execJournalReceived t j txnId items s) = some (vitals s) := by simp [execJournalReceived]

@[simp] theorem execInputReceived_vitals (k step h : Nat) (rings : List Nat) (tsns : List Int) (fixtures : List
    (Nat × Int × Nat)) (s0 : State) :
    vitalsOf (execInputReceived k step h rings tsns fixtures s0) = some (vitals s0) := by
  unfold execInputReceived
  dsimp only
  repeat' split
  all_goals simp

@[simp] theorem sendInput_vitals (s : State) (f : Frame) (h : Nat) (rings : List Nat) :
    vitals (sendInput s f h rings) = vitals s := by simp [sendInput]

@[simp] theorem reflect_vitals (s : State) (k : Nat) : vitals (reflect s k) = vitals s := by
  unfold reflect
  dsimp only
  repeat' split
  all_goals simp

@[simp] theorem execResultReceived_vitals (k : Nat) (crcs : List (Nat × Nat)) (s0 : State) :
    vitalsOf (execResultReceived k crcs s0) = some (vitals s0) := by simp [execResultReceived]

@[simp] theorem resultDone_vitals (s : State) (k : Nat) (c : Store) (o : FrameOut) : vitals (resultDone s k c o) = vitals s := by
  simp [resultDone]

@[simp] theorem reflectEdge_vitals (s : State) (k : Nat) : vitals (reflectEdge s k) = vitals s := by simp [reflectEdge]

@[simp] theorem execContinuityReceived_vitals (k : Nat) (sacn : List (Nat × Nat)) (counters : List (Nat × Nat))
    (neighbours : List (Nat × Nat × Nat × Nat)) (commands : List (Nat × Nat × Nat × Nat × List Nat)) (s0 : State) :
    vitalsOf (execContinuityReceived k sacn counters neighbours commands s0) = some (vitals s0) := by simp [execContinuityReceived]

@[simp] theorem execRedTestDue_vitals (t : Time) (s : State) : vitalsOf (execRedTestDue t s) = some (vitals s) := by
  unfold execRedTestDue
  dsimp only
  split <;> simp

/-! ### Energy -/

@[simp] theorem engCount_vitals (s : State) (k : Nat) : vitals (engCount s k) = vitals s := by simp [engCount]

@[simp] theorem planCauses_vitals (s : State) (c : Store) (step h : Nat) : vitals (planCauses s c step h) = vitals s := by
  unfold planCauses
  dsimp only
  split <;> simp

@[simp] theorem planOwn_vitals (s : State) (f : Frame) : vitals (planOwn s f).1 = vitals s := by simp [planOwn]

@[simp] theorem measureEdge_vitals (s : State) (k : Nat) (e : List Nat) : vitals (measureEdge s k e) = vitals s := by
  unfold measureEdge
  split <;> simp

@[simp] theorem engRun_vitals (s : State) (k : Nat) : vitals (engRun s k) = vitals s := by simp [engRun]

@[simp] theorem civicCauses_vitals (s : State) (c : Store) (o : FrameOut) : vitals (civicCauses s c o) = vitals s := by
  simp [civicCauses]

@[simp] theorem execEnergyRetrim_vitals (domain cls value : Nat) (s : State) :
    vitalsOf (execEnergyRetrim domain cls value s) = some (vitals s) := by simp [execEnergyRetrim]

@[simp] theorem execEngHistoryMinute_vitals (t : Time) (s : State) : vitalsOf (execEngHistoryMinute t s) = some (vitals s) := by
  unfold execEngHistoryMinute
  dsimp only
  split <;> simp

/-! ### Threads -/

@[simp] theorem traceLost_vitals (s : State) : vitals (traceLost s) = vitals s := by simp [traceLost]

@[simp] theorem trace_vitals (s : State) (ty core thread : Nat) (other : Option Nat) (cause : Nat) (t : Time) :
    vitals (trace s ty core thread other cause t) = vitals s := by simp [trace]

@[simp] theorem thPut_vitals (s : State) (n : Nat) (x : Thread) : vitals (thPut s n x) = vitals s := by simp [thPut]

@[simp] theorem makeReady_vitals (s : State) (n cause : Nat) (t : Time) : vitals (makeReady s n cause t) = vitals s := by
  simp [makeReady]

@[simp] theorem stopRun_vitals (s : State) (n state : Nat) (t : Time) : vitals (stopRun s n state t) = vitals s := by
  simp [stopRun]

@[simp] theorem startRun_vitals (s : State) (n core : Nat) (t : Time) : vitals (startRun s n core t) = vitals s := by
  simp [startRun]

@[simp] theorem dispatch_vitals (s : State) (core : Nat) (t : Time) : vitals (dispatch s core t) = vitals s := by
  unfold dispatch
  split <;> simp

@[simp] theorem displace_vitals (s : State) (n : Nat) (t : Time) : vitals (displace s n t) = vitals s := by simp [displace]

@[simp] theorem execThreadWake_vitals (thread causeKind causeValue : Nat) (waker : Option Nat) (t : Time) (s : State) :
    vitalsOf (execThreadWake thread causeKind causeValue waker t s) = some (vitals s) := by
  unfold execThreadWake
  dsimp only
  repeat' split
  all_goals simp

@[simp] theorem execThreadBlock_vitals (core : Nat) (t : Time) (s : State) :
    vitalsOf (execThreadBlock core t s) = some (vitals s) := by
  unfold execThreadBlock
  dsimp only
  split <;> simp

@[simp] theorem execThreadSlice_vitals (core : Nat) (t : Time) (s : State) :
    vitalsOf (execThreadSlice core t s) = some (vitals s) := by
  unfold execThreadSlice
  dsimp only
  split <;> simp

@[simp] theorem execThreadExit_vitals (core : Nat) (t : Time) (s : State) :
    vitalsOf (execThreadExit core t s) = some (vitals s) := by
  unfold execThreadExit
  dsimp only
  split <;> simp

/-! ### Queue registers -/

@[simp] theorem afterPop_vitals (s : State) (q : Nat) : vitals (afterPop s q) = vitals s := by simp [afterPop]

@[simp] theorem popN_vitals (n : Nat) (s : State) (q : Nat) : vitals (popN n s q) = vitals s := by
  induction n generalizing s with
  | zero => rfl
  | succ n ih => simp [popN, ih]

@[simp] theorem ptrErr_vitals (s : State) (q : Nat) : vitals (ptrErr s q) = vitals s := by simp [ptrErr]
@[simp] theorem ptrClear_vitals (s : State) (q v : Nat) : vitals (ptrClear s q v) = vitals s := by simp [ptrClear]
@[simp] theorem reqFlush_vitals (s : State) (q : Nat) : vitals (reqFlush s q) = vitals s := by simp [reqFlush]
@[simp] theorem headWrite_vitals (s : State) (q h : Nat) : vitals (headWrite s q h) = vitals s := by simp [headWrite]
@[simp] theorem consumerWrite_vitals (s : State) (q v : Nat) : vitals (consumerWrite s q v) = vitals s := by simp [consumerWrite]
@[simp] theorem producerWrite_vitals (s : State) (q v : Nat) : vitals (producerWrite s q v) = vitals s := by simp [producerWrite]
@[simp] theorem qregWrite_vitals (s : State) (q v : Nat) : vitals (qregWrite s q v) = vitals s := by simp [qregWrite]

@[simp] theorem execHeadWrite_vitals (q : Nat) (v : BitVec 64) (s : State) : vitalsOf (execHeadWrite q v s) = some (vitals s) := by
  simp [execHeadWrite]

@[simp] theorem execQregFlush_vitals (q : Nat) (v : BitVec 64) (s : State) : vitalsOf (execQregFlush q v s) = some (vitals s) := by
  simp [execQregFlush]

@[simp] theorem execPushLenWrite_vitals (q : Nat) (v : BitVec 64) (s : State) :
    vitalsOf (execPushLenWrite q v s) = some (vitals s) := by simp [execPushLenWrite]

@[simp] theorem flushQueue_vitals (s : State) (q : Nat) : vitals (flushQueue s q) = vitals s := by simp [flushQueue]

@[simp] theorem execQueueFlushDone_vitals (q : Nat) (s : State) : vitalsOf (execQueueFlushDone q s) = some (vitals s) := by
  simp [execQueueFlushDone]

@[simp] theorem execQueuePushResume_vitals (q : Nat) (s : State) : vitalsOf (execQueuePushResume q s) = some (vitals s) := by
  simp [execQueuePushResume]

@[simp] theorem queFlushMask_vitals (s : State) (mask : Nat) : vitals (queFlushMask s mask) = vitals s := by simp [queFlushMask]

@[simp] theorem resizeQueue_vitals (s : State) (old new : Store) (q : Nat) : vitals (resizeQueue s old new q) = vitals s := by
  simp [resizeQueue]

/-! ### Host registers and windows -/

@[simp] theorem outState_vitals (s : State) (o : Host.Outcome State Fault Refusal) (h : vitalsOf o = some (vitals s)) :
    vitals (outState s o) = vitals s := by
  cases o with
  | next t => exact Option.some.inj h
  | fault r => rfl
  | refused r => rfl

@[simp] theorem timeSecRead_vitals (s : State) (qspi : Bool) : vitals (timeSecRead s qspi).2 = vitals s := by simp [timeSecRead]

@[simp] theorem wordRead_vitals (s : State) (qspi : Bool) (off : Nat) : vitals (wordRead s qspi off).2 = vitals s := by
  simp [wordRead]

@[simp] theorem wordsRead_vitals (qspi : Bool) (n off : Nat) (s : State) (acc : List Byte) :
    vitals (wordsRead qspi n off s acc).2 = vitals s := by
  induction n generalizing off s acc with
  | zero => rfl
  | succ n ih => simp [wordsRead, ih]

@[simp] theorem pcieRead_vitals (s : State) (off len : Nat) : vitals (pcieRead s off len).2 = vitals s := by simp [pcieRead]
@[simp] theorem maskWrite_vitals (s : State) (v : Nat) : vitals (maskWrite s v) = vitals s := by simp [maskWrite]
@[simp] theorem statusClear_vitals (s : State) (v : Nat) : vitals (statusClear s v) = vitals s := by simp [statusClear]
@[simp] theorem regWordWrite_vitals (s : State) (off v : Nat) : vitals (regWordWrite s off v) = vitals s := by simp [regWordWrite]

/-- A byte written into the MSI-X table, with the message that it unmasks. -/
theorem msixTableWrite_vitals (s : State) (i : Nat) (b : Byte) :
    vitals (
      let dflt : Byte := if i % 16 = 12 then 1 else 0
      let s1 := { s with host := { s.host with msixTable := SMap.put dflt s.host.msixTable i b } }
      let v := i / 16
      if i % 16 = 12 ∧ bitAt s.host.msixPending v ∧ !msixMasked s1 v then
        emit { s1 with host := { s1.host with msixPending := putBit s1.host.msixPending v false } } (.msix v)
      else s1) = vitals s := by
  simp

@[simp] theorem windowWrite_vitals (s : State) (off : Nat) (b : Byte) : vitals (windowWrite s off b) = vitals s := by
  unfold windowWrite
  split
  · exact msixTableWrite_vitals s (off - 0x2000) b
  · split
    · generalize (off - 0x03000000) / 0x00020000 = q
      simp only [vitals_ite, vitals_mk, ite_self]
    · rfl

@[simp] theorem windowWrites_vitals (s : State) (off : Nat) (bs : List Byte) : vitals (windowWrites s off bs) = vitals s := by
  induction bs generalizing s off with
  | nil => rfl
  | cons b bs ih => simp [windowWrites, ih]

@[simp] theorem wordsWrite_vitals (n : Nat) (s : State) (off : Nat) (bs : List Byte) : vitals (wordsWrite n s off bs) = vitals s := by
  induction n generalizing s off bs with
  | zero => rfl
  | succ n ih => simp [wordsWrite, ih]

@[simp] theorem execRegWrite_vitals (offset : Nat) (bytes : List Byte) (s : State) :
    vitalsOf (execRegWrite offset bytes s) = some (vitals s) := by simp [execRegWrite]

@[simp] theorem execQspiRead_vitals (offset len : Nat) (s : State) : vitalsOf (execQspiRead offset len s) = some (vitals s) := by
  simp [execQspiRead]

@[simp] theorem execQspiWrite_vitals (offset : Nat) (bytes : List Byte) (s : State) :
    vitalsOf (execQspiWrite offset bytes s) = some (vitals s) := by simp [execQspiWrite]

@[simp] theorem execQspiStatus_vitals (s : State) : vitalsOf (execQspiStatus s) = some (vitals s) := by simp [execQspiStatus]

@[simp] theorem execTimeSecRead_vitals (qspi : Bool) (t : Time) (s : State) :
    vitalsOf (execTimeSecRead qspi t s) = some (vitals s) := by simp [execTimeSecRead]

@[simp] theorem execIntStatusWrite_vitals (v : BitVec 64) (s : State) : vitalsOf (execIntStatusWrite v s) = some (vitals s) := by
  simp [execIntStatusWrite]

@[simp] theorem execIntMaskWrite_vitals (v : BitVec 64) (s : State) : vitalsOf (execIntMaskWrite v s) = some (vitals s) := by
  simp [execIntMaskWrite]

@[simp] theorem mbCount_vitals (s : State) (p : Path) (k : Nat) : vitals (mbCount s p k) = vitals s :=
  (mbCount_changes _ _ _).vitals (by decide)

@[simp] theorem takePacket_vitals (s : State) (q : Nat) (pkt : List Byte) : vitals (takePacket s q pkt) = vitals s := by
  simp [takePacket]

@[simp] theorem takeRequest_vitals (s : State) (p : Path) (pkt : List Byte) : vitals (takeRequest s p pkt) = vitals s :=
  (takeRequest_changes _ _ _).vitals (by decide)

@[simp] theorem malformed_vitals (s : State) (p : Path) : vitals (malformed s p) = vitals s := by simp [malformed]

@[simp] theorem execMbMalformed_vitals (path : Path) (bytes : List Byte) (s : State) :
    vitalsOf (execMbMalformed path bytes s) = some (vitals s) := by simp [execMbMalformed]

/-! ### Requests: checks, duplicates and answers -/

@[simp] theorem sendResp_vitals (s : State) (p : Path) (m : List Byte) : vitals (sendResp s p m) = vitals s :=
  (sendResp_changes _ _ _).vitals (by decide)

@[simp] theorem setEntry_vitals (s : State) (op : Nat) (r : Req) (m : List Byte) : vitals (setEntry s op r m) = vitals s :=
  (setEntry_changes _ _ _ _).vitals (by decide)

@[simp] theorem finish_vitals (s : State) (op : Nat) (r : Req) (m : List Byte) : vitals (finish s op r m) = vitals s :=
  (finish_changes _ _ _ _).vitals (by decide)

@[simp] theorem relayDown_vitals (s : State) (op : Nat) (r : Req) (c : Caller) (waiting : Nat) (answers : List
    (Nat × List Byte)) (failed : List (Nat × Err)) :
    vitals (relayDown s op r c waiting answers failed) = vitals s := by simp [relayDown]

/-- What a handler keeps of the vitals, the rules of every request keep. -/
theorem runHere_keeps {P : Vitals → Prop} {handle : Caller → Req → State → Answer × State}
    (h : ∀ c r u, P (vitals u) → P (vitals (handle c r u).2)) (op : Nat) (r : Req) {s : State} (hs : P (vitals s)) :
    P (vitals (runHere op handle r s).2) := by
  have ha := h (callerOf s op r.path) r s hs
  unfold runHere
  dsimp only
  repeat' split
  all_goals simp_all

/-- What a handler keeps of the vitals, serving its request keeps. -/
theorem serve_keeps {P : Vitals → Prop} {handle : Caller → Req → State → Answer × State}
    (h : ∀ c r u, P (vitals u) → P (vitals (handle c r u).2)) (op : Nat) (r : Req) {s : State} (hs : P (vitals s)) :
    P (vitals (serve op handle r s)) := by
  have hr (u : State) (hu : vitals u = vitals s) : P (vitals (runHere op handle r u).2) := runHere_keeps h op r (hu ▸ hs)
  unfold serve
  dsimp only
  split
  · simpa using hs
  split
  · simpa using hs
  · simpa using hs
  · split
    · rw [finish_vitals]
      exact hr _ (by simp)
    · exact hr _ (by simp)

/-- A request whose handler leaves the vitals alone does so. -/
@[simp] theorem serve_vitals {handle : Caller → Req → State → Answer × State} (h : ∀ c r u, vitals (handle c r u).2 = vitals u)
    (op : Nat) (r : Req) (s : State) : vitals (serve op handle r s) = vitals s :=
  serve_keeps (P := (· = vitals s)) (fun c r u hu => (h c r u).trans hu) op r rfl

@[simp] theorem execUnknownOpcodeRequest_vitals (opcode : Nat) (r : Req) (s : State) :
    vitalsOf (execUnknownOpcodeRequest opcode r s) = some (vitals s) := by simp [execUnknownOpcodeRequest]

@[simp] theorem execConsoleFrameError_vitals (bytes : List Byte) (s : State) :
    vitalsOf (execConsoleFrameError bytes s) = some (vitals s) := by simp [execConsoleFrameError]

@[simp] theorem execDedupeExpiry_vitals (t : Time) (s : State) : vitalsOf (execDedupeExpiry t s) = some (vitals s) := by
  simp [execDedupeExpiry]

/-! ### The security island -/

@[simp] theorem slotPut_vitals (s : State) (i : Nat) (k : KeySlot) : vitals (slotPut s i k) = vitals s := by simp [slotPut]
@[simp] theorem secCount_vitals (s : State) (k : Nat) : vitals (secCount s k) = vitals s := by simp [secCount]
@[simp] theorem refreshLive_vitals (s : State) : vitals (refreshLive s) = vitals s := by simp [refreshLive]

@[simp] theorem restartSessions_vitals (s : State) (slot : Nat) : vitals (restartSessions s slot) = vitals s := by
  simp [restartSessions]

@[simp] theorem installSlot_vitals (s : State) (i : Nat) (k : KeySlot) : vitals (installSlot s i k) = vitals s := by
  simp [installSlot]

@[simp] theorem dropSlots_vitals (s : State) (f : Nat → Bool) : vitals (dropSlots s f) = vitals s := by simp [dropSlots]
@[simp] theorem dropSessions_vitals (s : State) : vitals (dropSessions s) = vitals s := by simp [dropSessions]
@[simp] theorem eraseLog_vitals (s : State) (log : Nat) : vitals (eraseLog s log) = vitals s := by simp [eraseLog]
@[simp] theorem eraseSettings_vitals (s : State) : vitals (eraseSettings s) = vitals s := by simp [eraseSettings]
@[simp] theorem toLife_vitals (s : State) (new : Nat) : vitals (toLife s new) = vitals s := by simp [toLife]

@[simp] theorem installItems_vitals (s : State) (xs : List LifeItem) : vitals (installItems s xs) = vitals s := by
  simp [installItems]

@[simp] theorem makeIdentity_vitals (s : State) : vitals (makeIdentity s) = vitals s := by simp [makeIdentity]

@[simp] theorem envInstall_vitals (s : State) (b body : List Byte) : vitals (envInstall s b body) = vitals s := by
  simp [envInstall]

@[simp] theorem envInvalidate_vitals (s : State) (b : List Byte) : vitals (envInvalidate s b) = vitals s := by
  simp [envInvalidate]

@[simp] theorem envProvision_vitals (s : State) (body : List Byte) : vitals (envProvision s body) = vitals s := by
  simp [envProvision]

@[simp] theorem envTakeOwnership_vitals (s : State) (body : List Byte) : vitals (envTakeOwnership s body) = vitals s := by
  simp [envTakeOwnership]

@[simp] theorem envReturn_vitals (s : State) : vitals (envReturn s) = vitals s := by simp [envReturn]
@[simp] theorem clearEval_vitals (s : State) : vitals (clearEval s) = vitals s := by simp [clearEval]
@[simp] theorem envReprovision_vitals (s : State) : vitals (envReprovision s) = vitals s := by simp [envReprovision]
@[simp] theorem envRetire_vitals (s : State) : vitals (envRetire s) = vitals s := by simp [envRetire]
@[simp] theorem envEffect_vitals (s : State) (b body : List Byte) : vitals (envEffect s b body) = vitals s := by simp [envEffect]

@[simp] theorem keyUpdate_vitals (c : Caller) (r : Req) (s : State) : vitals (keyUpdate c r s).2 = vitals s := by
  unfold keyUpdate
  dsimp only
  split <;> simp

@[simp] theorem execKeyUpdateInstall_vitals (r : Req) (s : State) : vitalsOf (execKeyUpdateInstall r s) = some (vitals s) := by
  simp [execKeyUpdateInstall]

@[simp] theorem execKeyUpdateInvalidate_vitals (r : Req) (s : State) : vitalsOf (execKeyUpdateInvalidate r s) = some (vitals s) := by
  simp [execKeyUpdateInvalidate]

@[simp] theorem execKeyUpdateProvision_vitals (r : Req) (s : State) : vitalsOf (execKeyUpdateProvision r s) = some (vitals s) := by
  simp [execKeyUpdateProvision]

@[simp] theorem execKeyUpdateTakeOwnership_vitals (r : Req) (s : State) :
    vitalsOf (execKeyUpdateTakeOwnership r s) = some (vitals s) := by simp [execKeyUpdateTakeOwnership]

@[simp] theorem execKeyUpdateReturn_vitals (r : Req) (s : State) : vitalsOf (execKeyUpdateReturn r s) = some (vitals s) := by
  simp [execKeyUpdateReturn]

@[simp] theorem execKeyUpdateReprovision_vitals (r : Req) (s : State) :
    vitalsOf (execKeyUpdateReprovision r s) = some (vitals s) := by simp [execKeyUpdateReprovision]

@[simp] theorem execKeyUpdateRetire_vitals (r : Req) (s : State) : vitalsOf (execKeyUpdateRetire r s) = some (vitals s) := by
  simp [execKeyUpdateRetire]

@[simp] theorem attestOp_vitals (c : Caller) (r : Req) (s : State) : vitals (attestOp c r s).2 = vitals s := by simp [attestOp]
@[simp] theorem execAttest_vitals (r : Req) (s : State) : vitalsOf (execAttest r s) = some (vitals s) := by simp [execAttest]
@[simp] theorem islandDawn_vitals (s : State) : vitals (islandDawn s) = vitals s := by simp [islandDawn]
@[simp] theorem secWritten_vitals (s : State) (old : Store) : vitals (secWritten s old) = vitals s := by simp [secWritten]

/-! ### Firmware update -/

@[simp] theorem imagePut_vitals (s : State) (i : Nat) (x : ImageSet) : vitals (imagePut s i x) = vitals s := by simp [imagePut]
@[simp] theorem copyPut_vitals (s : State) (i : Nat) (x : Settings) : vitals (copyPut s i x) = vitals s := by simp [copyPut]
@[simp] theorem updCount_vitals (s : State) (k : Nat) : vitals (updCount s k) = vitals s := by simp [updCount]

@[simp] theorem toUpd_vitals (s : State) (new : Nat) (manifest : List Byte) : vitals (toUpd s new manifest) = vitals s :=
  (toUpd_changes _ _ _).vitals (by decide)

@[simp] theorem saveSettings_vitals (s : State) : vitals (saveSettings s) = vitals s := by simp [saveSettings]
@[simp] theorem dlPut_vitals (s : State) (d : Download) : vitals (dlPut s d) = vitals s := by simp [dlPut]
@[simp] theorem dlState_vitals (s : State) (new : Nat) (m : List Byte) : vitals (dlState s new m) = vitals s := by simp [dlState]

@[simp] theorem manifestChunk_vitals (s : State) (off : Nat) (data : List Byte) :
    vitals (manifestChunk s off data).2 = vitals s := by
  unfold manifestChunk
  dsimp only
  repeat' split
  all_goals simp

@[simp] theorem dataChunk_vitals (s : State) (off : Nat) (data : List Byte) : vitals (dataChunk s off data).2 = vitals s := by
  unfold dataChunk
  extract_lets d m i n head d1 d2 x d3 whole
  iterate 5 (split; · rfl)
  split
  · exact dlPut_vitals s d1
  · split <;> simp

@[simp] theorem imageBlock_vitals (c : Caller) (r : Req) (s : State) : vitals (imageBlock c r s).2 = vitals s := by
  unfold imageBlock
  split <;> simp

@[simp] theorem execImageBlockManifest_vitals (r : Req) (s : State) : vitalsOf (execImageBlockManifest r s) = some (vitals s) := by
  simp [execImageBlockManifest]

@[simp] theorem execImageBlockData_vitals (r : Req) (s : State) : vitalsOf (execImageBlockData r s) = some (vitals s) := by
  simp [execImageBlockData]

@[simp] theorem imageVerify_vitals (c : Caller) (r : Req) (s : State) : vitals (imageVerify c r s).2 = vitals s := by
  unfold imageVerify
  repeat' split
  all_goals simp

@[simp] theorem execImageVerify_vitals (r : Req) (s : State) : vitalsOf (execImageVerify r s) = some (vitals s) := by
  simp [execImageVerify]

@[simp] theorem armAt_vitals (s : State) (j : Nat) : vitals (armAt s j) = vitals s := by simp [armAt]
@[simp] theorem disarm_vitals (s : State) : vitals (disarm s) = vitals s := by simp [disarm]

@[simp] theorem imageArm_vitals (c : Caller) (r : Req) (s : State) : vitals (imageArm c r s).2 = vitals s := by
  unfold imageArm
  dsimp only
  repeat' split
  all_goals simp

@[simp] theorem confirmSet_vitals (s : State) : vitals (confirmSet s) = vitals s := by simp [confirmSet]

@[simp] theorem fallback_vitals (s : State) (cause : Nat) : vitals (fallback s cause) = vitals s :=
  (fallback_changes _ _).vitals (by decide)

@[simp] theorem imageConfirm_vitals (c : Caller) (r : Req) (s : State) : vitals (imageConfirm c r s).2 = vitals s := by
  unfold imageConfirm
  split <;> simp

/-! ### The commands of the recorder -/

@[simp] theorem flushSuppressed_vitals (s : State) (log code : Nat) : vitals (flushSuppressed s log code) = vitals s := by
  unfold flushSuppressed
  dsimp only
  repeat' split
  all_goals simp

@[simp] theorem execLogTokenAdd_vitals (code : Nat) (s : State) : vitalsOf (execLogTokenAdd code s) = some (vitals s) := by
  unfold execLogTokenAdd
  split <;> simp

@[simp] theorem execOptimeWrite_vitals (s : State) : vitalsOf (execOptimeWrite s) = some (vitals s) := by simp [execOptimeWrite]

@[simp] theorem logRead_vitals (c : Caller) (r : Req) (s : State) : vitals (logRead c r s).2 = vitals s := by
  unfold logRead
  dsimp only
  split <;> simp

@[simp] theorem execLogRead_vitals (r : Req) (s : State) : vitalsOf (execLogRead r s) = some (vitals s) := by simp [execLogRead]

@[simp] theorem logClear_vitals (c : Caller) (r : Req) (s : State) : vitals (logClear c r s).2 = vitals s := by
  unfold logClear
  dsimp only
  split <;> simp

@[simp] theorem execLogClear_vitals (r : Req) (s : State) : vitalsOf (execLogClear r s) = some (vitals s) := by
  simp [execLogClear]

@[simp] theorem writeHeld_vitals (s : State) (log : Nat) (e : Event) : vitals (writeHeld s log e) = vitals s := by
  unfold writeHeld
  repeat' split
  all_goals simp

@[simp] theorem clearLog_vitals (s : State) (log : Nat) (c : Clearing) : vitals (clearLog s log c) = vitals s := by
  simp [clearLog]

@[simp] theorem execLogClearDone_vitals (log : Nat) (t : Time) (s : State) :
    vitalsOf (execLogClearDone log t s) = some (vitals s) := by
  unfold execLogClearDone
  dsimp only
  repeat' split
  all_goals simp

@[simp] theorem cursorPut_vitals (s : State) (c : Caller) (x : Cursor) : vitals (cursorPut s c x) = vitals s := by
  simp [cursorPut]

@[simp] theorem cursorSet_vitals (c : Caller) (r : Req) (s : State) : vitals (cursorSet c r s).2 = vitals s := by simp [cursorSet]

@[simp] theorem execCursorSet_vitals (r : Req) (s : State) : vitalsOf (execCursorSet r s) = some (vitals s) := by
  simp [execCursorSet]

@[simp] theorem windowReadOp_vitals (c : Caller) (r : Req) (s : State) : vitals (windowReadOp c r s).2 = vitals s := by
  unfold windowReadOp
  repeat' split
  all_goals simp

@[simp] theorem execWindowRead_vitals (r : Req) (s : State) : vitalsOf (execWindowRead r s) = some (vitals s) := by
  simp [execWindowRead]

/-! ### sACN output -/

@[simp] theorem noteSeq_vitals (s : State) (i n : Nat) : vitals (noteSeq s i n) = vitals s := by simp [noteSeq]

@[simp] theorem sacnEdge_vitals (s : State) (n : Nat) : vitals (sacnEdge s n) = vitals s := by
  refine foldl_vitals (fun a p => ?_) _ s
  simp only [vitals_ite, sacnPut_vitals, ite_self]
  split
  · simp
  · rfl

@[simp] theorem execSacnDataPacket_vitals (port : Nat) (s : State) : vitalsOf (execSacnDataPacket port s) = some (vitals s) := by
  unfold execSacnDataPacket
  dsimp only
  split <;> simp

@[simp] theorem dropSacn_vitals (s : State) (port : Nat) : vitals (dropSacn s port).2 = vitals s := by simp [dropSacn]
@[simp] theorem quietStart_vitals (s : State) (port : Nat) : vitals (quietStart s port) = vitals s := by simp [quietStart]

@[simp] theorem execSacnQuietStart_vitals (port : Nat) (s : State) : vitalsOf (execSacnQuietStart port s) = some (vitals s) := by
  simp [execSacnQuietStart]

@[simp] theorem syncStart_vitals (s : State) (port : Nat) : vitals (syncStart s port) = vitals s := by simp [syncStart]

@[simp] theorem execSacnSyncPacket_vitals (port : Nat) (s : State) : vitalsOf (execSacnSyncPacket port s) = some (vitals s) := by
  simp [execSacnSyncPacket]

@[simp] theorem sacnFinish_vitals (s : State) : vitals (sacnFinish s) = vitals s := by simp [sacnFinish]

@[simp] theorem sacnTerminate_vitals (s : State) (x : Store × FrameOut × Nat) : vitals (sacnTerminate s x) = vitals s := by
  simp [sacnTerminate]

/-! ### What dawn and dusk do besides changing the state -/

@[simp] theorem strapped_vitals (s : State) (bootSrc : Nat) (stackEn safeSel : Bool) :
    vitals (strapped s bootSrc stackEn safeSel) = vitals s := by simp [strapped]

@[simp] theorem loadCopy_vitals (s : State) (x : Settings) : vitals (loadCopy s x) = vitals s := by simp [loadCopy]

@[simp] theorem bootPlain_vitals (s : State) : vitals (bootPlain s).1 = vitals s := by
  unfold bootPlain
  split <;> simp

@[simp] theorem bootTrial_vitals (s : State) : vitals (bootTrial s).1 = vitals s := by
  unfold bootTrial
  dsimp only
  repeat' split
  all_goals simp

@[simp] theorem bootD3_vitals (s : State) : vitals (bootD3 s).1 = vitals s := by
  unfold bootD3
  repeat' split
  all_goals simp

@[simp] theorem writeHeldRecord_vitals (s : State) (x : Nat × List Byte) : vitals (writeHeldRecord s x) = vitals s := by
  simp [writeHeldRecord]

@[simp] theorem logD1_vitals (s : State) (passed : Bool) : vitals (logD1 s passed) = vitals s := by
  unfold logD1
  split
  · refine (foldl_vitals writeHeldRecord_vitals _ _).trans ?_
    refine Eq.trans (vitals_mk rfl rfl rfl rfl rfl) ?_
    refine foldl_vitals (fun a log => ?_) _ s
    split <;> simp
  · rfl

@[simp] theorem loadTime_vitals (s : State) (ticks : Nat) : vitals (loadTime s ticks) = vitals s := by simp [loadTime]

@[simp] theorem dawnResult_vitals (s : State) (step : Nat) (fail : Bool) (code detail : Nat) :
    vitals (dawnResult s step fail code detail) = vitals s := by simp [dawnResult]

@[simp] theorem execPcieLinkChange_vitals (up : Bool) (t : Time) (s : State) :
    vitalsOf (execPcieLinkChange up t s) = some (vitals s) := by simp [execPcieLinkChange]

@[simp] theorem duskLease_vitals (s : State) (k : Nat) : vitals (duskLease s k) = vitals s := by simp [duskLease]
@[simp] theorem partialMinute_vitals (s : State) : vitals (partialMinute s) = vitals s := by simp [partialMinute]
@[simp] theorem reachEdge_vitals (s : State) : vitals (reachEdge s) = vitals s := by simp [reachEdge]

@[simp] theorem restartAnswer_vitals (r : Req) (s : State) : vitals (restartAnswer r s) = vitals s := by
  unfold restartAnswer
  split <;> simp

@[simp] theorem execConfirmWindowExpiry_vitals (t : Time) (s : State) :
    vitalsOf (execConfirmWindowExpiry t s) = some (vitals s) := by
  unfold execConfirmWindowExpiry
  dsimp only
  repeat' split
  all_goals simp

/-! ### Temperatures -/

@[simp] theorem execTsnsRead_vitals (ohms : List Nat) (s : State) : vitalsOf (execTsnsRead ohms s) = some (vitals s) := by
  simp [execTsnsRead]

@[simp] theorem thermalStart_vitals (s : State) (c : Store) : vitals (thermalStart s c) = vitals s := by simp [thermalStart]

@[simp] theorem fixtureTemp_vitals (s : State) (c : Store) (i r : Nat) : vitals (fixtureTemp s c i r).1 = vitals s := by
  simp [fixtureTemp]

@[simp] theorem latchThermal_vitals (s : State) (f : Frame) : vitals (latchThermal s f).1 = vitals s :=
  foldl_vitals_of (β := State × SMap Int) Prod.fst (fun a x => fixtureTemp_vitals a.1 f.cfg x.1 x.2) _ (s, [])

@[simp] theorem execDieTempSample_vitals (sensors : List Int) (s : State) :
    vitalsOf (execDieTempSample sensors s) = some (vitals s) := by
  unfold execDieTempSample
  split <;> simp

@[simp] theorem execRailMeasure_vitals (mv : List Nat) (s : State) : vitalsOf (execRailMeasure mv s) = some (vitals s) := by
  simp [execRailMeasure]

/-! ### Transactions -/

@[simp] theorem noteId_vitals (s : State) (id : Nat) : vitals (noteId s id) = vitals s := by simp [noteId]
@[simp] theorem closeTxn_vitals (s : State) (id : Nat) : vitals (closeTxn s id) = vitals s := by simp [closeTxn]
@[simp] theorem accept_vitals (s : State) (x : AccTxn) : vitals (accept s x) = vitals s := (accept_changes _ _).vitals (by decide)

theorem commitHere_vitals {s t : State} {c : Caller} {id j : Nat} {xs : List Item} (h : commitHere s c id j xs = .ok t) :
    vitals t = vitals s := by
  unfold commitHere at h
  split at h
  · cases h
  · cases h
    simp

@[simp] theorem sendStages_vitals (s : State) (op : Nat) (r : Req) (c : Caller) (id j mode : Nat) (nodes : List Nat)
    (itemsOf : Nat → List Item) :
    vitals (sendStages s op r c id j mode nodes itemsOf) = vitals s := by simp [sendStages]

@[simp] theorem sendDiscard_vitals (s : State) (r : Req) (c : Caller) (id : Nat) : vitals (sendDiscard s r c id) = vitals s := by
  simp [sendDiscard]

@[simp] theorem startStage_vitals (s : State) (op : Nat) (r : Req) (c : Caller) (id j mode : Nat) (xs : List Item) :
    vitals (startStage s op r c id j mode xs).2 = vitals s := by
  unfold startStage
  dsimp only
  repeat' split
  all_goals simp

@[simp] theorem endRelay_vitals (s : State) (x : Relay) : vitals (endRelay s x) = vitals s := by simp [endRelay]

@[simp] theorem giveAnswer_vitals (x : Relay) (a : Answer × State) : vitals (giveAnswer x a) = vitals a.2 := by
  unfold giveAnswer
  split <;> simp

@[simp] theorem expireStages_vitals (s : State) (j : Nat) : vitals (expireStages s j) = vitals s := by
  refine foldl_vitals (fun a x => ?_) _ s
  simp

@[simp] theorem endStage_vitals (s0 : State) (x : Relay) : vitals (endStage s0 x).2 = vitals s0 := by
  unfold endStage
  dsimp only
  repeat' split
  all_goals simp

@[simp] theorem armDone_vitals (s : State) (arm : Req) (j : Nat) : vitals (armDone s arm j) = vitals s := by simp [armDone]

@[simp] theorem startArm_vitals (s : State) (r : Req) (c : Caller) : vitals (startArm s r c).2 = vitals s := by
  unfold startArm
  dsimp only
  split <;> simp

@[simp] theorem endArm_vitals (s0 : State) (x : Relay) : vitals (endArm s0 x).2 = vitals s0 := by
  unfold endArm
  dsimp only
  repeat' split
  all_goals simp

@[simp] theorem ownTxn_vitals (op : Nat) (c : Caller) (r : Req) (s : State) : vitals (ownTxn op c r s).2 = vitals s := by
  unfold ownTxn
  dsimp only
  split
  · rfl
  split
  · rfl
  split
  · split
    · rfl
    · simp
  · split
    · rfl
    next h => simpa using commitHere_vitals h

@[simp] theorem addItem_vitals (op : Nat) (c : Caller) (r : Req) (s : State) : vitals (addItem op c r s).2 = vitals s := by
  unfold addItem
  dsimp only
  repeat' split
  all_goals simp

/-! ### Latch and COMPUTE -/

@[simp] theorem clearFaults_vitals (s : State) (l : List Nat) : vitals (clearFaults s l) = vitals s := by simp [clearFaults]
@[simp] theorem replays_vitals (s : State) (j : Nat) (xs : List Item) : vitals (replays s j xs) = vitals s := by simp [replays]
@[simp] theorem planFrame_vitals (s : State) (f : Frame) : vitals (planFrame s f).1 = vitals s := by simp [planFrame]
@[simp] theorem takeTxns_vitals (s : State) (txns : List AccTxn) : vitals (takeTxns s txns) = vitals s := by simp [takeTxns]

@[simp] theorem latchStore_vitals (s : State) (o : Store) (j : Nat) (txns : List AccTxn) :
    vitals (latchStore s o j txns).1 = vitals s := by simp [latchStore]

@[simp] theorem fillBand_vitals (s : State) (f : Frame) : vitals (fillBand s f) = vitals s := by
  unfold fillBand
  split <;> simp

@[simp] theorem execComposerBand_vitals (s : State) : vitalsOf (execComposerBand s) = some (vitals s) := by
  unfold execComposerBand
  split <;> simp

@[simp] theorem slipOwn_vitals (s : State) (k : Nat) : vitals (slipOwn s k) = vitals s := by
  unfold slipOwn
  split <;> simp

@[simp] theorem completeFrame_vitals (s : State) (f : Frame) : vitals (completeFrame s f) = vitals s := by simp [completeFrame]

@[simp] theorem execComputeComplete_vitals (t : Time) (s : State) : vitalsOf (execComputeComplete t s) = some (vitals s) := by
  unfold execComputeComplete
  dsimp only
  split <;> simp

@[simp] theorem execComputeDeadline_vitals (s : State) : vitalsOf (execComputeDeadline s) = some (vitals s) := by
  unfold execComputeDeadline
  split <;> simp

/-! ### The edge but for the device state -/

@[simp] theorem fixNext_vitals (s : State) (k : Nat) (e : Time) (o c : Store) (xs : List Item) :
    vitals (fixNext s k e o c xs) = vitals s := by simp [fixNext]

@[simp] theorem passEdge_vitals (s : State) (f : Frame) (e : Time) : vitals (passEdge s f e) = vitals s := by simp [passEdge]

@[simp] theorem timeChanges_vitals (s : State) (o c : Store) (k : Nat) (e : Time) (txns : List AccTxn) :
    vitals (timeChanges s o c k e txns) = vitals s := by simp [timeChanges]

@[simp] theorem sizeChanges_vitals (s : State) (o c : Store) : vitals (sizeChanges s o c) = vitals s := by simp [sizeChanges]

@[simp] theorem radioChanges_vitals (s : State) (e : Time) (xs : List Item) : vitals (radioChanges s e xs) = vitals s := by
  simp [radioChanges]

@[simp] theorem faultChanges_vitals (s : State) (o c : Store) (xs : List Item) : vitals (faultChanges s o c xs) = vitals s := by
  simp [faultChanges]

@[simp] theorem pairChanges_vitals (s : State) (xs : List Item) : vitals (pairChanges s xs) = vitals s := by simp [pairChanges]

@[simp] theorem snapChanges_vitals (s : State) (txns : List AccTxn) : vitals (snapChanges s txns) = vitals s := by
  simp [snapChanges]

@[simp] theorem noteCommits_vitals (s : State) (k : Nat) (e : Time) (txns : List AccTxn) :
    vitals (noteCommits s k e txns) = vitals s := by simp [noteCommits]

@[simp] theorem commitEdge_vitals (s : State) (o : Store) (f : Frame) (e : Time) : vitals (commitEdge s o f e) = vitals s := by
  simp [commitEdge]

@[simp] theorem entryEdge_vitals (s : State) (before : DevState) (k : Nat) : vitals (entryEdge s before k) = vitals s := by
  simp [entryEdge]

@[simp] theorem dramEdge_vitals (s : State) (f : Frame) (len : Time) : vitals (dramEdge s f len) = vitals s := by simp [dramEdge]

@[simp] theorem swapFront_vitals (s : State) (f : Frame) (e : Time) (k : Nat) : vitals (swapFront s f e k) = vitals s := by
  unfold swapFront
  repeat' split
  all_goals simp

@[simp] theorem present_vitals (s : State) (f : Frame) (e : Time) : vitals (present s f e) = vitals s := by simp [present]
@[simp] theorem showEdge_vitals (s : State) (f : Frame) (e : Time) : vitals (showEdge s f e) = vitals s := by simp [showEdge]
@[simp] theorem yieldEdge_vitals (s : State) (f : Frame) : vitals (yieldEdge s f) = vitals s := by simp [yieldEdge]

@[simp] theorem outputEdge_vitals (s : State) (f : Frame) (was o : Store) (len : Time) :
    vitals (outputEdge s f was o len) = vitals s := by
  unfold outputEdge
  dsimp only
  repeat' split
  all_goals simp

@[simp] theorem civicEdge_vitals (s : State) (f : Frame) : vitals (civicEdge s f) = vitals s := by simp [civicEdge]
@[simp] theorem calStartEdge_vitals (s : State) (xs : List Item) : vitals (calStartEdge s xs) = vitals s := by simp [calStartEdge]

/-! ### Frame lock and timecode -/

@[simp] theorem execGenlockPulse_vitals (t : Time) (s : State) : vitalsOf (execGenlockPulse t s) = some (vitals s) := by
  unfold execGenlockPulse
  dsimp only
  split <;> simp

@[simp] theorem execGenlockPulseMissing_vitals (s : State) : vitalsOf (execGenlockPulseMissing s) = some (vitals s) := by
  simp [execGenlockPulseMissing]

@[simp] theorem execGenlockLost_vitals (s : State) : vitalsOf (execGenlockLost s) = some (vitals s) := by simp [execGenlockLost]

@[simp] theorem execWclkPulse_vitals (t : Time) (s : State) : vitalsOf (execWclkPulse t s) = some (vitals s) := by
  unfold execWclkPulse
  dsimp only
  repeat' split
  all_goals simp

@[simp] theorem execLtcWord_vitals (t : Time) (timecode : BitVec 32) (drop : Bool) (s : State) :
    vitalsOf (execLtcWord t timecode drop s) = some (vitals s) := by simp [execLtcWord]

@[simp] theorem execLtcWordMissing_vitals (t : Time) (s : State) : vitalsOf (execLtcWordMissing t s) = some (vitals s) := by
  unfold execLtcWordMissing
  dsimp only
  repeat' split
  all_goals simp

@[simp] theorem execLtcLost_vitals (s : State) : vitalsOf (execLtcLost s) = some (vitals s) := by simp [execLtcLost]

/-! ### The requests of 13.5 to 13.7 -/

@[simp] theorem getOp_vitals (c : Caller) (r : Req) (s : State) : vitals (getOp c r s).2 = vitals s := by
  unfold getOp
  repeat' split
  all_goals simp

@[simp] theorem snapshotGetOp_vitals (c : Caller) (r : Req) (s : State) : vitals (snapshotGetOp c r s).2 = vitals s := by
  unfold snapshotGetOp
  split <;> simp

@[simp] theorem tableReadOp_vitals (c : Caller) (r : Req) (s : State) : vitals (tableReadOp c r s).2 = vitals s := by
  unfold tableReadOp
  split <;> simp

@[simp] theorem actionDo_vitals (s : State) (p : ParamRow) (x : SetItem) : vitals (actionDo s p x) = vitals s := by
  simp [actionDo]

theorem immItem_vitals {c : Caller} {r : Req} {acc : Except Err State} {y : Nat × SetItem} {t : State} (h : immItem c r acc y = .ok t) :
    ∃ u, acc = .ok u ∧ vitals t = vitals u := by
  unfold immItem at h
  dsimp only at h
  repeat' split at h
  all_goals cases h
  all_goals exact ⟨_, rfl, by simp⟩

@[simp] theorem immWritten_vitals (old : Store) (s : State) : vitals (immWritten old s) = vitals s := by simp [immWritten]

/-- The items of a SET of IMMEDIATE parameters leave the vitals alone, as far as they are taken. -/
theorem immItems_vitals {c : Caller} {r : Req} {l : List (Nat × SetItem)} {acc : Except Err State} {t : State}
    (h : l.foldl (immItem c r) acc = .ok t) : ∃ u, acc = .ok u ∧ vitals t = vitals u := by
  induction l generalizing acc with
  | nil => exact ⟨t, h, rfl⟩
  | cons y l ih =>
    obtain ⟨u, hu, htu⟩ := ih h
    obtain ⟨w, hw, huw⟩ := immItem_vitals hu
    exact ⟨w, hw, htu.trans huw⟩

@[simp] theorem setNow_vitals (c : Caller) (r : Req) (s : State) : vitals (setNow c r s).2 = vitals s := by
  unfold setNow
  split
  · rfl
  · split
    · rfl
    next s1 h =>
      obtain ⟨u, hu, ht⟩ := immItems_vitals h
      cases hu
      simpa using ht

@[simp] theorem setOp_vitals (c : Caller) (r : Req) (s : State) : vitals (setOp c r s).2 = vitals s := by
  unfold setOp
  repeat' split
  all_goals simp

@[simp] theorem tableNow_vitals (c : Caller) (r : Req) (t : TableSpec) (s : State) : vitals (tableNow c r t s).2 = vitals s := by
  unfold tableNow
  dsimp only
  repeat' split
  all_goals simp

@[simp] theorem tableWriteOp_vitals (c : Caller) (r : Req) (s : State) : vitals (tableWriteOp c r s).2 = vitals s := by
  unfold tableWriteOp
  repeat' split
  all_goals simp

@[simp] theorem txnOpenOp_vitals (c : Caller) (r : Req) (s : State) : vitals (txnOpenOp c r s).2 = vitals s := by simp [txnOpenOp]

@[simp] theorem txnCommitOp_vitals (c : Caller) (r : Req) (s : State) : vitals (txnCommitOp c r s).2 = vitals s := by
  unfold txnCommitOp
  dsimp only
  split
  · rfl
  split
  · rfl
  split
  · rfl
  split
  · simp
  · split
    · rfl
    next h => simpa using commitHere_vitals h

@[simp] theorem txnAbortOp_vitals (c : Caller) (r : Req) (s : State) : vitals (txnAbortOp c r s).2 = vitals s := by
  unfold txnAbortOp
  split <;> simp

@[simp] theorem streamBindOp_vitals (c : Caller) (r : Req) (s : State) : vitals (streamBindOp c r s).2 = vitals s := by
  unfold streamBindOp
  repeat' split
  all_goals simp

@[simp] theorem rewindOp_vitals (c : Caller) (r : Req) (s : State) : vitals (rewindOp c r s).2 = vitals s := by
  unfold rewindOp
  repeat' split
  all_goals simp

@[simp] theorem execTxnIdleExpiry_vitals (t : Time) (s : State) : vitalsOf (execTxnIdleExpiry t s) = some (vitals s) := by
  simp [execTxnIdleExpiry]

@[simp] theorem armOp_vitals (c : Caller) (r : Req) (s : State) : vitals (armOp c r s).2 = vitals s := by
  unfold armOp
  repeat' split
  all_goals simp

@[simp] theorem orderBack_vitals (s : State) : vitals (orderBack s) = vitals s := by simp [orderBack]

@[simp] theorem confirmFails_vitals (n : Nat) (st : Status) (s : State) : vitals (confirmFails n st s).2 = vitals s := by
  simp [confirmFails]

@[simp] theorem confirmOp_vitals (c : Caller) (r : Req) (s : State) : vitals (confirmOp c r s).2 = vitals s := by
  unfold confirmOp
  repeat' split
  all_goals simp

@[simp] theorem execGet_vitals (r : Req) (s : State) : vitalsOf (execGet r s) = some (vitals s) := by simp [execGet]
@[simp] theorem execSet_vitals (r : Req) (s : State) : vitalsOf (execSet r s) = some (vitals s) := by simp [execSet]

@[simp] theorem execSnapshotGet_vitals (r : Req) (s : State) : vitalsOf (execSnapshotGet r s) = some (vitals s) := by
  simp [execSnapshotGet]

@[simp] theorem execTableWrite_vitals (r : Req) (s : State) : vitalsOf (execTableWrite r s) = some (vitals s) := by
  simp [execTableWrite]

@[simp] theorem execTableRead_vitals (r : Req) (s : State) : vitalsOf (execTableRead r s) = some (vitals s) := by
  simp [execTableRead]

@[simp] theorem execTxnOpen_vitals (r : Req) (s : State) : vitalsOf (execTxnOpen r s) = some (vitals s) := by simp [execTxnOpen]

@[simp] theorem execTxnCommitAt_vitals (r : Req) (s : State) : vitalsOf (execTxnCommitAt r s) = some (vitals s) := by
  simp [execTxnCommitAt]

@[simp] theorem execTxnAbort_vitals (r : Req) (s : State) : vitalsOf (execTxnAbort r s) = some (vitals s) := by
  simp [execTxnAbort]

@[simp] theorem execStreamBind_vitals (r : Req) (s : State) : vitalsOf (execStreamBind r s) = some (vitals s) := by
  simp [execStreamBind]

@[simp] theorem execRewind_vitals (r : Req) (s : State) : vitalsOf (execRewind r s) = some (vitals s) := by simp [execRewind]

@[simp] theorem execTimRtcSet_vitals (r : Req) (s : State) : vitalsOf (execTimRtcSet r s) = some (vitals s) := by
  simp [execTimRtcSet]

@[simp] theorem execFixSceneRecall_vitals (r : Req) (s : State) : vitalsOf (execFixSceneRecall r s) = some (vitals s) := by
  simp [execFixSceneRecall]

@[simp] theorem execFixSceneRelease_vitals (r : Req) (s : State) : vitalsOf (execFixSceneRelease r s) = some (vitals s) := by
  simp [execFixSceneRelease]

@[simp] theorem execFixFaultClear_vitals (r : Req) (s : State) : vitalsOf (execFixFaultClear r s) = some (vitals s) := by
  simp [execFixFaultClear]

@[simp] theorem execFixFloorSet_vitals (r : Req) (s : State) : vitalsOf (execFixFloorSet r s) = some (vitals s) := by
  simp [execFixFloorSet]

@[simp] theorem execFixEnableSet_vitals (r : Req) (s : State) : vitalsOf (execFixEnableSet r s) = some (vitals s) := by
  simp [execFixEnableSet]

@[simp] theorem execDmxRdmReq_vitals (r : Req) (s : State) : vitalsOf (execDmxRdmReq r s) = some (vitals s) := by
  simp [execDmxRdmReq]

@[simp] theorem execDmxRdmDisc_vitals (r : Req) (s : State) : vitalsOf (execDmxRdmDisc r s) = some (vitals s) := by
  simp [execDmxRdmDisc]

@[simp] theorem execDalCmd_vitals (r : Req) (s : State) : vitalsOf (execDalCmd r s) = some (vitals s) := by simp [execDalCmd]

@[simp] theorem execDalAddressRun_vitals (r : Req) (s : State) : vitalsOf (execDalAddressRun r s) = some (vitals s) := by
  simp [execDalAddressRun]

@[simp] theorem execRadTx_vitals (r : Req) (s : State) : vitalsOf (execRadTx r s) = some (vitals s) := by simp [execRadTx]

@[simp] theorem execQueFlush_vitals (r : Req) (s : State) : vitalsOf (execQueFlush r s) = some (vitals s) := by
  simp [execQueFlush]

@[simp] theorem execRedSwitch_vitals (r : Req) (s : State) : vitalsOf (execRedSwitch r s) = some (vitals s) := by
  simp [execRedSwitch]

@[simp] theorem execRedUnfitClear_vitals (r : Req) (s : State) : vitalsOf (execRedUnfitClear r s) = some (vitals s) := by
  simp [execRedUnfitClear]

@[simp] theorem execCalStart_vitals (r : Req) (s : State) : vitalsOf (execCalStart r s) = some (vitals s) := by
  simp [execCalStart]

@[simp] theorem execImageArm_vitals (r : Req) (s : State) : vitalsOf (execImageArm r s) = some (vitals s) := by
  simp [execImageArm]

@[simp] theorem execImageDisarm_vitals (r : Req) (s : State) : vitalsOf (execImageDisarm r s) = some (vitals s) := by
  simp [execImageDisarm]

@[simp] theorem execImageConfirm_vitals (r : Req) (s : State) : vitalsOf (execImageConfirm r s) = some (vitals s) := by
  simp [execImageConfirm]

/-! ### Relay messages -/

@[simp] theorem passOn_vitals (s : State) (port kind src dst : Nat) (h : RelayHdr) (body : List Byte) :
    vitals (passOn s port kind src dst h body) = vitals s :=
  (passOn_changes _ _ _ _ _ _ _).vitals (by decide)

@[simp] theorem tookDown_vitals (s : State) (len : Nat) : vitals (tookDown s len) = vitals s := by simp [tookDown]
@[simp] theorem tookUp_vitals (s : State) (len : Nat) : vitals (tookUp s len) = vitals s := by simp [tookUp]

@[simp] theorem endSpread_vitals (s : State) (x : Relay) : vitals (endSpread s x) = vitals s := by
  unfold endSpread
  dsimp only
  repeat' split
  all_goals simp

@[simp] theorem execRelayResponse_vitals (h : RelayHdr) (body : List Byte) (s0 : State) :
    vitalsOf (execRelayResponse h body s0) = some (vitals s0) := by
  unfold execRelayResponse
  dsimp only
  repeat' split
  all_goals simp

@[simp] theorem execRelayStage_vitals (h : RelayHdr) (frame mode : Nat) (items : List (Nat × Req)) (s0 : State) :
    vitalsOf (execRelayStage h frame mode items s0) = some (vitals s0) := by simp [execRelayStage]

@[simp] theorem execRelayVerdict_vitals (h : RelayHdr) (frame : Nat) (detail : List Byte) (s0 : State) :
    vitalsOf (execRelayVerdict h frame detail s0) = some (vitals s0) := by
  unfold execRelayVerdict
  dsimp only
  repeat' split
  all_goals simp

@[simp] theorem execCommitReceived_vitals (txnId node j : Nat) (s : State) :
    vitalsOf (execCommitReceived txnId node j s) = some (vitals s) := by
  unfold execCommitReceived
  dsimp only
  repeat' split
  all_goals simp

@[simp] theorem execRelayDiscard_vitals (h : RelayHdr) (s0 : State) : vitalsOf (execRelayDiscard h s0) = some (vitals s0) := by
  simp [execRelayDiscard]

@[simp] theorem dropAsked_vitals (s : State) (node : Nat) : vitals (dropAsked s node) = vitals s := by simp [dropAsked]

@[simp] theorem askAgain_vitals (s : State) (node : Nat) : vitals (askAgain s node) = vitals s := by
  unfold askAgain
  split <;> simp

@[simp] theorem memberFound_vitals (s : State) (m : MemberIn) : vitals (memberFound s m) = vitals s := by simp [memberFound]

@[simp] theorem execReportReceived_vitals (x : ReportIn) (s : State) : vitalsOf (execReportReceived x s) = some (vitals s) := by
  simp [execReportReceived]

@[simp] theorem execRelayNotify_vitals (h : RelayHdr) (bytes : List Byte) (s0 : State) :
    vitalsOf (execRelayNotify h bytes s0) = some (vitals s0) := by simp [execRelayNotify]

end Sys2Proof.Machine
end

section
/-! The power invariant (R25, R26, R474): what the moves of the device state do to the vitals, that each command which makes such a
move keeps the invariant, and O4. -/

namespace Sys2Proof.Machine

/-! ### Moves of the device state -/

theorem PowerInv.ite {c : Prop} [Decidable c] {s t : State} (h : c → PowerInv s) (k : ¬c → PowerInv t) :
    PowerInv (if c then s else t) := by
  split
  next hc => exact h hc
  next hc => exact k hc

theorem rails_of_vitals {s : State} {v : Vitals} (h : vitals s = v) : s.dev.rails = v.rails := congrArg Vitals.rails h

theorem state_of_vitals {s : State} {v : Vitals} (h : vitals s = v) : s.dev.state = v.state := congrArg Vitals.state h

/-- OFF and STANDBY have neither a SAFE cause nor edges. -/
theorem PowerInv.unpowered {s : State} (hs : PowerInv s) (h : s.dev.state.powered = false) :
    s.dev.safeCause = 0 ∧ s.frm.running = false := by
  obtain ⟨hc, he, _⟩ := hs
  generalize s.dev.state = x at *
  cases x <;> simp_all [DevState.powered, DevState.live]

/-- OFF and STANDBY without a SAFE cause and without edges. -/
theorem Vitals.Sound.unpowered {v : Vitals} (h : v.state.powered = false) (hc : v.safeCause = 0) (he : v.running = false) : v.Sound := by
  refine ⟨⟨fun hs => ?_, fun hn => (hn hc).elim⟩, fun hr => ?_, fun hp => ?_⟩
  · rw [hs] at h; cases h
  · rw [he] at hr; cases hr
  · rw [h] at hp; cases hp

@[simp] theorem toState_vitals (s : State) (x : DevState) : vitals (toState s x) = { vitals s with state := x } := by
  unfold toState
  split
  next h => rw [← h]; rfl
  next => exact (raise_vitals _ _).trans ((notify_vitals _ _ _).trans rfl)

theorem beginEdges_vitals (s : State) (n : Nat) (e : Time) (delta : Int) :
    vitals (beginEdges s n e delta) = { vitals s with running := true } := rfl

theorem edgesUp_vitals (s : State) :
    vitals (edgesUp s) = vitals s ∨ s.dev.state.live = true ∧ vitals (edgesUp s) = { vitals s with running := true } := by
  unfold edgesUp
  split
  next => exact .inl rfl
  next h => exact .inr ⟨by simp_all, beginEdges_vitals s _ _ _⟩

theorem followFrom_vitals (s : State) (k : Nat) (e : Time) : vitals (followFrom s k e) = { vitals s with running := true } := by
  unfold followFrom
  dsimp only
  rw [beginEdges_vitals, vitals_mk rfl rfl rfl rfl rfl, timedBegin_vitals]

/-- Edges begin in a state that has them. -/
theorem Vitals.Sound.run {v : Vitals} (h : v.Sound) (hl : v.state.live = true) : ({ v with running := true } : Vitals).Sound :=
  ⟨h.1, fun _ => hl, h.2.2⟩

theorem enterSafe_vitals (s : State) (c : Nat) : vitals (enterSafe s c) = (vitals s).halt .safe c := by
  unfold enterSafe
  rw [logEv_vitals, toState_vitals, ← noteDiscards_vitals s]
  rfl

/-- SAFE with a cause of Table 21-5 and the main rails in range. -/
theorem enterSafe_sound {s : State} {c : Nat} (hc : c ≠ 0) (h : s.dev.rails = true) : PowerInv (enterSafe s c) := by
  rw [powerInv_iff, enterSafe_vitals]
  exact Vitals.Sound.halt (by simp [hc]) fun _ => h

theorem restart_vitals (s : State) : vitals (restart s) = { (vitals s).halt .dawn 0 with fab := State.reset.fab } := rfl

/-- A restart with the main rails in range. -/
theorem restart_sound {s : State} (h : s.dev.rails = true) : PowerInv (restart s) := by
  rw [powerInv_iff, restart_vitals]
  exact Vitals.Sound.halt (v := vitals s) (x := .dawn) (c := 0) (by decide) fun _ => h

/-- A dawn with the main rails in range. -/
theorem toDawn_sound {s : State} (h : s.dev.rails = true) : PowerInv (toDawn s) :=
  (restart_sound h).of_vitals (islandDawn_vitals (restart s))

theorem wakeToDawn_sound {s : State} (h : s.dev.rails = true) : PowerInv (wakeToDawn s) := toDawn_sound h

theorem toStandby_vitals (s : State) (dusk : Bool) : vitals (toStandby s dusk) = (vitals s).halt .standby 0 := rfl

/-- STANDBY needs no rails. -/
theorem toStandby_sound (s : State) (dusk : Bool) : PowerInv (toStandby s dusk) := by
  rw [powerInv_iff, toStandby_vitals]
  exact Vitals.Sound.halt (by decide) fun h => nomatch h

theorem enterDusk_vitals (s : State) (k : Nat) (last : Store × FrameOut × Nat) :
    vitals (enterDusk s k last) = (vitals s).halt .dusk 0 := by
  have h : vitals (duskLease (if s.dev.state = .run then sacnTerminate s last else s) k) = vitals s := by simp
  unfold enterDusk
  rw [partialMinute_vitals, toState_vitals, loadRtc_vitals, ← h]
  rfl

theorem enterDusk_sound {s : State} {k : Nat} {last : Store × FrameOut × Nat} (h : s.dev.rails = true) :
    PowerInv (enterDusk s k last) := by
  rw [powerInv_iff, enterDusk_vitals]
  exact Vitals.Sound.halt (by decide) fun _ => h

theorem dawnFails_vitals (s : State) (step code detail : Nat) : vitals (dawnFails s step code detail) = (vitals s).halt .safe 1 := by
  unfold dawnFails
  rw [enterSafe_vitals]
  simp

theorem dawnFails_sound {s : State} {step code detail : Nat} (h : s.dev.rails = true) : PowerInv (dawnFails s step code detail) := by
  rw [powerInv_iff, dawnFails_vitals]
  exact Vitals.Sound.halt (by decide) fun _ => h

/-- The end of a dawn that passed: READY, with edges or without. -/
theorem dawnPasses_vitals (s : State) : ∃ b, vitals (dawnPasses s) = { vitals s with state := .ready, running := b } := by
  have h (u : State) (hu : vitals u = vitals s) : ∃ b, vitals (refreshLive (edgesUp (raise (toState u .ready) intDawn)))
      = { vitals s with state := .ready, running := b } := by
    have hr : vitals (raise (toState u .ready) intDawn) = { vitals s with state := .ready } := by
      rw [raise_vitals, toState_vitals, hu]
    rw [refreshLive_vitals]
    rcases edgesUp_vitals (raise (toState u .ready) intDawn) with he | ⟨_, he⟩
    · exact ⟨_, he.trans hr⟩
    · exact ⟨true, by rw [he, hr]⟩
  unfold dawnPasses
  exact h _ (by simp)

theorem dawnPasses_sound {s : State} (hs : PowerInv s) (h : s.dev.state = .dawn) : PowerInv (dawnPasses s) := by
  obtain ⟨hc, _, hr⟩ := hs
  obtain ⟨b, hb⟩ := dawnPasses_vitals s
  have h0 : s.dev.safeCause = 0 := by simpa [h] using hc
  rw [powerInv_iff, hb]
  exact ⟨⟨nofun, fun hn => (hn h0).elim⟩, fun _ => rfl, fun _ => hr (by rw [h]; rfl)⟩

theorem activate_vitals (s : State) : vitals (activate s) = { vitals s with running := false } := by
  unfold activate
  dsimp only
  rw [vitals_mk rfl rfl rfl rfl rfl, toUpd_vitals]
  rfl

theorem fabricEdge_vitals (s : State) (m : Nat) (presented : Bool) :
    vitals (fabricEdge s m presented) = { vitals s with fab := (fabricEdge s m presented).fab } := rfl

theorem dawnD6_vitals (s : State) (i : DawnIn) :
    vitals (dawnD6 s i) = { vitals s with fab := { margin := i.margin % 65536, min := i.margin % 65536, low := 0 } } := by
  unfold dawnD6
  rw [loadTime_vitals, ← calDawn_vitals s i.badLines]
  generalize calDawn s i.badLines = t
  rfl

/-! ### Moves among READY, RUN and SHADOW -/

/-- Another of the three states is entered. -/
theorem liveStep_to {s t : State} {x : DevState} (hx : x.live = true) (h : vitals t = { vitals s with state := x }) :
    (vitals s).LiveStep (vitals t) := by
  rw [h]
  exact ⟨hx, rfl⟩

/-- The state is kept. -/
theorem liveStep_same {s t : State} (hl : s.dev.state.live = true) (h : vitals t = vitals s) : (vitals s).LiveStep (vitals t) := by
  rw [h]
  exact ⟨hl, rfl⟩

theorem giveUp_live (s : State) (k : Nat) : (vitals s).LiveStep (vitals (giveUp s k)) :=
  liveStep_to (x := .shadow) rfl (by simp [giveUp])

theorem leaveRun_live (s : State) (k : Nat) : (vitals s).LiveStep (vitals (leaveRun s k)) :=
  liveStep_to (x := .ready) rfl (by simp [leaveRun])

theorem runEdge_live {s : State} (hl : s.dev.state.live = true) (f : Frame) : (vitals s).LiveStep (vitals (runEdge s f)) := by
  unfold runEdge
  dsimp only
  split
  · split
    · exact liveStep_to (x := .shadow) rfl (by simp)
    · exact liveStep_to (x := .run) rfl (by simp)
  · split
    · exact leaveRun_live s f.num
    · exact liveStep_same hl rfl

theorem roleEdge_live {s : State} (hl : s.dev.state.live = true) (k : Nat) : (vitals s).LiveStep (vitals (roleEdge s k)) := by
  unfold roleEdge
  split
  · dsimp only
    split
    · split
      · exact liveStep_to (x := .run) rfl (by simp)
      · split
        · exact liveStep_to (x := .shadow) rfl (by simp)
        · exact liveStep_same hl (by simp)
    · exact liveStep_same hl rfl
  · exact liveStep_same hl rfl

/-- The lease: a new active enters RUN, and an active that loses or releases the lease SHADOW. -/
theorem leaseEdge_live {s : State} (hl : s.dev.state.live = true) (k : Nat) : (vitals s).LiveStep (vitals (leaseEdge s k)) := by
  unfold leaseEdge
  split
  · exact liveStep_same hl rfl
  · extract_lets _ _ taken cleared s1 s2 lost _
    have h1 : (vitals s).LiveStep (vitals s1) := by
      unfold s1
      split
      · split
        · exact liveStep_to (x := .run) rfl (by simp [cleared, taken])
        · exact liveStep_same hl rfl
      · exact liveStep_same hl rfl
    have h2 : vitals s2 = vitals s1 := by simp [s2]
    split
    · exact h1
    · split
      · exact h1.trans (h2 ▸ giveUp_live s2 k)
      · exact h1.trans (liveStep_same h1.live (by simp [h2]))

theorem stateEdge_live {s : State} (hl : s.dev.state.live = true) (f : Frame) : (vitals s).LiveStep (vitals (stateEdge s f)) := by
  have h1 := leaseEdge_live hl f.num
  have h2 := h1.trans (roleEdge_live h1.live f.num)
  have h3 := h2.trans (runEdge_live h2.live f)
  unfold stateEdge
  simpa using h3

/-- The edge of a node that goes on: of the vitals, the device state and the fabric readings may change. -/
theorem edgeOn_live {s : State} (hl : s.dev.state.live = true) (f : Frame) (e : Time) (i : EdgeIn) :
    (vitals s).LiveStep (vitals (edgeOn s f e i)) := by
  have hst (u : State) (hu : vitals u = vitals s) : (vitals s).LiveStep (vitals (stateEdge u f)) := by
    rw [← hu]
    exact stateEdge_live ((congrArg (·.state.live) hu).trans hl) f
  unfold edgeOn
  extract_lets o shownO len xs s1 s2 s3 s4 s5 s6
  have h2 : (vitals s).LiveStep (vitals s2) := hst _ (by simp [s1])
  have h6 : vitals s6 = vitals s2 := by simp [s6, s5, s4, s3]
  refine ⟨?_, ?_⟩
  · simp [fabricEdge_vitals, h6, h2.live]
  · rw [calStartEdge_vitals, calEdge_vitals, fabricEdge_vitals, h6, h2.same]

/-! ### The latch -/

/-- SAFE with cause 4, where the domain ceilings cannot be held (R390). -/
theorem holdCeilings_vitals (s : State) :
    vitals (if unholdable s then enterSafe { s with eng := { s.eng with above := 0 } } 4 else s) = vitals s
    ∨ vitals (if unholdable s then enterSafe { s with eng := { s.eng with above := 0 } } 4 else s) = (vitals s).halt .safe 4 := by
  split
  · exact .inr (by rw [enterSafe_vitals, vitals_mk rfl rfl rfl rfl rfl])
  · exact .inl rfl

/-- A latch leaves the vitals alone, or enters SAFE. -/
theorem latchFrame_vitals (s : State) : vitals (latchFrame s) = vitals s ∨ vitals (latchFrame s) = (vitals s).halt .safe 4 := by
  have h (t : State) (ht : vitals t = vitals s) := ht ▸ holdCeilings_vitals t
  unfold latchFrame
  exact h _ (by simp)

/-- Before an edge: latches, slips and sACN leave the vitals alone, or a latch enters SAFE. -/
theorem lateLatch_sound {s : State} (hs : PowerInv s) : PowerInv (lateLatch s) := by
  unfold lateLatch
  split
  next h =>
    have hr : s.frm.running = true := by simp_all [latchReady]
    rcases latchFrame_vitals (advance s (latchInstant s)) with hv | hv
    · exact hs.of_vitals (hv.trans (advance_vitals s _))
    · rw [powerInv_iff, hv]
      exact Vitals.Sound.halt (by decide) fun _ => hs.rails (powered_of_live (hs.live hr))
  next => exact hs

theorem execFrameLatch_sound {s : State} (hs : PowerInv s) : SoundAfter (execFrameLatch s) :=
  (soundAfter_next _).mpr (lateLatch_sound hs)

theorem beforeEdge_sound {s : State} (hs : PowerInv s) : PowerInv (beforeEdge s) :=
  (lateLatch_sound (lateLatch_sound (lateLatch_sound hs))).of_vitals (by simp [beforeEdge])

/-! ### Frames -/

theorem activate_sound {s : State} (hs : PowerInv s) : PowerInv (activate s) := by
  obtain ⟨hc, _, hr⟩ := hs
  rw [powerInv_iff, activate_vitals]
  exact ⟨hc, nofun, hr⟩

theorem edgeOn_sound {s : State} (hs : PowerInv s) (hl : s.dev.state.live = true) (f : Frame) (e : Time) (i : EdgeIn) :
    PowerInv (edgeOn s f e i) :=
  Vitals.Sound.liveStep (v := vitals s) hs hl (edgeOn_live hl f e i)

/-- FRAME_EDGE: edges run in READY, RUN and SHADOW alone, so its moves start in one of these, with the main rails in range. -/
theorem execFrameEdge_sound {s : State} (hs : PowerInv s) (i : EdgeIn) : SoundAfter (execFrameEdge i s) := by
  unfold execFrameEdge
  rw [soundAfter_next]
  extract_lets s1 e k s2
  have h1 : PowerInv s1 := beforeEdge_sound hs
  have h2 : PowerInv s2 := h1.of_vitals (advance_vitals s1 e)
  have hrun2 : s2.frm.running = s1.frm.running := rfl
  clear_value s2 s1
  refine PowerInv.ite (fun _ => hs) fun _ => PowerInv.ite (fun _ => h1) fun hrun => ?_
  have hl := h2.live (hrun2.trans (by simpa using hrun))
  have hr := h2.rails (powered_of_live hl)
  refine PowerInv.ite (fun _ => toDawn_sound hr) fun _ => PowerInv.ite (fun _ => enterDusk_sound hr) fun _ => ?_
  exact PowerInv.ite (fun _ => activate_sound h2) fun _ => edgeOn_sound h2 hl _ _ _

theorem roleEdge_sound {s : State} (hs : PowerInv s) (hrun : s.frm.running = true) (k : Nat) : PowerInv (roleEdge s k) :=
  Vitals.Sound.liveStep (v := vitals s) hs (hs.live hrun) (roleEdge_live (hs.live hrun) k)

theorem execRelayRole_sound {s : State} (hs : PowerInv s) (h : RelayHdr) (role edge : Nat) : SoundAfter (execRelayRole h role edge s) := by
  unfold execRelayRole
  rw [soundAfter_next]
  refine PowerInv.ite (fun _ => ?_) fun _ => hs.of_vitals (by simp)
  refine PowerInv.ite (fun hrun => ?_) fun _ => hs.of_vitals (by simp)
  exact roleEdge_sound (hs.of_vitals (by simp)) hrun _

theorem edgesUp_sound {s : State} (hs : PowerInv s) : PowerInv (edgesUp s) := by
  rcases edgesUp_vitals s with he | ⟨hl, he⟩
  · exact hs.of_vitals he
  · rw [powerInv_iff, he]
    exact Vitals.Sound.run hs hl

theorem execStkRoleDecide_sound {s : State} (hs : PowerInv s) : SoundAfter (execStkRoleDecide s) := by
  unfold execStkRoleDecide
  rw [soundAfter_next]
  refine PowerInv.ite (fun _ => ?_) fun _ => hs
  exact PowerInv.ite (fun _ => hs) fun _ => edgesUp_sound (hs.of_vitals (by simp))

theorem followFrom_sound {s : State} (hs : PowerInv s) (hl : s.dev.state.live = true) (k : Nat) (e : Time) :
    PowerInv (followFrom s k e) := by
  rw [powerInv_iff, followFrom_vitals]
  exact Vitals.Sound.run hs hl

/-- A member's edges begin in a state that has them. -/
theorem hearEdge_sound {s : State} (hs : PowerInv s) (c : Prop) [Decidable c] (k : Nat) (e : Time) :
    PowerInv (if s.frm.running then (if c then placeNext s e else s)
      else if isMember s ∧ s.dev.state.live then followFrom s k e else s) := by
  refine PowerInv.ite (fun _ => ?_) fun _ => ?_
  · exact PowerInv.ite (fun _ => hs.of_vitals (placeNext_vitals s e)) fun _ => hs
  · exact PowerInv.ite (fun h => followFrom_sound hs h.2 k e) fun _ => hs

theorem execEdgeReceived_sound {s : State} (hs : PowerInv s) (k : Nat) (e : Time) (holdover crcOk : Bool) :
    SoundAfter (execEdgeReceived k e holdover crcOk s) := by
  have hu (u : State) (hu : vitals u = vitals s) (c : Prop) [Decidable c] := hearEdge_sound (hs.of_vitals hu) c k e
  unfold execEdgeReceived
  rw [soundAfter_next]
  refine PowerInv.ite (fun _ => hs.of_vitals (by simp)) fun _ => PowerInv.ite (fun _ => hs) fun _ => ?_
  refine PowerInv.ite (fun _ => PowerInv.of_vitals (hu _ ?_ _) (casTime_vitals _ _ _ _)) fun _ => hu _ ?_ _
  all_goals simp
/-! ### Supplies, reset and wake -/

theorem PowerInv.of_unpowered {s : State} (h : s.dev.state.powered = false) (hc : s.dev.safeCause = 0) (he : s.frm.running = false) :
    PowerInv s := Vitals.Sound.unpowered (v := vitals s) h hc he

theorem execVbatRise_sound {s : State} (hs : PowerInv s) : SoundAfter (execVbatRise s) := by
  unfold execVbatRise
  rw [soundAfter_next]
  refine PowerInv.ite (fun h => wakeToDawn_sound h.2.1) fun _ => ?_
  by_cases ho : s.dev.state = .off
  · obtain ⟨hc, he⟩ := hs.unpowered (by rw [ho]; rfl)
    exact PowerInv.of_unpowered (by simp [ho, DevState.powered]) hc he
  · exact hs.of_vitals (by simp [vitals, ho])

/-- VBAT_LOSS leads to OFF only where the main rails are out of range already, where no powered state is. -/
theorem execVbatLoss_sound {s : State} (hs : PowerInv s) : SoundAfter (execVbatLoss s) := by
  unfold execVbatLoss
  rw [soundAfter_next]
  by_cases hr : s.dev.rails = true
  · exact hs.of_vitals (by simp [vitals, hr])
  · obtain ⟨hc, he⟩ := hs.unpowered (by simpa using mt hs.rails hr)
    exact PowerInv.of_unpowered (by simp [hr, DevState.powered]) hc he

theorem execMainRailsInRange_sound {s : State} (hs : PowerInv s) (bootSrc : Nat) (stackEn safeSel : Bool) :
    SoundAfter (execMainRailsInRange bootSrc stackEn safeSel s) := by
  unfold execMainRailsInRange
  rw [soundAfter_next]
  refine PowerInv.ite (fun _ => wakeToDawn_sound rfl) fun _ => ?_
  obtain ⟨hc, he, _⟩ := hs
  exact ⟨hc, he, fun _ => rfl⟩

theorem execMainRailLoss_sound {s : State} (hs : PowerInv s) (t : Time) : SoundAfter (execMainRailLoss t s) := by
  unfold execMainRailLoss
  rw [soundAfter_next]
  refine PowerInv.ite (fun _ => toStandby_sound _ _) fun hp => ?_
  have hp : s.dev.state.powered = false := by simpa using hp
  obtain ⟨hc, he⟩ := hs.unpowered hp
  exact PowerInv.ite (fun _ => PowerInv.of_unpowered hp hc he) fun _ => PowerInv.of_unpowered rfl hc he

theorem execResetNAssert_sound {s : State} (hs : PowerInv s) (t : Time) : SoundAfter (execResetNAssert t s) := by
  have hv (u : State) (hu : vitals u = vitals s) : PowerInv (if s.dev.state.powered then restart u else u) :=
    PowerInv.ite (fun hp => restart_sound ((rails_of_vitals hu).trans (hs.rails hp))) fun _ => hs.of_vitals hu
  have h1 : vitals (if s.dev.state = .safe then logEv (advance s t) 0x0E02 0 0 0 else advance s t) = vitals s := by
    split <;> simp
  unfold execResetNAssert
  rw [soundAfter_next]
  exact hv _ h1

theorem execResetNRelease_sound {s : State} (hs : PowerInv s) (bootSrc : Nat) (stackEn safeSel : Bool) :
    SoundAfter (execResetNRelease bootSrc stackEn safeSel s) := by
  unfold execResetNRelease
  rw [soundAfter_next]
  refine PowerInv.ite (fun _ => hs) fun _ => PowerInv.ite (fun hp => toDawn_sound (hs.rails hp)) fun _ => ?_
  exact PowerInv.ite (fun h => wakeToDawn_sound h.2.1) fun _ => hs.of_vitals (by simp)

theorem execWakeEvent_sound {s : State} (hs : PowerInv s) (input : Nat) (rising : Bool) (heldMs rtcSec : Nat) :
    SoundAfter (execWakeEvent input rising heldMs rtcSec s) := by
  unfold execWakeEvent
  rw [soundAfter_next]
  refine PowerInv.ite (fun _ => hs) fun _ => PowerInv.ite (fun h => wakeToDawn_sound h.1) fun _ => ?_
  exact PowerInv.ite (fun _ => hs) fun _ => hs.of_vitals (by simp)

/-! ### Dawn, dusk and SAFE -/

/-- D6 measures the fabric margin alone. -/
theorem dawnD6_sound {s : State} (hs : PowerInv s) (i : DawnIn) : PowerInv (dawnD6 s i) := by
  rw [powerInv_iff, dawnD6_vitals]
  exact hs

theorem dawnD6_rails (s : State) (i : DawnIn) : (dawnD6 s i).dev.rails = s.dev.rails := by
  rw [rails_of_vitals (dawnD6_vitals s i)]
  rfl

theorem dawnD6_state (s : State) (i : DawnIn) : (dawnD6 s i).dev.state = s.dev.state := by
  rw [state_of_vitals (dawnD6_vitals s i)]
  rfl

/-- DAWN_END: a step that fails leads to SAFE with cause 1, a fallback to a new dawn, and a dawn that passed to READY. The rails stay in
range all along. -/
theorem execDawnEnd_sound {s : State} (hs : PowerInv s) (i : DawnIn) : SoundAfter (execDawnEnd i s) := by
  unfold execDawnEnd
  rw [soundAfter_next]
  refine PowerInv.ite (fun _ => hs) fun hc => ?_
  obtain ⟨hd, -, hr⟩ : s.dev.state = .dawn ∧ _ ∧ s.dev.rails = true := by simpa using hc
  extract_lets _ _ s0 given first b s6
  have h0 : vitals s0 = vitals s := vitals_mk rfl rfl rfl rfl rfl
  have hb : vitals b.1 = vitals s := (bootD3_vitals s0).trans h0
  have e6 : s6 = dawnD6 b.1 i := rfl
  clear_value s6 b first s0
  have hr0 : s0.dev.rails = true := (rails_of_vitals h0).trans hr
  have hrb : b.1.dev.rails = true := (rails_of_vitals hb).trans hr
  have h6 : PowerInv s6 := e6 ▸ dawnD6_sound (hs.of_vitals hb) i
  have hr6 : s6.dev.rails = true := by rw [e6, dawnD6_rails, hrb]
  have hd6 : s6.dev.state = .dawn := by rw [e6, dawnD6_state, state_of_vitals hb, ← hd]; rfl
  rcases first with _ | ⟨n, c, d⟩
  case some => exact dawnFails_sound hr0
  generalize given 3 = g3
  rcases g3 with _ | ⟨c, d⟩
  case some => exact dawnFails_sound hr0
  refine PowerInv.ite (fun _ => hs) fun _ => ?_
  rcases b with ⟨u, _ | _ | _⟩
  case again => exact toDawn_sound hrb
  case bad => exact dawnFails_sound hrb
  generalize firstSome (fun n => (given n).map fun x => (n, x)) [4, 5] = g5
  rcases g5 with _ | ⟨n, c, d⟩
  case some => exact dawnFails_sound hrb
  generalize given 6 = g6
  rcases g6 with _ | ⟨c, d⟩
  case some => exact dawnFails_sound hr6
  refine PowerInv.ite (fun _ => dawnFails_sound hr6) fun _ => ?_
  generalize given 7 = g7
  rcases g7 with _ | ⟨c, d⟩
  case some => exact dawnFails_sound hr6
  exact dawnPasses_sound h6 hd6

theorem execHostLoadTimeout_sound {s : State} (hs : PowerInv s) : SoundAfter (execHostLoadTimeout s) := by
  unfold execHostLoadTimeout
  rw [soundAfter_next]
  refine PowerInv.ite (fun h => dawnFails_sound (hs.rails ?_)) fun _ => hs
  have hd : s.dev.state = .dawn := by simp_all [hostLoads]
  rw [hd]
  rfl

theorem execDuskEntry_sound {s : State} (hs : PowerInv s) : SoundAfter (execDuskEntry s) := by
  have h1 : (reachEdge s).dev.rails = s.dev.rails := rails_of_vitals (reachEdge_vitals s)
  unfold execDuskEntry
  rw [soundAfter_next]
  refine PowerInv.ite (fun _ => hs) fun _ => PowerInv.ite (fun h => enterDusk_sound (hs.rails (by rw [h]; rfl))) fun _ => ?_
  refine PowerInv.ite (fun h => enterDusk_sound ?_) fun _ => hs
  exact h1.trans (hs.rails (powered_of_live h.1))

theorem execDuskComplete_sound {s : State} (hs : PowerInv s) (t : Time) : SoundAfter (execDuskComplete t s) := by
  unfold execDuskComplete
  rw [soundAfter_next]
  exact PowerInv.ite (fun _ => toStandby_sound _ _) fun _ => hs.of_vitals (by simp)

theorem execSelectorWriteReset_sound {s : State} (hs : PowerInv s) : SoundAfter (execSelectorWriteReset s) := by
  unfold execSelectorWriteReset
  rw [soundAfter_next]
  refine PowerInv.ite (fun _ => hs) fun h => toDawn_sound (hs.rails ?_)
  simp_all

theorem execOvertemp_sound {s : State} (hs : PowerInv s) : SoundAfter (execOvertemp s) := by
  unfold execOvertemp
  rw [soundAfter_next]
  exact PowerInv.ite (fun h => enterSafe_sound (by decide) (hs.rails (powered_of_live h.1))) fun _ => hs

theorem execSelftestFailure_sound {s : State} (hs : PowerInv s) (test : Nat) (noise : Bool) :
    SoundAfter (execSelftestFailure test noise s) := by
  have hv (u : State) (hu : vitals u = vitals s) : PowerInv (if u.dev.state.live then enterSafe u 3 else u) := by
    have hp := hs.of_vitals hu
    exact PowerInv.ite (fun h => enterSafe_sound (by decide) (hp.rails (powered_of_live h))) fun _ => hp
  unfold execSelftestFailure
  rw [soundAfter_next]
  exact PowerInv.ite (fun _ => hs) fun _ => hv _ (by simp)

/-- TAMPER_EVENT: SAFE with cause 2 from a powered state, and in SAFE the cause alone. -/
theorem execTamperEvent_sound {s : State} (hs : PowerInv s) (input : Nat) (t : Time) : SoundAfter (execTamperEvent input t s) := by
  unfold execTamperEvent
  rw [soundAfter_next]
  extract_lets _ s2
  have h1 : PowerInv (advance s t) := hs.of_vitals (advance_vitals s t)
  have h2 : PowerInv s2 := h1.of_vitals (vitals_mk rfl rfl rfl rfl rfl)
  clear_value s2
  have hsafe (h : s2.dev.state.powered = true) : PowerInv (enterSafe s2 2) := enterSafe_sound (by decide) (h2.rails h)
  refine PowerInv.ite (fun _ => h1) fun _ => ?_
  split
  next hx => exact PowerInv.of_vitals (hsafe (by rw [hx]; rfl)) (raise_vitals _ _)
  next hx =>
    obtain ⟨_, he, hr⟩ := h2
    have h20 : 2 ≠ 0 := by decide
    exact ⟨⟨fun _ => h20, fun _ => hx⟩, he, hr⟩
  next => exact h2
  next => exact h2
  next => exact h2
  next hx => exact hsafe (by rw [hx]; rfl)
  next hx => exact hsafe (by rw [hx]; rfl)
  next hx => exact hsafe (by rw [hx]; rfl)

/-! ### DIAG and relayed requests -/

/-- DIAG leaves the vitals alone, or enters DUSK from SAFE. -/
theorem diag_vitals (c : Caller) (r : Req) (s : State) :
    vitals (diag c r s).2 = vitals s ∨ s.dev.state = .safe ∧ vitals (diag c r s).2 = (vitals s).halt .dusk 0 := by
  unfold diag
  split
  · exact .inl rfl
  split
  · exact .inl rfl
  split
  · exact .inl (by simp)
  split
  · split
    next h => exact .inr ⟨h, enterDusk_vitals s 0 _⟩
    next => exact .inl rfl
  · dsimp only
    split
    · exact .inl rfl
    · exact .inl (by simp)

/-- The vitals are sound, with the main rails as given: what a request keeps. -/
def Vitals.Serving (rails : Bool) (v : Vitals) : Prop := v.Sound ∧ v.rails = rails

theorem diag_serving {x : Bool} (c : Caller) (r : Req) (s : State) (h : (vitals s).Serving x) : (vitals (diag c r s).2).Serving x := by
  obtain ⟨hs, hx⟩ := h
  rcases diag_vitals c r s with hv | ⟨hd, hv⟩
  · exact hv ▸ ⟨hs, hx⟩
  · have hr : s.dev.rails = true := PowerInv.rails hs (by rw [hd]; rfl)
    rw [hv]
    exact ⟨Vitals.Sound.halt (by decide) fun _ => hr, hx⟩

/-- The handler leaves the vitals alone. -/
def QuietHandler (f : Caller → Req → State → Answer × State) : Prop := ∀ c r s, vitals (f c r s).2 = vitals s

theorem QuietHandler.ite {p : Prop} [Decidable p] {f g : Caller → Req → State → Answer × State} (hf : QuietHandler f)
    (hg : QuietHandler g) : QuietHandler (if p then f else g) := by
  split
  · exact hf
  · exact hg

/-- Every opcode but DIAG leaves the vitals alone. -/
theorem handlerOf_quiet {op : Nat} (h : op ≠ 0x30) : QuietHandler (handlerOf op) := by
  unfold handlerOf
  rw [if_neg h]
  exact .ite getOp_vitals <| .ite setOp_vitals <| .ite snapshotGetOp_vitals <| .ite txnOpenOp_vitals <| .ite txnCommitOp_vitals <|
    .ite txnAbortOp_vitals <| .ite tableWriteOp_vitals <| .ite tableReadOp_vitals <| .ite streamBindOp_vitals <|
    .ite rewindOp_vitals <| .ite logRead_vitals <| .ite logClear_vitals <| .ite cursorSet_vitals <| .ite windowReadOp_vitals <|
    .ite keyUpdate_vitals <| .ite attestOp_vitals <| .ite imageBlock_vitals <| .ite imageVerify_vitals <| .ite armOp_vitals <|
    .ite confirmOp_vitals fun _ _ _ => rfl

theorem handlerOf_serving {x : Bool} (op : Nat) (c : Caller) (r : Req) (s : State) (h : (vitals s).Serving x) :
    (vitals (handlerOf op c r s).2).Serving x := by
  by_cases ho : op = 0x30
  · subst ho
    exact diag_serving c r s h
  · rwa [handlerOf_quiet ho]

/-- DIAG RESTART is answered OK in SAFE alone. -/
theorem safe_of_diagRestarts {r : Req} {s : State} (h : diagRestarts r s = true) : s.dev.state = .safe := by
  simp only [diagRestarts, Bool.and_eq_true, beq_iff_eq] at h
  obtain ⟨⟨_, hsub⟩, he⟩ := h
  by_contra hn
  have hn' : (advance s r.t).dev.state ≠ .safe := hn
  revert he
  simp only [diagErr, hsub]
  split_ifs <;> simp_all

theorem rails_of_diagRestarts {r : Req} {s : State} (hs : PowerInv s) (h : diagRestarts r s = true) : s.dev.rails = true :=
  hs.rails (by rw [safe_of_diagRestarts h]; rfl)

theorem serve_diag_serving {s : State} (hs : PowerInv s) (r : Req) : (vitals (serve 0x30 diag r s)).Serving s.dev.rails :=
  serve_keeps diag_serving 0x30 r ⟨hs, rfl⟩

theorem execDiagStatus_sound {s : State} (hs : PowerInv s) (r : Req) : SoundAfter (execDiagStatus r s) :=
  (soundAfter_next _).mpr (serve_diag_serving hs r).1

theorem execDiagRestart_sound {s : State} (hs : PowerInv s) (r : Req) : SoundAfter (execDiagRestart r s) := by
  obtain ⟨h1, hr⟩ := serve_diag_serving hs r
  unfold execDiagRestart
  rw [soundAfter_next]
  refine PowerInv.ite (fun h => toDawn_sound ?_) fun _ => h1
  calc (restartAnswer r (serve 0x30 diag r s)).dev.rails
    _ = (serve 0x30 diag r s).dev.rails := rails_of_vitals (restartAnswer_vitals r _)
    _ = s.dev.rails := hr
    _ = true := rails_of_diagRestarts hs h

theorem runRelayed_sound {s : State} (hs : PowerInv s) (op : Nat) (r : Req) : PowerInv (runRelayed op r s) := by
  obtain ⟨h1, hr⟩ : (vitals (serve op (handlerOf op) r s)).Serving s.dev.rails :=
    serve_keeps (handlerOf_serving op) op r ⟨hs, rfl⟩
  unfold runRelayed
  refine PowerInv.ite (fun _ => ?_) fun _ => hs.of_vitals (by simp)
  exact PowerInv.ite (fun h => toDawn_sound (hr.trans (rails_of_diagRestarts hs h.2))) fun _ => h1

theorem execRelayRequest_sound {s : State} (hs : PowerInv s) (h : RelayHdr) (op : Nat) (r : Req) :
    SoundAfter (execRelayRequest h op r s) := by
  unfold execRelayRequest
  extract_lets s1 s2
  rw [soundAfter_next]
  have h2 : PowerInv s2 := hs.of_vitals (by simp [s2, s1])
  exact PowerInv.ite (fun _ => hs) fun _ => PowerInv.ite (fun _ => runRelayed_sound h2 op _) fun _ => h2

/-! ### Every command -/

/-- Every command keeps the power invariant. -/
theorem exec_sound (i : Instr) {s : State} (hs : PowerInv s) : SoundAfter (exec i s) := by
  cases i with
  | vbatRise => exact execVbatRise_sound hs
  | vbatLoss => exact execVbatLoss_sound hs
  | mainRailsInRange b k x => exact execMainRailsInRange_sound hs b k x
  | mainRailLoss t => exact execMainRailLoss_sound hs t
  | resetNAssert t => exact execResetNAssert_sound hs t
  | resetNRelease b k x => exact execResetNRelease_sound hs b k x
  | dawnEnd d => exact execDawnEnd_sound hs d
  | hostLoadTimeout => exact execHostLoadTimeout_sound hs
  | duskEntry => exact execDuskEntry_sound hs
  | duskComplete t => exact execDuskComplete_sound hs t
  | wakeEvent w rising heldMs rtcSec => exact execWakeEvent_sound hs w rising heldMs rtcSec
  | overtemp => exact execOvertemp_sound hs
  | frameEdge e => exact execFrameEdge_sound hs e
  | frameLatch => exact execFrameLatch_sound hs
  | stkRoleDecide => exact execStkRoleDecide_sound hs
  | edgeReceived k e holdover crcOk => exact execEdgeReceived_sound hs k e holdover crcOk
  | relayRequest h op r => exact execRelayRequest_sound hs h op r
  | relayRole h role edge => exact execRelayRole_sound hs h role edge
  | tamperEvent w t => exact execTamperEvent_sound hs w t
  | selftestFailure test noise => exact execSelftestFailure_sound hs test noise
  | selectorWriteReset => exact execSelectorWriteReset_sound hs
  | diagStatus r => exact execDiagStatus_sound hs r
  | diagRestart r => exact execDiagRestart_sound hs r
  | diagDusk r => exact execDiagStatus_sound hs r
  | diagRegRead r => exact execDiagStatus_sound hs r
  | _ => exact hs.soundAfter (by simp [exec])

/-- Settles O4: the commands that move the device state, the SAFE cause, the rails or the edges keep the invariant one by one, and every
other command leaves all of these alone. -/
theorem stepKeepsPowerInvariant : Obligations.StepKeepsPowerInvariant := by
  unfold Obligations.StepKeepsPowerInvariant
  intro s t hs ht
  unfold step at ht
  split at ht
  next => cases ht; exact hs
  next i rest _ => exact exec_sound i (s := { s with pending := rest }) hs t ht

end Sys2Proof.Machine
end

section
/-! The schedule and the sun (R52, R122, R123): how an entry fires and is applied at a latch, what a computed date shows, and O21. -/

namespace Sys2Proof.Machine

/-! ### The schedule (R123) -/

/-- An entry inserted among those fired is the one new member. -/
theorem mem_insFired (n : Nat) (l : List (Nat × Bool)) (x : Nat × Bool) : x ∈ insFired n l ↔ x = (n, true) ∨ x ∈ l := by
  induction l with
  | nil => simp [insFired]
  | cons y l ih =>
    unfold insFired
    split
    · simp
    · simp only [List.mem_cons, ih]
      tauto

/-- SCHEDULE_FIRE of an entry that has not fired for the next latch. -/
theorem exec_scheduleFire {s : State} {n : Nat} (hr : s.frm.running = true) (hh : s.src.schedRun = true) (hn : n < 1024)
    (hf : (n, true) ∉ s.src.fired) :
    exec (.scheduleFire n) s = .next { s with src := { s.src with fired := insFired n s.src.fired } } :=
  congrArg Host.Outcome.next (if_pos ⟨hr, hh, hn, by simpa using hf⟩)

/-- With one entry fired, the latch applies it where it is due by the frame's own set and nothing otherwise. -/
theorem latchSchedule_one {s : State} {c : Store} {j n : Nat} (hf : s.src.fired = [(n, true)]) :
    ((latchSchedule s c j).1.src.sched, (latchSchedule s c j).2)
      = if entryTimes c (c.row fixSchedule n) s.src.schedUpTo (edgeAt s j) = [] then (s.src.sched, c)
        else ((applyFired s.src.sched j (n, true) (c, s.src.sched, 0)).2.1, (applyFired s.src.sched j (n, true) (c, s.src.sched, 0)).1) := by
  unfold latchSchedule
  split
  next h => simp [hf, h]
  next h => simp [hf, h]

section
variable {base : SMap (Option Held)} {j n : Nat} {fades : Bool} {a : Store × SMap (Option Held) × Nat}
  (hon : byteAt (a.1.row fixSchedule n) 0 ≠ 0)
include hon

/-- An entry whose action is a recall. -/
theorem applyFired_recall (h : byteAt (a.1.row fixSchedule n) 1 = 1) :
    (applyFired base j (n, fades) a).1 = a.1
    ∧ (applyFired base j (n, fades) a).2 = recallCue a.1 base (u16At (a.1.row fixSchedule n) 2) j fades a.2 := by
  simp [applyFired, hon, h]

/-- An entry whose action is a release. -/
theorem applyFired_release (h : byteAt (a.1.row fixSchedule n) 1 = 2) :
    (applyFired base j (n, fades) a).1 = a.1
    ∧ (applyFired base j (n, fades) a).2 = releaseCue a.1 (u16At (a.1.row fixSchedule n) 2) a.2 := by
  simp [applyFired, hon, h]

/-- An entry whose action is a floor: it goes into the store. -/
theorem applyFired_floor (h : byteAt (a.1.row fixSchedule n) 1 = 3) :
    (applyFired base j (n, fades) a).1 = (floorCue a.1 (byteAt (a.1.row fixSchedule n) 5) (u16At (a.1.row fixSchedule n) 2)).1
    ∧ (applyFired base j (n, fades) a).2.1 = a.2.1 := by
  simp [applyFired, hon, h]

end

/-! ### Sunrise and sunset (R122) -/

/-- A date that has both events logs nothing. -/
theorem solarLog_of_both {s : State} {d : Nat} {x y : Int} (hx : sunOn s.cfg d true = some x) (hy : sunOn s.cfg d false = some y) :
    solarLog s d = s := by simp [solarLog, hx, hy]

/-- A date without sunrise or without sunset is noted, and logged the first time. -/
theorem solarLog_of_none {s : State} {d : Nat} (h : sunOn s.cfg d true = none ∨ sunOn s.cfg d false = none) :
    d ∈ (solarLog s d).src.solarNone ∧ (solarLog s d).log = if d ∈ s.src.solarNone then s.log
      else (logEv { s with src := { s.src with solarNone := d :: s.src.solarNone } } 0x0301 d 0 0).log := by
  have hboth : ((sunOn s.cfg d true).isSome && (sunOn s.cfg d false).isSome) = false := by
    rcases h with h | h <;> simp [h]
  by_cases hd : d ∈ s.src.solarNone
  · have he : solarLog s d = s := if_pos (by simp [hd])
    rw [he, if_pos hd]
    exact ⟨hd, rfl⟩
  · have he : solarLog s d = logEv { s with src := { s.src with solarNone := d :: s.src.solarNone } } 0x0301 d 0 0 :=
      if_neg (by simp [hd, hboth])
    have hsrc := logEv_changes { s with src := { s.src with solarNone := d :: s.src.solarNone } } 0x0301 d 0 0 .src (by decide)
    refine ⟨?_, by rw [he, if_neg hd]⟩
    rw [he, show (logEv _ _ _ _ _).src = _ from hsrc]
    exact List.mem_cons_self

theorem solarLog_changes (s : State) (d : Nat) : ChangesOnly [.src, .log] s (solarLog s d) := by
  unfold solarLog
  refine ChangesOnly.ite (.refl _ s) ?_
  exact ((changes_src s _).mono (by decide)).trans ((logEv_changes _ _ _ _ _).mono (by decide))

theorem solarShown_changes (s : State) (x : Option Int) : ChangesOnly [.free] s (solarShown s x).2 := by
  cases x with
  | none => exact changes_free s _
  | some t => exact .refl _ s

/-- Today's events under a parameter set shown: the time of each that the date has. -/
def showSun (c : Store) (d : Nat) (s : State) : State :=
  let a := solarShown s (sunOn c d true)
  let b := solarShown a.2 (sunOn c d false)
  { b.2 with src := { b.2.src with sunrise := a.1, sunset := b.1 } }

/-- Showing the sun's times changes these and the values that are free, and logs nothing. -/
theorem showSun_changes (c : Store) (d : Nat) (s : State) : ChangesOnly [.src, .free] s (showSun c d s) :=
  (((solarShown_changes s _).trans (solarShown_changes _ _)).mono (by decide)).trans ((changes_src _ _).mono (by decide))

/-- The dates without an event stay as noted. -/
theorem showSun_solarNone (c : Store) (d : Nat) (s : State) : (showSun c d s).src.solarNone = s.src.solarNone := by
  have h : (solarShown (solarShown s (sunOn c d true)).2 (sunOn c d false)).2.src = s.src :=
    ((solarShown_changes s _).trans (solarShown_changes _ _)) .src (by decide)
  exact (congrArg Sources.solarNone h :)

/-- Two events that the date has. -/
theorem showSun_of_both {s : State} {d : Nat} {x y : Int} (hx : sunOn s.cfg d true = some x) (hy : sunOn s.cfg d false = some y) :
    showSun s.cfg d s = { s with src := { s.src with
      sunrise := (x + s.cfg.v devUtcTai).toNat * sec, sunset := (y + s.cfg.v devUtcTai).toNat * sec } } := by
  simp only [showSun, hx, hy, solarShown]

/-- SOLAR_COMPUTE: the date is logged where it lacks an event, and shown where it is today. -/
theorem exec_solarCompute (s : State) (d : Nat) :
    exec (.solarCompute d) s
      = .next (if localSec s.cfg s.tim.now / 86400 = d then showSun s.cfg d (solarLog s d) else solarLog s d) := rfl

/-- Settles O21: a firing is judged and applied at the latch, and a computed date is logged and shown. -/
theorem schedulesAndTheSun : Obligations.SchedulesAndTheSun := by
  unfold Obligations.SchedulesAndTheSun
  refine ⟨?fire, ?latch, ?today, ?other, ?every⟩
  case fire =>
    intro s n hr hh hn hf
    exact ⟨exec_scheduleFire hr hh hn hf, (mem_insFired n _ _).mpr (.inl rfl), mem_insFired n _⟩
  case latch =>
    rintro s c j n _ hf rfl hon
    have h := latchSchedule_one (c := c) (j := j) hf
    refine ⟨fun hno => ?_, fun hdue => ?_⟩
    · rw [if_pos hno] at h
      exact Prod.mk.inj h
    · rw [if_neg hdue] at h
      obtain ⟨hsched, hstore⟩ := Prod.mk.inj h
      rw [hsched, hstore]
      refine ⟨fun ha => ?_, fun ha => ?_, fun ha => ?_⟩
      · obtain ⟨h1, h2⟩ := applyFired_recall (base := s.src.sched) (j := j) (fades := true) (a := (c, s.src.sched, 0)) hon ha
        exact ⟨congrArg Prod.fst h2, h1⟩
      · obtain ⟨h1, h2⟩ := applyFired_release (base := s.src.sched) (j := j) (fades := true) (a := (c, s.src.sched, 0)) hon ha
        exact ⟨congrArg Prod.fst h2, h1⟩
      · obtain ⟨h1, h2⟩ := applyFired_floor (base := s.src.sched) (j := j) (fades := true) (a := (c, s.src.sched, 0)) hon ha
        exact ⟨h2, h1⟩
  case today =>
    intro s d x y hd hx hy
    rw [exec_solarCompute, if_pos hd, solarLog_of_both hx hy, showSun_of_both hx hy]
  case other =>
    intro s d x y hd hx hy
    rw [exec_solarCompute, if_neg hd, solarLog_of_both hx hy]
  case every =>
    intro s d
    refine ⟨_, exec_solarCompute s d, ?_⟩
    have hlog : ChangesOnly [.src, .log, .free] s (solarLog s d) := (solarLog_changes s d).mono (by decide)
    split
    · have hshow := showSun_changes s.cfg d (solarLog s d)
      refine ⟨hlog.trans (hshow.mono (by decide)), fun h => ?_⟩
      obtain ⟨hmem, hl⟩ := solarLog_of_none h
      exact ⟨(showSun_solarNone s.cfg d _).symm ▸ hmem, (hshow .log (by decide)).trans hl⟩
    · exact ⟨hlog, solarLog_of_none⟩

end Sys2Proof.Machine
end

section
/-! The frame lock loop and timecode (R37, R39, R41, R42): what a reference pulse, a missing one and an LTC word do, and O27. -/

namespace Sys2Proof.Machine

/-! ### The lock loop (R37, R39) -/

/-- GENLOCK_PULSE while edges run under GENLOCK is used by the loop. -/
theorem exec_genlockPulse {s : State} (hr : s.frm.running = true) (hs : source s = 1) (u : Time) :
    exec (.genlockPulse u) s = .next (usePulse (advance s u) u) :=
  congrArg Host.Outcome.next (if_pos ⟨hr, hs⟩)

/-- Lock reached, whether or not it is the first. -/
theorem lockAt_locked (s : State) (p : Int) :
    (lockAt s p).frm.lock.state = .locked ∧ (lockAt s p).frm.lock.everLocked = true ∧ (lockAt s p).frm.lock.missing = 0 := by
  unfold lockAt
  dsimp only
  split <;> exact ⟨rfl, rfl, rfl⟩

/-- The eighth good spacing in a row locks the loop (R37 step 1). -/
theorem usePulse_eighth {s : State} {u v : Time} (hst : s.frm.lock.state = .acquiring) (hl : s.frm.lock.last = some v)
    (hg : spacingGood s.cfg (u - v) = true) (h7 : 7 ≤ s.frm.lock.good) : ∃ a p, usePulse s u = lockAt a p := by
  simp only [usePulse, hst, hl, hg, if_true, if_pos (show 8 ≤ s.frm.lock.good + 1 by omega)]
  exact ⟨_, _, rfl⟩

/-- A pulse in HOLDOVER is the first of a new acquisition (R37). -/
theorem usePulse_holdover {s : State} (hst : s.frm.lock.state = .holdover) (u : Time) :
    usePulse s u = { s with frm := { s.frm with lock := { s.frm.lock with
      state := .acquiring, good := 1, last := some u, missing := 0, wclk := 0
      window := windowEdge s ((u : Int) + s.cfg.vs frmGenDelay 0 * ns) } } } := by
  simp only [usePulse, hst]

/-- A pulse of the locked loop within tolerance, the first in its window, steers the edges (R37 step 3). -/
theorem usePulse_steers {s : State} {u e : Time} {p : Int} (hst : s.frm.lock.state = .locked)
    (hp : p = (u : Int) + s.cfg.vs frmGenDelay 0 * ns) (hw : windowEdge s p = some e) (hn : s.frm.lock.window ≠ some e)
    (ht : ((e : Int) - p).natAbs ≤ s.cfg.v frmGenTol * ns) :
    usePulse s u = { s with frm := { s.frm with lock := { s.frm.lock with
      window := some e, last := some u, missing := 0, beyond := 0
      steer := max (-(500 * ns : Nat)) (min (500 * ns : Nat) (roundDiv (-((e : Int) - p)) 16)) } } } := by
  subst hp
  have hfar : ¬ s.cfg.v frmGenTol * ns < ((e : Int) - (u + s.cfg.vs frmGenDelay 0 * ns)).natAbs := Nat.not_lt.mpr ht
  simp [usePulse, hst, hw, hn, hfar]

/-- The loop loses its reference: HOLDOVER, without steering (R37). -/
def lostLock (s : State) : State :=
  { s with frm := { s.frm with lock := { s.frm.lock with state := .holdover, good := 0, steer := 0, lengthen := 0 } } }

/-- GENLOCK_LOST after four missing pulses. -/
theorem exec_genlockLost {s : State} (hs : s.frm.lock.state ≠ .holdover) (h4 : 4 ≤ s.frm.lock.missing) :
    exec .genlockLost s = .next (logEv (lostLock s) 0x0102 (s.cfg.v frmSource) 0 0) :=
  congrArg Host.Outcome.next (if_pos ⟨hs, h4⟩)

/-- The valid bit of the timecode is cleared (R42). -/
def lostTimecode (s : State) : State :=
  { s with frm := { s.frm with ltc := { s.frm.ltc with lost := true, tc := putBit s.frm.ltc.tc 63 false } } }

/-- LTC_LOST after 25 counted frames. -/
theorem exec_ltcLost {s : State} (hc : s.frm.ltc.counting = true) (hn : 25 ≤ s.frm.ltc.counted) (hl : s.frm.ltc.lost = false) :
    exec .ltcLost s = .next (logEv (lostTimecode s) 0x0104 0 0 0) :=
  congrArg Host.Outcome.next (if_pos ⟨hc, hn, hl⟩)

/-- An event recorded changes the log alone, so the frame parameters read as before it. -/
theorem logEv_frm (s : State) (c a b d : Nat) : (logEv s c a b d).frm = s.frm := logEv_changes s c a b d .frm (by decide)

/-- An event recorded after a change of the frame state. -/
theorem logEv_frm_changes (s : State) (x : Frm) (c a b d : Nat) : ChangesOnly [.frm, .log] s (logEv { s with frm := x } c a b d) :=
  ((changes_frm s x).mono (by decide)).trans ((logEv_changes _ c a b d).mono (by decide))

/-- Settles O27: each pulse takes one branch of the loop, and each word and timeout one of timecode. -/
theorem referencePulsesLockTheFrame : Obligations.ReferencePulsesLockTheFrame := by
  unfold Obligations.ReferencePulsesLockTheFrame
  refine ⟨?lock, ?restart, ?steer, ?missing, ?lost, ?wclk, ?word, ?wordMissing, ?ltcLost⟩
  case lock =>
    intro s u v hr hsrc hst hl hg h7
    obtain ⟨a, p, h⟩ := usePulse_eighth (s := advance s u) hst hl hg h7
    exact ⟨_, (exec_genlockPulse hr hsrc u).trans (congrArg _ h), lockAt_locked a p⟩
  case restart =>
    intro s u hr hsrc hst
    exact (exec_genlockPulse hr hsrc u).trans (congrArg _ (usePulse_holdover (s := advance s u) hst u))
  case steer =>
    intro s u e p hr hsrc hst hp hw hn ht
    exact (exec_genlockPulse hr hsrc u).trans (congrArg _ (usePulse_steers (s := advance s u) hst hp hw hn ht))
  case missing =>
    intro s hr hsrc hl hst hm
    exact congrArg Host.Outcome.next (if_pos ⟨hr, hsrc, hl, hst, hm⟩)
  case lost =>
    intro s hst h4
    refine ⟨_, exec_genlockLost hst h4, ?_, ?_, logEv_frm_changes s _ _ _ _ _⟩ <;> rw [logEv_frm] <;> rfl
  case wclk =>
    intro s u hr hsrc hn
    refine congrArg Host.Outcome.next ((if_pos ⟨hr, hsrc⟩).trans (if_neg ?_))
    exact Nat.not_le.mpr hn
  case word =>
    intro s u c d
    exact ⟨_, rfl, rfl, rfl, rfl, rfl, rfl, ((changes_tim s _).mono (by decide)).trans ((changes_frm (advance s u) _).mono (by decide))⟩
  case wordMissing =>
    intro s u v hv hp hu hc
    simp only [exec, execLtcWordMissing, advance_frm, hv]
    exact congrArg Host.Outcome.next (if_pos ⟨hp, hu, hc⟩)
  case ltcLost =>
    intro s hc hn hl
    refine ⟨_, exec_ltcLost hc hn hl, ?_, ?_, logEv_frm_changes s _ _ _ _ _⟩ <;> rw [logEv_frm] <;> rfl

end Sys2Proof.Machine
end

section
/-! SUPPORT. The course of the frames: what the statements about latches and edges speak of beside the frame at hand, and that the shared
operations and the outputs leave it alone. A proof about a latch or an edge goes through these and unfolds no shared operation. -/

namespace Sys2Proof.Machine

/-! ### The course of the frames -/

/-- What the statements about frames speak of: the frame state and the device state, device time, the pair's standing, the accepted
transactions, the frames above the cap, and what waits for an edge. -/
structure Course where
  frm : Frm
  dev : Dev
  now : Time
  pair : Bool
  roleAt : Option (Nat × Nat)
  accepted : List AccTxn
  above : Nat
  resetWanted : Bool
  updState : Nat
  armed : Option Nat

/-- The course of a block. -/
def course (s : State) : Course :=
  { frm := s.frm, dev := s.dev, now := s.tim.now, pair := s.red.pair, roleAt := s.red.roleAt, accepted := s.ox.accepted, above := s.eng.above
    resetWanted := s.upd.resetWanted, updState := s.upd.state, armed := s.upd.armed }

theorem frm_of_course {s t : State} (h : course t = course s) : t.frm = s.frm := congrArg Course.frm h

/-- New parts that agree with the block in what the course shows. -/
@[simp] theorem course_mk {s : State} {pending tim con src fix wired ras drv rad eth que host ox stk red eng sec upd log cal sch fab}
    {imm free out}
    (hn : tim.now = s.tim.now) (hp : red.pair = s.red.pair) (hr : red.roleAt = s.red.roleAt) (ha : ox.accepted = s.ox.accepted)
    (hb : eng.above = s.eng.above) (hw : upd.resetWanted = s.upd.resetWanted) (hu : upd.state = s.upd.state)
    (hm : upd.armed = s.upd.armed) :
    course ⟨pending, s.dev, tim, s.frm, con, src, fix, wired, ras, drv, rad, eth, que, host, ox, stk, red, eng, sec, upd, log, cal, sch,
      fab, imm, free, out⟩ = course s := by
  simp [course, hn, hp, hr, ha, hb, hw, hu, hm]

/-- A frame of the model's laws that spares these parts spares the course. -/
theorem ChangesOnly.course {ps : List Part} {s t : State} (h : ChangesOnly ps s t)
    (hp : ∀ p ∈ [Part.frm, .dev, .tim, .red, .ox, .eng, .upd], p ∉ ps) : course t = course s := by
  have hf : t.frm = s.frm := h .frm (hp _ (by simp))
  have hd : t.dev = s.dev := h .dev (hp _ (by simp))
  have ht : t.tim = s.tim := h .tim (hp _ (by simp))
  have hr : t.red = s.red := h .red (hp _ (by simp))
  have ho : t.ox = s.ox := h .ox (hp _ (by simp))
  have he : t.eng = s.eng := h .eng (hp _ (by simp))
  have hu : t.upd = s.upd := h .upd (hp _ (by simp))
  simp only [Machine.course, hf, hd, ht, hr, ho, he, hu]

@[simp] theorem course_ite (c : Prop) [Decidable c] (s t : State) : course (if c then s else t) = if c then course s else course t :=
  apply_ite course c s t

@[simp] theorem course_ite_fst {α : Type} (c : Prop) [Decidable c] (x y : State × α) :
    course (if c then x else y).1 = if c then course x.1 else course y.1 := apply_ite (fun z : State × α => course z.1) c x y

/-- A fold leaves the course alone whose steps do, on an accumulator that carries the block. -/
theorem foldl_course_of {α β : Type} (g : β → State) {f : β → α → β} (h : ∀ a x, course (g (f a x)) = course (g a))
    (l : List α) (b : β) : course (g (l.foldl f b)) = course (g b) := by
  induction l generalizing b with
  | nil => rfl
  | cons x l ih => exact (ih (f b x)).trans (h b x)

@[simp] theorem foldl_course {α : Type} {f : State → α → State} (h : ∀ a x, course (f a x) = course a) (l : List α) (s : State) :
    course (l.foldl f s) = course s := foldl_course_of id h l s

/-! ### Sending, queues, interrupts and the recorder -/

@[simp] theorem emit_course (s : State) (x : Sent) : course (emit s x) = course s := (emit_changes _ _).course (by decide)
@[simp] theorem takeFree_course (s : State) : course (takeFree s).2 = course s := by simp [takeFree]
@[simp] theorem raise_course (s : State) (n : Nat) : course (raise s n) = course s := (raise_changes _ _).course (by decide)
@[simp] theorem qPut_course (s : State) (q : Nat) (x : Queue) : course (qPut s q x) = course s := (qPut_changes _ _ _).course (by decide)
@[simp] theorem watermark_course (s : State) (q : Nat) : course (watermark s q) = course s := (watermark_changes _ _).course (by decide)

@[simp] theorem qCommit_course (s : State) (q : Nat) (hostSlot : Bool) (pkt : List Byte) : course (qCommit s q hostSlot pkt) = course s :=
  (qCommit_changes _ _ _ _).course (by decide)

@[simp] theorem qPush_course (s : State) (q : Nat) (hostSlot : Bool) (pkt : List Byte) : course (qPush s q hostSlot pkt) = course s :=
  (qPush_changes _ _ _ _).course (by decide)

@[simp] theorem qResume_course (s : State) (q : Nat) : course (qResume s q) = course s := (qResume_changes _ _).course (by decide)

@[simp] theorem qResumeAll_course (n : Nat) (s : State) (q : Nat) : course (qResumeAll n s q) = course s := by
  induction n generalizing s with
  | zero => rfl
  | succ n ih => simp [qResumeAll, ih]

@[simp] theorem casSend_course (s : State) (p c dst : Nat) (m : List Byte) : course (casSend s p c dst m) = course s :=
  (casSend_changes _ _ _ _ _).course (by decide)

@[simp] theorem casTime_course (s : State) (p subtype : Nat) (body : List Byte) : course (casTime s p subtype body) = course s :=
  (casTime_changes _ _ _ _).course (by decide)

@[simp] theorem noteOut_course (s : State) (pkt : List Byte) : course (noteOut s pkt) = course s := (noteOut_changes _ _).course (by decide)

@[simp] theorem notifyAt_course (s : State) (code : Nat) (t : Time) (body : List Byte) : course (notifyAt s code t body) = course s :=
  (notifyAt_changes _ _ _ _).course (by decide)

@[simp] theorem notify_course (s : State) (code : Nat) (body : List Byte) : course (notify s code body) = course s :=
  (notify_changes _ _ _).course (by decide)

@[simp] theorem lossMarker_course (s : State) : course (lossMarker s) = course s := by simp [lossMarker]

@[simp] theorem logEv_course (s : State) (code p0 p1 p2 : Nat) : course (logEv s code p0 p1 p2) = course s :=
  (logEv_changes _ _ _ _ _).course (by decide)

@[simp] theorem setCond_course (s : State) (code obj : Nat) (b : Bool) : course (setCond s code obj b) = course s :=
  (setCond_changes _ _ _ _).course (by decide)

@[simp] theorem logEntry_course (s : State) (b : Bool) (code obj p0 p1 p2 : Nat) : course (logEntry s b code obj p0 p1 p2) = course s :=
  (logEntry_changes _ _ _ _ _ _ _).course (by decide)

/-! ### Guarantees and transactions -/

@[simp] theorem breakG_course (s : State) (level code source n : Nat) : course (breakG s level code source n) = course s := by simp [breakG]

@[simp] theorem restoreG_course (s : State) (level code source : Nat) : course (restoreG s level code source) = course s := by
  simp [restoreG]

@[simp] theorem setG_course (s : State) (b : Bool) (level code source n : Nat) :
    course (setG s b level code source n) = course s := by simp [setG]

@[simp] theorem dropHolds_course (s : State) (id : Nat) : course (dropHolds s id) = course s := by simp [dropHolds]

/-! ### Ingress rings and layers -/

@[simp] theorem ringPut_course (s : State) (i : Nat) (r : Ring) : course (ringPut s i r) = course s := by simp [ringPut]
@[simp] theorem ringCount_course (s : State) (i k n : Nat) : course (ringCount s i k n) = course s := by simp [ringCount]
@[simp] theorem badEntry_course (s : State) (i off : Nat) : course (badEntry s i off) = course s := by simp [badEntry]
@[simp] theorem dmaDone_course (s : State) (seq status : Nat) : course (dmaDone s seq status) = course s := by simp [dmaDone]

@[simp] theorem testWindow_course (s : State) (c : Store) (i : Nat) (a b : Int) : course (testWindow s c i a b) = course s := by
  simp [testWindow]

@[simp] theorem latchLayer_course (s : State) (old new : Store) (k : Nat) (i : Nat) :
    course (latchLayer s old new k i) = course s := by
  unfold latchLayer
  dsimp only
  repeat' split
  all_goals simp

@[simp] theorem moveMarks_course (s : State) (new : Store) (k i : Nat) : course (moveMarks s new k i) = course s := by simp [moveMarks]

@[simp] theorem dropStreams_course (s : State) (k : Nat) : course (dropStreams s k) = course s := by
  refine foldl_course (fun a x => ?_) _ s
  split <;> simp

@[simp] theorem latchLayers_course (s : State) (old new : Store) (k : Nat) : course (latchLayers s old new k).1 = course s := by
  unfold latchLayers
  dsimp only
  rw [moveMarks_course, moveMarks_course]
  refine (foldl_course (fun a i => latchLayer_course a old new k i) _ _).trans ?_
  rw [testWindow_course, testWindow_course, dropStreams_course]

@[simp] theorem emptyRing_course (s : State) (i : Nat) : course (emptyRing s i) = course s := by
  unfold emptyRing
  simp only [course_mk, course_ite, ringPut_course, ite_self, foldl_course, dmaDone_course, implies_true]
  refine foldl_course (fun a e => ?_) _ s
  split
  · exact dmaDone_course a _ 3
  · rfl

/-! ### Time -/

@[simp] theorem toHoldover_course (s : State) : course (toHoldover s) = course s := by simp [toHoldover]
@[simp] theorem losesSource_course (s : State) : course (losesSource s) = course s := by simp [losesSource]
@[simp] theorem toFree_course (s : State) : course (toFree s) = course s := by simp [toFree]
@[simp] theorem ptpDecide_course (s : State) (heardNone : Option Nat) : course (ptpDecide s heardNone) = course s := by simp [ptpDecide]
@[simp] theorem ptpClear_course (s : State) : course (ptpClear s) = course s := by simp [ptpClear]
@[simp] theorem toutPut_course (s : State) (n : Nat) (x : ToutState) : course (toutPut s n x) = course s := by simp [toutPut]

@[simp] theorem toutChanged_course (s : State) (old new : Store) (k : Nat) (n : Nat) :
    course (toutChanged s old new k n) = course s := by simp [toutChanged]

@[simp] theorem alarmChanged_course (s : State) (old new : Store) (t : Time) (n : Nat) :
    course (alarmChanged s old new t n) = course s := by simp [alarmChanged]

@[simp] theorem tinPut_course (s : State) (n : Nat) (x : TinState) : course (tinPut s n x) = course s := by simp [tinPut]

@[simp] theorem tinDrain_course (n k : Nat) (s : State) : course (tinDrain n k s) = course s := by
  induction k generalizing s with
  | zero => rfl
  | succ k ih =>
    unfold tinDrain
    split <;> simp [ih]

@[simp] theorem afterQ28_course (s : State) : course (afterQ28 s) = course s :=
  (foldl_course (fun a n => tinDrain_course n 16 a) _ _).trans (lossMarker_course s)

/-! ### Level sources and the computation of a frame -/

@[simp] theorem latchScenes_course (s : State) (c : Store) (j : Nat) (vals : List Nat) :
    course (latchScenes s c j vals) = course s := by simp [latchScenes]

@[simp] theorem latchSchedule_course (s : State) (c : Store) (j : Nat) : course (latchSchedule s c j).1 = course s := by
  simp [latchSchedule]

@[simp] theorem catchUp_course (s : State) (upTo : Time) : course (catchUp s upTo) = course s := by simp [catchUp]
@[simp] theorem catchUpRun_course (s : State) : course (catchUpRun s) = course s := by simp [catchUpRun]

@[simp] theorem computeFrame_course (s : State) (f : Frame) : course (computeFrame s f).1 = course s := by
  unfold computeFrame
  dsimp only
  exact foldl_course_of Prod.fst (fun a x => by simp) _ (s, FrameOut.empty)

/-! ### DMX512-A and DALI -/

@[simp] theorem dmxPut_course (s : State) (p : Nat) (x : DmxState) : course (dmxPut s p x) = course s := by simp [dmxPut]
@[simp] theorem dmxEdge_course (s : State) (n : Nat) : course (dmxEdge s n) = course s := by simp [dmxEdge]
@[simp] theorem daliPut_course (s : State) (b : Nat) (x : DaliState) : course (daliPut s b x) = course s := by simp [daliPut]
@[simp] theorem daliEdge_course (s : State) (c : Store) (o : FrameOut) : course (daliEdge s c o) = course s := by simp [daliEdge]

/-! ### Raster ports -/

@[simp] theorem rasPut_course (s : State) (p : Nat) (x : RasterState) : course (rasPut s p x) = course s := by simp [rasPut]

@[simp] theorem rasSend_course (s : State) (p idle : Nat) (blocks : List (Bool × List Byte)) :
    course (rasSend s p idle blocks) = course s := by simp [rasSend]

@[simp] theorem rasFinish_course (s : State) (p : Nat) (len : Time) : course (rasFinish s p len) = course s := by simp [rasFinish]

@[simp] theorem rasEdge_course (s : State) (old new : Store) (slipped : Bool) (len : Time) (p : Nat) :
    course (rasEdge s old new slipped len p) = course s := by simp [rasEdge]

/-! ### Direct drive and the matrix -/

@[simp] theorem pointPut_course (s : State) (p : Nat) (x : Point) : course (pointPut s p x) = course s := by simp [pointPut]
@[simp] theorem pinPut_course (s : State) (ch : Nat) (x : Pin) : course (pinPut s ch x) = course s := by simp [pinPut]
@[simp] theorem drvCount_course (s : State) (k : Nat) : course (drvCount s k) = course s := by simp [drvCount]
@[simp] theorem mxSwap_course (s : State) (m : SMap Nat) (t : Time) : course (mxSwap s m t) = course s := by simp [mxSwap]

@[simp] theorem afterQ29_course (s : State) : course (afterQ29 s) = course s := by
  refine foldl_course (fun a x => ?_) _ s
  split <;> simp

@[simp] theorem resetPoints_course (s : State) : course (resetPoints s) = course s := by simp [resetPoints]

@[simp] theorem clearPoints_course (s : State) (c : Store) (fixture : Nat) : course (clearPoints s c fixture) = course s := by
  simp [clearPoints]

@[simp] theorem unforce_course (s : State) (c : Store) (fixture : Nat) : course (unforce s c fixture) = course s := by simp [unforce]
@[simp] theorem pointEdge_course (s : State) (old new : Store) (p : Nat) : course (pointEdge s old new p) = course s := by simp [pointEdge]

@[simp] theorem pinEdge_course (s : State) (c : Store) (o : FrameOut) (slipped : Bool) (ch : Nat) :
    course (pinEdge s c o slipped ch) = course s := by simp [pinEdge]

@[simp] theorem mxEdge_course (s : State) (c : Store) (o : FrameOut) (slipped : Bool) :
    course (mxEdge s c o slipped) = course s := by simp [mxEdge]

@[simp] theorem drvEdge_course (s : State) (old new c : Store) (o : FrameOut) (slipped : Bool) :
    course (drvEdge s old new c o slipped) = course s := by simp [drvEdge]

@[simp] theorem drvRest_course (s : State) : course (drvRest s) = course s := by simp [drvRest]

/-! ### Delay lines and their calibration -/

@[simp] theorem linePut_course (s : State) (n : Nat) (x : Line) : course (linePut s n x) = course s := by simp [linePut]
@[simp] theorem calCount_course (s : State) (k n : Nat) : course (calCount s k n) = course s := by simp [calCount]
@[simp] theorem calPosPut_course (s : State) (g p : Nat) : course (calPosPut s g p) = course s := by simp [calPosPut]
@[simp] theorem lineBack_course (s : State) (n : Nat) : course (lineBack s n) = course s := by simp [lineBack]

@[simp] theorem groupBegin_course (s : State) (g : Nat) : course (groupBegin s g) = course s := by
  unfold groupBegin
  dsimp only
  repeat' split
  all_goals simp

@[simp] theorem calBegin_course (s : State) : course (calBegin s) = course s := by simp [calBegin]
@[simp] theorem calEnd_course (s : State) : course (calEnd s) = course s := by simp [calEnd]
@[simp] theorem calEdge_course (s : State) : course (calEdge s) = course s := by simp [calEdge]
@[simp] theorem calStartPass_course (s : State) : course (calStartPass s) = course s := by simp [calStartPass]

/-! ### Radio -/

@[simp] theorem radPut_course (s : State) (p : Nat) (x : RadioPort) : course (radPut s p x) = course s :=
  (radPut_changes _ _ _).course (by decide)

@[simp] theorem neighPut_course (s : State) (i : Nat) (x : Neigh) : course (neighPut s i x) = course s := by simp [neighPut]

@[simp] theorem runScript_course (s : State) (p first channel : Nat) (psdu : List Byte) :
    course (runScript s p first channel psdu) = course s := by simp [runScript]

@[simp] theorem radioEdge_course (s : State) (e : Time) (c : Store) (o : FrameOut) : course (radioEdge s e c o) = course s := by
  simp [radioEdge]

@[simp] theorem openWindows_course (s : State) (t : Time) : course (openWindows s t) = course s := by simp [openWindows]

@[simp] theorem neighCommitted_course (s : State) (i : Nat) (t : Time) : course (neighCommitted s i t) = course s := by
  simp [neighCommitted]

@[simp] theorem portCommitted_course (s : State) (p : Nat) : course (portCommitted s p) = course s := by simp [portCommitted]
@[simp] theorem cellCommitted_course (s : State) (i : Nat) : course (cellCommitted s i) = course s := by simp [cellCommitted]

/-! ### Ethernet -/

@[simp] theorem ethPut_course (s : State) (p : Nat) (x : EthState) : course (ethPut s p x) = course s :=
  (ethPut_changes _ _ _).course (by decide)

@[simp] theorem ethCount_course (s : State) (p k : Nat) : course (ethCount s p k) = course s := (ethCount_changes _ _ _).course (by decide)

@[simp] theorem ethEmit_course (s : State) (p prio : Nat) (t : Time) (frame : List Byte) :
    course (ethEmit s p prio t frame) = course s := by simp [ethEmit]

@[simp] theorem sacnPut_course (s : State) (p : Nat) (x : SacnPort) : course (sacnPut s p x) = course s := by simp [sacnPut]

@[simp] theorem ethDone_course (s : State) (p : Nat) (pkt : List Byte) (status : Nat) (t : Time) :
    course (ethDone s p pkt status t) = course s := by simp [ethDone]

@[simp] theorem txFlushed_course (s : State) (q : Nat) (pkts : List (List Byte)) : course (txFlushed s q pkts) = course s := by
  simp [txFlushed]

@[simp] theorem pauseCheck_course (s : State) (p : Nat) : course (pauseCheck s p) = course s := by simp [pauseCheck]
@[simp] theorem sacnJoins_course (s : State) (o c : Store) : course (sacnJoins s o c) = course s := by simp [sacnJoins]

/-! ### Stacks -/

@[simp] theorem casCount_course (s : State) (p k n : Nat) : course (casCount s p k n) = course s :=
  (casCount_changes _ _ _ _).course (by decide)

@[simp] theorem sendEdge_course (s : State) : course (sendEdge s) = course s := by simp [sendEdge]
@[simp] theorem sendSlip_course (s : State) (k : Nat) : course (sendSlip s k) = course s := by simp [sendSlip]
@[simp] theorem noteDiscarded_course (s : State) (x : AccTxn) : course (noteDiscarded s x) = course s := by simp [noteDiscarded]
@[simp] theorem commitMissing_course (s : State) (j : Nat) : course (commitMissing s j) = course s := by simp [commitMissing]

/-! ### Redundant pairs -/

@[simp] theorem redCount_course (s : State) (k : Nat) : course (redCount s k) = course s := by simp [redCount]

@[simp] theorem mirSend_course (s : State) (mtype : Nat) (body : List Byte) : course (mirSend s mtype body) = course s :=
  (mirSend_changes _ _ _).course (by decide)

@[simp] theorem sendHello_course (s : State) : course (sendHello s) = course s := by simp [sendHello]
@[simp] theorem announceRole_course (s : State) (k : Nat) : course (announceRole s k) = course s := by simp [announceRole]

@[simp] theorem enterShadow_course (s : State) (t : Time) (first : Bool) : course (enterShadow s t first) = course s := by
  simp [enterShadow]

@[simp] theorem sendHeartbeat_course (s : State) (k : Nat) (e : Time) : course (sendHeartbeat s k e) = course s := by simp [sendHeartbeat]
@[simp] theorem sendContinuity_course (s : State) (k : Nat) : course (sendContinuity s k) = course s := by simp [sendContinuity]
@[simp] theorem gratuitous_course (s : State) (p : Nat) : course (gratuitous s p) = course s := by simp [gratuitous]
@[simp] theorem raiseCounters_course (s : State) : course (raiseCounters s) = course s := by simp only [raiseCounters, course_mk]
@[simp] theorem resendCommands_course (s : State) : course (resendCommands s) = course s := by simp [resendCommands]

@[simp] theorem sendInput_course (s : State) (f : Frame) (h : Nat) (rings : List Nat) :
    course (sendInput s f h rings) = course s := by simp [sendInput]

@[simp] theorem reflect_course (s : State) (k : Nat) : course (reflect s k) = course s := by
  unfold reflect
  dsimp only
  repeat' split
  all_goals simp [redCount]

@[simp] theorem resultDone_course (s : State) (k : Nat) (c : Store) (o : FrameOut) : course (resultDone s k c o) = course s := by
  simp [resultDone]

@[simp] theorem reflectEdge_course (s : State) (k : Nat) : course (reflectEdge s k) = course s := by simp [reflectEdge]

/-! ### Energy -/

@[simp] theorem engCount_course (s : State) (k : Nat) : course (engCount s k) = course s := by simp [engCount]

@[simp] theorem planCauses_course (s : State) (c : Store) (step h : Nat) : course (planCauses s c step h) = course s := by
  unfold planCauses
  dsimp only
  split <;> simp

@[simp] theorem measureEdge_course (s : State) (k : Nat) (e : List Nat) : course (measureEdge s k e) = course s := by
  unfold measureEdge
  split <;> simp

@[simp] theorem civicCauses_course (s : State) (c : Store) (o : FrameOut) : course (civicCauses s c o) = course s := by simp [civicCauses]

/-! ### Queues resized -/

@[simp] theorem traceLost_course (s : State) : course (traceLost s) = course s := by simp [traceLost]
@[simp] theorem afterPop_course (s : State) (q : Nat) : course (afterPop s q) = course s := by simp [afterPop]
@[simp] theorem flushQueue_course (s : State) (q : Nat) : course (flushQueue s q) = course s := by simp [flushQueue]

@[simp] theorem resizeQueue_course (s : State) (old new : Store) (q : Nat) : course (resizeQueue s old new q) = course s := by
  simp [resizeQueue]

/-! ### Answers -/

@[simp] theorem sendResp_course (s : State) (p : Path) (m : List Byte) : course (sendResp s p m) = course s :=
  (sendResp_changes _ _ _).course (by decide)

@[simp] theorem setEntry_course (s : State) (op : Nat) (r : Req) (m : List Byte) : course (setEntry s op r m) = course s := by
  unfold setEntry
  split
  · rfl
  · simp

@[simp] theorem finish_course (s : State) (op : Nat) (r : Req) (m : List Byte) : course (finish s op r m) = course s := by simp [finish]

/-! ### The security island and settings -/

@[simp] theorem refreshLive_course (s : State) : course (refreshLive s) = course s := by simp [refreshLive]
@[simp] theorem secWritten_course (s : State) (old : Store) : course (secWritten s old) = course s := by simp [secWritten]
@[simp] theorem copyPut_course (s : State) (i : Nat) (x : Settings) : course (copyPut s i x) = course s := by simp [copyPut]
@[simp] theorem saveSettings_course (s : State) : course (saveSettings s) = course s := by simp [saveSettings]

/-! ### sACN output -/

@[simp] theorem noteSeq_course (s : State) (i n : Nat) : course (noteSeq s i n) = course s := by simp [noteSeq]

@[simp] theorem sacnEdge_course (s : State) (n : Nat) : course (sacnEdge s n) = course s := by
  refine foldl_course (fun a p => ?_) _ s
  simp only [course_ite, sacnPut_course, ite_self]
  split
  · simp
  · rfl

@[simp] theorem dropSacn_course (s : State) (port : Nat) : course (dropSacn s port).2 = course s := by simp [dropSacn]

@[simp] theorem sacnTerminate_course (s : State) (x : Store × FrameOut × Nat) : course (sacnTerminate s x) = course s := by
  simp [sacnTerminate]

/-! ### Temperatures -/

@[simp] theorem thermalStart_course (s : State) (c : Store) : course (thermalStart s c) = course s := by simp [thermalStart]
@[simp] theorem fixtureTemp_course (s : State) (c : Store) (i r : Nat) : course (fixtureTemp s c i r).1 = course s := by simp [fixtureTemp]

@[simp] theorem latchThermal_course (s : State) (f : Frame) : course (latchThermal s f).1 = course s :=
  foldl_course_of (β := State × SMap Int) Prod.fst (fun a x => fixtureTemp_course a.1 f.cfg x.1 x.2) _ (s, [])

/-! ### Staged transactions -/

@[simp] theorem sendDiscard_course (s : State) (r : Req) (c : Caller) (id : Nat) : course (sendDiscard s r c id) = course s := by
  simp [sendDiscard]

@[simp] theorem endRelay_course (s : State) (x : Relay) : course (endRelay s x) = course s := by simp [endRelay]

@[simp] theorem giveAnswer_course (x : Relay) (a : Answer × State) : course (giveAnswer x a) = course a.2 := by
  unfold giveAnswer
  split <;> simp

@[simp] theorem expireStages_course (s : State) (j : Nat) : course (expireStages s j) = course s := by
  refine foldl_course (fun a x => ?_) _ s
  simp

/-! ### The latch -/

@[simp] theorem clearFaults_course (s : State) (l : List Nat) : course (clearFaults s l) = course s := by simp [clearFaults]
@[simp] theorem replays_course (s : State) (j : Nat) (xs : List Item) : course (replays s j xs) = course s := by simp [replays]

@[simp] theorem latchStore_course (s : State) (o : Store) (j : Nat) (txns : List AccTxn) :
    course (latchStore s o j txns).1 = course s := by simp [latchStore]

/-! ### The edge but for the device state -/

@[simp] theorem timeChanges_course (s : State) (o c : Store) (k : Nat) (e : Time) (txns : List AccTxn) :
    course (timeChanges s o c k e txns) = course s := by simp [timeChanges]

@[simp] theorem sizeChanges_course (s : State) (o c : Store) : course (sizeChanges s o c) = course s := by simp [sizeChanges]

@[simp] theorem radioChanges_course (s : State) (e : Time) (xs : List Item) : course (radioChanges s e xs) = course s := by
  simp [radioChanges]

@[simp] theorem faultChanges_course (s : State) (o c : Store) (xs : List Item) : course (faultChanges s o c xs) = course s := by
  simp [faultChanges]

@[simp] theorem pairChanges_course (s : State) (xs : List Item) : course (pairChanges s xs) = course s := by simp [pairChanges]
@[simp] theorem snapChanges_course (s : State) (txns : List AccTxn) : course (snapChanges s txns) = course s := by simp [snapChanges]

@[simp] theorem noteCommits_course (s : State) (k : Nat) (e : Time) (txns : List AccTxn) :
    course (noteCommits s k e txns) = course s := by simp [noteCommits]

@[simp] theorem commitEdge_course (s : State) (o : Store) (f : Frame) (e : Time) : course (commitEdge s o f e) = course s := by
  simp [commitEdge]

@[simp] theorem dramEdge_course (s : State) (f : Frame) (len : Time) : course (dramEdge s f len) = course s := by simp [dramEdge]

@[simp] theorem swapFront_course (s : State) (f : Frame) (e : Time) (k : Nat) : course (swapFront s f e k) = course s := by
  unfold swapFront
  repeat' split
  all_goals simp

@[simp] theorem yieldEdge_course (s : State) (f : Frame) : course (yieldEdge s f) = course s := by simp [yieldEdge]

@[simp] theorem outputEdge_course (s : State) (f : Frame) (was o : Store) (len : Time) :
    course (outputEdge s f was o len) = course s := by
  unfold outputEdge
  dsimp only
  repeat' split
  all_goals simp

@[simp] theorem civicEdge_course (s : State) (f : Frame) : course (civicEdge s f) = course s := by simp [civicEdge]
@[simp] theorem calStartEdge_course (s : State) (xs : List Item) : course (calStartEdge s xs) = course s := by simp [calStartEdge]

end Sys2Proof.Machine
end

section
/-! Frames in progress (R43, R44, R48, R49, R52): what a latch takes, what a band, the end of COMPUTE and a slip make of a frame, and
O31. -/

namespace Sys2Proof.Machine

/-! ### Frames in progress -/

/-- The frame in progress with a number depends on the frame state alone. -/
theorem frameOf_congr {s t : State} (h : t.frm.frames = s.frm.frames) (n : Nat) : frameOf t n = frameOf s n := by
  simp only [frameOf, h]

/-- A frame in progress has the number it is found by. -/
theorem num_of_frameOf {s : State} {f : Frame} {n : Nat} (h : frameOf s n = some f) : f.num = n := by
  simpa [frameOf] using List.find?_some h

/-- A frame replaced leaves every frame of another number as it was, and is found by its own. -/
theorem frameOf_putFrame (s : State) (g : Frame) (n : Nat) :
    frameOf (putFrame s g) n = if g.num = n then (frameOf s n).map fun _ => g else frameOf s n := by
  have hsame (x : Frame) : (if x.num = g.num then g else x).num = x.num := by split <;> simp_all
  have hp : ((fun x : Frame => decide (x.num = n)) ∘ fun x : Frame => if x.num = g.num then g else x) = fun x => decide (x.num = n) := by
    funext x
    simp [hsame]
  simp only [frameOf, putFrame, List.find?_map, hp]
  cases hf : s.frm.frames.find? fun x => decide (x.num = n) with
  | none => simp
  | some x =>
    have hx : x.num = n := by simpa using List.find?_some hf
    by_cases hg : g.num = n
    · simp [hg, hx]
    · simp [hg, hx, Ne.symm hg]

/-- A frame in progress replaced is found by its number. -/
theorem frameOf_putFrame_same {s : State} {f g : Frame} (h : frameOf s g.num = some f) : frameOf (putFrame s g) g.num = some g := by
  rw [frameOf_putFrame, if_pos rfl, h]
  rfl

/-- The frame served is in COMPUTE (R44). -/
theorem stage_of_working {s : State} {f : Frame} (h : working s = some f) : f.stage = .computing := by
  simpa [working] using List.find?_some h

/-! ### Slips (R49) -/

/-- A frame in COMPUTE slips: of what the statements speak of, its stage and the count of slips change. -/
theorem slipOwn_course {s : State} {f : Frame} {k : Nat} (h : frameOf s k = some f) (hc : f.stage = .computing) :
    course (slipOwn s k) = { course s with frm := { (putFrame s { f with stage := .slipped }).frm with slips := sat32 s.frm.slips 1 } } := by
  have hown : slipOwn s k = sendSlip (slipFrame s k s.stk.index) k := by
    simp only [slipOwn, h]
    exact if_neg (by simp [hc])
  have hslip (n : Nat) : course (slipFrame s k n)
      = course { putFrame s { f with stage := .slipped } with frm :=
        { (putFrame s { f with stage := .slipped }).frm with slips := sat32 s.frm.slips 1 } } := by
    simp only [slipFrame, h]
    rw [if_neg (by simp [hc]), logEv_course]
  rw [hown, sendSlip_course, hslip]
  rfl

/-- Where no frame of the number is in COMPUTE nothing slips. -/
theorem slipOwn_idle {s : State} {k : Nat} (h : ∀ f, frameOf s k = some f → f.stage ≠ .computing) : slipOwn s k = s := by
  unfold slipOwn
  split
  next => rfl
  next f hf => exact if_pos (h f hf)

/-- The slipped frame, and the count. -/
theorem slipOwn_slips {s : State} {f : Frame} {k : Nat} (h : frameOf s k = some f) (hc : f.stage = .computing) :
    frameOf (slipOwn s k) k = some { f with stage := .slipped } ∧ (slipOwn s k).frm.slips = sat32 s.frm.slips 1 := by
  have hf : (slipOwn s k).frm = { (putFrame s { f with stage := .slipped }).frm with slips := sat32 s.frm.slips 1 } :=
    congrArg Course.frm (slipOwn_course h hc)
  have hk : f.num = k := num_of_frameOf h
  subst hk
  rw [frameOf_congr (s := putFrame s { f with stage := .slipped }) (by rw [hf]), hf]
  exact ⟨frameOf_putFrame_same (g := { f with stage := .slipped }) h, rfl⟩

/-! ### Bands (R44, R99 to R101) -/

/-- A band composed moves its frame on by its lines. -/
theorem composeBand_moves {f : Frame} {k y : Nat} (h : nextCanvas f.cfg f.canvas f.lines = some (k, y)) (s : State) :
    (composeBand s f).num = f.num ∧ (composeBand s f).canvas = k ∧ (composeBand s f).lines = min (f.cfg.val cnvHeight k) (y + 64) := by
  unfold composeBand
  split
  next hn => rw [h] at hn; cases hn
  next hn =>
    rw [h] at hn
    cases hn
    exact ⟨rfl, rfl, rfl⟩

/-- The band goes into the next buffer. -/
theorem fillBand_eq {f : Frame} {k y : Nat} (h : nextCanvas f.cfg f.canvas f.lines = some (k, y)) (s : State) :
    fillBand s f = { s with con := { s.con with
      bands := SMap.put none s.con.bands s.con.bandNext (some (f.num, k, y / 64)), bandNext := 1 - s.con.bandNext } } := by
  simp only [fillBand, h]

/-- COMPOSER_BAND with a frame served. -/
theorem exec_composerBand {s : State} {f : Frame} (hw : working s = some f) (hr : s.frm.running = true) (hi : inputHeld s f.num = true) :
    exec .composerBand s = .next (putFrame (fillBand s f) (composeBand s f)) := by
  simp only [exec, execComposerBand, hw]
  exact congrArg Host.Outcome.next (if_pos ⟨hr, hi⟩)

/-! ### The end of COMPUTE (R48, R49) -/

/-- COMPUTE_COMPLETE with every canvas of the frame served composed. -/
theorem exec_computeComplete {s : State} {f : Frame} (hw : working s = some f) (hr : s.frm.running = true) (hc : composed f = true)
    (hi : inputHeld s f.num = true) (u : Time) :
    exec (.computeComplete u) s = .next (if max s.tim.now u < deadline s f.num then completeFrame (advance s u) f
      else slipOwn (advance s u) f.num) := by
  have hw' : working (advance s u) = some f := hw
  have hi' : inputHeld (advance s u) f.num = true := hi
  have hgo : ¬((advance s u).frm.running = false ∨ (!composed f) = true ∨ (!inputHeld (advance s u) f.num) = true) := by
    simp [hr, hc, hi']
  simp only [exec, execComputeComplete, hw']
  exact congrArg Host.Outcome.next (if_neg hgo)

/-- A frame with the data computed from it. -/
def completed (s : State) (f : Frame) : Frame := { f with stage := .complete, out := (computeFrame s f).2 }

/-- A frame that the node completes itself takes the data computed from it. -/
theorem completeFrame_frm {s : State} {f : Frame} (h : shadowing s = false) :
    (completeFrame s f).frm = (putFrame s (completed s f)).frm := by
  have hf : (computeFrame s f).1.frm = s.frm := frm_of_course (computeFrame_course s f)
  have hc : completeFrame s f = resultDone (putFrame (computeFrame s f).1 (completed s f)) f.num f.cfg (computeFrame s f).2 :=
    if_neg (by simp [h])
  rw [hc, frm_of_course (resultDone_course _ _ _ _)]
  simp only [putFrame, hf]

/-! ### The latch (R52) -/

theorem mem_insTxn (x y : AccTxn) (l : List AccTxn) : x ∈ insTxn y l ↔ x = y ∨ x ∈ l := by
  induction l with
  | nil => simp [insTxn]
  | cons z l ih =>
    unfold insTxn
    split
    · simp
    · simp only [List.mem_cons, ih]
      tauto

/-- The order in which transactions apply leaves none out. -/
theorem mem_byFrame (x : AccTxn) (l : List AccTxn) : x ∈ byFrame l ↔ x ∈ l := by
  have h (l a : List AccTxn) : x ∈ l.foldl (fun a y => insTxn y a) a ↔ x ∈ l ∨ x ∈ a := by
    induction l generalizing a with
    | nil => simp
    | cons y l ih =>
      simp only [List.foldl_cons, ih, mem_insTxn, List.mem_cons]
      tauto
  exact (h l []).trans (by simp)

/-- Transactions taken for a frame are no longer among those accepted. -/
theorem takeTxns_course (s : State) (txns : List AccTxn) :
    course (takeTxns s txns) = { course s with accepted := s.ox.accepted.filter fun x => !txns.elem x } :=
  (foldl_course (fun a (x : AccTxn) => dropHolds_course a x.id) _ _).trans rfl

/-- A plan of the node's own counts at most one more frame above the cap. -/
theorem planOwn_course (s : State) (f : Frame) : ∃ n ≤ s.eng.above + 1, course (planOwn s f).1 = { course s with above := n } := by
  unfold planOwn
  extract_lets h0 r h p deep eng s1 s2 s3 s4
  have h4 : course s4 = course s1 := by simp [s4, s3, s2]
  refine ⟨s1.eng.above, ?_, by rw [planCauses_course, h4]; rfl⟩
  show (if h = 8 ∧ p.high = true then s.eng.above + 1 else 0) ≤ s.eng.above + 1
  split <;> omega

theorem planFrame_course (s : State) (f : Frame) : ∃ n ≤ s.eng.above + 1, course (planFrame s f).1 = { course s with above := n } := by
  unfold planFrame
  split
  · exact ⟨s.eng.above, by omega, rfl⟩
  · split
    · exact ⟨s.eng.above, by omega, rfl⟩
    · exact planOwn_course s f

/-- Neither the active's inputs nor a plan changes what a frame is. -/
theorem planFrame_frame (s : State) (f : Frame) : (planFrame s f).2.num = f.num ∧ (planFrame s f).2.txns = f.txns := by
  unfold planFrame
  split
  · exact ⟨rfl, rfl⟩
  · split
    · unfold applyInput
      split <;> exact ⟨rfl, rfl⟩
    · exact ⟨rfl, rfl⟩

/-- The transactions that the next frame takes at its latch. -/
def dueTxns (s : State) : List AccTxn := (byFrame s.ox.accepted).filter fun x => decide (x.frame ≤ nextLatch s)

/-- Temperatures taken or not, the frame's number and transactions stay, and the course. -/
theorem latchThermal_if (c : Prop) [Decidable c] (s : State) (f : Frame) :
    course (if c then latchThermal s f else (s, f)).1 = course s ∧ (if c then latchThermal s f else (s, f)).2.num = f.num
    ∧ (if c then latchThermal s f else (s, f)).2.txns = f.txns := by
  split
  · exact ⟨latchThermal_course s f, rfl, rfl⟩
  · exact ⟨rfl, rfl, rfl⟩

/-- The latch of a node below its cap: the next frame is added with the transactions due, which are no longer among those accepted. -/
theorem latchFrame_adds {s : State} (h7 : s.eng.above < 7) :
    ∃ f, (latchFrame s).frm.frames = s.frm.frames ++ [f] ∧ f.num = nextLatch s ∧ f.txns = dueTxns s
      ∧ (latchFrame s).ox.accepted = s.ox.accepted.filter fun x => !(dueTxns s).elem x := by
  unfold latchFrame
  extract_lets j s0 o txns a c st a1 eng s1 l f b p p1 frm s2 s3
  have h0 : course s0 = course s := expireStages_course s j
  have hacc : s0.ox.accepted = s.ox.accepted := congrArg Course.accepted h0
  have htx : txns = dueTxns s := by simp only [txns, hacc]; rfl
  have ha : course a.1 = { course s with accepted := s.ox.accepted.filter fun x => !(dueTxns s).elem x } := by
    rw [show course a.1 = course (takeTxns s0 txns) by simp [a], takeTxns_course, h0, hacc, htx]
  clear_value a
  have hl : course l.1 = course a.1 := (latchLayers_course s1 o c j).trans rfl
  have hf : f.num = j ∧ f.txns = txns := ⟨rfl, rfl⟩
  clear_value l f
  obtain ⟨hb, hbn, hbt⟩ : course b.1 = course l.1 ∧ b.2.num = f.num ∧ b.2.txns = f.txns := latchThermal_if _ l.1 f
  obtain ⟨n, hn, hp⟩ := planFrame_course b.1 b.2
  obtain ⟨hnum, htxns⟩ := planFrame_frame b.1 b.2
  rw [hb, hl, ha] at hp
  have hb7 : b.1.eng.above = s.eng.above := congrArg Course.above (hb.trans (hl.trans ha))
  have h3 : course s3 = course s2 := by simp [s3]
  have hab : s3.eng.above = n := (congrArg Course.above h3).trans (congrArg Course.above hp)
  clear_value b
  rw [if_neg (by simp only [unholdable, hab, decide_eq_true_eq]; omega)]
  refine ⟨p.2, ?_, hnum.trans (hbn.trans hf.1), (htxns.trans (hbt.trans hf.2)).trans htx, ?_⟩
  · have hframes : p.1.frm.frames = s.frm.frames := congrArg (fun v => v.frm.frames) hp
    rw [← hframes]
    exact congrArg (fun v => v.frm.frames) h3
  · exact (congrArg Course.accepted h3).trans (congrArg Course.accepted hp)

/-- FRAME_LATCH with fewer than three frames in progress. -/
theorem exec_frameLatch {s : State} (hr : s.frm.running = true) (hl : s.frm.frames.length < 3) :
    exec .frameLatch s = .next (latchFrame (advance s (latchInstant s))) :=
  congrArg Host.Outcome.next (if_pos (by simp [latchReady, hr, hl]))

/-- Settles O31: the latch takes the transactions due, and a frame in COMPUTE composes its bands, completes or slips. -/
theorem framesAreLatchedComputedAndSlip : Obligations.FramesAreLatchedComputedAndSlip := by
  unfold Obligations.FramesAreLatchedComputedAndSlip
  refine ⟨?latch, ?band, ?complete, ?late, ?deadline⟩
  case latch =>
    intro s hr hl h7
    obtain ⟨f, hframes, hnum, htxns, hacc⟩ := latchFrame_adds (s := advance s (latchInstant s)) h7
    refine ⟨_, f, exec_frameLatch hr hl, hframes, hnum, fun x hx hle => ?_, fun x hx => ?_⟩
    · rw [htxns]
      exact List.mem_filter.mpr ⟨(mem_byFrame x _).mpr hx, decide_eq_true (hnum ▸ hle)⟩
    · rw [hacc] at hx
      obtain ⟨hx, hout⟩ := List.mem_filter.mp hx
      refine ⟨hx, ?_⟩
      by_contra hle
      have hdue : x ∈ dueTxns (advance s (latchInstant s)) :=
        List.mem_filter.mpr ⟨(mem_byFrame x _).mpr hx, decide_eq_true (hnum ▸ Nat.not_lt.mp hle)⟩
      simp [hdue] at hout
  case band =>
    intro s f k y hw hf hr hi hk
    obtain ⟨hnum, hcanvas, hlines⟩ := composeBand_moves hk s
    refine ⟨_, composeBand s f, exec_composerBand hw hr hi, ?_, hcanvas, hlines, ?_, ?_, ?_⟩
    all_goals rw [fillBand_eq hk]
    · rw [← hnum] at hf ⊢
      exact frameOf_putFrame_same hf
    · exact ((changes_con s _).mono (by decide)).trans ((putFrame_changes _ _).mono (by decide))
    · simp [putFrame]
    · rfl
  case complete =>
    intro s u f hw hf hr hc hi hsh hu
    have hfrm := completeFrame_frm (s := advance s u) (f := f) hsh
    refine ⟨_, completed (advance s u) f, exec_computeComplete hw hr hc hi u, ?_⟩
    rw [if_pos hu]
    refine ⟨?_, rfl, rfl, (congrArg Frm.slips hfrm :)⟩
    rw [frameOf_congr (congrArg Frm.frames hfrm)]
    exact frameOf_putFrame_same (g := completed (advance s u) f) hf
  case late =>
    intro s u f hw hf hr hc hi hu
    refine ⟨_, { f with stage := .slipped }, exec_computeComplete hw hr hc hi u, ?_⟩
    rw [if_neg (Nat.not_lt.mpr hu)]
    obtain ⟨hframe, hslips⟩ := slipOwn_slips (s := advance s u) hf (stage_of_working hw)
    exact ⟨hframe, rfl, hslips⟩
  case deadline =>
    intro s f hf hst hr
    have hk := num_of_frameOf hf
    refine ⟨slipOwn (advance s (s.frm.next - margin s.cfg)) f.num, { f with stage := .slipped }, ?_, ?_⟩
    · simp only [exec, execComputeDeadline, hf]
      exact congrArg Host.Outcome.next (if_pos ⟨hr, hst⟩)
    · obtain ⟨hframe, hslips⟩ := slipOwn_slips (s := advance s (s.frm.next - margin s.cfg)) (k := f.num) (hk ▸ hf) hst
      exact ⟨hframe, rfl, hslips⟩

end Sys2Proof.Machine
end

section
/-! The frame edge (R36, R47, R49, R60): what lies before it leaves the frame due as it is, what it settles, and what the outputs leave
alone; and O30. -/

namespace Sys2Proof.Machine

/-! ### Before the edge (R48, R52, R184) -/

/-- What may happen to the course before the next edge: time passes up to that edge at most, and frames in COMPUTE slip. -/
structure Course.Nears (v w : Course) : Prop where
  same : w = { v with now := w.now, frm := { v.frm with frames := w.frm.frames, slips := w.frm.slips } }
  now : max w.now v.frm.next = max v.now v.frm.next
  length : w.frm.frames.length = v.frm.frames.length
  kept : ∀ n f, v.frm.frames.find? (·.num = n) = some f → f.stage ≠ .computing → w.frm.frames.find? (·.num = n) = some f

theorem Course.Nears.refl (v : Course) : v.Nears v := ⟨rfl, rfl, rfl, fun _ _ h _ => h⟩

theorem Course.Nears.next {v w : Course} (h : v.Nears w) : w.frm.next = v.frm.next := by rw [h.same]

theorem Course.Nears.trans {u v w : Course} (h : u.Nears v) (k : v.Nears w) : u.Nears w :=
  ⟨k.same.trans (by rw [h.same]), by rw [← h.next, k.now, h.next, h.now], k.length.trans h.length,
    fun n f hf hs => k.kept n f (h.kept n f hf hs) hs⟩

/-- A slip spares every frame whose COMPUTE has ended. -/
theorem slipOwn_nears (s : State) (k : Nat) : (course s).Nears (course (slipOwn s k)) := by
  by_cases h : ∃ f, frameOf s k = some f ∧ f.stage = .computing
  · obtain ⟨f, hf, hc⟩ := h
    rw [slipOwn_course hf hc]
    refine ⟨rfl, rfl, List.length_map _, fun n g hg hs => ?_⟩
    have hn : { f with stage := .slipped }.num ≠ n := by
      rintro rfl
      have hfg : f = g := Option.some.inj ((num_of_frameOf hf ▸ hf).symm.trans hg)
      exact hs (hfg ▸ hc)
    exact (frameOf_putFrame s { f with stage := .slipped } n).trans ((if_neg hn).trans hg)
  · rw [slipOwn_idle fun f hf hc => h ⟨f, hf, hc⟩]
    exact .refl _

/-- Time moved to an instant that is not after the next edge. -/
theorem nears_of_advance {s t : State} {u : Time} (hu : u ≤ s.frm.next) (h : course t = course (advance s u)) :
    (course s).Nears (course t) := by
  rw [h]
  refine ⟨rfl, ?_, rfl, fun _ _ h _ => h⟩
  show max (max s.tim.now u) s.frm.next = max s.tim.now s.frm.next
  rw [max_assoc, max_eq_right hu]

theorem quietStart_nears (s : State) (p : Nat) : (course s).Nears (course (quietStart s p)) :=
  nears_of_advance (u := quietAt s p) ((Nat.sub_le _ _).trans (Nat.sub_le _ _)) (by simp [quietStart])

theorem syncStart_nears (s : State) (p : Nat) : (course s).Nears (course (syncStart s p)) :=
  nears_of_advance (u := syncAt s) (Nat.sub_le _ _) (by simp [syncStart])

theorem sacnFinish_nears (s : State) : (course s).Nears (course (sacnFinish s)) := by
  have h (a : State) (p : Nat) : (course a).Nears (course (
      let b := if quietAhead a p then quietStart a p else a
      if syncAhead b p then syncStart b p else b)) := by
    extract_lets b
    have hb : (course a).Nears (course b) := by
      unfold b
      split
      · exact quietStart_nears a p
      · exact .refl _
    split
    · exact hb.trans (syncStart_nears b p)
    · exact hb
  exact (h s 0).trans (h _ 1)

/-- With three frames in progress none is latched before the edge. -/
theorem lateLatch_full {s : State} (h : s.frm.frames.length = 3) : lateLatch s = s := if_neg (by simp [latchReady, h])

/-- Before an edge with three frames in progress: slips, quiet times and synchronisation packets. -/
theorem beforeEdge_nears {s : State} (h : s.frm.frames.length = 3) : (course s).Nears (course (beforeEdge s)) := by
  unfold beforeEdge
  rw [lateLatch_full h, lateLatch_full h, lateLatch_full h]
  exact ((slipOwn_nears _ _).trans (slipOwn_nears _ _)).trans (sacnFinish_nears _)

/-! ### What the edge settles (R36, R60) -/

/-- The edge of a frame at an instant, settled from a state: number, instant and parameter set of the frame, with what was shown before. -/
structure Settled (s : State) (f : Frame) (e : Time) (v : Course) : Prop where
  num : v.frm.num = f.num
  last : v.frm.last = e
  begun : v.frm.begun = true
  cur : v.frm.cur = f.cfg
  shown : v.frm.shown = s.frm.shown
  rest : v = { course s with frm := v.frm }

/-- Of the frame state, only the next edge, the offset and the lock loop are fixed with the next edge. -/
theorem fixNext_eq (s : State) (k : Nat) (e : Time) (o c : Store) (xs : List Item) : ∃ n d l,
    fixNext s k e o c xs = { s with frm := { s.frm with next := n, delta := d, lock := l } } := by
  unfold fixNext
  dsimp only
  repeat' split
  all_goals exact ⟨_, _, _, rfl⟩

theorem passEdge_settled (s : State) (f : Frame) (e : Time) : Settled s f e (course (passEdge s f e)) := by
  obtain ⟨n, d, l, h⟩ := fixNext_eq s f.num e s.cfg f.cfg (f.txns.flatMap (·.items))
  simp only [passEdge, h]
  exact ⟨rfl, rfl, rfl, rfl, rfl, rfl⟩

/-- A follower places the next edge. -/
theorem followEdge_course (s : State) (k : Nat) : ∃ n, course (followEdge s k) = { course s with frm := { s.frm with next := n } } := by
  unfold followEdge
  split
  · exact ⟨s.frm.next, rfl⟩
  · extract_lets got stk s1 stk1 s2
    have h1 : course s1 = course s := by simp [s1, stk]
    have h2 : course s2 = course s := h1
    split
    next e _ =>
      have hnext := congrArg (fun v : Course => { v with frm := { v.frm with next := (placeNext s2 e).frm.next } }) h2
      exact ⟨_, hnext⟩
    next => exact ⟨s.frm.next, h2⟩

theorem Settled.of_next {s t : State} {f : Frame} {e n : Time} {v : Course} (h : Settled s f e (course t))
    (hv : v = { course t with frm := { t.frm with next := n } }) : Settled s f e v := by
  obtain ⟨hn, hl, hb, hc, hs, hr⟩ := h
  subst hv
  exact ⟨hn, hl, hb, hc, hs, by rw [hr]⟩

/-- The edge passed, its messages sent and its transactions in effect, before the device state moves. -/
def committed (s : State) (f : Frame) (e : Time) : State :=
  commitEdge (sendEdge (followEdge (passEdge s f e) f.num)) s.cfg f e

theorem committed_settled (s : State) (f : Frame) (e : Time) : Settled s f e (course (committed s f e)) := by
  obtain ⟨n, hn⟩ := followEdge_course (passEdge s f e) f.num
  rw [committed, commitEdge_course, sendEdge_course]
  exact (passEdge_settled s f e).of_next hn

/-! ### Moves among READY, RUN and SHADOW -/

/-- A change of the device state. -/
@[simp] theorem toState_course (s : State) (x : DevState) : course (toState s x) = { course s with dev := { s.dev with state := x } } := by
  unfold toState
  split
  next h => rw [← h]; rfl
  next => exact (raise_course _ _).trans ((notify_course _ _ _).trans rfl)

@[simp] theorem course_frm (s : State) : (course s).frm = s.frm := rfl
@[simp] theorem course_now (s : State) : (course s).now = s.tim.now := rfl

/-- The frame state and device time stay. -/
def Paced (s t : State) : Prop := (course t).frm = s.frm ∧ (course t).now = s.tim.now

theorem Paced.refl (s : State) : Paced s s := ⟨rfl, rfl⟩

theorem Paced.trans {s t u : State} (h : Paced s t) (k : Paced t u) : Paced s u := ⟨k.1.trans h.1, k.2.trans h.2⟩

theorem Paced.of_course {s t : State} (h : course t = course s) : Paced s t := ⟨congrArg Course.frm h, congrArg Course.now h⟩

theorem giveUp_paced (s : State) (k : Nat) : Paced s (giveUp s k) := by simp [Paced, giveUp]

theorem leaveRun_paced (s : State) (k : Nat) : Paced s (leaveRun s k) := by
  unfold leaveRun
  extract_lets s1 st2 red2 s2 red3 s3
  have h1 : Paced s s1 := .of_course (by simp [s1])
  have h2 : Paced s1 s2 := by
    unfold s2
    split
    · simp [Paced, st2, red2, redCount]
    · exact .refl s1
  have h3 : Paced s2 s3 := by simp [Paced, s3, red3]
  split
  · exact ((h1.trans h2).trans h3).trans (.of_course (announceRole_course _ _))
  · exact (h1.trans h2).trans h3

theorem leaseEdge_paced (s : State) (k : Nat) : Paced s (leaseEdge s k) := by
  unfold leaseEdge
  split
  · exact .refl s
  · extract_lets red stk taken cleared s1 s2 lost red2
    have h1 : Paced s s1 := by
      unfold s1
      split
      · split
        · simp [Paced, cleared, taken, red, stk]
        · exact .refl s
      · exact .refl s
    have h2 : Paced s1 s2 := by simp [Paced, s2]
    split
    · exact h1
    · split
      · exact (h1.trans h2).trans (giveUp_paced s2 k)
      · exact (h1.trans h2).trans ⟨rfl, rfl⟩

theorem roleEdge_paced (s : State) (k : Nat) : Paced s (roleEdge s k) := by
  unfold roleEdge
  split
  · dsimp only
    repeat' split
    all_goals simp [Paced]
  · exact .refl s

theorem runEdge_paced (s : State) (f : Frame) : Paced s (runEdge s f) := by
  unfold runEdge
  dsimp only
  split
  · split <;> simp [Paced]
  · split
    · exact leaveRun_paced s f.num
    · exact .refl s

theorem entryEdge_paced (s : State) (before : DevState) (k : Nat) : Paced s (entryEdge s before k) := by
  unfold entryEdge
  extract_lets a s1
  have h1 : Paced s s1 := .of_course (by simp [s1, a])
  split
  · exact h1.trans ⟨rfl, rfl⟩
  · exact h1

/-- The lease, the role, DEV_RUN and what an entry begins anew leave the frames and the clock to the edge. -/
theorem stateEdge_paced (s : State) (f : Frame) : Paced s (stateEdge s f) := by
  unfold stateEdge
  exact (((leaseEdge_paced s f.num).trans (roleEdge_paced _ f.num)).trans (runEdge_paced _ f)).trans (entryEdge_paced _ _ _)

/-- A node in RUN outside a pair, without a change of role and with DEV_RUN 1, stays as it is. -/
theorem stateEdge_run {s : State} {f : Frame} (hs : s.dev.state = .run) (hp : s.red.pair = false) (hr : s.red.roleAt = none)
    (hd : f.cfg.v devRun = 1) : stateEdge s f = s := by
  have hlease : leaseEdge s f.num = s := if_pos (.inl hp)
  have hrole : roleEdge s f.num = s := by simp [roleEdge, hr]
  have hrun : runEdge s f = s := by simp [runEdge, hs, hd]
  rw [stateEdge, hlease, hrole, hrun]
  simp [entryEdge]

/-! ### Presentation (R47, R49) -/

/-- A frame presented is shown with its number, and is no repeat. -/
theorem present_course (s : State) (f : Frame) (e : Time) : course (present s f e)
    = { course s with frm := { s.frm with shown := f.out, shownCfg := f.cfg, shownNum := f.num, repeat_ := false } } := by
  have h : course ((List.range 4).foldl (fun a k => swapFront a f e k) s) = course s := by simp
  unfold present
  extract_lets s1
  show { course s1 with frm := { s1.frm with shown := f.out, shownCfg := f.cfg, shownNum := f.num, repeat_ := false } } = _
  rw [show course s1 = course s from h, frm_of_course h]

/-- What an edge shows is all that it changes of the course. -/
theorem showEdge_course (s : State) (f : Frame) (e : Time) : ∃ o c n b, course (showEdge s f e)
    = { course s with frm := { s.frm with shown := o, shownCfg := c, shownNum := n, repeat_ := b } } := by
  unfold showEdge
  dsimp only
  split
  · exact ⟨_, _, _, _, present_course s f e⟩
  · split <;> exact ⟨_, _, _, _, rfl⟩

/-- A completed frame is presented in RUN. -/
theorem showEdge_complete {s : State} {f : Frame} (hs : s.dev.state = .run) (hc : f.stage = .complete) (e : Time) :
    showEdge s f e = present s f e := if_pos (by simp [hs, hc])

/-- In RUN a frame that is not complete shows the one before again. -/
theorem showEdge_repeat {s : State} {f : Frame} (hs : s.dev.state = .run) (hc : f.stage ≠ .complete) (e : Time) :
    showEdge s f e = { s with frm := { s.frm with repeat_ := true } } :=
  (if_neg (by simp [hc])).trans (if_pos (by simp [hs]))

/-! ### The edge of a node that goes on -/

@[simp] theorem fabricEdge_course (s : State) (m : Nat) (presented : Bool) : course (fabricEdge s m presented) = course s := rfl

/-- After what the edge shows, outputs, ledger and calibration leave the course alone. -/
theorem edgeOn_course (s : State) (f : Frame) (e : Time) (i : EdgeIn) :
    course (edgeOn s f e i) = course (showEdge (stateEdge (committed s f e) f) f e) := by
  unfold edgeOn
  extract_lets o shownO len xs s1 s2 s3 s4 s5 s6
  have h6 : course s6 = course s3 := by simp [s6, s5, s4]
  rw [calStartEdge_course, calEdge_course, fabricEdge_course, h6, yieldEdge_course]
  rfl

/-- The edge takes the frame's number, instant and parameter set. -/
theorem edgeOn_settles (s : State) (f : Frame) (e : Time) (i : EdgeIn) :
    (edgeOn s f e i).frm.num = f.num ∧ (edgeOn s f e i).frm.last = e ∧ (edgeOn s f e i).frm.begun = true
    ∧ (edgeOn s f e i).frm.cur = f.cfg ∧ (edgeOn s f e i).tim.now = s.tim.now := by
  obtain ⟨hn, hl, hb, hc, _, hr⟩ := committed_settled s f e
  obtain ⟨hfrm, hnow⟩ := stateEdge_paced (committed s f e) f
  obtain ⟨o, c, n, b, hshow⟩ := showEdge_course (stateEdge (committed s f e) f) f e
  have h := (edgeOn_course s f e i).trans hshow
  have hf : (edgeOn s f e i).frm
      = { (committed s f e).frm with shown := o, shownCfg := c, shownNum := n, repeat_ := b } :=
    (congrArg Course.frm h).trans (by rw [← hfrm]; rfl)
  have ht : (edgeOn s f e i).tim.now = s.tim.now := ((congrArg Course.now h).trans hnow).trans (congrArg Course.now hr)
  rw [hf]
  exact ⟨hn, hl, hb, hc, ht⟩

/-- The edge of a node that stays in RUN shows the frame or the one before again. -/
theorem edgeOn_run {s : State} {f : Frame} (hs : s.dev.state = .run) (hp : s.red.pair = false) (hr : s.red.roleAt = none)
    (hd : f.cfg.v devRun = 1) (e : Time) (i : EdgeIn) :
    (f.stage = .complete → (edgeOn s f e i).frm.shown = f.out ∧ (edgeOn s f e i).frm.shownNum = f.num
      ∧ (edgeOn s f e i).frm.repeat_ = false)
    ∧ (f.stage ≠ .complete → (edgeOn s f e i).frm.shown = s.frm.shown ∧ (edgeOn s f e i).frm.repeat_ = true) := by
  obtain ⟨_, _, _, _, hshown, hrest⟩ := committed_settled s f e
  have hs' : (committed s f e).dev.state = .run := (congrArg (fun v => v.dev.state) hrest).trans hs
  have hstay : stateEdge (committed s f e) f = committed s f e :=
    stateEdge_run hs' ((congrArg Course.pair hrest).trans hp) ((congrArg Course.roleAt hrest).trans hr) hd
  have h := edgeOn_course s f e i
  rw [hstay] at h
  refine ⟨fun hc => ?_, fun hc => ?_⟩
  · rw [showEdge_complete hs' hc, present_course] at h
    have hf : (edgeOn s f e i).frm
        = { (committed s f e).frm with shown := f.out, shownCfg := f.cfg, shownNum := f.num, repeat_ := false } := congrArg Course.frm h
    rw [hf]
    exact ⟨rfl, rfl, rfl⟩
  · rw [showEdge_repeat hs' hc] at h
    have hf : (edgeOn s f e i).frm = { (committed s f e).frm with repeat_ := true } := congrArg Course.frm h
    rw [hf]
    exact ⟨hshown, rfl⟩

/-! ### FRAME_EDGE -/

/-- The block as its next edge falls, with all before it done. -/
def atEdge (s : State) : State := advance (beforeEdge s) (beforeEdge s).frm.next

/-- What the block is at an edge with three frames in progress: only the frames and time have moved. -/
theorem atEdge_course {s : State} (hl : s.frm.frames.length = 3) :
    course (atEdge s) = { course s with
      now := max s.tim.now s.frm.next
      frm := { s.frm with frames := (atEdge s).frm.frames, slips := (atEdge s).frm.slips } } := by
  have h := beforeEdge_nears hl
  have hnow : (atEdge s).tim.now = max s.tim.now s.frm.next := by
    have hnext : (beforeEdge s).frm.next = s.frm.next := h.next
    show max (beforeEdge s).tim.now (beforeEdge s).frm.next = _
    rw [hnext]
    exact h.now
  rw [← hnow]
  exact congrArg (fun v : Course => { v with now := (atEdge s).tim.now }) h.same

/-- The frame whose edge it is. -/
theorem nextUp_num (s : State) : (nextUp s).num = nextNum s := by
  unfold nextUp
  cases h : frameOf s (nextNum s) with
  | none => rfl
  | some f => exact num_of_frameOf h

theorem nextNum_atEdge {s : State} (hl : s.frm.frames.length = 3) : nextNum (atEdge s) = nextNum s :=
  congrArg (fun v => if v.frm.begun then v.frm.num + 1 else v.frm.num) (atEdge_course hl)

/-- A frame whose COMPUTE has ended before its edge is the one at the edge. -/
theorem nextUp_atEdge {s : State} {f : Frame} (hl : s.frm.frames.length = 3) (hf : frameOf s (nextNum s) = some f)
    (hc : f.stage ≠ .computing) : nextUp (atEdge s) = f := by
  have hkept : frameOf (atEdge s) (nextNum s) = some f := (beforeEdge_nears hl).kept _ f hf hc
  rw [nextUp, nextNum_atEdge hl, hkept]
  rfl

/-- FRAME_EDGE with three frames in progress: what falls on the edge is decided as it stood before. -/
theorem exec_frameEdge {s : State} (hr : s.frm.running = true) (hl : s.frm.frames.length = 3) (i : EdgeIn) :
    exec (.frameEdge i) s = .next (
      if s.upd.resetWanted = true then toDawn (atEdge s)
      else if s.dev.duskWanted = true then
        enterDusk { atEdge s with frm := { (atEdge s).frm with num := nextNum s, last := s.frm.next, begun := true } } (nextNum s)
          (sending (beforeEdge s))
      else if s.upd.state = 4 ∧ decide (s.upd.armed.getD 0 ≤ nextNum s) = true then activate (atEdge s)
      else edgeOn (atEdge s) (nextUp (atEdge s)) s.frm.next i) := by
  have h := atEdge_course hl
  have hn : nextNum (beforeEdge s) = nextNum s := (nextNum_atEdge hl :)
  have he : (beforeEdge s).frm.next = s.frm.next := (beforeEdge_nears hl).next
  have hrun : (beforeEdge s).frm.running = true := (congrArg (fun v => v.frm.running) h).trans hr
  have hreset : (atEdge s).upd.resetWanted = s.upd.resetWanted := congrArg Course.resetWanted h
  have hdusk : (atEdge s).dev.duskWanted = s.dev.duskWanted := congrArg (fun v => v.dev.duskWanted) h
  have hupd : (atEdge s).upd.state = s.upd.state := congrArg Course.updState h
  have harm : (atEdge s).upd.armed = s.upd.armed := congrArg Course.armed h
  rw [← hreset, ← hdusk, ← hupd, ← harm, ← he, ← hn]
  unfold atEdge
  simp only [exec, execFrameEdge, hr, hrun, Bool.not_true, Bool.false_eq_true, if_false]

theorem running_of_vitals {s : State} {v : Vitals} (h : vitals s = v) : s.frm.running = v.running := congrArg Vitals.running h

/-- The transition to an update state. -/
theorem toUpd_state (s : State) (n : Nat) (m : List Byte) : (toUpd s n m).upd.state = n := by
  unfold toUpd
  split
  next h => exact h
  next => exact congrArg Update.state (logEv_changes _ _ _ _ _ .upd (by decide))

/-- At the activation edge the update is ACTIVATING, nothing is armed any more, and no edges run. -/
theorem activate_stops (s : State) : (activate s).upd.state = 5 ∧ (activate s).upd.armed = none ∧ (activate s).frm.running = false :=
  ⟨toUpd_state _ 5 _, rfl, running_of_vitals (activate_vitals s)⟩

/-- At a reset the node enters DAWN, and no edges run. -/
theorem toDawn_stops (s : State) : (toDawn s).dev.state = .dawn ∧ (toDawn s).frm.running = false := by
  have h : vitals (toDawn s) = { (vitals s).halt .dawn 0 with fab := State.reset.fab } :=
    (islandDawn_vitals _).trans (restart_vitals s)
  exact ⟨state_of_vitals h, running_of_vitals h⟩

@[simp] theorem duskLease_course (s : State) (k : Nat) : course (duskLease s k) = course s := by simp [duskLease]

/-- DUSK is entered at the edge reached, and no edges run in it. -/
theorem enterDusk_stops (s : State) (k : Nat) (last : Store × FrameOut × Nat) :
    (enterDusk s k last).dev.state = .dusk ∧ (enterDusk s k last).frm.running = false ∧
    (enterDusk s k last).frm.num = s.frm.num ∧ (enterDusk s k last).frm.last = s.frm.last := by
  have hv := enterDusk_vitals s k last
  refine ⟨state_of_vitals hv, running_of_vitals hv, ?_⟩
  have h : (duskLease (if s.dev.state = .run then sacnTerminate s last else s) k).frm = s.frm := frm_of_course (by simp)
  unfold enterDusk
  extract_lets s1 s2 rad wired red dev log s3
  have hf (u : Time) : (partialMinute (toState (loadRtc s3 u) .dusk)).frm = s2.frm := congrArg Course.frm (toState_course _ _)
  rw [hf]
  exact ⟨(congrArg Frm.num h :), (congrArg Frm.last h :)⟩

/-- FRAME_EDGE of a node that goes on. -/
theorem exec_frameEdge_on {s : State} (hr : s.frm.running = true) (hl : s.frm.frames.length = 3) (hw : s.upd.resetWanted = false)
    (hd : s.dev.duskWanted = false) (hu : s.upd.state ≠ 4) (i : EdgeIn) :
    exec (.frameEdge i) s = .next (edgeOn (atEdge s) (nextUp (atEdge s)) s.frm.next i) := by
  rw [exec_frameEdge hr hl, if_neg (by simp [hw]), if_neg (by simp [hd]), if_neg fun h => hu h.1]

/-- Settles O30: what lies before the edge leaves the frame due as it is, and what follows it leaves what the edge settled. -/
theorem edgesNumberAndPresentFrames : Obligations.EdgesNumberAndPresentFrames := by
  unfold Obligations.EdgesNumberAndPresentFrames
  refine ⟨?edge, ?run, ?reset, ?dusk, ?activation, ?still⟩
  case edge =>
    intro s i hr hl hw hd hu
    obtain ⟨hnum, hlast, hbegun, _, hnow⟩ := edgeOn_settles (atEdge s) (nextUp (atEdge s)) s.frm.next i
    refine ⟨_, exec_frameEdge_on hr hl hw hd hu i, ?_, hlast, hbegun, hnow.trans (congrArg Course.now (atEdge_course hl))⟩
    rw [hnum, nextUp_num, nextNum_atEdge hl]
  case run =>
    intro s i f hr hl hw hd hu hf hst hp hra hrun
    have h := atEdge_course hl
    obtain ⟨hcomplete, hrepeat⟩ := edgeOn_run (s := atEdge s) ((congrArg (fun v => v.dev.state) h).trans hst)
      ((congrArg Course.pair h).trans hp) ((congrArg Course.roleAt h).trans hra) hrun s.frm.next i
    obtain ⟨_, _, _, hcur, _⟩ := edgeOn_settles (atEdge s) f s.frm.next i
    have hexec (hc : f.stage ≠ .computing) : exec (.frameEdge i) s = .next (edgeOn (atEdge s) f s.frm.next i) := by
      rw [exec_frameEdge_on hr hl hw hd hu, nextUp_atEdge hl hf hc]
    refine ⟨fun hc => ⟨_, hexec (by simp [hc]), hcur, hcomplete hc⟩, fun hc => ⟨_, hexec (by simp [hc]), hcur, ?_⟩⟩
    obtain ⟨hshown, hagain⟩ := hrepeat (by simp [hc])
    exact ⟨hshown.trans (congrArg (fun v => v.frm.shown) h), hagain⟩
  case reset =>
    intro s i hr hl hw
    refine ⟨toDawn (atEdge s), ?_, toDawn_stops _⟩
    rw [exec_frameEdge hr hl, if_pos hw]
  case dusk =>
    intro s i hr hl hw hd
    refine ⟨_, ?_, enterDusk_stops { atEdge s with frm := { (atEdge s).frm with num := nextNum s, last := s.frm.next, begun := true } }
      (nextNum s) (sending (beforeEdge s))⟩
    rw [exec_frameEdge hr hl, if_neg (by simp [hw]), if_pos hd]
  case activation =>
    intro s i hr hl hw hd hu ha
    refine ⟨activate (atEdge s), ?_, activate_stops _⟩
    rw [exec_frameEdge hr hl, if_neg (by simp [hw]), if_neg (by simp [hd]), if_pos ⟨hu, decide_eq_true ha⟩]
  case still =>
    intro s i hr
    exact congrArg Host.Outcome.next (if_pos (by simp [hr]))

end Sys2Proof.Machine
end

section
/-! Device time and its discipline (R66 to R69, R72, R75): what the PTP decision and the messages of a port leave of the time base, and
O25. -/

namespace Sys2Proof.Machine

/-! ### What sending leaves of the time base -/

/-- A message put on a port's queue is no part of the time base. -/
@[simp] theorem ptpPush_tim (s : State) (p : Nat) (m : PtpMsg) : (ptpPush s p m).tim = s.tim :=
  qPush_changes s _ _ _ .tim (by decide)

/-- A message of the port's own takes the next sequence ID of its type. -/
@[simp] theorem ptpOwn_tim (s : State) (p ty flags : Nat) (corr : Int) (body : List Byte) :
    (ptpOwn s p ty flags corr body).1.tim
      = { s.tim with ptpSeq := SMap.put 0 s.tim.ptpSeq (p * 16 + ty) ((SMap.get 0 s.tim.ptpSeq (p * 16 + ty) + 1) % 65536) } :=
  ptpPush_tim _ _ _

/-- The message of a SLAVE port moves the sequence ID of its type alone: Pdelay_Req (2) under the peer-to-peer profile, else
Delay_Req (1). -/
theorem ptpSlave_tim (s : State) (p : Nat) : (ptpSlave s p).tim = { s.tim with
    ptpSeq := SMap.upd 0 s.tim.ptpSeq (p * 16 + if s.cfg.v timPtpProfile = 1 then 2 else 1) fun n => (n + 1) % 65536 } := by
  unfold ptpSlave
  split
  · exact ptpOwn_tim _ _ _ _ _ _
  · exact ptpOwn_tim _ _ _ _ _ _

/-- The messages of a MASTER port move the sequence IDs of Sync (0) and Announce (11), and what waits for its timestamp. -/
theorem ptpMaster_tim (s : State) (p : Nat) (t : Time) : (ptpMaster s p t).tim = { s.tim with
    ptpSeq := SMap.upd 0 (SMap.upd 0 s.tim.ptpSeq (p * 16) fun n => (n + 1) % 65536) (p * 16 + 11) fun n => (n + 1) % 65536
    ptpPend := (ptpMaster s p t).tim.ptpPend } := by
  unfold ptpMaster
  dsimp only
  split <;> simp [ptpAwait, SMap.upd]

/-! ### The best master decision (R69, R72) -/

/-- The block with both ports in the states that are their roles. -/
def ptpAssign (s : State) (heardNone : Option Nat) : State :=
  let r (p : Nat) : Nat := ptpRole s s.tim.now heardNone p
  { s with tim := { s.tim with ptpPort := SMap.put 0 (SMap.put 0 s.tim.ptpPort 0 (r 0)) 1 (r 1) } }

/-- The decision gives both ports their roles; the discipline stays, or the node is FREE or in HOLDOVER. -/
theorem ptpDecide_cases (s : State) (heardNone : Option Nat) : ptpDecide s heardNone = ptpAssign s heardNone
    ∨ ptpDecide s heardNone = toFree (ptpAssign s heardNone) ∨ ptpDecide s heardNone = toHoldover (ptpAssign s heardNone) := by
  unfold ptpDecide losesSource
  dsimp only
  split
  · exact .inl rfl
  · split
    · exact .inr (.inl rfl)
    · split
      · exact .inr (.inr rfl)
      · exact .inl rfl

/-- Each port is in the state that is its role. -/
theorem ptpDecide_state (s : State) (heardNone : Option Nat) {q : Nat} (hq : q < 2) :
    ptpState (ptpDecide s heardNone) q = ptpRole s s.tim.now heardNone q := by
  have hports : (ptpDecide s heardNone).tim.ptpPort = (ptpAssign s heardNone).tim.ptpPort := by
    obtain h | h | h := ptpDecide_cases s heardNone <;> rw [h] <;> rfl
  rw [ptpState, hports, ptpAssign]
  match q, hq with
  | 0, _ => rw [SMap.get_put_other _ _ _ _ _ _ (by decide), SMap.get_put_same]
  | 1, _ => rw [SMap.get_put_same]

/-- The decision is about the time base alone. -/
theorem ptpDecide_changes (s : State) (heardNone : Option Nat) : ChangesOnly [.tim] s (ptpDecide s heardNone) := by
  obtain h | h | h := ptpDecide_cases s heardNone <;> rw [h] <;> exact changes_tim s _

/-- It sends nothing. -/
theorem ptpDecide_seq (s : State) (heardNone : Option Nat) : (ptpDecide s heardNone).tim.ptpSeq = s.tim.ptpSeq := by
  obtain h | h | h := ptpDecide_cases s heardNone <;> rw [h] <;> rfl

/-- A port that can carry PTP is one of the two Ethernet ports of a node in READY or RUN. -/
theorem of_ptpActive {s : State} {p : Nat} (h : ptpActive s p = true) : p < 2 ∧ s.dev.state ≠ .shadow := by
  simp only [ptpActive, ptpLink, Bool.and_eq_true, Bool.or_eq_true, decide_eq_true_eq, beq_iff_eq] at h
  obtain ⟨⟨⟨⟨⟨hp, hlive⟩, _⟩, _⟩, _⟩, _⟩ := h
  refine ⟨hp, fun hs => ?_⟩
  rw [hs] at hlive
  exact hlive.elim nofun nofun

section
variable {s : State} {heardNone : Option Nat} (hm : isMember s = false) (hsh : s.dev.state ≠ .shadow)
include hm hsh

/-- Master on a port and slave on none: FREE. -/
theorem ptpDecide_free (h0 : ptpState (ptpDecide s heardNone) 0 ≠ 1) (h1 : ptpState (ptpDecide s heardNone) 1 ≠ 1)
    (h2 : ptpState (ptpDecide s heardNone) 0 = 2 ∨ ptpState (ptpDecide s heardNone) 1 = 2) :
    (ptpDecide s heardNone).tim.disc = .free := by
  simp only [ptpDecide_state _ _ (show 0 < 2 by decide), ptpDecide_state _ _ (show 1 < 2 by decide)] at h0 h1 h2
  unfold ptpDecide
  dsimp only
  rw [if_neg (by simp [hm, hsh, h0, h1]), if_pos h2]
  rfl

/-- Neither master nor slave: the source is lost. -/
theorem ptpDecide_loses (h0 : ptpState (ptpDecide s heardNone) 0 = 0) (h1 : ptpState (ptpDecide s heardNone) 1 = 0)
    (hl : s.tim.disc = .locked) : (ptpDecide s heardNone).tim.disc = .holdover := by
  simp only [ptpDecide_state _ _ (show 0 < 2 by decide), ptpDecide_state _ _ (show 1 < 2 by decide)] at h0 h1
  unfold ptpDecide losesSource
  dsimp only
  rw [if_neg (by simp [hm, hsh, h0, h1]), if_neg (by simp [h0, h1]), if_pos (.inr hl)]
  rfl

end

/-! ### The interval of a port (R72) -/

/-- The block after an interval of a port that carries PTP: the states are decided, and a port in the state named sends. -/
def afterInterval (p : Nat) (master : Bool) (s : State) : State :=
  let d := ptpDecide s (if master then some p else none)
  if master ∧ ptpState d p = 2 then ptpMaster d p d.tim.now
  else if !master ∧ ptpState d p = 1 then ptpSlave d p
  else d

/-- PTP_MESSAGE_INTERVAL of a port that carries PTP. -/
theorem exec_ptpMessageInterval {s : State} {p : Nat} (h : ptpActive s p = true) (master : Bool) (u : Time) :
    exec (.ptpMessageInterval p master u) s = .next (afterInterval p master (advance s u)) := by
  have ha : ¬(!ptpActive (advance s u) p) = true := by
    rw [show ptpActive (advance s u) p = true from h]
    decide
  exact congrArg Host.Outcome.next (if_neg ha)

/-- Sending leaves the states of the ports and the discipline as decided. -/
theorem afterInterval_decided (p : Nat) (master : Bool) (s : State) :
    (afterInterval p master s).tim.ptpPort = (ptpDecide s (if master then some p else none)).tim.ptpPort
    ∧ (afterInterval p master s).tim.disc = (ptpDecide s (if master then some p else none)).tim.disc := by
  unfold afterInterval
  dsimp only
  generalize ptpDecide s (if master then some p else none) = d
  split
  · rw [ptpMaster_tim]
    exact ⟨rfl, rfl⟩
  · split
    · rw [ptpSlave_tim]
      exact ⟨rfl, rfl⟩
    · exact ⟨rfl, rfl⟩

theorem afterInterval_state (p : Nat) (master : Bool) (s : State) (q : Nat) :
    ptpState (afterInterval p master s) q = ptpState (ptpDecide s (if master then some p else none)) q :=
  congrArg (SMap.get 0 · q) (afterInterval_decided p master s).1

/-- A port in SLAVE state takes the next sequence ID of its delay request. -/
theorem afterInterval_slave {s : State} {p : Nat} (h : ptpState (afterInterval p false s) p = 1) :
    (afterInterval p false s).tim.ptpSeq
      = SMap.upd 0 s.tim.ptpSeq (p * 16 + if s.cfg.v timPtpProfile = 1 then 2 else 1) fun n => (n + 1) % 65536 := by
  rw [afterInterval_state] at h
  have hf : (ptpDecide s none).frm = s.frm := ptpDecide_changes s none .frm (by decide)
  have he : afterInterval p false s = ptpSlave (ptpDecide s none) p := by
    unfold afterInterval
    exact (if_neg (by simp)).trans (if_pos ⟨rfl, h⟩)
  rw [he, ptpSlave_tim, ← ptpDecide_seq s none, State.cfg, hf]

/-- A port in MASTER state takes the next sequence IDs of Sync and Announce. -/
theorem afterInterval_master {s : State} {p : Nat} (h : ptpState (afterInterval p true s) p = 2) :
    (afterInterval p true s).tim.ptpSeq
      = SMap.upd 0 (SMap.upd 0 s.tim.ptpSeq (p * 16) fun n => (n + 1) % 65536) (p * 16 + 11) fun n => (n + 1) % 65536 := by
  rw [afterInterval_state] at h
  have he : afterInterval p true s = ptpMaster (ptpDecide s (some p)) p (ptpDecide s (some p)).tim.now := by
    unfold afterInterval
    exact if_pos ⟨rfl, h⟩
  rw [he, ptpMaster_tim, ← ptpDecide_seq s (some p)]

/-! ### Samples (R67 to R69, R75) -/

/-- What a sample makes of the time base: the end of a hold and the log are no part of it. -/
theorem takeSample_tim (s : State) (o fine : Int) (k : Nat) : (takeSample s o fine k).tim = { s.tim with
    f := (servo s.cfg s.tim.f o k).1, p := (servo s.cfg s.tim.f o k).2, offset := o
    disc := (discNext s.cfg s.tim o).1, good := (discNext s.cfg s.tim o).2.1, bad := (discNext s.cfg s.tim o).2.2
    sampleAt := s.tim.now, interval := k, lastO := fine
    large := decide ((s.cfg.v timSlewThresh : Int) < o.natAbs) && s.frm.running } := by
  unfold takeSample
  dsimp only
  split
  · exact logEv_changes _ _ _ _ _ .tim (by decide)
  · rfl

/-- The hold of the schedule is no part of the time base. -/
theorem holdCheck_tim (s : State) : (holdCheck s).tim = s.tim := by
  unfold holdCheck catchUp
  dsimp only
  repeat' split
  all_goals rfl

/-- PTP_OFFSET_SAMPLE from an allowed source. -/
theorem exec_ptpOffsetSample {s : State} {src : Nat} (hp : s.dev.state.powered = true) (ha : sourceAllowed s src = true) (u : Time)
    (x : Int) (k : Nat) :
    exec (.ptpOffsetSample u x src k) s = .next (holdCheck (takeSample (advance s u)
      (Int.tdiv (if src = 1 ∨ src = 2 then x - ptpAsym s.cfg (src - 1) else x) (ns : Int))
      (if src = 1 ∨ src = 2 then x - ptpAsym s.cfg (src - 1) else x) k)) :=
  congrArg Host.Outcome.next (if_pos ⟨hp, ha⟩)

/-! ### The commands of the discipline -/

/-- Settles O25: each command takes its one branch, and sending leaves what the decision made of the time base. -/
theorem disciplineCommands : Obligations.DisciplineCommands := by
  unfold Obligations.DisciplineCommands
  refine ⟨?rtc, ?sample, ?timeout, ?expiry, ?interval⟩
  case rtc =>
    intro s u hp hd
    exact congrArg Host.Outcome.next (if_pos ⟨hp, hd⟩)
  case sample =>
    rintro s u x n src k hp ha rfl
    refine ⟨_, exec_ptpOffsetSample hp ha u x k, ?_⟩
    rw [holdCheck_tim, takeSample_tim]
    exact ⟨rfl, rfl, rfl, rfl⟩
  case timeout =>
    intro s u hd hu
    have h : losesSource (advance s u) = toHoldover (advance s u) := if_pos hd
    refine ⟨toHoldover (advance s u), ?_, rfl, rfl, rfl, rfl, changes_tim s _⟩
    rw [← h]
    exact congrArg Host.Outcome.next (if_pos (decide_eq_true hu))
  case expiry =>
    intro s u hd hu
    exact ⟨toFree (advance s u), congrArg Host.Outcome.next (if_pos ⟨hd, hu⟩), rfl, rfl, rfl, changes_tim s _⟩
  case interval =>
    intro s p m u hp hmem
    obtain ⟨hp2, hsh⟩ := of_ptpActive hp
    obtain ⟨_, hdisc⟩ := afterInterval_decided p m (advance s u)
    refine ⟨_, exec_ptpMessageInterval hp m u, ?roles, ?slave, ?master, ?free, ?lost⟩
    case roles =>
      intro q hq
      rw [afterInterval_state, ptpDecide_state _ _ hq]
      rfl
    case slave =>
      rintro rfl hst y rfl
      rw [afterInterval_slave hst]
      exact SMap.get_upd_same _ _ _ _
    case master =>
      rintro rfl hst y hy
      rw [afterInterval_master hst]
      rcases hy with rfl | rfl
      · rw [SMap.get_upd_other _ _ _ _ _ (by omega), SMap.get_upd_same]
        rfl
      · rw [SMap.get_upd_same, SMap.get_upd_other _ _ _ _ _ (by omega)]
        rfl
    case free =>
      simp only [afterInterval_state]
      intro h0 h1 h2
      rw [hdisc]
      refine ptpDecide_free hmem hsh h0 h1 ?_
      match p, hp2, h2 with
      | 0, _, h => exact .inl h
      | 1, _, h => exact .inr h
    case lost =>
      simp only [afterInterval_state]
      intro h0 h1 hl
      rw [hdisc]
      exact ptpDecide_loses hmem hsh h0 h1 hl

end Sys2Proof.Machine
end

section
/-! Timestamp queues, TOUT, TIN and alarms (R76, R79, R80, R83, R84): what a notification posts on Q28 (R316), and O26. -/

namespace Sys2Proof.Machine

/-! ### Notifications on Q28 (R316) -/

/-- What notifications leave on Q28, and SEQ of the next one. -/
def posted (s : State) : List (List Byte) × Nat := ((qGet s 28).packets, s.que.seq)

/-- Where the queues stay, so does what has been posted. -/
theorem posted_congr {s t : State} (h : t.que = s.que) : posted t = posted s := by simp only [posted, qGet, h]

/-- A change of another queue. -/
theorem posted_qPut_other (s : State) {q : Nat} (hq : q ≠ 28) (x : Queue) : posted (qPut s q x) = posted s :=
  congrArg (fun y : Queue => (y.packets, s.que.seq)) (qGet_qPut_other s q 28 x hq.symm)

/-- A change of Q28. -/
theorem posted_qPut (s : State) (x : Queue) : posted (qPut s 28 x) = (x.packets, s.que.seq) :=
  congrArg (fun y : Queue => (y.packets, s.que.seq)) (qGet_qPut s 28 x)

/-- The watermark state of any queue leaves the packets. -/
@[simp] theorem posted_watermark (s : State) (q : Nat) : posted (watermark s q) = posted s := by
  have h (b : Bool) (n : Nat) : posted (qPut s q { qGet s q with high := b, crossings := n }) = posted s := by
    by_cases hq : q = 28
    · subst hq
      exact posted_qPut s _
    · exact posted_qPut_other s hq _
  unfold watermark
  dsimp only
  repeat' split
  · rfl
  · exact h _ _
  · exact h _ _
  · rfl

@[simp] theorem posted_raise (s : State) (n : Nat) : posted (raise s n) = posted s :=
  posted_congr (raise_changes s n .que (by decide))

/-- A packet committed is what its queue holds beside before. -/
theorem posted_qCommit_eq (s : State) (q : Nat) (h : Bool) (b : List Byte) :
    posted (qCommit s q h b) = posted (qPut s q { qGet s q with packets := (qGet s q).packets ++ [b] }) := by
  unfold qCommit
  dsimp only
  split
  · rw [posted_raise, posted_watermark]
  · exact posted_watermark _ q

/-- A packet committed to Q28 is posted after the others. -/
theorem posted_qCommit (s : State) (h : Bool) (b : List Byte) : posted (qCommit s 28 h b) = ((qGet s 28).packets ++ [b], s.que.seq) :=
  (posted_qCommit_eq s 28 h b).trans (posted_qPut s _)

/-- A push on another queue. -/
theorem posted_qPush_other (s : State) {q : Nat} (hq : q ≠ 28) (h : Bool) (b : List Byte) : posted (qPush s q h b) = posted s := by
  unfold qPush
  dsimp only
  split
  · exact (posted_qCommit_eq s q h b).trans (posted_qPut_other s hq _)
  · exact posted_qPut_other s hq _

/-- An MB2 message goes on a transmit queue of its port. -/
@[simp] theorem posted_sendMb2 (s : State) (p n : Nat) (m : List Byte) : posted (sendMb2 s p n m) = posted s := by
  unfold sendMb2
  dsimp only
  rw [posted_qPush_other _ (by omega)]
  split <;> rfl

@[simp] theorem posted_noteCopies (l : List (Nat × Nat)) (s : State) (b : List Byte) : posted (noteCopies l s b) = posted s := by
  induction l generalizing s with
  | nil => rfl
  | cons n l ih => exact (ih _).trans (posted_sendMb2 s _ _ _)

/-- The other ways of a notification leave Q28 alone. -/
@[simp] theorem posted_noteOut (s : State) (b : List Byte) : posted (noteOut s b) = posted s := by
  unfold noteOut
  dsimp only
  split
  · exact (posted_congr (casSend_changes _ 0 1 0 _ .que (by decide))).trans (posted_noteCopies _ s b)
  · exact posted_noteCopies _ s b

/-- A notification with a body of eight bytes takes 32. -/
theorem noteBytes_length (s : State) (code seq : Nat) (t : Time) {body : List Byte} (h : body.length = 8) :
    (noteBytes s code seq t body).length = 32 := by
  simp [noteBytes, pad8, leBytes_length, h]

/-- With nothing lost and room for it and the 64 bytes kept (R288), a notification is posted under the next SEQ. -/
theorem posted_notifyAt {s : State} (hl : s.que.lost = 0) (hf : 96 ≤ qFree s 28) (code : Nat) (t : Time) {body : List Byte}
    (hb : body.length = 8) :
    posted (notifyAt s code t body)
      = ((qGet s 28).packets ++ [noteBytes s code s.que.seq t body], (s.que.seq + 1) % 4294967296) := by
  have hroom : ¬ (s.que.lost ≠ 0 ∨ qFree s 28 < (noteBytes s code s.que.seq t body).length + 64) := by
    rw [noteBytes_length _ _ _ _ hb]
    omega
  unfold notifyAt notifyBytes
  refine (congrArg posted (if_neg hroom)).trans ?_
  rw [posted_noteOut, posted_qCommit]
  rfl

theorem notifyAt_tim (s : State) (code : Nat) (t : Time) (body : List Byte) : (notifyAt s code t body).tim = s.tim :=
  notifyAt_changes s code t body .tim (by decide)

/-! ### Timestamp queues (R76) -/

/-- The block with the entries of a timestamp queue replaced. -/
def tsPut (s : State) (p : Nat) (x : List (Nat × Bool × Time)) : State :=
  { s with tim := { s.tim with tsq := SMap.put [] s.tim.tsq p x } }

theorem tsGet_tsPut (s : State) (p : Nat) (x : List (Nat × Bool × Time)) : tsGet (tsPut s p x) p = x := SMap.get_put_same _ _ _ _

theorem tsGet_watermark (s : State) (q p : Nat) : tsGet (watermark s q) p = tsGet s p :=
  congrArg (fun x : Tim => SMap.get [] x.tsq p) (watermark_changes s q .tim (by decide))

/-- A follow-up takes its message off those that wait, and no timestamp. -/
theorem tsGet_ptpFollowUp (s : State) (p tag : Nat) (t : Time) (q : Nat) : tsGet (ptpFollowUp s p tag t) q = tsGet s q := by
  unfold ptpFollowUp
  dsimp only
  split
  · rfl
  · rw [tsGet, ptpPush_tim]
    rfl

theorem ptpFollowUp_changes (s : State) (p tag : Nat) (t : Time) : ChangesOnly [.tim, .que, .host, .out] s (ptpFollowUp s p tag t) := by
  unfold ptpFollowUp
  dsimp only
  split
  · exact .refl _ s
  · exact ((changes_tim s _).mono (by decide)).trans ((qPush_changes _ _ _ _).mono (by decide))

/-- TX_TIMESTAMP_CAPTURE of the frame on the wire. -/
theorem exec_txTimestampCapture {s : State} {p tag a : Nat} {ptp : Bool} {b : Time} {pkt : List Byte}
    (hw : (SMap.get EthState.empty s.eth p).sending = some (a, pkt, b, false)) (hp : p < 2) (hl : (tsGet s p).length < 64)
    (ht : leAt pkt 0 2 = tag) (hask : bitAt (byteOf pkt 2) 0 = true) (hptp : bitAt (byteOf pkt 2) 1 = ptp) (u : Time) :
    exec (.txTimestampCapture p tag ptp u) s
      = .next (watermark (tsPut (advance s u) p (tsGet s p ++ [(tag, ptp, u)])) (16 + p)) := by
  simp only [exec, execTxTimestampCapture, hw]
  exact if_pos ⟨hp, hl, rfl, ht, hask, hptp⟩

/-- TX_TIMESTAMP_POP of a queue that holds an entry. -/
theorem exec_txTimestampPop {s : State} {p tag : Nat} {ptp : Bool} {t : Time} {rest : List (Nat × Bool × Time)}
    (h : tsGet s p = (tag, ptp, t) :: rest) :
    exec (.txTimestampPop p) s = .next (if ptp then ptpFollowUp (watermark (tsPut s p rest) (16 + p)) p tag t
      else watermark (tsPut s p rest) (16 + p)) := by
  simp only [exec, execTxTimestampPop, h]
  rfl

/-! ### TOUT (R79, R80) -/

theorem toutGet_toutPut (s : State) (n : Nat) (x : ToutState) : toutGet (toutPut s n x) n = x := SMap.get_put_same _ _ _ _

theorem toutGet_toutPut_other (s : State) {n m : Nat} (h : m ≠ n) (x : ToutState) : toutGet (toutPut s n x) m = toutGet s m :=
  SMap.get_put_other _ _ _ _ _ _ h

section
variable {s : State} {n k : Nat} {a : Time} (hn : n < 8) (hr : s.frm.running = true) (ha : toutNext s n = some (a, k))
include hn hr ha

/-- TOUT_PULSE of a node that drives its outputs. -/
theorem exec_toutPulse (hs : s.dev.state ≠ .shadow) :
    exec (.toutPulse n) s = .next (emit (toutPut (advance s (step625 a)) n
        { pulses := k, busyUntil := step625 (a + u32At (s.cfg.row timTout n) 4 * ns), high := toutHigh (s.cfg.row timTout n) })
      (.tout n (toutHigh (s.cfg.row timTout n)) (step625 a) (step625 (a + u32At (s.cfg.row timTout n) 4 * ns)))) := by
  refine congrArg Host.Outcome.next ((if_pos ⟨hn, hr⟩).trans ?_)
  simp only [ha, if_neg hs]

/-- TOUT_PULSE in SHADOW. -/
theorem exec_toutPulse_shadow (hs : s.dev.state = .shadow) :
    exec (.toutPulse n) s = .next (toutPut (advance s (step625 a)) n { toutGet s n with pulses := k }) := by
  refine congrArg Host.Outcome.next ((if_pos ⟨hn, hr⟩).trans ?_)
  simp only [ha, if_pos hs]
  rfl

end

/-! ### TIN (R83) -/

theorem tinGet_tinPut (s : State) (n : Nat) (x : TinState) : tinGet (tinPut s n x) n = x := SMap.get_put_same _ _ _ _

/-- The notification of a capture. -/
def tinNote (s : State) (n : Nat) (up : Bool) (u : Time) : State :=
  notifyAt s 0x0020 u (leBytes 1 n ++ leBytes 1 (b2n (!up)) ++ leBytes 6 0)

theorem tinGet_tinNote (s : State) (n : Nat) (up : Bool) (u : Time) (m : Nat) : tinGet (tinNote s n up u) m = tinGet s m :=
  congrArg (fun x : Tim => SMap.get ({ last := 0, accepted := none, fifo := [] } : TinState) x.tin m) (notifyAt_tim s _ _ _)

/-- A FIFO that is empty has nothing to drain. -/
theorem tinDrain_empty {s : State} {n : Nat} (h : (tinGet s n).fifo = []) (k : Nat) : tinDrain n k s = s := by
  cases k with
  | zero => rfl
  | succ k => simp only [tinDrain, h]

/-- With room on Q28 the one capture of a FIFO is notified. -/
theorem tinDrain_one {s : State} {n : Nat} {up : Bool} {u : Time} (h : (tinGet s n).fifo = [(up, u)]) (hl : s.que.lost = 0)
    (hf : 96 ≤ qFree s 28) (k : Nat) :
    tinDrain n (k + 1) s = tinNote (tinPut s n { tinGet s n with fifo := [] }) n up u := by
  rw [tinDrain, h]
  refine (if_pos ⟨hl, hf⟩).trans (tinDrain_empty ?_ k)
  show (tinGet (tinNote _ n up u) n).fifo = []
  rw [tinGet_tinNote, tinGet_tinPut]

/-- TIN_CAPTURE of a selected edge outside the deglitch time, with NOTIFY and nothing waiting in the FIFO. -/
theorem exec_tinCapture {s : State} {n : Nat} {up : Bool} {u : Time} (hn : n < 8) (hs : s.dev.state.live = true)
    (hsel : bitAt (s.cfg.row timTin n) (if up then 0 else 1) = true) (hnote : bitAt (s.cfg.row timTin n) 8 = true)
    (hg : ∀ v, (tinGet s n).accepted = some v → u16At (s.cfg.row timTin n) 2 * ns ≤ u - v) (he : (tinGet s n).fifo = []) :
    exec (.tinCapture n up u) s
      = .next (tinDrain n 16 (tinPut (advance s u) n { last := u, accepted := some u, fifo := [(up, u)] })) := by
  have hsel' : (if up then bitAt (s.cfg.row timTin n) 0 else bitAt (s.cfg.row timTin n) 1) = true := by
    cases up <;> exact hsel
  have hwaits : (tinGet s n).fifo.length < 16 := by simp [he]
  have hlast : exec (.tinCapture n up u) s
      = .next (tinDrain n 16 (tinPut (advance s u) n { last := u, accepted := some u, fifo := (tinGet s n).fifo ++ [(up, u)] })) := by
    refine congrArg Host.Outcome.next ((if_pos ⟨hn, hs, hsel', ?apart⟩).trans ((if_neg ?notify).trans (if_pos hwaits)))
    case apart =>
      split
      next v hv => exact congrArg (!·) (decide_eq_false (Nat.not_lt.mpr (hg v hv)))
      next => rfl
    case notify => exact ne_true_of_eq_false (congrArg (!·) hnote)
  rw [hlast, he]
  rfl

/-! ### Alarms (R84) -/

/-- The block with an alarm marked as fired. -/
def alarmFired (s : State) (n : Nat) : State := { s with tim := { s.tim with alarms := SMap.put 0 s.tim.alarms n 1 } }

/-- TIM_ALARM_FIRE of an enabled alarm that has not fired. -/
theorem exec_timAlarmFire {s : State} {n : Nat} (hn : n < 4) (hr : s.frm.running = true)
    (he : bitAt (s.cfg.row timAlarm n) 128 = true) (ha : SMap.get 0 s.tim.alarms n = 0) :
    exec (.timAlarmFire n) s = .next (notifyAt (alarmFired (advance s (timeDec (s.cfg.row timAlarm n))) n) 0x0021
      (timeDec (s.cfg.row timAlarm n)) (leBytes 1 n ++ leBytes 7 0)) :=
  congrArg Host.Outcome.next (if_pos ⟨hn, hr, he, ha⟩)

/-- Settles O26: each command takes its one branch, and a notification of 32 bytes that finds room is the newest packet of Q28. -/
theorem timestampsTriggersAndAlarms : Obligations.TimestampsTriggersAndAlarms := by
  unfold Obligations.TimestampsTriggersAndAlarms
  refine ⟨?capture, ?pop, ?pulse, ?shadow, ?tin, ?alarm⟩
  case capture =>
    intro s p tag a ptp u b pkt hw hp hl ht hask hptp
    refine ⟨_, exec_txTimestampCapture hw hp hl ht hask hptp u, ?_, ?_⟩
    · rw [tsGet_watermark, tsGet_tsPut]
    · exact (((advance_changes s u).trans (changes_tim _ _)).mono (by decide)).trans ((watermark_changes _ _).mono (by decide))
  case pop =>
    rintro s p ⟨tag, ptp, t⟩ rest h
    have hc : ChangesOnly [.tim, .que, .host, .out] s (watermark (tsPut s p rest) (16 + p)) :=
      ((changes_tim s _).mono (by decide)).trans ((watermark_changes _ _).mono (by decide))
    have hg : tsGet (watermark (tsPut s p rest) (16 + p)) p = rest := by rw [tsGet_watermark, tsGet_tsPut]
    refine ⟨_, exec_txTimestampPop h, ?_, .ite (hc.trans (ptpFollowUp_changes _ _ _ _)) hc⟩
    split
    · rw [tsGet_ptpFollowUp, hg]
    · exact hg
  case pulse =>
    intro s n k a hn hr ha hs
    refine ⟨_, exec_toutPulse hn hr ha hs, rfl, toutGet_toutPut _ n _, fun m hm => toutGet_toutPut_other _ hm _, ?_⟩
    exact (((advance_changes s _).trans (changes_tim _ _)).mono (by decide)).trans ((emit_changes _ _).mono (by decide))
  case shadow =>
    intro s n k a hn hr ha hs
    exact ⟨_, exec_toutPulse_shadow hn hr ha hs, rfl, toutGet_toutPut _ n _, (advance_changes s _).trans (changes_tim _ _)⟩
  case tin =>
    intro s n up u hn hs hsel hnote hg he hl hf
    have hdrain := tinDrain_one (s := tinPut (advance s u) n { last := u, accepted := some u, fifo := [(up, u)] })
      (congrArg TinState.fifo (tinGet_tinPut _ _ _)) hl hf 15
    have hpost := posted_notifyAt (s := tinPut (tinPut (advance s u) n { last := u, accepted := some u, fifo := [(up, u)] }) n
      { last := u, accepted := some u, fifo := [] }) hl hf 0x0020 u (body := leBytes 1 n ++ leBytes 1 (b2n (!up)) ++ leBytes 6 0)
      (by simp [leBytes_length])
    refine ⟨_, (exec_tinCapture hn hs hsel hnote hg he).trans (congrArg _ hdrain), ?_⟩
    rw [tinGet_tinNote, tinGet_tinPut, tinGet_tinPut]
    exact ⟨rfl, rfl, rfl, congrArg Prod.fst hpost, congrArg Prod.snd hpost⟩
  case alarm =>
    intro s n hn hr he ha hl hf
    refine ⟨_, exec_timAlarmFire hn hr he ha, ?_, congrArg Prod.fst (posted_notifyAt (s := alarmFired (advance s _) n) hl hf _ _ ?_)⟩
    · rw [notifyAt_tim]
      exact SMap.get_put_same 0 s.tim.alarms n 1
    · simp [leBytes_length]

end Sys2Proof.Machine
end

section
/-! Canvas content (R17, R18, R86, R91 to R94, R116, R349): what the closing of the sACN values, an entry offered to a ring and a DRAM grant
make of the block, and O20. -/

namespace Sys2Proof.Machine

/-! ### What an entry offered to a ring leaves alone (R91 to R93) -/

theorem ringPut_changes (s : State) (i : Nat) (r : Ring) : ChangesOnly [.con] s (ringPut s i r) :=
  .ite (changes_con s _) (changes_con s _)

theorem ringCount_changes (s : State) (i k n : Nat) : ChangesOnly [.con] s (ringCount s i k n) := ringPut_changes s i _

theorem overwrite_changes (s : State) (i limit : Nat) : ChangesOnly [.con] s (overwrite s i limit) :=
  .ite (.refl _ s) ((ringPut_changes s i _).trans (ringCount_changes _ i 2 _))

theorem ringWrite_changes (s : State) (i : Nat) (e : Entry) : ChangesOnly [.con, .que] s (ringWrite s i e) := by
  have hput (r : Ring) := (overwrite_changes s i (ringStart (ringGet s i) (ringSize s i) e.len + e.len - ringSize s i)).trans
    (ringPut_changes _ i r)
  exact ((ChangesOnly.ite ((hput _).trans (ringCount_changes _ i 0 1)) (hput _)).mono (by decide)).trans
    ((watermark_changes _ _).mono (by decide))

theorem ringOffer_changes (s : State) (i : Nat) (e : Entry) : ChangesOnly [.con, .que] s (ringOffer s i e) :=
  .ite (ringWrite_changes s i e) (((ringPut_changes s i _).trans (ringCount_changes _ i 5 1)).mono (by decide))

/-- A watermark is no part of the content. -/
@[simp] theorem watermark_con (s : State) (q : Nat) : (watermark s q).con = s.con := watermark_changes s q .con (by decide)

/-- A ring is no part of the closed sACN values. -/
@[simp] theorem ringPut_closed (s : State) (i : Nat) (r : Ring) : (ringPut s i r).con.closed = s.con.closed := by
  unfold ringPut
  split <;> rfl

@[simp] theorem ringCount_closed (s : State) (i k n : Nat) : (ringCount s i k n).con.closed = s.con.closed := ringPut_closed s i _

@[simp] theorem overwrite_closed (s : State) (i limit : Nat) : (overwrite s i limit).con.closed = s.con.closed := by
  unfold overwrite
  dsimp only
  split <;> simp

@[simp] theorem ringWrite_closed (s : State) (i : Nat) (e : Entry) : (ringWrite s i e).con.closed = s.con.closed := by
  unfold ringWrite
  dsimp only
  rw [watermark_con]
  split <;> simp

@[simp] theorem ringOffer_closed (s : State) (i : Nat) (e : Entry) : (ringOffer s i e).con.closed = s.con.closed := by
  unfold ringOffer
  dsimp only
  split <;> simp

/-! ### The newest entry of a ring (R91 to R93) -/

@[simp] theorem ringGet_ringPut (s : State) (i : Nat) (r : Ring) : ringGet (ringPut s i r) i = r := by
  unfold ringGet ringPut
  split <;> rfl

theorem ringGet_one (s : State) : ringGet s 1 = s.con.ringB := rfl

/-- A counter of a ring is neither its entries nor its W. -/
theorem ringGet_ringCount (s : State) (i k n : Nat) :
    ringGet (ringCount s i k n) i = { ringGet s i with cnt := bump (ringGet s i).cnt k n } := ringGet_ringPut s i _

/-- What a ring shows of an entry that was written last: it is the newest entry, it keeps its layer, size and presentation time, and W lies
at its end. -/
def NewestIs (r : Ring) (e : Entry) : Prop :=
  ∃ x, r.entries.getLast? = some x ∧ x.layer = e.layer ∧ x.width = e.width ∧ x.height = e.height ∧ x.pt = e.pt ∧ r.w = x.off + x.len

/-- An entry written is the newest of its ring. -/
theorem newestIs_ringWrite (s : State) (i : Nat) (e : Entry) : NewestIs (ringGet (ringWrite s i e) i) e := by
  unfold ringWrite
  dsimp only
  rw [ringGet, watermark_con, ← ringGet]
  split
  · rw [ringGet_ringCount, ringGet_ringPut]
    exact ⟨_, List.getLast?_concat, rfl, rfl, rfl, rfl, rfl⟩
  · rw [ringGet_ringPut]
    exact ⟨_, List.getLast?_concat, rfl, rfl, rfl, rfl, rfl⟩

/-- An entry offered with room and nothing stalled is written. -/
theorem ringOffer_of_fits {s : State} {i : Nat} {e : Entry} (hs : (ringGet s i).stalled = []) (hf : ringFits s i e.len = true) :
    ringOffer s i e = ringWrite s i e := if_pos ⟨hs, hf⟩

/-! ### Content messages on the cascade (R349, R358) -/

/-- The block with the cascade ports and the output history replaced. -/
def withPorts (s : State) (ports : SMap CasPort) (out : List Sent) : State := { s with stk := { s.stk with port := ports }, out := out }

theorem casPump_eq_withPorts (n : Nat) (s : State) (p c : Nat) : ∃ ports out, casPump n s p c = withPorts s ports out := by
  induction n generalizing s with
  | zero => exact ⟨s.stk.port, s.out, rfl⟩
  | succ n ih =>
    unfold casPump
    dsimp only
    split
    · exact ⟨s.stk.port, s.out, rfl⟩
    · split
      · exact ⟨s.stk.port, s.out, rfl⟩
      · obtain ⟨ports, out, h⟩ := ih _
        exact ⟨ports, out, h⟩

/-- A message that goes on moves nothing but the cascade ports and what has been put out. -/
theorem passStream_eq_withPorts (s : State) (stream : Nat) (m : List Byte) :
    ∃ ports out, passStream s stream m = withPorts s ports out := by
  unfold passStream
  dsimp only
  split
  · exact casPump_eq_withPorts _ (casClassPut s _ 2 _) _ 2
  · exact ⟨s.stk.port, s.out, rfl⟩

/-- Whether an entry fits is no matter of the cascade ports. -/
theorem ringFits_withPorts (s : State) (ports : SMap CasPort) (out : List Sent) (i n : Nat) :
    ringFits (withPorts s ports out) i n = ringFits s i n := rfl

theorem sendStreams_changes (s : State) (e : Entry) : ChangesOnly [.stk, .out] s (sendStreams s e) := by
  refine ChangesOnly.foldl _ (fun a i => ?_) _ s
  have hone (b : State) (p : Nat) (l : List Nat) (ps : List CasPacket) :
      ChangesOnly [.stk, .out] b (if l = [] then b else casQueue b p 2 ps) := .ite (.refl _ b) (casQueue_changes b p 2 ps)
  exact .ite ((hone a 1 _ _).trans (hone _ 0 _ _)) (.refl _ a)

@[simp] theorem sendStreams_con (s : State) (e : Entry) : (sendStreams s e).con = s.con := sendStreams_changes s e .con (by decide)

/-- The entry that a message carries for its bound layer. -/
def streamEntry (s : State) (layer : Nat) (e : EntryIn) : Entry :=
  { entryOf s e.header e.map (pixelsOf e.data (leAt e.header 24 2 * leAt e.header 26 2)) with layer := layer }

/-- CONTENT_STREAM_RECEIVED of a complete valid message for a bound layer: its entry is offered to ring B, which is as it was when the
message arrived, and sent on. -/
theorem exec_contentStreamReceived {s : State} {stream i : Nat} {e : EntryIn} (u : Time) (hb : boundLayer s.cfg 3 stream = some i)
    (hh : headerFault e.header = none) (hm : mapBad e.header e.map = false) :
    ∃ a, a.con = s.con ∧ (∀ n, ringFits a 1 n = ringFits (advance s u) 1 n) ∧ exec (.contentStreamReceived u stream true e) s
      = .next (sendStreams (ringOffer a 1 (streamEntry a i e)) (streamEntry a i e)) := by
  obtain ⟨ports, out, hp⟩ := passStream_eq_withPorts (advance s u) stream (entryMessage e)
  refine ⟨withPorts (advance s u) ports out, rfl, ringFits_withPorts _ ports out 1, congrArg Host.Outcome.next ?_⟩
  have hb' : boundLayer (withPorts (advance s u) ports out).cfg 3 stream = some i := hb
  simp only [if_true, hp, hb', hh, hm]
  rfl

/-! ### Closing the sACN values (R86, R116) -/

/-- A map filled key by key from a list reads at each of its keys as the value written there. -/
theorem SMap.get_foldl_put {α : Type} [DecidableEq α] (d : α) (f : Nat → α) (l : List Nat) (m : SMap α) (n : Nat) :
    SMap.get d (l.foldl (fun m u => SMap.put d m u (f u)) m) n = if n ∈ l then f n else SMap.get d m n := by
  induction l generalizing m with
  | nil => rfl
  | cons u l ih =>
    rw [List.foldl_cons, ih, SMap.get_put]
    by_cases hl : n ∈ l
    · simp [hl]
    · by_cases hu : n = u <;> simp [hl, hu]

/-- The values of a store's universes as the live sources have them. -/
def closedValues (s : State) : SMap (Option (Nat × List Byte)) :=
  (sacnUniverses s.cfg).foldl (fun m u => SMap.put none m u ((sacnBest (sacnLive s u s.tim.now)).map fun x => (x.prio, x.slots))) []

/-- A fold of entries offered and sent is no part of device time and of the closed values. -/
theorem foldl_offer_keeps (f : Nat → Entry) (l : List Nat) (s : State) :
    (l.foldl (fun a i => sendStreams (ringOffer a 1 (f i)) (f i)) s).tim = s.tim
      ∧ (l.foldl (fun a i => sendStreams (ringOffer a 1 (f i)) (f i)) s).con.closed = s.con.closed := by
  induction l generalizing s with
  | nil => exact ⟨rfl, rfl⟩
  | cons i l ih =>
    obtain ⟨htim, hclosed⟩ := ih (sendStreams (ringOffer s 1 (f i)) (f i))
    refine ⟨htim.trans ?_, hclosed.trans (by simp)⟩
    exact (sendStreams_changes _ _ .tim (by decide)).trans (ringOffer_changes s 1 _ .tim (by decide))

/-- SACN_CLOSE with edges running: device time is Q(k), and the values of every universe are closed as they are then. -/
theorem exec_sacnClose {s : State} (hr : s.frm.running = true) : ∃ t, exec .sacnClose s = .next t
    ∧ t.tim = (advance s (latchTime s (nextLatch s) - period s.cfg / 2)).tim
    ∧ t.con.closed = closedValues (advance s (latchTime s (nextLatch s) - period s.cfg / 2)) := by
  obtain ⟨htim, hclosed⟩ := foldl_offer_keeps _ (sacnLayers s.cfg) _
  exact ⟨_, congrArg Host.Outcome.next (if_pos hr), htim, hclosed⟩

/-! ### Lost layers (R94) -/

/-- The block with a layer's held entry dropped. -/
def layerLost (s : State) (i : Nat) : State :=
  let l := SMap.get Layer.empty s.con.layers i
  { s with con := { s.con with layers := SMap.put Layer.empty s.con.layers i { l with held := none, state := 3 } } }

/-- LAYER_SOURCE_LOST of a layer whose source is lost. -/
theorem exec_layerSourceLost {s : State} {i : Nat} (hi : i < 64) (hh : (SMap.get Layer.empty s.con.layers i).held.isSome = true)
    (hn : s.cfg.val layLossFrames i ≠ 0) (hm : s.cfg.val layLossFrames i ≤ (SMap.get Layer.empty s.con.layers i).missed) :
    exec (.layerSourceLost i) s = .next (logEv (layerLost s i) 0x0202 i 0 0) :=
  congrArg Host.Outcome.next (if_pos ⟨hi, hh, hn, hm⟩)

/-! ### DRAM grants (R17, R18, R200, R201) -/

/-- A requester asks: a raster port only while its fetcher has a line to fetch. -/
def Asks (s : State) (q : Nat) : Prop := 2 ≤ q ∨ rasWants s q = true

/-- The requests of a class among those that ask. -/
def askingOf (s : State) (qs : List Nat) (k : Nat) : List Nat :=
  (qs.filter fun q => decide (2 ≤ q) || rasWants s q).filter fun q => dramClass s q == k

theorem mem_askingOf {s : State} {qs : List Nat} {k q : Nat} : q ∈ askingOf s qs k ↔ q ∈ qs ∧ Asks s q ∧ dramClass s q = k := by
  simp only [askingOf, Asks, List.mem_filter, Bool.or_eq_true, decide_eq_true_eq, beq_iff_eq, and_assoc]

theorem dramClass_lt (s : State) (q : Nat) : dramClass s q < 3 := by
  unfold dramClass
  split_ifs <;> decide

/-- The class of a requester that is no raster port: FRAME up to 7, SUPPORT above. -/
theorem dramClass_of_two_le {q : Nat} (s : State) (h : 2 ≤ q) : dramClass s q = if q < 8 then 1 else 2 := if_neg (by omega)

/-- Round robin serves a requester of the class. -/
theorem mem_of_roundRobin {rs : List Nat} {last q : Nat} (h : roundRobin rs last = some q) : q ∈ rs := by
  unfold roundRobin at h
  split at h
  · next m hm =>
    cases h
    exact List.mem_of_mem_filter (List.min?_mem hm)
  · exact List.min?_mem h

/-- Round robin serves someone where someone asks. -/
theorem exists_roundRobin {rs : List Nat} (last : Nat) (h : rs ≠ []) : ∃ q, roundRobin rs last = some q := by
  unfold roundRobin
  split
  · next q _ => exact ⟨q, rfl⟩
  · exact Option.isSome_iff_exists.mp (List.isSome_min?_of_ne_nil h)

/-- Round robin serves the first requester from `last` on. -/
theorem roundRobin_eq_some {rs : List Nat} {last q : Nat} (hq : q ∈ rs) (hl : last ≤ q) (hmin : ∀ x ∈ rs, last ≤ x → q ≤ x) :
    roundRobin rs last = some q := by
  have h : (rs.filter (last ≤ ·)).min? = some q := by
    rw [List.min?_eq_some_iff]
    simpa [hq, hl] using hmin
  rw [roundRobin, h]

/-- The block with a grant noted: round robin goes on after the requester, whose class is fixed. -/
def noteGrant (s : State) (q k : Nat) : State :=
  { s with con := { s.con with
    rr := SMap.put 0 s.con.rr k (q + 1)
    granted := (s.con.granted.filter fun x => x.1 ≠ q) ++ [(q, k)] } }

/-- The block after a grant: a raster port's fetches its next line, and is counted where it is URGENT. -/
def granting (s : State) (q k : Nat) : State :=
  if 2 ≤ q then noteGrant s q k
  else rasFetch (if k = 0 then rasCount (noteGrant s q k) q 4 else noteGrant s q k) q

/-- DRAM_GRANT serves the requester that round robin picks of a class where no class above it asks. -/
theorem exec_dramGrant {s : State} {qs : List Nat} {k q : Nat} (hk : k < 3)
    (hq : roundRobin (askingOf s qs k) (SMap.get 0 s.con.rr k) = some q) (habove : ∀ j < k, askingOf s qs j = []) :
    exec (.dramGrant qs) s = .next (granting s q k) := by
  have hne : askingOf s qs k ≠ [] := List.ne_nil_of_mem (mem_of_roundRobin hq)
  have hfind : ((([0, 1, 2] : List Nat).map fun j => (j, askingOf s qs j)).find? fun x => x.2 != []) = some (k, askingOf s qs k) := by
    match k, hk with
    | 0, _ => simp [hne]
    | 1, _ => simp [hne, habove 0]
    | 2, _ => simp [hne, habove 0, habove 1]
  unfold askingOf at hfind hq
  simp only [exec, execDramGrant, hfind, hq, granting, noteGrant]
  split <;> rfl

theorem rasFetch_changes (s : State) (p : Nat) : ChangesOnly [.ras] s (rasFetch s p) := .ite (changes_ras s _) (changes_ras s _)

theorem granting_changes (s : State) (q k : Nat) : ChangesOnly [.con, .ras] s (granting s q k) := by
  have hnote : ChangesOnly [.con, .ras] s (noteGrant s q k) := (changes_con s _).mono (by decide)
  exact .ite hnote ((ChangesOnly.ite (hnote.trans ((changes_ras _ _).mono (by decide))) hnote).trans
    ((rasFetch_changes _ q).mono (by decide)))

/-- A grant is on record with the class that it had. -/
theorem mem_granted_granting (s : State) (q k : Nat) : (q, k) ∈ (granting s q k).con.granted := by
  have hcon : (granting s q k).con = (noteGrant s q k).con := by
    unfold granting
    split
    · rfl
    · rw [rasFetch_changes _ q .con (by decide)]
      split <;> rfl
  rw [hcon]
  exact List.mem_append_right _ (List.mem_singleton_self _)

/-- The lines that a port's fetcher has fetched of the frame being scanned and of the next. -/
def linesFetched (s : State) (p : Nat) : Nat := (rasGet s p).fetched + (rasGet s p).ahead

/-- A fetch adds one line. -/
theorem linesFetched_rasFetch (s : State) (p : Nat) : linesFetched (rasFetch s p) p = linesFetched s p + 1 := by
  unfold rasFetch linesFetched
  dsimp only
  split
  · rw [rasGet_rasPut]
    exact Nat.add_right_comm _ 1 _
  · rw [rasGet_rasPut]
    rfl

/-- A counter of a port is none of its lines. -/
theorem linesFetched_rasCount (s : State) (p k : Nat) : linesFetched (rasCount s p k) p = linesFetched s p := by
  unfold rasCount linesFetched
  rw [rasGet_rasPut]

/-- A grant to a raster port fetches one line. -/
theorem linesFetched_granting {s : State} {p : Nat} (hp : p < 2) (k : Nat) : linesFetched (granting s p k) p = linesFetched s p + 1 := by
  rw [granting, if_neg (by omega), linesFetched_rasFetch]
  split
  · rw [linesFetched_rasCount]
    rfl
  · rfl

/-- Where someone asks, DRAM_GRANT serves a requester of the highest class that asks. -/
theorem exec_dramGrant_highest {s : State} {qs : List Nat} (h : ∃ x ∈ qs, Asks s x) : ∃ q ∈ qs, Asks s q
    ∧ (∀ x ∈ qs, Asks s x → dramClass s q ≤ dramClass s x) ∧ exec (.dramGrant qs) s = .next (granting s q (dramClass s q)) := by
  classical
  obtain ⟨x, hx, hmin⟩ : ∃ x ∈ qs.toFinset.filter (Asks s), ∀ y ∈ qs.toFinset.filter (Asks s), dramClass s x ≤ dramClass s y :=
    Finset.exists_min_image _ _ (h.imp fun x hx => by simpa using hx)
  simp only [Finset.mem_filter, List.mem_toFinset] at hx hmin
  obtain ⟨hxs, hxa⟩ := hx
  obtain ⟨q, hq⟩ := exists_roundRobin (SMap.get 0 s.con.rr (dramClass s x))
    (List.ne_nil_of_mem (mem_askingOf.mpr ⟨hxs, hxa, rfl⟩))
  obtain ⟨hqs, hqa, hqk⟩ := mem_askingOf.mp (mem_of_roundRobin hq)
  have habove : ∀ j < dramClass s x, askingOf s qs j = [] := fun j hj => List.eq_nil_iff_forall_not_mem.mpr fun y hy => by
    obtain ⟨hys, hya, rfl⟩ := mem_askingOf.mp hy
    exact absurd (hmin y ⟨hys, hya⟩) (Nat.not_le.mpr hj)
  refine ⟨q, hqs, hqa, fun y hys hya => hqk ▸ hmin y ⟨hys, hya⟩, ?_⟩
  rw [hqk]
  exact exec_dramGrant (dramClass_lt s x) hq habove

/-- Settles O20: each command takes its one branch; the entries offered and sent after a close leave the closed values alone, and a grant
serves the lowest class number among the requests that ask. -/
theorem contentCommands : Obligations.ContentCommands := by
  unfold Obligations.ContentCommands
  refine ⟨?close, ?lost, ?stream, ?highest, ?frame, ?urgent⟩
  case close =>
    intro s hr
    obtain ⟨t, hexec, htim, hclosed⟩ := exec_sacnClose hr
    refine ⟨t, hexec, congrArg Tim.now htim, fun n hn => ?_⟩
    rw [hclosed, htim, closedValues, SMap.get_foldl_put]
    exact if_pos hn
  case lost =>
    intro s i hi hh hn hm
    refine ⟨_, exec_layerSourceLost hi hh hn hm, ?_⟩
    rw [logEv_changes _ _ _ _ _ .con (by decide)]
    have hlost := SMap.get_put_same Layer.empty s.con.layers i { SMap.get Layer.empty s.con.layers i with held := none, state := 3 }
    exact ⟨congrArg Layer.held hlost, congrArg Layer.state hlost, fun j hj => SMap.get_put_other _ _ _ _ _ _ hj⟩
  case stream =>
    intro s u stream i e hb hh hm hs hf
    obtain ⟨a, hcon, hfits, hexec⟩ := exec_contentStreamReceived u hb hh hm
    have hstalled : (ringGet a 1).stalled = [] := (congrArg (fun c : Content => c.ringB.stalled) hcon).trans hs
    have hroom : ringFits a 1 (streamEntry a i e).len = true := (hfits _).trans hf
    obtain ⟨x, hlast, hlayer, hwidth, hheight, hpt, hend⟩ := newestIs_ringWrite a 1 (streamEntry a i e)
    refine ⟨_, x, hexec, ?_⟩
    rw [sendStreams_con, ← ringGet_one, ringOffer_of_fits hstalled hroom]
    exact ⟨hlast, hlayer, hwidth, hheight, hpt, hend⟩
  case highest =>
    intro s qs h
    obtain ⟨q, hqs, hqa, hmin, hexec⟩ := exec_dramGrant_highest h
    exact ⟨_, q, hexec, hqs, hqa, mem_granted_granting s q _, hmin, granting_changes s q _⟩
  case frame =>
    intro s qs q hall hqs hq hl hmin
    have hclass (x : Nat) (hx : x ∈ qs) := dramClass_of_two_le s (hall x hx)
    have hrr : roundRobin (askingOf s qs 1) (SMap.get 0 s.con.rr 1) = some q := by
      refine roundRobin_eq_some (mem_askingOf.mpr ⟨hqs, .inl (hall q hqs), (hclass q hqs).trans (if_pos hq)⟩) hl fun x hx hlx => ?_
      obtain ⟨hxs, _, hxk⟩ := mem_askingOf.mp hx
      rw [hclass x hxs] at hxk
      have hx8 : x < 8 := by split at hxk <;> omega
      exact hmin x hxs hx8 hlx
    rw [exec_dramGrant (by decide) hrr, granting, if_pos (hall q hqs), noteGrant]
    intro j hj
    refine List.eq_nil_iff_forall_not_mem.mpr fun x hx => ?_
    obtain ⟨hxs, _, hxk⟩ := mem_askingOf.mp hx
    rw [hclass x hxs] at hxk
    split at hxk <;> omega
  case urgent =>
    intro s qs h0 hw hk hl
    have hrr : roundRobin (askingOf s qs 0) (SMap.get 0 s.con.rr 0) = some 0 :=
      roundRobin_eq_some (mem_askingOf.mpr ⟨h0, .inr hw, hk⟩) hl.le fun x _ _ => x.zero_le
    exact ⟨_, exec_dramGrant (by decide) hrr nofun, mem_granted_granting s 0 0, linesFetched_granting (by decide) 0⟩

end Sys2Proof.Machine
end

section
/-! The shadow of a pair (R152, R367 to R369, R371, R380): what each MIRROR message makes of it, and O52. -/

namespace Sys2Proof.Machine

/-! ### Two fields replaced -/

theorem changes_red_ox (s : State) (r : Red) (x : Oxold) : ChangesOnly [.red, .ox] s { s with red := r, ox := x } :=
  ((changes_red s r).mono (by decide)).trans ((changes_ox { s with red := r } x).mono (by decide))

theorem changes_red_frm (s : State) (r : Red) (f : Frm) : ChangesOnly [.red, .frm] s { s with red := r, frm := f } :=
  ((changes_red s r).mono (by decide)).trans ((changes_frm { s with red := r } f).mono (by decide))

theorem changes_wired_rad (s : State) (w : Wired) (x : Radio) : ChangesOnly [.wired, .rad] s { s with wired := w, rad := x } :=
  ((changes_wired s w).mono (by decide)).trans ((changes_rad { s with wired := w } x).mono (by decide))

/-! ### The acknowledgement of a message (R348, R371) -/

/-- A block past the acknowledgement of a MIRROR message: the cascade ports and what has been put out may differ, and nothing else. -/
def Acked (s u : State) : Prop := ∃ ports out, u = withPorts s ports out

theorem acked_casTook (s : State) (p c n : Nat) : Acked s (casTook s p c n) := by
  unfold casTook
  dsimp only
  split
  · exact ⟨_, _, rfl⟩
  · exact ⟨s.stk.port, s.out, rfl⟩

theorem acked_mirTook (s : State) (n : Nat) : Acked s (mirTook s n) := by
  unfold mirTook
  split
  · exact acked_casTook s 0 3 (8 + n)
  · split
    · exact acked_casTook s (mirrorPort s) 3 (8 + n)
    · exact ⟨s.stk.port, s.out, rfl⟩

section
variable {s u : State} (h : Acked s u)
include h

theorem Acked.changes : ChangesOnly [.stk, .out] s u := by
  obtain ⟨ports, out, rfl⟩ := h
  exact ((changes_stk s { s.stk with port := ports }).mono (by decide)).trans ((changes_out _ out).mono (by decide))

theorem Acked.red : u.red = s.red := h.changes .red (by decide)
theorem Acked.dev : u.dev = s.dev := h.changes .dev (by decide)
theorem Acked.ox : u.ox = s.ox := h.changes .ox (by decide)
theorem Acked.rad : u.rad = s.rad := h.changes .rad (by decide)

/-- The number of nodes is no matter of the cascade ports. -/
theorem Acked.nodes : u.stk.nodes = s.stk.nodes := by
  obtain ⟨ports, out, rfl⟩ := h
  rfl

theorem Acked.nextLatch : nextLatch u = nextLatch s := by
  obtain ⟨ports, out, rfl⟩ := h
  rfl

theorem Acked.resultLevel : resultLevel u = resultLevel s := by
  obtain ⟨ports, out, rfl⟩ := h
  rfl

end

/-! ### HELLO (R367, R368) -/

/-- A unit that heard the active starts to synchronise, or is UNFIT: it was, or its peer has another number of nodes. -/
def syncing (r : Red) (nodes d n v l : Nat) : Red :=
  { r with
    hello := some (d, n, true, v, l), fit := if n ≠ nodes ∨ r.fit = 2 then 2 else 0, first := false
    snap := [], snapPart := 0, snapAt := none, snapDone := false }

/-- The block with the HELLO of an active kept, and the entry into RED_PEER_MISMATCH logged. -/
def heardActive (u : State) (d n v l : Nat) : State :=
  logEntry { u with red := { u.red with hello := some (d, n, true, v, l) } } (decide (n ≠ u.stk.nodes)) 0x0A06 0 u.stk.nodes n 0

theorem heardActive_red (u : State) (d n v l : Nat) : (heardActive u d n v l).red = { u.red with hello := some (d, n, true, v, l) } :=
  logEntry_changes _ _ _ _ _ _ _ .red (by decide)

theorem heardActive_changes (u : State) (d n v l : Nat) : ChangesOnly [.red, .log] u (heardActive u d n v l) :=
  ((changes_red u _).mono (by decide)).trans ((logEntry_changes _ _ _ _ _ _ _).mono (by decide))

/-- HELLO_RECEIVED from an active on a unit that is not. -/
theorem exec_helloReceived_active {s : State} (d n v l : Nat) (hp : s.red.pair = true) (hr : s.red.role ≠ 1) :
    ∃ u, Acked s u ∧ exec (.helloReceived d n true v l) s
      = .next { heardActive u d n v l with red := syncing u.red u.stk.nodes d n v l } := by
  have hu := acked_mirTook s 24
  refine ⟨_, hu, congrArg Host.Outcome.next ((if_neg ?pair).trans ((if_neg ?role).trans ?_))⟩
  case pair => simp [hu.red, hp]
  case role =>
    refine fun h => hr ?_
    rwa [← heardActive, heardActive_red, hu.red] at h
  refine congrArg (fun r : Red => { heardActive (mirTook s 24) d n v l with red := r }) ?_
  rw [← heardActive, heardActive_red]
  simp [syncing]

/-! ### SNAPSHOT and JOURNAL (R368, R369) -/

/-- Requests of the active as the transaction under which a shadow holds them for a frame. -/
def mirrorTxn (i j : Nat) (xs : List (Nat × Req)) : AccTxn :=
  { id := i, frame := j, tenant := 0, role := 1, items := xs.map fun x => { op := x.1, req := x.2 }, ordered := true }

theorem mirrorTxn_requests (i j : Nat) (xs : List (Nat × Req)) : (mirrorTxn i j xs).items.map (fun y => (y.op, y.req)) = xs := by
  simp [mirrorTxn, Function.comp_def]

/-- A whole SNAPSHOT whose latch has not passed is enlisted for its edge. -/
theorem exec_snapshotReceived_whole {s : State} {j : Nat} (xs : List (Nat × Req)) (hs : s.dev.state = .shadow) (hp : s.red.pair = true)
    (hj : nextLatch s ≤ j) : ∃ u, Acked s u ∧ exec (.snapshotReceived 0 true j xs) s = .next { u with
      red := { u.red with snap := [], snapPart := 0, snapAt := some j }
      ox := { u.ox with accepted := u.ox.accepted ++ [mirrorTxn snapId j xs] } } := by
  have hu := acked_mirTook s (16 + (xs.map fun x => up8 (reqBytes x.1 x.2).length).sum)
  refine ⟨_, hu, congrArg Host.Outcome.next ((if_neg ?taken).trans ((if_neg ?whole).trans (if_neg ?inTime)))⟩
  case taken => simp [hu.dev, hu.red, hs, hp]
  case whole => decide
  case inTime => exact Nat.not_lt.mpr (hu.nextLatch.trans_le hj)

/-- What JOURNAL_RECEIVED makes of a shadow: the transaction is enlisted, or, past its latch, counted, and the shadow is UNFIT. -/
theorem exec_journalReceived {s : State} (t : Time) (j i : Nat) (xs : List (Nat × Req)) (hs : s.dev.state = .shadow)
    (hp : s.red.pair = true) : ∃ u, Acked (advance s t) u ∧ exec (.journalReceived t j i xs) s = .next
      (if j < nextLatch s then redCount { u with red := { u.red with fit := 2 } } 4 else enlist u (mirrorTxn i j xs)) := by
  have hu := acked_mirTook (advance s t) (16 + (xs.map fun x => up8 (reqBytes x.1 x.2).length).sum)
  refine ⟨_, hu, congrArg Host.Outcome.next ((if_neg ?taken).trans ?_)⟩
  case taken => simp [hu.dev, hu.red, hs, hp]
  rw [hu.nextLatch]
  rfl

/-- The holds of REWIND items are no part of the accepted transactions. -/
theorem enlist_accepted (s : State) (x : AccTxn) : (enlist s x).ox.accepted = s.ox.accepted ++ [x] :=
  congrArg Oxold.accepted (holdRewinds_changes _ x .ox (by decide) :)

theorem redCount_cnt (s : State) (k : Nat) : SMap.get 0 (redCount s k).red.cnt k = sat32 (SMap.get 0 s.red.cnt k) 1 :=
  SMap.get_upd_same 0 s.red.cnt k fun n => sat32 n 1

/-! ### INPUT (R152, R380) -/

/-- The inputs of a frame as a shadow records them: the fixtures that the message names on top of the values of the last. -/
def inputRec (r : Red) (step h : Nat) (rings : List Nat) (tsns : List Int) (fixtures : List (Nat × Int × Nat)) : InputRec :=
  { step := step, h := h, rings := rings, tsns := tsns, temps := fixtures.foldl (fun m x => SMap.put 0 m x.1 x.2.1) r.temps
    faults := fixtures.foldl (fun m x => SMap.put 0 m x.1 x.2.2) r.faults }

/-- The pair's state with the record of a frame kept. -/
def inputKept (r : Red) (k : Nat) (x : InputRec) : Red :=
  { r with temps := x.temps, faults := x.faults, inputs := SMap.put none r.inputs k (some x) }

/-- INPUT_RECEIVED on a shadow keeps the record; besides, it can only reach the frame itself. -/
theorem exec_inputReceived {s : State} (k st h : Nat) (rs : List Nat) (ts : List Int) (fs : List (Nat × Int × Nat))
    (hs : s.dev.state = .shadow) (hp : s.red.pair = true) : ∃ u frm, Acked s u ∧ exec (.inputReceived k st h rs ts fs) s
      = .next { u with red := inputKept u.red k (inputRec u.red st h rs ts fs), frm := frm } := by
  have hu := acked_mirTook s (72 + 8 * fs.length)
  have htaken : ¬((mirTook s (72 + 8 * fs.length)).dev.state ≠ .shadow ∨ (mirTook s (72 + 8 * fs.length)).red.pair = false) := by
    simp [hu.dev, hu.red, hs, hp]
  simp only [exec, execInputReceived, if_neg htaken]
  split
  · exact ⟨_, _, hu, rfl⟩
  · exact ⟨_, _, hu, rfl⟩

/-! ### CONTINUITY (R371) -/

/-- A map filled from a list of pairs keeps what it read at a key that none of them has. -/
theorem SMap.get_foldl_put_pairs_of_notMem {α : Type} [DecidableEq α] (d : α) {l : List (Nat × α)} {k : Nat} (hk : k ∉ l.map (·.1))
    (m : SMap α) : SMap.get d (l.foldl (fun m x => SMap.put d m x.1 x.2) m) k = SMap.get d m k := by
  induction l generalizing m with
  | nil => rfl
  | cons y l ih =>
    obtain ⟨hy, hl⟩ := not_or.mp (hk ∘ List.mem_cons.mpr)
    exact (ih hl _).trans (SMap.get_put_other d d m y.1 k y.2 hy)

/-- A map filled from a list of pairs with distinct keys reads at each of them as the value written there. -/
theorem SMap.get_foldl_put_pairs {α : Type} [DecidableEq α] (d : α) {l : List (Nat × α)} (hl : (l.map (·.1)).Nodup) (m : SMap α)
    {x : Nat × α} (hx : x ∈ l) : SMap.get d (l.foldl (fun m x => SMap.put d m x.1 x.2) m) x.1 = x.2 := by
  induction l generalizing m with
  | nil => nomatch hx
  | cons y l ih =>
    obtain ⟨hy, hl⟩ := List.nodup_cons.mp hl
    obtain rfl | hx := List.mem_cons.mp hx
    · exact (SMap.get_foldl_put_pairs_of_notMem d hy _).trans (SMap.get_put_same d m x.1 x.2)
    · exact ih hl _ hx

/-- A fold keeps the frame counters whose steps do. -/
theorem foldl_fc {α : Type} {f : State → α → State} (h : ∀ a x, (f a x).rad.fc = a.rad.fc) (l : List α) (s : State) :
    (l.foldl f s).rad.fc = s.rad.fc := by
  induction l generalizing s with
  | nil => rfl
  | cons x l ih => exact (ih (f s x)).trans (h s x)

/-- CONTINUITY_RECEIVED on a shadow writes each frame counter told; the rest of it goes to sACN and the radio ports. -/
theorem exec_continuityReceived {s : State} (k : Nat) (sq cs : List (Nat × Nat)) (nb : List (Nat × Nat × Nat × Nat))
    (cm : List (Nat × Nat × Nat × Nat × List Nat)) (hs : s.dev.state = .shadow) (hp : s.red.pair = true) :
    ∃ t, exec (.continuityReceived k sq cs nb cm) s = .next t
      ∧ t.rad.fc = cs.foldl (fun m x => SMap.put 0 m x.1 x.2) s.rad.fc ∧ ChangesOnly [.wired, .rad, .stk, .out] s t := by
  have hu := acked_mirTook s (24 + 8 * sq.length + 8 * cs.length + 12 * nb.length + 24 * cm.length)
  refine ⟨_, congrArg Host.Outcome.next (if_neg ?taken), ?counters, ?frame⟩
  case taken => simp [hu.dev, hu.red, hs, hp]
  case counters =>
    rw [← hu.rad]
    refine (foldl_fc (fun a x => ?_) cm _).trans rfl
    rfl
  case frame =>
    refine (hu.changes.mono (by decide)).trans (ChangesOnly.trans ?_ (ChangesOnly.foldl _ (fun a x => ?_) cm _))
    · exact (changes_wired_rad _ _ _).mono (by decide)
    · exact (radPut_changes a x.1 _).mono (by decide)

/-! ### RESULT and the reflection check (R368, R380) -/

/-- The block with a frame noted as compared: the results of both units for it are used up. -/
def comparedAt (s : State) (k : Nat) : State :=
  { s with red := { s.red with own := SMap.put none s.red.own k none, results := SMap.put none s.red.results k none, compared := some k } }

section
variable {s : State} {k : Nat} {a b : List (Nat × Nat)} (ha : SMap.get none s.red.own k = some a)
  (hb : SMap.get none s.red.results k = some b) (hl : ∀ y, s.red.hello = some y → y.2.2.2.2 = resultLevel s)
include ha hb hl

/-- Between equal RESULT_LEVELs: results that agree make a shadow FIT that synchronises and has its snapshot, and results that differ are
logged and counted and make it UNFIT. -/
theorem reflect_cases :
    ((∀ x ∈ a, x ∈ b) ∧ reflect s k = if s.red.fit = 0 ∧ s.red.snapDone then
      { comparedAt s k with red := { (comparedAt s k).red with fit := 1 } } else comparedAt s k)
    ∨ (∃ x ∈ a, x ∉ b) ∧ ∃ x n, reflect s k
      = redCount (logEv { comparedAt s k with red := { (comparedAt s k).red with fit := 2 } } 0x0A01 (k % 2 ^ 32) x n) 2 := by
  unfold reflect
  simp only [ha, hb]
  rw [if_neg ?level]
  case level =>
    cases hh : s.red.hello with
    | none => simp
    | some y =>
      obtain ⟨_, _, _, _, l⟩ := y
      simpa using hl _ hh
  split
  · next hnil => exact .inl ⟨by simpa using hnil, rfl⟩
  · next x xs hcons =>
    have hx : x ∈ a.filter fun y => !b.elem y := hcons ▸ List.mem_cons_self
    exact .inr ⟨⟨x, by simpa using hx⟩, _, _, rfl⟩

theorem reflect_fit_of_agree (h : ∀ x ∈ a, x ∈ b) :
    (reflect s k).red.fit = if s.red.fit = 0 ∧ s.red.snapDone = true then 1 else s.red.fit := by
  obtain ⟨_, hr⟩ | ⟨⟨x, hxa, hxb⟩, _⟩ := reflect_cases ha hb hl
  · rw [hr]
    split <;> rfl
  · exact absurd (h x hxa) hxb

theorem reflect_unfit_of_differ (h : ∃ x ∈ a, x ∉ b) :
    (reflect s k).red.fit = 2 ∧ SMap.get 0 (reflect s k).red.cnt 2 = sat32 (SMap.get 0 s.red.cnt 2) 1 := by
  obtain ⟨hall, _⟩ | ⟨_, x, n, hr⟩ := reflect_cases ha hb hl
  · obtain ⟨x, hxa, hxb⟩ := h
    exact absurd (hall x hxa) hxb
  · have hred := logEv_changes { comparedAt s k with red := { (comparedAt s k).red with fit := 2 } } 0x0A01 (k % 2 ^ 32) x n
      .red (by decide)
    rw [hr, redCount_cnt, hred]
    exact ⟨congrArg Red.fit hred, rfl⟩

/-- The check is about the pair's state and the recorder. -/
theorem reflect_changes : ChangesOnly [.red, .log] s (reflect s k) := by
  have hred (r : Red) : ChangesOnly [.red, .log] s { s with red := r } := (changes_red s r).mono (by decide)
  obtain ⟨_, hr⟩ | ⟨_, x, n, hr⟩ := reflect_cases ha hb hl
  · rw [hr]
    exact .ite (hred _) (hred _)
  · rw [hr]
    exact (hred _).trans (((logEv_changes _ _ _ _ _).mono (by decide)).trans ((redCount_changes _ 2).mono (by decide)))

end

/-- The block with the active's result of a frame kept. -/
def resultKept (s : State) (k : Nat) (b : List (Nat × Nat)) : State :=
  { s with red := { s.red with results := SMap.put none s.red.results k (some b) } }

theorem resultKept_results (s : State) (k : Nat) (b : List (Nat × Nat)) :
    SMap.get none (resultKept s k b).red.results k = some b := SMap.get_put_same none s.red.results k (some b)

/-- RESULT_RECEIVED on a shadow: the result is kept and checked. -/
theorem exec_resultReceived {s : State} (k : Nat) (b : List (Nat × Nat)) (hs : s.dev.state = .shadow) (hp : s.red.pair = true)
    (hr : s.red.role ≠ 1) : ∃ u, Acked s u ∧ exec (.resultReceived k b) s = .next (reflect (resultKept u k b) k) := by
  have hu := acked_mirTook s (16 + 8 * b.length)
  refine ⟨_, hu, congrArg Host.Outcome.next (if_pos ?_)⟩
  rw [hu.dev, hu.red]
  exact ⟨hs, hp, hr⟩

/-- Settles O52: each message takes its one branch on the shadow, past an acknowledgement that moves the cascade ports alone. -/
theorem mirrorMessagesKeepTheShadow : Obligations.MirrorMessagesKeepTheShadow := by
  unfold Obligations.MirrorMessagesKeepTheShadow
  refine ⟨?hello, ?snapshot, ?journal, ?input, ?continuity, ?result⟩
  case hello =>
    intro s d n v l hp hr
    obtain ⟨u, hu, hexec⟩ := exec_helloReceived_active d n v l hp hr
    refine ⟨_, hexec, rfl, ?_, rfl, ?_⟩
    · rw [← hu.nodes, ← hu.red]
      rfl
    · exact (hu.changes.mono (by decide)).trans (((heardActive_changes u d n v l).mono (by decide)).trans
        ((changes_red (heardActive u d n v l) _).mono (by decide)))
  case snapshot =>
    intro s j xs hs hp hj
    obtain ⟨u, hu, hexec⟩ := exec_snapshotReceived_whole xs hs hp hj
    refine ⟨_, mirrorTxn snapId j xs, hexec, ?_, rfl, mirrorTxn_requests snapId j xs, rfl, ?_⟩
    · rw [← hu.ox]
    · exact (hu.changes.mono (by decide)).trans ((changes_red_ox u _ _).mono (by decide))
  case journal =>
    intro s t j i xs hs hp
    obtain ⟨u, hu, hexec⟩ := exec_journalReceived t j i xs hs hp
    refine ⟨_, hexec, fun hj => ?_, fun hj => ?_⟩
    · rw [if_neg (Nat.not_lt.mpr hj), enlist_accepted]
      exact ⟨mirrorTxn i j xs, List.mem_append_right _ (List.mem_singleton_self _), rfl, rfl, mirrorTxn_requests i j xs⟩
    · rw [if_pos hj, redCount_cnt, redCount_ox, hu.red]
      exact ⟨rfl, rfl, hu.ox⟩
  case input =>
    intro s k st h rs ts fs hs hp
    obtain ⟨u, frm, hu, hexec⟩ := exec_inputReceived k st h rs ts fs hs hp
    refine ⟨_, inputRec u.red st h rs ts fs, hexec, SMap.get_put_same none u.red.inputs k (some _), rfl, rfl, rfl, rfl, ?_⟩
    exact (hu.changes.mono (by decide)).trans ((changes_red_frm u _ frm).mono (by decide))
  case continuity =>
    intro s k sq cs nb cm hs hp hcs
    obtain ⟨t, hexec, hfc, hframe⟩ := exec_continuityReceived k sq cs nb cm hs hp
    exact ⟨t, hexec, fun x hx => hfc ▸ SMap.get_foldl_put_pairs 0 hcs s.rad.fc hx, hframe⟩
  case result =>
    intro s k a b hs hp hr ha hl
    obtain ⟨u, hu, hexec⟩ := exec_resultReceived k b hs hp hr
    have hb := resultKept_results u k b
    rw [← hu.red] at ha hl ⊢
    rw [← hu.resultLevel] at hl
    have hkept : ChangesOnly [.red] u (resultKept u k b) := changes_red u _
    have hcheck : ChangesOnly [.red, .log] (resultKept u k b) (reflect (resultKept u k b) k) := reflect_changes ha hb hl
    exact ⟨_, hexec, ((hu.changes.mono (by decide)).trans (hkept.mono (by decide))).trans (hcheck.mono (by decide)),
      reflect_fit_of_agree (s := resultKept u k b) ha hb hl, reflect_unfit_of_differ (s := resultKept u k b) ha hb hl⟩

end Sys2Proof.Machine
end

section
/-! Strand pins, DMX ports and the RDM controller (R160, R166, R168, R170 to R173): what a port starts for the next edge, how a
transaction begins and ends, and O37. -/

namespace Sys2Proof.Machine

/-! ### What notifications leave of the wired outputs (R316) -/

/-- A notification takes the next SEQ, whether Q28 has room for it or not. -/
theorem notify_seq (s : State) (c : Nat) (b : List Byte) : (notify s c b).que.seq = (s.que.seq + 1) % 4294967296 := by
  have hout (u : State) (m : List Byte) : (noteOut u m).que.seq = u.que.seq := congrArg Prod.snd (posted_noteOut u m)
  unfold notify notifyAt notifyBytes
  split
  · exact hout (qDiscard _ 28) _
  · exact (hout _ _).trans (congrArg Prod.snd (posted_qCommit _ false _))

@[simp] theorem notify_wired (s : State) (c : Nat) (b : List Byte) : (notify s c b).wired = s.wired :=
  notify_changes s c b .wired (by decide)

@[simp] theorem dmxGet_notify (s : State) (c : Nat) (b : List Byte) (p : Nat) : dmxGet (notify s c b) p = dmxGet s p :=
  congrArg (fun w : Wired => SMap.get DmxState.empty w.dmx p) (notify_wired s c b)

@[simp] theorem dmxGet_advance (s : State) (u : Time) (p : Nat) : dmxGet (advance s u) p = dmxGet s p := rfl

theorem dmxPut_changes (s : State) (p : Nat) (x : DmxState) : ChangesOnly [.wired] s (dmxPut s p x) := changes_wired s _

/-- A counter of a port counts one, up to its limit. -/
theorem get_bump (m : SMap Nat) (k : Nat) : SMap.get 0 (bump m k 1) k = sat32 (SMap.get 0 m k) 1 :=
  SMap.get_upd_same 0 m k fun n => sat32 n 1

@[simp] theorem dmxGet_dmxCount (s : State) (p k : Nat) :
    dmxGet (dmxCount s p k) p = { dmxGet s p with cnt := bump (dmxGet s p).cnt k 1 } := dmxGet_dmxPut s p _

/-! ### Strand pins (R160, R166) -/

/-- The block with a transmission begun on a pin. -/
def strandBegun (s : State) (p : Nat) (x : StrandTx) : State :=
  emit { s with wired := { s.wired with strands := SMap.put none s.wired.strands p (some x) } }
    (.strand p x.start (packBits ((x.bits.length + 7) / 8) x.bits))

/-- STRAND_TX_START of a pin in use that has not begun for the next edge. -/
theorem exec_strandTxStart {s : State} {p : Nat} {c : Store} {o : FrameOut} {n : Nat} (ht : transmits s = true) (hp : p < 64)
    (hs : sending s = (c, o, n)) (hm : modeOf (c.row spnPin p) ≠ 0)
    (hx : ∀ x, SMap.get none s.wired.strands p = some x → x.stop ≠ s.frm.next) :
    exec (.strandTxStart p) s = .next (strandBegun (advance s (s.frm.next - spTtx (c.row spnPin p) (c.wirePixels p) * ns)) p
      { rec_ := c.row spnPin p, start := nearestNs (s.frm.next - spTtx (c.row spnPin p) (c.wirePixels p) * ns)
        bits := strandBits c o p, stop := s.frm.next }) := by
  have hnew : (SMap.get none s.wired.strands p).map (·.stop) ≠ some s.frm.next := by
    intro h
    obtain ⟨x, hget, hstop⟩ := Option.map_eq_some_iff.mp h
    exact hx x hget hstop
  simp only [exec, execStrandTxStart, hs]
  exact congrArg Host.Outcome.next (if_pos ⟨ht, hp, hm, hnew⟩)

theorem strandBegun_strands (s : State) (p : Nat) (x : StrandTx) :
    SMap.get none (strandBegun s p x).wired.strands p = some x := SMap.get_put_same none s.wired.strands p (some x)

theorem strandBegun_changes (s : State) (p : Nat) (x : StrandTx) : ChangesOnly [.wired, .out] s (strandBegun s p x) :=
  ((changes_wired s _).mono (by decide)).trans ((emit_changes _ _).mono (by decide))

/-! ### The end of a transaction (R171) -/

/-- However a transaction ends, its port is free, with nothing left to send again, and otherwise as it was. -/
theorem dmxGet_rdmEnd (s : State) (p : Nat) (f : RdmFlight) (st ty : Nat) (pd : List Byte) :
    dmxGet (rdmEnd s p f st ty pd) p = { dmxGet s p with flight := none, retry := none } := by
  unfold rdmEnd
  dsimp only
  split
  · exact dmxGet_dmxPut s p _
  · exact dmxGet_dmxPut s p _
  · exact (dmxGet_notify _ _ _ p).trans (dmxGet_dmxPut s p _)

section
variable {f : RdmFlight} (hpoll : f.poll = none) (hdisc : f.disc = false)
include hpoll hdisc

/-- The end of a host request leaves its response record at its handle. -/
theorem rdmEnd_resp (s : State) (p st ty : Nat) (pd : List Byte) :
    SMap.get [255#8] (rdmEnd s p f st ty pd).wired.resp (byteAt f.req 13) = respRecord st ty p (pd.take 231) := by
  simp [rdmEnd, hpoll, hdisc]

/-- The end of a host request is notified. -/
theorem rdmEnd_seq (s : State) (p st ty : Nat) (pd : List Byte) :
    (rdmEnd s p f st ty pd).que.seq = (s.que.seq + 1) % 4294967296 := by
  simp [rdmEnd, hpoll, hdisc, notify_seq]

end

/-! ### DMX packets (R160, R168, R170) -/

/-- The block in which a transaction still in flight on a port has ended as an overrun. -/
def overrun (s : State) (p : Nat) : State :=
  match (dmxGet s p).flight with
  | some f => rdmEnd (dmxCount s p 1) p f 2 0 []
  | none => s

theorem overrun_of_free {s : State} {p : Nat} (h : (dmxGet s p).flight = none) : overrun s p = s := by
  simp only [overrun, h]

theorem dmxGet_overrun_of_flight {s : State} {p : Nat} (h : (dmxGet s p).flight ≠ none) :
    dmxGet (overrun s p) p = { dmxGet s p with flight := none, retry := none, cnt := bump (dmxGet s p).cnt 1 1 } := by
  obtain ⟨f, hf⟩ := Option.ne_none_iff_exists'.mp h
  simp only [overrun, hf]
  rw [dmxGet_rdmEnd, dmxGet_dmxCount]

/-- After an overrun the port is free and keeps the frame that its next packet carries. -/
theorem dmxGet_overrun (s : State) (p : Nat) :
    (dmxGet (overrun s p) p).flight = none ∧ (dmxGet (overrun s p) p).src = (dmxGet s p).src := by
  by_cases h : (dmxGet s p).flight = none
  · rw [overrun_of_free h]
    exact ⟨h, rfl⟩
  · rw [dmxGet_overrun_of_flight h]
    exact ⟨rfl, rfl⟩

/-- The block with a packet begun on a port under record `r` that ends at `e`, the edge of frame `n`. -/
def packetBegun (s : State) (p r n : Nat) (e : Time) : State :=
  let x := dmxGet s p
  let tx : DmxTx :=
    { start := e - dmxTime r * ns, brk := u16At r 4, mab := u16At r 6, mbs := u16At r 8, bytes := dmxSlots r p x.src }
  emit (dmxPut s p { x with packetEnd := e, target := n + 1, tx := some tx, deOff := none }) (.dmx p tx.start tx.bytes)

theorem dmxGet_packetBegun (s : State) (p r n : Nat) (e : Time) : ∃ tx, dmxGet (packetBegun s p r n e) p
    = { dmxGet s p with packetEnd := e, target := n + 1, tx := some tx, deOff := none } :=
  ⟨_, dmxGet_dmxPut s p _⟩

theorem packetBegun_out (s : State) (p r n : Nat) (e : Time) :
    (packetBegun s p r n e).out = .dmx p (e - dmxTime r * ns) (dmxSlots r p (dmxGet s p).src) :: s.out := rfl

theorem packetBegun_changes (s : State) (p r n : Nat) (e : Time) : ChangesOnly [.wired, .out] s (packetBegun s p r n e) :=
  ((dmxPut_changes s p _).mono (by decide)).trans ((emit_changes _ _).mono (by decide))

/-- DMX_PACKET_START of a port in use that has not begun the packet of its next edge. -/
theorem exec_dmxPacketStart {s : State} {p : Nat} (ht : transmits s = true) (hp : p < 16) (hm : modeOf (dmxRec s p) ≠ 0)
    (hn : (dmxGet s p).target ≠ dmxTargetNum s (dmxRec s p) + 1) :
    exec (.dmxPacketStart p) s = .next (packetBegun
      (overrun (advance s (dmxTarget s (dmxRec s p) - dmxTime (dmxRec s p) * ns)) p) p (dmxRec s p)
      (dmxTargetNum s (dmxRec s p)) (dmxTarget s (dmxRec s p))) :=
  congrArg Host.Outcome.next ((if_pos ⟨ht, hp, hm⟩).trans (if_neg hn))

/-! ### RDM transactions (R170, R171) -/

/-- A host request that has not been sent yet. -/
def hostFlight (q : Nat) : RdmFlight := { poll := none, disc := false, req := q, tries := 0 }

/-- With nothing to send again, the oldest host request goes before all else. -/
theorem rdmNext_host {s : State} {p q : Nat} {rest : List Nat} (hr : (dmxGet s p).retry = none) (hq : (dmxGet s p).queue = q :: rest) :
    rdmNext s p = some (hostFlight q, { dmxGet s p with queue := rest }) := by
  simp [rdmNext, hr, hq, hostFlight]

/-- RDM_TRANSACTION_START in a free interval with a host request waiting: it begins if its budget ends in time. -/
theorem exec_rdmTransactionStart_host {s : State} {p q : Nat} {u : Time} {rest : List Nat} (ht : transmits s = true) (hp : p < 16)
    (hm : modeOf (dmxRec s p) = 2) (hf : (dmxGet s p).flight = none) (he : (dmxGet s p).packetEnd ≤ u)
    (hr : (dmxGet s p).retry = none) (hq : (dmxGet s p).queue = q :: rest) : exec (.rdmTransactionStart p u) s = .next (
      if u + (rdmBudget q + 176) * us ≤ dmxTarget s (dmxRec s p) - dmxTime (dmxRec s p) * ns then
        rdmBegin (advance s u) p u (hostFlight q) { dmxGet s p with queue := rest }
      else if (dmxGet s p).deferredAt = (dmxGet s p).packetEnd then advance s u
      else dmxCount (dmxPut (advance s u) p { dmxGet s p with deferredAt := (dmxGet s p).packetEnd }) p 3) := by
  refine congrArg Host.Outcome.next ((if_pos ⟨ht, hp, hm, hf, he⟩).trans ?_)
  rw [rdmNext_host (s := advance s u) hr hq]
  rfl

/-- RDM_RESPONSE with a good checksum to a host request. -/
theorem exec_rdmResponse_host {s : State} {p : Nat} {f : RdmFlight} (hf : (dmxGet s p).flight = some f) (hpoll : f.poll = none) (u : Time)
    (ty : Nat) (pd : List Byte) : exec (.rdmResponse p u ty true pd) s = .next (rdmEnd (advance s u) p f 0 ty pd) := by
  simp [exec, execRdmResponse, hf, hpoll]

/-- RDM_RESPONSE_TIMEOUT with a transaction in flight. -/
theorem exec_rdmResponseTimeout {s : State} {p : Nat} {f : RdmFlight} (hf : (dmxGet s p).flight = some f) (u : Time) :
    exec (.rdmResponseTimeout p u) s = .next (rdmFail (advance s u) p f 0 1) := by
  simp [exec, execRdmResponseTimeout, hf]

/-- The first two failures of a request have it sent again. -/
theorem rdmFail_again {f : RdmFlight} (hd : f.disc = false) (h : f.tries < 2) (s : State) (p k st : Nat) :
    rdmFail s p f k st = dmxPut s p { dmxGet s p with flight := none, retry := some { f with tries := f.tries + 1 } } :=
  (if_neg (by simp [hd])).trans (if_pos h)

/-- The third failure of a request ends it. -/
theorem rdmFail_ends {f : RdmFlight} (hd : f.disc = false) (h : 2 ≤ f.tries) (s : State) (p k st : Nat) :
    rdmFail s p f k st = rdmEnd (dmxCount s p k) p f st 0 [] :=
  (if_neg (by simp [hd])).trans (if_neg (Nat.not_lt.mpr h))

/-! ### Discovery and telemetry (R172, R173) -/

/-- The entry of DMX_RDM_UID for the responder at a place among those found. -/
def uidEntry (ids : List Nat) (i : Nat) : Nat := if i < ids.length then leNat (beBytes 6 (ids.getD i 0)) else 0

/-- DMX_RDM_UID with the entries of a port filled with the responders found. -/
def uidTable (m : SMap Nat) (p : Nat) (ids : List Nat) : SMap Nat :=
  (List.range 512).foldl (fun m i => SMap.put 0 m (p * 512 + i) (uidEntry ids i)) m

/-- A map filled at an offset reads at each place as the value written there. -/
theorem SMap.get_foldl_put_offset {α : Type} [DecidableEq α] (d : α) (b : Nat) (f : Nat → α) (l : List Nat) (m : SMap α) {n : Nat}
    (hn : n ∈ l) : SMap.get d (l.foldl (fun m i => SMap.put d m (b + i) (f i)) m) (b + n) = f n := by
  have h := SMap.get_foldl_put d (fun k => f (k - b)) (l.map (b + ·)) m (b + n)
  rw [List.foldl_map, if_pos (List.mem_map_of_mem hn)] at h
  simpa using h

theorem get_uidTable (m : SMap Nat) (p : Nat) (ids : List Nat) {i : Nat} (hi : i < 512) :
    SMap.get 0 (uidTable m p ids) (p * 512 + i) = uidEntry ids i :=
  SMap.get_foldl_put_offset 0 (p * 512) (uidEntry ids) (List.range 512) m (List.mem_range.mpr hi)

/-- The block with DMX_RDM_UID replaced and the discovery run of a port over. -/
def discovered (s : State) (p : Nat) (m : SMap Nat) : State :=
  dmxPut { s with wired := { s.wired with uid := m } } p { dmxGet s p with disc := false }

theorem discovered_uid (s : State) (p : Nat) (m : SMap Nat) : (discovered s p m).wired.uid = m := rfl

/-- RDM_DISC_DONE of a run stores what it found, and is notified. -/
theorem exec_rdmDiscDone {s : State} {p : Nat} (hp : p < 16) (hd : (dmxGet s p).disc = true) (u : Time) (ids : List Nat) :
    ∃ b, exec (.rdmDiscDone p u ids) s = .next (notify (discovered (advance s u) p (uidTable s.wired.uid p ids)) 0x0031 b) :=
  ⟨_, congrArg Host.Outcome.next (if_pos ⟨hp, hd⟩)⟩

/-- The sensors that a record names and that are not queued yet. -/
def newPolls (r n : Nat) (due : List (Nat × Nat)) : List (Nat × Nat) :=
  (([0, 1] : List Nat).filter fun k => byteAt r (12 + k) ≠ 255 && !due.elem (n, k)).map fun k => (n, k)

/-- Each sensor that a record names is queued afterwards. -/
theorem mem_due_newPolls {r n k : Nat} (due : List (Nat × Nat)) (hk : k < 2) (hb : byteAt r (12 + k) ≠ 255) :
    (n, k) ∈ due ++ newPolls r n due := by
  by_cases h : (n, k) ∈ due
  · exact List.mem_append_left _ h
  · refine List.mem_append_right _ (List.mem_map.mpr ⟨k, List.mem_filter.mpr ⟨?_, ?_⟩, rfl⟩)
    · simpa [Nat.le_one_iff_eq_zero_or_eq_one] using Nat.le_of_lt_succ hk
    · simp [hb, h]

/-- The block with a telemetry record polled on its port. -/
def polled (s : State) (n p : Nat) : State :=
  dmxPut { s with wired := { s.wired with telAt := SMap.put none s.wired.telAt n (some s.tim.now) } } p
    { dmxGet s p with due := (dmxGet s p).due ++ newPolls (s.cfg.row dmxRdmTel n) n (dmxGet s p).due }

theorem polled_telAt (s : State) (n p : Nat) : SMap.get none (polled s n p).wired.telAt n = some s.tim.now :=
  SMap.get_put_same none s.wired.telAt n (some s.tim.now)

/-- RDM_TELEMETRY_POLL of a record that is due. -/
theorem exec_rdmTelemetryPoll {s : State} {n p : Nat} (ht : transmits s = true) (hn : n < 1024) (hr : s.cfg.row dmxRdmTel n ≠ 0)
    (hport : dmxPortOf s.cfg (u32At (s.cfg.row dmxRdmTel n) 0) = some p) (hm : modeOf (s.cfg.row dmxPort p) = 2)
    (hi : intervalOver s (SMap.get none s.wired.telAt n) (u16At (s.cfg.row dmxPort p) 12) = true) :
    exec (.rdmTelemetryPoll n) s = .next (polled s n p) := by
  refine congrArg Host.Outcome.next ((if_pos ⟨ht, hn, hr⟩).trans ?_)
  simp only [hport]
  exact if_pos ⟨hm, hi⟩

/-- Settles O37: each command takes its one branch, and the end of a transaction, whoever asked for it, leaves its port free. -/
theorem strandsDmxAndRdm : Obligations.StrandsDmxAndRdm := by
  unfold Obligations.StrandsDmxAndRdm
  refine ⟨?strand, ?packet, ?start, ?response, ?timeout, ?discovery, ?telemetry⟩
  case strand =>
    rintro s p c o n u ht hp hs hm hx rfl
    refine ⟨_, _, exec_strandTxStart ht hp hs hm hx, strandBegun_strands _ p _, rfl, rfl, rfl, rfl, rfl, rfl, ?_⟩
    exact ((advance_changes s _).mono (by decide)).trans ((strandBegun_changes _ p _).mono (by decide))
  case packet =>
    rintro s p r e ht hp rfl hm rfl hn
    refine ⟨_, exec_dmxPacketStart ht hp hm hn, ?_⟩
    generalize hs : advance s _ = s1
    have hport : dmxGet s1 p = dmxGet s p := hs ▸ dmxGet_advance s _ p
    obtain ⟨hfree, hsrc⟩ := dmxGet_overrun s1 p
    obtain ⟨tx, hbegun⟩ := dmxGet_packetBegun (overrun s1 p) p (dmxRec s p) (dmxTargetNum s (dmxRec s p)) (dmxTarget s (dmxRec s p))
    rw [hbegun, packetBegun_out, hsrc, hport]
    refine ⟨rfl, rfl, rfl, hfree, ⟨_, rfl⟩, fun hf => ?_, fun hf => ?_⟩
    · rw [← hport] at hf ⊢
      rw [dmxGet_overrun_of_flight hf]
      exact get_bump _ 1
    · rw [← hport] at hf
      rw [overrun_of_free hf, ← hs]
      exact ((advance_changes s _).mono (by decide)).trans ((packetBegun_changes _ p _ _ _).mono (by decide))
  case start =>
    rintro s p q r u rest ht hp rfl hm hf he hr hq
    have hexec := exec_rdmTransactionStart_host ht hp hm hf he hr hq
    refine ⟨fun hfits => ⟨_, hexec.trans (congrArg _ (if_pos hfits)), ?_, ?_, rfl⟩, fun hlate hnew =>
      ⟨_, hexec.trans (congrArg _ ((if_neg (Nat.not_le.mpr hlate)).trans (if_neg hnew))), ?_, ?_, ?_, rfl⟩⟩
    · exact congrArg DmxState.flight (dmxGet_dmxPut (advance s u) p _)
    · exact congrArg DmxState.queue (dmxGet_dmxPut (advance s u) p _)
    · simpa using hf
    · simpa using hq
    · simpa using get_bump (dmxGet s p).cnt 3
  case response =>
    intro s p ty u pd f hf hpoll hdisc
    exact ⟨_, exec_rdmResponse_host hf hpoll u ty pd, congrArg DmxState.flight (dmxGet_rdmEnd (advance s u) p f 0 ty pd),
      rdmEnd_resp hpoll hdisc _ p 0 ty pd, rdmEnd_seq hpoll hdisc _ p 0 ty pd⟩
  case timeout =>
    intro s p u f hf hdisc
    have hexec := exec_rdmResponseTimeout hf u
    refine ⟨fun htries => ?_, fun htries hpoll => ?_⟩
    · rw [rdmFail_again hdisc htries] at hexec
      refine ⟨_, hexec, ?_, ?_, ((advance_changes s u).mono (by decide)).trans ((dmxPut_changes _ p _).mono (by decide))⟩
      · rw [dmxGet_dmxPut]
      · rw [dmxGet_dmxPut]
    · rw [rdmFail_ends hdisc htries] at hexec
      refine ⟨_, hexec, ?_⟩
      rw [dmxGet_rdmEnd, dmxGet_dmxCount]
      exact ⟨rfl, rfl, get_bump _ 0, rdmEnd_resp hpoll hdisc _ p 1 0 []⟩
  case discovery =>
    intro s p u ids hp hd
    obtain ⟨b, hexec⟩ := exec_rdmDiscDone hp hd u ids
    refine ⟨_, hexec, ?_, fun i hi => ?_, notify_seq _ _ b⟩
    · rw [dmxGet_notify, discovered, dmxGet_dmxPut]
    · rw [notify_wired, discovered_uid, get_uidTable _ p ids hi]
      rfl
  case telemetry =>
    intro s n p k ht hn hr hport hm hk hb hi
    refine ⟨_, exec_rdmTelemetryPoll ht hn hr hport hm hi, ?_, polled_telAt s n p, changes_wired s _⟩
    rw [polled, dmxGet_dmxPut]
    exact mem_due_newPolls _ hk hb

end Sys2Proof.Machine
end

section
/-! DALI buses (R175, R176, R178 to R180): which frame a bus sends next, what a collision, a reply and a missing reply make of it, how a bus
fails and comes back, and O38. -/

namespace Sys2Proof.Machine

/-! ### What shared operations leave of a bus -/

@[simp] theorem daliGet_advance (s : State) (u : Time) (b : Nat) : daliGet (advance s u) b = daliGet s b := rfl

@[simp] theorem daliGet_notify (s : State) (c : Nat) (m : List Byte) (b : Nat) : daliGet (notify s c m) b = daliGet s b :=
  congrArg (fun w : Wired => SMap.get DaliState.empty w.dali b) (notify_wired s c m)

@[simp] theorem daliGet_logEv (s : State) (c x y z b : Nat) : daliGet (logEv s c x y z) b = daliGet s b :=
  congrArg (fun w : Wired => SMap.get DaliState.empty w.dali b) (logEv_changes s c x y z .wired (by decide))

@[simp] theorem daliGet_logEntry (s : State) (h : Bool) (c o x y z b : Nat) : daliGet (logEntry s h c o x y z) b = daliGet s b :=
  congrArg (fun w : Wired => SMap.get DaliState.empty w.dali b) (logEntry_changes s h c o x y z .wired (by decide))

@[simp] theorem daliGet_dalReply (s : State) (b r v a : Nat) : daliGet (dalReply s b r v) a = daliGet s a := daliGet_notify s _ _ a

/-- An operation that leaves a bus leaves it whether it is carried out or not. -/
theorem daliGet_ite {c : Prop} [Decidable c] {s t : State} {b : Nat} (h : daliGet t b = daliGet s b) :
    daliGet (if c then t else s) b = daliGet s b := by
  split
  · exact h
  · rfl

theorem daliPut_changes (s : State) (b : Nat) (x : DaliState) : ChangesOnly [.wired] s (daliPut s b x) := changes_wired s _

@[simp] theorem daliGet_daliCount (s : State) (b k : Nat) :
    daliGet (daliCount s b k) b = { daliGet s b with cnt := bump (daliGet s b).cnt k 1 } := daliGet_daliPut s b _

@[simp] theorem daliGet_daliOut (s : State) (b v : Nat) (x : DaliState) :
    daliGet (daliOut s b v x) b = { x with lastFrame := some v, collisions := 0 } := daliGet_daliPut s b _

theorem daliOut_changes (s : State) (b v : Nat) (x : DaliState) : ChangesOnly [.wired, .out] s (daliOut s b v x) :=
  ((daliPut_changes s b _).mono (by decide)).trans ((emit_changes _ _).mono (by decide))

/-! ### The frame sent next (R176, R180) -/

section
variable {s : State} {b : Nat} (ht : transmits s = true) (hb : b < 8) (hm : modeOf (s.cfg.row dalBus b) = 1)
  (hd : (daliGet s b).down = false)
include ht hb hm hd

/-- DALI_FRAME_SEND within a sequence. -/
theorem exec_daliFrameSend_seq {v : Nat} {rest : List Nat} (hq : (daliGet s b).seq = v :: rest) :
    exec (.daliFrameSend b) s = .next (daliOut s b v { daliGet s b with seq := rest }) := by
  refine congrArg Host.Outcome.next ((if_pos ⟨ht, hb, hm, hd, .inr (by simp [hq])⟩).trans ?_)
  simp only [hq]

variable (ha : (daliGet s b).ask = none) (hq : (daliGet s b).seq = [])
include ha hq

/-- DALI_FRAME_SEND of a DAL_CMD frame that goes out once: it awaits its reply. -/
theorem exec_daliFrameSend_cmd {r : Nat} {rest : List Nat} (hc : (daliGet s b).cmds = r :: rest) (hr : bitAt r 8 = false) :
    exec (.daliFrameSend b) s = .next (daliOut s b (u16At r 2)
      { daliGet s b with cmds := rest, seqFor := none, ask := some { addr := 64, kind := 3 } }) := by
  refine congrArg Host.Outcome.next ((if_pos ⟨ht, hb, hm, hd, .inl ha⟩).trans ?_)
  simp [hq, hc, hr]

/-- DALI_FRAME_SEND that begins the sequence of a pending entry. -/
theorem exec_daliFrameSend_pending {a f : Nat} {v rest : List Nat} (hc : (daliGet s b).cmds = [])
    (hbc : broadcastOf s.cfg b (daliGet s b) = none) (hn : nextPending s.cfg b (daliGet s b) = some a)
    (hv : SMap.get none (daliGet s b).pending a = some v) (hf : arcFrames a v = f :: rest) :
    exec (.daliFrameSend b) s = .next (daliOut s b f { daliGet s b with
      pending := SMap.put none (daliGet s b).pending a none, sent := SMap.put none (daliGet s b).sent a (some v)
      seq := rest, seqFor := some (a, v), lastServed := a }) := by
  refine congrArg Host.Outcome.next ((if_pos ⟨ht, hb, hm, hd, .inl ha⟩).trans ?_)
  simp [hq, hc, hbc, hn, hv, hf]

end

/-! ### Collisions (R178) -/

/-- DALI_COLLISION up to the seventh of a frame. -/
theorem exec_daliCollision_again {s : State} {b v : Nat} (hl : (daliGet s b).lastFrame = some v) (hc : (daliGet s b).collisions < 7) :
    exec (.daliCollision b) s
      = .next (emit (daliPut s b { daliGet s b with collisions := (daliGet s b).collisions + 1 }) (.dali b v 16)) := by
  have h8 : (daliGet s b).collisions + 1 < 8 := Nat.succ_lt_succ hc
  simp only [exec, execDaliCollision, hl, if_pos h8]

/-- The block with a frame for an address given up: its values are pending again, its sequence and the reply that it awaits are gone, and
the collisions are counted. -/
def givenUp (s : State) (b a : Nat) (l : List Nat) : State :=
  daliCount (daliPut s b { daliGet s b with
    pending := SMap.put none (daliGet s b).pending a (some l)
    seq := [], seqFor := none, lastFrame := none, collisions := 0, ask := none }) b 0

theorem daliGet_givenUp (s : State) (b a : Nat) (l : List Nat) : daliGet (givenUp s b a l) b = { daliGet s b with
    pending := SMap.put none (daliGet s b).pending a (some l)
    seq := [], seqFor := none, lastFrame := none, collisions := 0, ask := none, cnt := bump (daliGet s b).cnt 0 1 } := by
  simp [givenUp]

/-- The eighth DALI_COLLISION of a frame for an address with nothing pending: the frame is given up, and a DAL_CMD frame is answered. -/
theorem exec_daliCollision_last {s : State} {b v a : Nat} {l : List Nat} (hl : (daliGet s b).lastFrame = some v)
    (hc : 7 ≤ (daliGet s b).collisions) (hs : (daliGet s b).seqFor = some (a, l)) (ha : a < 64)
    (hp : SMap.get none (daliGet s b).pending a = none) : exec (.daliCollision b) s
      = .next (if (daliGet s b).ask.map (·.kind) = some 3 then dalReply (givenUp s b a l) b 2 0 else givenUp s b a l) := by
  have h8 : ¬(daliGet s b).collisions + 1 < 8 := by omega
  simp only [exec, execDaliCollision, hl, if_neg h8, hs, if_pos ha, hp]
  rfl

/-! ### Polls and replies (R179, R180) -/

theorem daliQuery_changes (s : State) (b a k : Nat) : ChangesOnly [.wired, .out] s (daliQuery s b a k) := by
  unfold daliQuery
  dsimp only
  refine .ite (daliOut_changes s b _ _) (.ite (daliOut_changes s b _ _) (.ite (daliOut_changes s b _ _) ?_))
  exact (daliPut_changes s b _).mono (by decide)

/-- The block with a poll of an address noted. -/
def pollNoted (s : State) (b a : Nat) : State :=
  daliPut s b { daliGet s b with seqFor := none, polled := SMap.put none (daliGet s b).polled a (some s.tim.now) }

/-- DALI_POLL of a patched address that is due on an idle bus queries its status. -/
theorem exec_daliPoll {s : State} {b a : Nat} (ht : transmits s = true) (hb : b < 8) (hm : modeOf (s.cfg.row dalBus b) = 1)
    (hd : (daliGet s b).down = false) (ha : (daliGet s b).ask = none) (hq : (daliGet s b).seq = []) (hc : (daliGet s b).cmds = [])
    (hp : (daliGet s b).pending = []) (hf : (daliFixture s.cfg b a).isSome = true)
    (hi : intervalOver s (SMap.get none (daliGet s b).polled a) (u16At (s.cfg.row dalBus b) 2) = true) :
    exec (.daliPoll b a) s = .next (daliOut (pollNoted s b a) b ((a * 2 + 1) * 256 + 0x90)
      { daliGet (pollNoted s b a) b with ask := some { addr := a, kind := 0 }, seq := [], seqFor := none }) :=
  congrArg Host.Outcome.next (if_pos ⟨ht, hb, hm, hd, ha, hq, hc, hp, hf, hi⟩)

/-- The block with a status query found without reply: one more miss of the address. -/
def missed (s : State) (b a : Nat) : State :=
  let s1 := daliPut s b { daliGet s b with ask := none }
  daliPut s1 b { daliGet s1 b with misses := SMap.put 0 (daliGet s b).misses a (SMap.get 0 (daliGet s b).misses a + 1) }

theorem daliGet_missed (s : State) (b a : Nat) : daliGet (missed s b a) b = { daliGet s b with
    ask := none, misses := SMap.put 0 (daliGet s b).misses a (SMap.get 0 (daliGet s b).misses a + 1) } := by
  simp [missed]

theorem missed_changes (s : State) (b a : Nat) : ChangesOnly [.wired] s (missed s b a) :=
  (daliPut_changes s b _).trans (daliPut_changes _ b _)

section
variable {s : State} {b a : Nat} (hq : (daliGet s b).seq = [])
include hq

/-- With no frames left before it, the query of a bus awaits its backward frame. -/
theorem awaited_of_seq_nil : awaited (daliGet s b) = (daliGet s b).ask := if_pos hq

section
variable (ha : (daliGet s b).ask = some { addr := a, kind := 3 })
include ha

/-- DALI_BACKWARD_FRAME after a DAL_CMD frame. -/
theorem exec_daliBackwardFrame_cmd (v : Nat) (u : Time) : exec (.daliBackwardFrame b v u) s
    = .next (dalReply (daliPut (advance s u) b { daliGet s b with ask := none }) b 0 (v % 256)) := by
  simp [exec, execDaliBackwardFrame, awaited_of_seq_nil hq, ha]

/-- DALI_REPLY_TIMEOUT after a DAL_CMD frame. -/
theorem exec_daliReplyTimeout_cmd (u : Time) : exec (.daliReplyTimeout b u) s
    = .next (dalReply (daliPut (advance s u) b { daliGet s b with ask := none }) b 1 0) := by
  simp [exec, execDaliReplyTimeout, awaited_of_seq_nil hq, ha]

end

variable (ha : (daliGet s b).ask = some { addr := a, kind := 0 })
include ha

/-- DALI_BACKWARD_FRAME with lamp failure to a status query: every FAULT bit of the fixture is set before the next query goes out. -/
theorem exec_daliBackwardFrame_failure {v : Nat} {fx : Nat × Nat} (hf : daliFixture s.cfg b a = some fx) (hv : bitAt v 1 = true)
    (u : Time) : exec (.daliBackwardFrame b v u) s
      = .next (daliQuery (allFault (setCond (daliPut (advance s u) b
      { daliGet s b with misses := SMap.put 0 (daliGet s b).misses a 0 }) 0x0401 (b * 64 + a) false) fx) b a 1) := by
  simp [exec, execDaliBackwardFrame, State.cfg, awaited_of_seq_nil hq, ha, hf, hv]

/-- DALI_REPLY_TIMEOUT after a status query: the miss is counted, and from the third on the condition is logged. -/
theorem exec_daliReplyTimeout_status (u : Time) : exec (.daliReplyTimeout b u) s
    = .next (if 3 ≤ SMap.get 0 (daliGet s b).misses a + 1 then logEntry (missed (advance s u) b a) true 0x0401 (b * 64 + a) b a 0
      else missed (advance s u) b a) := by
  simp only [exec, execDaliReplyTimeout, daliGet_advance, awaited_of_seq_nil hq, ha]
  rfl

end

/-! ### Buses that fail and come back, addresses and device frames (R180) -/

/-- A bus that has failed: nothing waits on it. -/
def fallen (x : DaliState) : DaliState := { x with down := true, pending := [], seq := [], seqFor := none, ask := none, lastFrame := none }

/-- DALI_BUS_DOWN of a bus that was up: a DAL_CMD frame that awaits its reply is answered before. -/
theorem exec_daliBusDown {s : State} {b : Nat} (hb : b < 8) (hd : (daliGet s b).down = false) : exec (.daliBusDown b) s
    = .next (logEv (daliCount (daliPut (if (daliGet s b).ask.map (·.kind) = some 3 then dalReply s b 1 0 else s) b (fallen (daliGet s b)))
      b 2) 0x0402 b 0 0) :=
  congrArg Host.Outcome.next (if_pos ⟨hb, hd⟩)

/-- The short addresses of the fixtures patched on a bus are distinct. -/
theorem nodup_daliPatched (c : Store) (b : Nat) : ((daliPatched c b).map (·.1)).Nodup := by
  unfold daliPatched
  split
  · exact List.nodup_nil
  · rw [List.map_filterMap]
    refine List.Nodup.filterMap (fun a a' k h h' => ?_) List.nodup_range
    simp only [Option.map_map, Option.mem_def, Option.map_eq_some_iff, Function.comp_apply] at h h'
    obtain ⟨_, _, rfl⟩ := h
    obtain ⟨_, _, rfl⟩ := h'
    rfl

/-- The pending entries of a bus that comes back: the values shown of every patched address. -/
def shownValues (c : Store) (o : FrameOut) (b : Nat) : SMap (Option (List Nat)) :=
  (daliPatched c b).foldl (fun m p => SMap.put none m p.1 (some ((SMap.get [] o.drives p.2.1).map arcOf))) []

theorem get_shownValues (c : Store) (o : FrameOut) {b : Nat} {p : Nat × Nat × Nat} (hp : p ∈ daliPatched c b) :
    SMap.get none (shownValues c o b) p.1 = some ((SMap.get [] o.drives p.2.1).map arcOf) := by
  have h := SMap.get_foldl_put_pairs none (m := [])
    (l := (daliPatched c b).map fun p => (p.1, some ((SMap.get [] o.drives p.2.1).map arcOf)))
    (by simpa [Function.comp_def] using nodup_daliPatched c b) (List.mem_map_of_mem hp)
  rwa [List.foldl_map] at h

/-- DALI_BUS_RESTORED of a bus that was down. -/
theorem exec_daliBusRestored {s : State} {b : Nat} (hd : (daliGet s b).down = true) : exec (.daliBusRestored b) s
    = .next (daliPut s b { daliGet s b with down := false, pending := shownValues s.cfg s.frm.shown b }) :=
  congrArg Host.Outcome.next (if_pos hd)

/-- DAL_ADDRESS_DONE of a run ends it, stores what it found, and is notified. -/
theorem exec_dalAddressDone {s : State} {b : Nat} (hb : b < 8) (ha : (daliGet s b).addressing.isSome = true) (u : Time)
    (xs : List (Nat × Nat)) : ∃ m y, exec (.dalAddressDone b u xs) s = .next (notify (daliPut
      { advance s u with wired := { s.wired with found := m } } b { daliGet s b with addressing := none }) 0x0032 y) :=
  ⟨_, _, congrArg Host.Outcome.next (if_pos ⟨hb, ha⟩)⟩

/-- Settles O38: each command takes its one branch; what the recorder and the notifications do besides leaves the bus alone. -/
theorem daliBuses : Obligations.DaliBuses := by
  unfold Obligations.DaliBuses
  refine ⟨?send, ?again, ?last, ?poll, ?reply, ?failure, ?miss, ?down, ?restored, ?addresses, ?device⟩
  case send =>
    intro s b ht hb hm hd
    refine ⟨fun v rest hq => exec_daliFrameSend_seq ht hb hm hd hq, fun r rest ha hq hc hr => ?_,
      fun a f v rest ha hq hc hbc hn hv hf => ?_⟩
    · refine ⟨_, exec_daliFrameSend_cmd ht hb hm hd ha hq hc hr, rfl, ?_, ?_, daliOut_changes s b _ _⟩
      · rw [daliGet_daliOut]
      · rw [daliGet_daliOut]
    · refine ⟨_, exec_daliFrameSend_pending ht hb hm hd ha hq hc hbc hn hv hf, rfl, ?_, ?_, ?_, daliOut_changes s b _ _⟩
      · rw [daliGet_daliOut]
      · simp
      · simp
  case again =>
    intro s b v hl hc
    exact exec_daliCollision_again hl hc
  case last =>
    intro s b v a l hl hc hs ha hp
    refine ⟨_, exec_daliCollision_last hl hc hs ha hp, ?_⟩
    rw [daliGet_ite (daliGet_dalReply _ b 2 0 b), daliGet_givenUp]
    exact ⟨SMap.get_put_same none (daliGet s b).pending a (some l), rfl, rfl, get_bump _ 0⟩
  case poll =>
    intro s b a ht hb hm hd ha hq hc hp hf hi
    refine ⟨_, exec_daliPoll ht hb hm hd ha hq hc hp hf hi, ?_⟩
    rw [daliGet_daliOut, pollNoted, daliGet_daliPut]
    exact ⟨rfl, SMap.get_put_same none (daliGet s b).polled a (some s.tim.now), rfl⟩
  case reply =>
    intro s b a v u ha hq
    refine ⟨⟨_, exec_daliBackwardFrame_cmd hq ha v u, ?_, notify_seq _ _ _⟩,
      ⟨_, exec_daliReplyTimeout_cmd hq ha u, ?_, notify_seq _ _ _⟩⟩
    · rw [daliGet_dalReply, daliGet_daliPut]
    · rw [daliGet_dalReply, daliGet_daliPut]
  case failure =>
    intro s b a v u fx ha hq hf hv
    refine ⟨_, exec_daliBackwardFrame_failure hq ha hf hv u, ?_⟩
    rw [daliQuery_changes _ b a 1 .src (by decide)]
    exact SMap.get_put_same 0 _ _ _
  case miss =>
    intro s b a u ha hq
    have hmissed : ChangesOnly [.tim, .wired, .log] s (missed (advance s u) b a) :=
      ((advance_changes s u).mono (by decide)).trans ((missed_changes _ b a).mono (by decide))
    refine ⟨_, exec_daliReplyTimeout_status hq ha u, ?_, ?_,
      .ite (hmissed.trans ((logEntry_changes _ _ _ _ _ _ _).mono (by decide))) hmissed⟩
    · rw [daliGet_ite (daliGet_logEntry _ _ _ _ _ _ _ b), daliGet_missed]
    · rw [daliGet_ite (daliGet_logEntry _ _ _ _ _ _ _ b), daliGet_missed, daliGet_advance]
      exact SMap.get_put_same 0 (daliGet s b).misses a (SMap.get 0 (daliGet s b).misses a + 1)
  case down =>
    intro s b hb hd
    refine ⟨_, exec_daliBusDown hb hd, ?_⟩
    rw [daliGet_logEv, daliGet_daliCount, daliGet_daliPut]
    refine ⟨rfl, rfl, rfl, rfl, get_bump _ 2, fun ha => ?_⟩
    rw [if_neg (by simp [ha])]
    exact (((daliPut_changes s b _).trans (daliPut_changes _ b _)).mono (by decide)).trans ((logEv_changes _ _ _ _ _).mono (by decide))
  case restored =>
    intro s b hd
    refine ⟨_, exec_daliBusRestored hd, ?_, fun p hp => ?_, daliPut_changes s b _⟩
    · rw [daliGet_daliPut]
    · rw [daliGet_daliPut]
      exact get_shownValues s.cfg s.frm.shown hp
  case addresses =>
    intro s b u xs hb ha
    obtain ⟨m, y, hexec⟩ := exec_dalAddressDone hb ha u xs
    refine ⟨_, hexec, ?_, notify_seq _ _ y⟩
    rw [daliGet_notify, daliGet_daliPut]
  case device =>
    intro s b hb
    exact congrArg Host.Outcome.next (if_pos hb)

end Sys2Proof.Machine
end

section
/-! sACN output (R183, R184, R273): a record's packet handed to its queue, the quiet time and the synchronisation packet, and O39. -/

namespace Sys2Proof.Machine

/-! ### Packets of a queue -/

/-- The watermark state of a queue leaves its packets. -/
theorem qGet_watermark_packets (s : State) (q : Nat) : (qGet (watermark s q) q).packets = (qGet s q).packets := by
  unfold watermark
  dsimp only
  split_ifs
  · rfl
  · rw [qGet_qPut]
  · rw [qGet_qPut]
  · rfl

/-- A packet committed to a queue follows the others. -/
theorem qGet_qCommit_packets (s : State) (q : Nat) (h : Bool) (k : List Byte) :
    (qGet (qCommit s q h k) q).packets = (qGet s q).packets ++ [k] := by
  have hmark : (qGet (watermark (qPut s q { qGet s q with packets := (qGet s q).packets ++ [k] }) q) q).packets
      = (qGet s q).packets ++ [k] := by rw [qGet_watermark_packets, qGet_qPut]
  unfold qCommit
  dsimp only
  split
  · rw [qGet, raise_changes _ q .que (by decide)]
    exact hmark
  · exact hmark

/-- A packet pushed onto a queue that has room for it, with nothing waiting and no flush, is committed. -/
theorem qGet_qPush_packets {s : State} {q : Nat} {k : List Byte} (hw : (qGet s q).waiting = []) (hl : k.length ≤ qFree s q)
    (hf : (qGet s q).flushing = false) (h : Bool) : (qGet (qPush s q h k) q).packets = (qGet s q).packets ++ [k] :=
  (congrArg (fun t => (qGet t q).packets) (if_pos ⟨hw, hl, hf⟩)).trans (qGet_qCommit_packets s q h k)

theorem qResumeAll_changes (n : Nat) (s : State) (q : Nat) : ChangesOnly [.que, .host, .out] s (qResumeAll n s q) := by
  induction n generalizing s with
  | zero => exact .refl _ s
  | succ n ih => exact (qResume_changes s q).trans (ih _)

/-! ### The sACN ports -/

theorem sacnGet_sacnPut (s : State) (p : Nat) (x : SacnPort) : sacnGet (sacnPut s p x) p = x := SMap.get_put_same _ _ _ _

/-- The sACN ports are wired outputs. -/
theorem sacnGet_congr {s t : State} (h : t.wired = s.wired) (p : Nat) : sacnGet t p = sacnGet s p :=
  congrArg (fun w : Wired => SMap.get SacnPort.empty w.sacn p) h

theorem sacnPut_changes (s : State) (p : Nat) (x : SacnPort) : ChangesOnly [.wired] s (sacnPut s p x) := changes_wired s _

/-- A sequence number is noted with the frame that it was sent in. -/
theorem noteSeq_sacnSeq (s : State) (i n : Nat) : SMap.get 0 (noteSeq s i n).wired.sacnSeq i = seqFor s i n + 256 * (n + 1) :=
  SMap.get_put_same 0 s.wired.sacnSeq i (seqFor s i n + 256 * (n + 1))

/-- So are the sequence numbers. -/
theorem seqFor_congr {s t : State} (h : t.wired = s.wired) (i n : Nat) : seqFor t i n = seqFor s i n := by
  simp only [seqFor, h]

theorem noteSeq_changes (s : State) (i n : Nat) : ChangesOnly [.wired] s (noteSeq s i n) := changes_wired s _

theorem ethEmit_changes (s : State) (p k : Nat) (u : Time) (f : List Byte) : ChangesOnly [.eth, .out] s (ethEmit s p k u f) :=
  ((emit_changes s _).mono (by decide)).trans ((ethCount_changes _ p 0).mono (by decide))

theorem dropSacn_changes (s : State) (p : Nat) : ChangesOnly [.que, .host, .out] s (dropSacn s p).2 :=
  (((qPut_changes s _ _).trans (watermark_changes _ _)).mono (by decide)).trans (qResumeAll_changes _ _ _)

/-! ### Data packets (R183, R184) -/

/-- The block with a record taken off those that a port has to send, at its place in the pacing. -/
def paced (s : State) (p : Nat) (rest : List Nat) : State :=
  sacnPut (advance s (paceAt s p)) p { sacnGet s p with todo := rest }

/-- The packet of a record with the data of the frame that is being sent. -/
def duePacket (s : State) (p i : Nat) : List Byte :=
  sacnPacket (bitAt ((sending s).1.row sacUniv i) 49) (dataFrame s (sending s) p i (sacnGet s p).frame 0)

/-- SACN_DATA_PACKET of a port in RUN with a due record left, outside the quiet time. -/
theorem exec_sacnDataPacket {s : State} {p i : Nat} {rest : List Nat} (hp : p < 2) (hd : (sacnGet s p).todo = i :: rest)
    (ht : transmits s = true) (hn : s.frm.num + 1 = (sacnGet s p).frame) (hquiet : (sacnGet s p).quiet = false)
    (hnow : quietNow s p (paceAt s p) = false) : exec (.sacnDataPacket p) s
      = .next (noteSeq (qPush (paced s p rest) (2 + 4 * p) false (duePacket s p i)) i (sacnGet s p).frame) := by
  have hgo : ¬(2 ≤ p ∨ (!transmits s) = true ∨ s.frm.num + 1 ≠ (sacnGet s p).frame ∨ (sacnGet s p).quiet = true
      ∨ quietNow s p (paceAt s p) = true) := by
    simp [hp, ht, hn, hquiet, hnow]
  simp only [exec, execSacnDataPacket, hd, if_neg hgo]
  rfl

/-! ### The quiet time (R184) -/

/-- The block at the start of a port's quiet time, with the records not sent discarded. -/
def quieted (s : State) (p : Nat) : State :=
  sacnPut (advance s (quietAt s p)) p { sacnGet s p with todo := [], quiet := true }

/-- The packets of a port that are late where its quiet time starts: records not sent, and packets still queued. -/
def lateCount (s : State) (p : Nat) : Nat := (sacnGet s p).todo.length + (dropSacn s p).1

/-- The block after a port's quiet time has discarded what was left. -/
def hushed (s : State) (p : Nat) : State := (dropSacn (quieted s p) p).2

theorem quietStart_eq (s : State) (p : Nat) : quietStart s p = if lateCount s p = 0 then setCond (hushed s p) 0x0403 p false
    else logEntry { hushed s p with wired := { (hushed s p).wired with sacnLate := sat32 (hushed s p).wired.sacnLate (lateCount s p) } }
      true 0x0403 p p (sacnGet s p).frame 0 := rfl

theorem quieted_changes (s : State) (p : Nat) : ChangesOnly [.tim, .wired] s (quieted s p) :=
  ((advance_changes s _).mono (by decide)).trans ((sacnPut_changes _ p _).mono (by decide))

theorem hushed_changes (s : State) (p : Nat) : ChangesOnly [.que, .host, .out] (quieted s p) (hushed s p) := dropSacn_changes _ p

/-- The start of a quiet time notes it on its port and counts what is late. -/
theorem quietStart_wired (s : State) (p : Nat) : (quietStart s p).wired = { (quieted s p).wired with
    sacnLate := if lateCount s p = 0 then s.wired.sacnLate else sat32 s.wired.sacnLate (lateCount s p) } := by
  have hw : (hushed s p).wired = (quieted s p).wired := hushed_changes s p .wired (by decide)
  rw [quietStart_eq]
  split
  · exact hw
  · rw [logEntry_changes _ _ _ _ _ _ _ .wired (by decide), hw]
    rfl

theorem quietStart_changes (s : State) (p : Nat) :
    ChangesOnly [.wired, .que, .host, .log, .out] (quieted s p) (quietStart s p) := by
  have hh := (hushed_changes s p).mono (qs := [.wired, .que, .host, .log, .out]) (by decide)
  rw [quietStart_eq]
  exact .ite (hh.trans ((setCond_changes _ _ _ _).mono (by decide)))
    ((hh.trans ((changes_wired _ _).mono (by decide))).trans ((logEntry_changes _ _ _ _ _ _ _).mono (by decide)))

/-! ### The synchronisation packet (R184, R273) -/

/-- The block at the instant of a port's synchronisation packet, which is noted as sent. -/
def syncNoted (s : State) (p : Nat) : State :=
  sacnPut (noteSeq (advance s (syncAt s)) 65536 (sacnGet s p).frame) p { sacnGet s p with synced := true }

/-- The frame of a port's synchronisation packet. -/
def syncFrame (s : State) (p : Nat) : List Byte :=
  let c := (sending s).1
  sacnFrame c s.cfg p (c.v sacSyncUniv) 0 (e131Sync c (c.v sacSyncUniv) (seqFor s 65536 (sacnGet s p).frame))

/-- On a port that is up the packet is launched, or held while the port is paused. -/
theorem syncStart_of_up {s : State} {p : Nat} (h : (ethGet s p).up = true) : syncStart s p
    = if (ethGet s p).pauseEnd.isSome = true then ethPut (syncNoted s p) p { ethGet s p with syncHeld := some (syncFrame s p) }
      else ethEmit (syncNoted s p) p 2 (syncAt s) (syncFrame s p) :=
  if_neg (ne_true_of_eq_false (congrArg (!·) h))

theorem syncNoted_changes (s : State) (p : Nat) : ChangesOnly [.tim, .wired] s (syncNoted s p) :=
  ((advance_changes s _).mono (by decide)).trans (((noteSeq_changes _ _ _).trans (sacnPut_changes _ p _)).mono (by decide))

theorem syncStart_changes {s : State} {p : Nat} (h : (ethGet s p).up = true) :
    ChangesOnly [.eth, .out] (syncNoted s p) (syncStart s p) := by
  rw [syncStart_of_up h]
  exact .ite ((ethPut_changes _ p _).mono (by decide)) (ethEmit_changes _ p 2 _ _)

/-- Settles O39: each command takes its one branch, and what the queues and the recorder do besides leaves the sACN ports alone. -/
theorem sacnOutput : Obligations.SacnOutput := by
  unfold Obligations.SacnOutput
  refine ⟨?data, ?quiet, ?sync⟩
  case data =>
    rintro s p i rest u k hp hd ht hn hquiet rfl hnow rfl
    have hpush : ChangesOnly [.que, .host, .out] (paced s p rest) (qPush (paced s p rest) (2 + 4 * p) false (duePacket s p i)) :=
      qPush_changes _ _ _ _
    have hw := hpush .wired (by decide)
    refine ⟨_, exec_sacnDataPacket hp hd ht hn hquiet hnow, ?now, ?todo, ?seq, fun hwait hflush hlen => ?packets, ?frame⟩
    case now => exact (congrArg Tim.now (hpush .tim (by decide))).trans (max_eq_right (le_max_left _ _))
    case todo => exact congrArg SacnPort.todo ((sacnGet_congr hw p).trans (sacnGet_sacnPut _ p _))
    case seq =>
      rw [noteSeq_sacnSeq, seqFor_congr hw]
      rfl
    case packets => exact qGet_qPush_packets (s := paced s p rest) hwait hlen hflush false
    case frame =>
      have hpaced : ChangesOnly [.tim, .wired] s (paced s p rest) :=
        ((advance_changes s _).mono (by decide)).trans ((sacnPut_changes _ p _).mono (by decide))
      exact ((hpaced.mono (by decide)).trans (hpush.mono (by decide))).trans ((noteSeq_changes _ i _).mono (by decide))
  case quiet =>
    rintro s p n h rfl
    have hport : sacnGet (quietStart s p) p = { sacnGet s p with todo := [], quiet := true } := by
      rw [sacnGet, quietStart_wired]
      exact sacnGet_sacnPut (advance s _) p _
    refine ⟨_, congrArg Host.Outcome.next (if_pos h), ?_, ?_, congrArg Tim.now (quietStart_changes s p .tim (by decide)), ?_, ?_⟩
    · rw [hport]
    · rw [hport]
    · rw [quietStart_wired]
      rfl
    · exact ((quieted_changes s p).mono (by decide)).trans ((quietStart_changes s p).mono (by decide))
  case sync =>
    intro s p h hup
    have hstart := syncStart_changes hup
    have hw : (syncStart s p).wired = (syncNoted s p).wired := hstart .wired (by decide)
    refine ⟨_, congrArg Host.Outcome.next (if_pos h), congrArg Tim.now (hstart .tim (by decide)), ?_, ?_, fun hfree => ?_,
      fun hpaused => ?_, ((syncNoted_changes s p).mono (by decide)).trans (hstart.mono (by decide))⟩
    · exact congrArg SacnPort.synced ((sacnGet_congr hw p).trans (sacnGet_sacnPut _ p _))
    · rw [hw]
      exact noteSeq_sacnSeq (advance s _) 65536 _
    · rw [syncStart_of_up hup, if_neg (by simp [hfree])]
      exact ⟨_, rfl⟩
    · rw [syncStart_of_up hup, if_pos (Option.isSome_iff_ne_none.mpr hpaused), ethGet_ethPut]
      exact ⟨rfl, rfl⟩

end Sys2Proof.Machine
end

section
/-! Raster ports (R192, R194, R195, R200, R203, R205): a line packet begun in its slot, an underrun booked, a step of the phase and the move
of the fetcher, and O40. -/

namespace Sys2Proof.Machine

/-! ### Raster ports and their counters -/

/-- A raster port reads the same where the raster ports are untouched. -/
theorem rasGet_congr {s t : State} (h : t.ras = s.ras) (p : Nat) : rasGet t p = rasGet s p := by
  rw [rasGet, h, rasGet]

theorem rasPut_changes (s : State) (p : Nat) (x : RasterState) : ChangesOnly [.ras] s (rasPut s p x) := changes_ras s _

theorem rasCount_changes (s : State) (p k : Nat) : ChangesOnly [.ras] s (rasCount s p k) := rasPut_changes s p _

theorem rasGet_rasCount (s : State) (p k : Nat) :
    rasGet (rasCount s p k) p = { rasGet s p with cnt := bump (rasGet s p).cnt k 1 } := rasGet_rasPut s p _

/-- Advancing a counter leaves every other one alone. -/
theorem get_bump_other (m : SMap Nat) {i j : Nat} (k : Nat) (h : j ≠ i) : SMap.get 0 (bump m i k) j = SMap.get 0 m j :=
  SMap.get_upd_other 0 m i j _ h

/-- The other port of a raster port is another one. -/
theorem otherPort_ne {p : Nat} (hp : p < 2) : 1 - p ≠ p := by omega

/-! ### Lines (R192, R200) -/

/-- Sending moves the lanes of its port and the slots that it has put out, and nothing else of the port. -/
theorem rasGet_rasSend (s : State) (p n : Nat) (bs : List Block) :
    ∃ l m, rasGet (rasSend s p n bs) p = { rasGet s p with link := l, sent := m } := by
  unfold rasSend
  extract_lets x a m b t
  have hsent : rasGet t p = { x with link := b.1, sent := x.sent + n + m } := rasGet_rasPut s p _
  refine ⟨b.1, x.sent + n + m, ?_⟩
  split
  · exact hsent
  · exact hsent

theorem rasSend_changes (s : State) (p n : Nat) (bs : List Block) : ChangesOnly [.ras, .out] s (rasSend s p n bs) := by
  have hport (x : RasterState) : ChangesOnly [.ras, .out] s (rasPut s p x) := (rasPut_changes s p x).mono (by decide)
  exact .ite (hport _) ((hport _).trans ((emit_changes _ _).mono (by decide)))

/-- The block at the slot in which the next line of a port begins. -/
def atLine (s : State) (p : Nat) : State := advance s (s.frm.last + slotStart (rasLineSlot s p))

/-- The block after IDLE up to the slot of a port's next line and the packet of that line with these pixels, whose trailer names in
`filled` the first pixel not fetched. -/
def lineSent (s : State) (p : Nat) (line : List Nat) (filled : Option Nat) : State :=
  rasSend (atLine s p) p (rasLineSlot s p - (rasGet s p).sent) (rasPacket (atLine s p) p (rasGet s p).line line filled)

/-- The block after a line is sent and counted, its port at the line after it. -/
def lineBegun (s : State) (p : Nat) (line : List Nat) (filled : Option Nat) : State :=
  let u := lineSent s p line filled
  rasCount (rasPut u p { rasGet u p with
    line := (rasGet s p).line + 1, fetched := max (rasGet s p).fetched ((rasGet s p).line + 1), lastLine := line }) p 0

/-- The pixels of a line whose fetch runs out at `c`: those of the last-sent line from there on (R203). -/
def shortLine (s : State) (p c : Nat) : List Nat :=
  (rasLine (atLine s p) p (rasGet s p).line).take c ++ ((List.range (rsW (rasRec s p))).drop c).map (rasLast (atLine s p) p)

theorem lineSent_changes (s : State) (p : Nat) (line : List Nat) (filled : Option Nat) :
    ChangesOnly [.ras, .out] (atLine s p) (lineSent s p line filled) := rasSend_changes _ p _ _

/-- Past its sending a line touches the raster ports alone. -/
theorem lineBegun_changes (s : State) (p : Nat) (line : List Nat) (filled : Option Nat) :
    ChangesOnly [.ras] (lineSent s p line filled) (lineBegun s p line filled) :=
  (rasPut_changes _ p _).trans (rasCount_changes _ p 0)

/-- A line begun moves its port to the next line, counts it, and leaves the marks of the frame. -/
theorem rasGet_lineBegun (s : State) (p : Nat) (line : List Nat) (filled : Option Nat) :
    ∃ l m, rasGet (lineBegun s p line filled) p = { rasGet s p with
      line := (rasGet s p).line + 1, fetched := max (rasGet s p).fetched ((rasGet s p).line + 1), lastLine := line, link := l, sent := m,
      cnt := bump (rasGet s p).cnt 0 1 } := by
  obtain ⟨l, m, h⟩ := rasGet_rasSend (atLine s p) p (rasLineSlot s p - (rasGet s p).sent)
    (rasPacket (atLine s p) p (rasGet s p).line line filled)
  refine ⟨l, m, ?_⟩
  rw [lineBegun, rasGet_rasCount, rasGet_rasPut, lineSent, h]
  rfl

/-- RASTER_LINE_START of a ready port whose fetch keeps ahead. -/
theorem exec_rasterLineStart_whole {s : State} {p : Nat} (h : lineReady s p = true) :
    exec (.rasterLineStart p none) s = .next (lineBegun s p (rasLine (atLine s p) p (rasGet s p).line) none) := by
  have hfill : (if (rasGet s p).line < (rasGet s p).fetched then none
      else Option.filter (fun c => decide (c < rsW (rasRec s p))) none) = none := ite_self _
  simp only [exec, execRasterLineStart, h, hfill]
  rfl

/-! ### Underruns (R203, R205) -/

/-- The first underrun of a frame marks its line and is counted. -/
theorem rasGet_rasUnder_of_none {s : State} {p : Nat} (h : (rasGet s p).under = none) (y : Nat) (own : Bool) :
    rasGet (rasUnder s p y own) p = { rasGet s p with under := some y, cnt := bump (rasGet s p).cnt 3 1 } := by
  have hmark : rasGet (rasCount (rasPut s p { rasGet s p with under := some y }) p 3) p
      = { rasGet s p with under := some y, cnt := bump (rasGet s p).cnt 3 1 } := by
    rw [rasGet_rasCount, rasGet_rasPut]
  unfold rasUnder
  dsimp only
  rw [if_neg (by simp [h])]
  split
  · exact (rasGet_congr (logEv_changes _ _ _ _ _ .ras (by decide)) p).trans hmark
  · exact hmark

/-- An underrun booked leaves its port marked. -/
theorem rasUnder_marked (s : State) (p y : Nat) (own : Bool) : (rasGet (rasUnder s p y own) p).under.isSome = true := by
  cases h : (rasGet s p).under with
  | none => rw [rasGet_rasUnder_of_none h]; rfl
  | some z =>
    have hmarked : (rasGet s p).under.isSome = true := by rw [h]; rfl
    rw [show rasUnder s p y own = s from if_pos hmarked, hmarked]

/-- An underrun booked to one port leaves the other. -/
theorem rasGet_rasUnder_other {p q : Nat} (hq : q ≠ p) (s : State) (y : Nat) (own : Bool) :
    rasGet (rasUnder s p y own) q = rasGet s q := by
  have hmark : rasGet (rasCount (rasPut s p { rasGet s p with under := some y }) p 3) q = rasGet s q :=
    (rasGet_rasPut_other _ p q _ hq).trans (rasGet_rasPut_other s p q _ hq)
  unfold rasUnder
  dsimp only
  split
  · rfl
  · split
    · exact (rasGet_congr (logEv_changes _ _ _ _ _ .ras (by decide)) q).trans hmark
    · exact hmark

/-- The block after a line whose fetch runs out at `c`, with the underrun counted and booked to its port. -/
def lineShort (s : State) (p c : Nat) : State :=
  rasUnder (rasCount (lineBegun s p (shortLine s p c) (some c)) p 2) p (rasGet s p).line true

/-- The underrun of a short line is booked to the other port too in LOCKED_SPLIT. -/
def lineShortBoth (s : State) (p c : Nat) : State :=
  if rasSplit s.frm.shownCfg then rasUnder (lineShort s p c) (1 - p) (rasGet s p).line false else lineShort s p c

/-- RASTER_LINE_START of a ready port that has not fetched its line and runs out of it. -/
theorem exec_rasterLineStart_short {s : State} {p c : Nat} (h : lineReady s p = true) (hf : (rasGet s p).fetched ≤ (rasGet s p).line)
    (hc : c < rsW (rasRec s p)) : exec (.rasterLineStart p (some c)) s = .next (lineShortBoth s p c) := by
  have hfill : (if (rasGet s p).line < (rasGet s p).fetched then none
      else Option.filter (fun c => decide (c < rsW (rasRec s p))) (some c)) = some c := by
    rw [if_neg (by omega), Option.filter_some, if_pos (decide_eq_true hc)]
  simp only [exec, execRasterLineStart, h, hfill]
  rfl

/-- A short line marks its port and counts among the lines and frames with an underrun. -/
theorem rasGet_lineShort {s : State} {p : Nat} (h : (rasGet s p).under = none) (c : Nat) :
    (rasGet (lineShort s p c) p).under = some (rasGet s p).line
    ∧ (rasGet (lineShort s p c) p).cnt = bump (bump (bump (rasGet s p).cnt 0 1) 2 1) 3 1 := by
  obtain ⟨l, m, hbegun⟩ := rasGet_lineBegun s p (shortLine s p c) (some c)
  have hunder : (rasGet (rasCount (lineBegun s p (shortLine s p c) (some c)) p 2) p).under = none := by
    rw [rasGet_rasCount, hbegun]
    exact h
  have hcnt : (rasGet (rasCount (lineBegun s p (shortLine s p c) (some c)) p 2) p).cnt = bump (bump (rasGet s p).cnt 0 1) 2 1 := by
    rw [rasGet_rasCount, hbegun]
  simp only [lineShort, rasGet_rasUnder_of_none hunder, hcnt, and_self]

/-- Booking a short line to the other port too leaves its own port. -/
theorem rasGet_lineShortBoth {p : Nat} (hp : p < 2) (s : State) (c : Nat) :
    rasGet (lineShortBoth s p c) p = rasGet (lineShort s p c) p := by
  unfold lineShortBoth
  split
  · exact rasGet_rasUnder_other (otherPort_ne hp).symm _ _ _
  · rfl

theorem lt_two_of_lineReady {s : State} {p : Nat} (h : lineReady s p = true) : p < 2 := by
  simp only [lineReady, Bool.and_eq_true, decide_eq_true_eq] at h
  obtain ⟨⟨⟨⟨-, hp⟩, -⟩, -⟩, -⟩ := h
  exact hp

/-! ### Phase (R194, R205) -/

/-- The next step of a port is not in the past. -/
theorem now_le_stepTime (s : State) (p : Nat) : s.tim.now ≤ stepTime s p :=
  (le_max_left _ _).trans (le_max_left _ _)

theorem rasGet_phaseStep (s : State) (p : Nat) (fwd : Bool) : rasGet (phaseStep s p fwd) p = { rasGet s p with
    phase := (rasGet s p).phase + (if fwd then 1 else -1), shift := (rasGet s p).shift + (if fwd then 1 else -1),
    stepAt := some s.tim.now } := rasGet_rasPut s p _

theorem rasGet_phaseStep_other {p q : Nat} (hq : q ≠ p) (s : State) (fwd : Bool) : rasGet (phaseStep s p fwd) q = rasGet s q :=
  rasGet_rasPut_other s p q _ hq

theorem phaseStep_changes (s : State) (p : Nat) (fwd : Bool) : ChangesOnly [.ras] s (phaseStep s p fwd) := rasPut_changes s p _

/-- RASTER_PHASE_STEP of a free port by itself. -/
theorem exec_rasterPhaseStep_single {s : State} {p : Nat} {fwd : Bool} (hp : p < 2) (ht : transmits s = true)
    (hfree : phaseFree s p fwd = true) (hsplit : rasSplit s.frm.shownCfg = false) :
    exec (.rasterPhaseStep p fwd) s = .next (phaseStep (advance s (stepTime s p)) p fwd) := by
  have hgo : ¬(2 ≤ p ∨ (!transmits s) = true ∨ (!phaseFree s p fwd) = true) := by simp [hp, ht, hfree]
  simp only [exec, execRasterPhaseStep, if_neg hgo, hsplit, Bool.false_eq_true, if_false]

/-- The block after both ports of LOCKED_SPLIT step at the later of their instants. -/
def bothStepped (s : State) (p : Nat) (fwd : Bool) : State :=
  phaseStep (phaseStep (advance s (max (stepTime s p) (stepTime s (1 - p)))) p fwd) (1 - p) fwd

/-- RASTER_PHASE_STEP in LOCKED_SPLIT where both ports are free. -/
theorem exec_rasterPhaseStep_split {s : State} {p : Nat} {fwd : Bool} (hp : p < 2) (ht : transmits s = true)
    (hfree : phaseFree s p fwd = true) (hother : phaseFree s (1 - p) fwd = true) (hsplit : rasSplit s.frm.shownCfg = true) :
    exec (.rasterPhaseStep p fwd) s = .next (bothStepped s p fwd) := by
  have hgo : ¬(2 ≤ p ∨ (!transmits s) = true ∨ (!phaseFree s p fwd) = true) := by simp [hp, ht, hfree]
  simp only [exec, execRasterPhaseStep, if_neg hgo, if_pos hsplit, if_pos hother]
  rfl

/-- Both ports have moved by one step. -/
theorem bothStepped_phase {p q : Nat} (hp : p < 2) (hq : q < 2) (s : State) (fwd : Bool) :
    (rasGet (bothStepped s p fwd) q).phase = (rasGet s q).phase + (if fwd then 1 else -1) := by
  have hne := otherPort_ne hp
  have hport : q = p ∨ q = 1 - p := by omega
  unfold bothStepped
  rcases hport with rfl | rfl
  · rw [rasGet_phaseStep_other hne.symm, rasGet_phaseStep]
    rfl
  · rw [rasGet_phaseStep, rasGet_phaseStep_other hne]
    rfl

theorem bothStepped_changes (s : State) (p : Nat) (fwd : Bool) : ChangesOnly [.tim, .ras] s (bothStepped s p fwd) :=
  ((advance_changes s _).mono (by decide)).trans
    (((phaseStep_changes _ p fwd).trans (phaseStep_changes _ (1 - p) fwd)).mono (by decide))

/-- Settles O40: each command takes its one branch, and what the lanes, the recorder and the other port do besides leaves the port. -/
theorem rasterPorts : Obligations.RasterPorts := by
  unfold Obligations.RasterPorts
  refine ⟨?line, ?short, ?single, ?split, ?fetch⟩
  case line =>
    rintro s u p q h rfl rfl
    obtain ⟨l, m, hport⟩ := rasGet_lineBegun s p (rasLine (atLine s p) p (rasGet s p).line) none
    have hbegun := lineBegun_changes s p (rasLine (atLine s p) p (rasGet s p).line) none
    have hsent := lineSent_changes s p (rasLine (atLine s p) p (rasGet s p).line) none
    refine ⟨_, exec_rasterLineStart_whole h, ?_, ?now, hbegun .out (by decide), ?_, ?_⟩
    case now => exact congrArg Tim.now ((hbegun .tim (by decide)).trans (hsent .tim (by decide)))
    · rw [hport]
    · rw [hport]
      exact get_bump _ 0
    · rw [hport]
  case short =>
    intro s p c h hf hc hu
    obtain ⟨hunder, hcnt⟩ := rasGet_lineShort hu c
    rw [← rasGet_lineShortBoth (lt_two_of_lineReady h)] at hunder hcnt
    refine ⟨_, exec_rasterLineStart_short h hf hc, hunder, ?_, ?_, fun hsplit => ?_⟩
    · rw [hcnt, get_bump_other _ 1 (by decide), get_bump, get_bump_other _ 1 (by decide)]
    · rw [hcnt, get_bump, get_bump_other _ 1 (by decide), get_bump_other _ 1 (by decide)]
    · rw [lineShortBoth, if_pos hsplit]
      exact rasUnder_marked _ _ _ _
  case single =>
    intro s p fwd hp ht hfree hsplit
    have hnow : (advance s (stepTime s p)).tim.now = stepTime s p := max_eq_right (now_le_stepTime s p)
    refine ⟨_, exec_rasterPhaseStep_single hp ht hfree hsplit, hnow, ?_, rasGet_phaseStep_other (otherPort_ne hp) _ fwd, ?_⟩
    · rw [rasGet_phaseStep, hnow]
      rfl
    · exact ((advance_changes s _).mono (by decide)).trans ((phaseStep_changes _ p fwd).mono (by decide))
  case split =>
    intro s p fwd hp ht hfree hother hsplit
    exact ⟨_, exec_rasterPhaseStep_split hp ht hfree hother hsplit, fun q hq => bothStepped_phase hp hq s fwd,
      bothStepped_changes s p fwd⟩
  case fetch =>
    intro s p hp ht hmode hlast hnext hmoved
    have hgo : p < 2 ∧ transmits s = true ∧ modeOf (rasRec s p) ≠ 0
        ∧ ((!(rasGet s p).scanning) = true ∨ rsH (rasRec s p) ≤ (rasGet s p).fetched)
        ∧ nextKnown s = true ∧ (!(rasGet s p).moved) = true :=
      ⟨hp, ht, hmode, hlast.imp_left (fun hs => by rw [hs]; rfl), hnext, by rw [hmoved]; rfl⟩
    exact if_pos hgo

end Sys2Proof.Machine
end

section
/-! Lamp diagnosis (R220, R221, R222, R225): a measurement classed and confirmed, a point gone stale, a probe placed, and O42. -/

namespace Sys2Proof.Machine

/-! ### Points of a block -/

/-- A point reads the same where direct drive is untouched. -/
theorem pointGet_congr {s t : State} (h : t.drv = s.drv) (p : Nat) : pointGet t p = pointGet s p := by
  rw [pointGet, h, pointGet]

theorem pointPut_changes (s : State) (p : Nat) (x : Point) : ChangesOnly [.drv] s (pointPut s p x) := changes_drv s _

theorem pinPut_changes (s : State) (ch : Nat) (x : Pin) : ChangesOnly [.drv] s (pinPut s ch x) := changes_drv s _

theorem drvCount_changes (s : State) (k : Nat) : ChangesOnly [.drv] s (drvCount s k) := changes_drv s _

@[simp] theorem pointGet_drvCount (s : State) (k p : Nat) : pointGet (drvCount s k) p = pointGet s p := rfl

/-! ### Reports and verdicts (R222, R227) -/

/-- A report queued or held moves nothing of its point but the pending report. -/
theorem pointGet_lampPush (s : State) (p : Nat) (rep : List Byte) :
    ∃ r, pointGet (lampPush s p rep) p = { pointGet s p with report := r } := by
  unfold lampPush
  dsimp only
  split
  case h_1 =>
    split
    · exact ⟨_, pointGet_congr (qCommit_changes s 29 false rep .drv (by decide)) p⟩
    · exact ⟨_, pointGet_pointPut s p _⟩
  case h_2 => exact ⟨_, (pointGet_drvCount _ 1 p).trans (pointGet_pointPut s p _)⟩

/-- An event logged and a report sent move nothing of a point but its pending report. -/
theorem pointGet_lampPush_logEv (s : State) (c a b d p : Nat) (rep : List Byte) :
    ∃ r, pointGet (lampPush (logEv s c a b d) p rep) p = { pointGet s p with report := r } := by
  rw [← pointGet_congr (logEv_changes s c a b d .drv (by decide)) p]
  exact pointGet_lampPush _ p rep

/-- A verdict puts its point into the new state and forces it inactive. -/
theorem pointGet_lampVerdict (s : State) (p new prev : Nat) (byProbe : Bool) (t : Time) :
    ∃ b r, pointGet (lampVerdict s p new prev byProbe t) p
      = { pointGet s p with state := new, forced := true, by_ := b, report := r } := by
  obtain ⟨r, hr⟩ := pointGet_lampPush_logEv _ _ _ _ _ p _
  exact ⟨_, r, hr.trans (congrArg (fun x : Point => { x with report := r }) (pointGet_pointPut s p _))⟩

/-! ### Measurements (R220, R221) -/

/-- The consecutive measurements of class `k` of a point, with the present one. -/
def runOf (x : Point) (k : Nat) : Nat := if x.count ≠ 0 ∧ x.cls = k then x.count + 1 else 1

/-- The point of a block after a measurement of class `k` at `t`, before any verdict. -/
def classed (s : State) (p k : Nat) (probe : Bool) (t : Time) : Point :=
  let x := pointGet s p
  { x with
    state := if x.state = 4 ∧ !probe then x.before else x.state
    lastClass := k, cls := k, count := runOf x k, byProbe := probe, own := x.own || !probe
    verified := if k = 0 then some t else x.verified
    measured := true }

/-- A run goes on with one more measurement of its class. -/
theorem runOf_of_cls {x : Point} {k : Nat} (hc : x.cls = k) (hn : x.count ≠ 0) : runOf x k = x.count + 1 := if_pos ⟨hn, hc⟩

/-- A measurement keeps the state that its point showed, unless it ends UNOBSERVED. -/
theorem classed_state {s : State} {p : Nat} (h : (pointGet s p).state ≠ 4) (k : Nat) (probe : Bool) (t : Time) :
    (classed s p k probe t).state = (pointGet s p).state := if_neg fun hs => h hs.1

/-- What a measurement comes to: the point classed, and past its confirmation UNKNOWN made OK or a verdict. -/
theorem measure_eq (s : State) (p k : Nat) (probe : Bool) (t : Time) :
    measure s p k probe t =
      if runOf (pointGet s p) k < s.cfg.v drvDiagConfirm then pointPut s p (classed s p k probe t)
      else if k = 0 then pointPut s p
        (if (classed s p k probe t).state = 0 then { classed s p k probe t with state := 1 } else classed s p k probe t)
      else if (classed s p k probe t).state = 2 ∨ (classed s p k probe t).state = 3 then pointPut s p (classed s p k probe t)
      else lampVerdict (pointPut s p (classed s p k probe t)) p (k + 1) (classed s p k probe t).state probe t := rfl

/-- Whatever a measurement concludes, it moves no more of the classed point than its state, its forcing and its report. -/
theorem pointGet_measure (s : State) (p k : Nat) (probe : Bool) (t : Time) :
    ∃ st f b r, pointGet (measure s p k probe t) p
      = { classed s p k probe t with state := st, forced := f, by_ := b, report := r } := by
  rw [measure_eq]
  split_ifs
  · exact ⟨_, _, _, _, pointGet_pointPut s p _⟩
  · exact ⟨_, _, _, _, pointGet_pointPut s p _⟩
  · exact ⟨_, _, _, _, pointGet_pointPut s p _⟩
  · exact ⟨_, _, _, _, pointGet_pointPut s p _⟩
  · obtain ⟨b, r, hv⟩ := pointGet_lampVerdict (pointPut s p (classed s p k probe t)) p (k + 1) (classed s p k probe t).state probe t
    rw [pointGet_pointPut] at hv
    exact ⟨_, _, _, _, hv⟩

/-- The confirming measurement of a faulty class of an OK point is a verdict. -/
theorem measure_faulty {s : State} {p k : Nat} (hk : k ≠ 0) (hok : (pointGet s p).state = 1) (hc : (pointGet s p).cls = k)
    (hn : (pointGet s p).count ≠ 0) (hconf : s.cfg.v drvDiagConfirm ≤ (pointGet s p).count + 1) (probe : Bool) (t : Time) :
    measure s p k probe t = lampVerdict (pointPut s p (classed s p k probe t)) p (k + 1) 1 probe t := by
  have hst : (classed s p k probe t).state = 1 := (classed_state (by omega) k probe t).trans hok
  rw [measure_eq, runOf_of_cls hc hn, if_neg hconf.not_gt, if_neg hk, hst, if_neg (by decide)]

/-- The confirming measurement of an UNKNOWN point that is good makes it OK. -/
theorem measure_good {s : State} {p : Nat} (hunknown : (pointGet s p).state = 0) (hc : (pointGet s p).cls = 0)
    (hn : (pointGet s p).count ≠ 0) (hconf : s.cfg.v drvDiagConfirm ≤ (pointGet s p).count + 1) (probe : Bool) (t : Time) :
    measure s p 0 probe t = pointPut s p { classed s p 0 probe t with state := 1 } := by
  have hst : (classed s p 0 probe t).state = 0 := (classed_state (by omega) 0 probe t).trans hunknown
  rw [measure_eq, runOf_of_cls hc hn, if_neg hconf.not_gt, if_pos rfl, if_pos hst]

/-- SNS_SAMPLE at BLANK after the rising edge of a measured point that is active long enough. -/
theorem exec_snsSample_measured {s : State} {p : Nat} {u : Time} {b : Bool} (hm : measurable s p = true)
    (hon : snsTmin ≤ (pointGet s p).onNs) (hfresh : (pointGet s p).measured = false) (hb : (pointGet s p).probing = b)
    (hu : u = (pointGet s p).rise + (s.cfg.sense p).2.2.2.2.2.2 * ns) (c : Nat) :
    exec (.snsSample p u c b) s = .next (measure (advance s u) p
      (sampleClass (s.cfg.sense p).2.2.2.1 (s.cfg.sense p).2.2.2.2.1 (s.cfg.sense p).2.2.2.2.2.1 c) b u) := by
  refine if_neg ?_
  simp only [hm, hfresh, hb, ← hu]
  simpa using hon

/-! ### Stale points (R221, R222) -/

/-- The point of a block gone UNOBSERVED. -/
def stalePoint (s : State) (p : Nat) : Point :=
  { pointGet s p with state := 4, before := (pointGet s p).state, since := s.frm.num }

/-- DIAG_STALE_EXPIRY of a measured point not measured for too long puts it into UNOBSERVED. -/
theorem exec_diagStaleExpiry_stale {s : State} {p : Nat} (hm : measurable s p = true)
    (hidle : s.cfg.v drvDiagStale ≤ (pointGet s p).idle) (hst : (pointGet s p).state < 2) :
    ∃ t r, exec (.diagStaleExpiry p) s = .next t ∧ pointGet t p = { stalePoint s p with report := r } := by
  obtain ⟨r, hr⟩ := pointGet_lampPush_logEv (pointPut s p (stalePoint s p)) _ _ _ _ p _
  rw [pointGet_pointPut] at hr
  exact ⟨_, r, if_pos ⟨hm, hidle, hst⟩, hr⟩

/-! ### Probes (R225) -/

/-- Slots, or the one period, that a probe of a channel makes active. -/
def probeRun (s : State) (p : Nat) : Nat :=
  if modeOf (s.drv.cfg.row drvChan p) = 2
  then (snsTmin + u32At (s.drv.cfg.row drvChan p) 4 - 1) / max 1 (u32At (s.drv.cfg.row drvChan p) 4) else 1

/-- A channel's probe is placed on its pin and counted. -/
theorem placeProbe_channel {p : Nat} (h : p < 48) (s : State) :
    placeProbe s p = drvCount (pinPut s p { pinGet s p with probe := probeRun s p }) 0 := if_pos h

/-- A matrix element's probe acts in the cycle that runs, and is counted, where no buffer waits. -/
theorem placeProbe_element {s : State} {p : Nat} (h : 48 ≤ p) (he : s.drv.eligible = none) :
    placeProbe s p = drvCount { s with drv := { s.drv with probes := s.drv.probes ++ [p] } } 0 := by
  rw [placeProbe, if_neg h.not_gt, he]
  rfl

/-- A matrix element's probe waits for the swap that is to come. -/
theorem placeProbe_staged {s : State} {p : Nat} (h : 48 ≤ p) (he : s.drv.eligible.isSome = true) :
    placeProbe s p = { s with drv := { s.drv with staged := s.drv.staged ++ [p] } } := by
  rw [placeProbe, if_neg h.not_gt, if_pos he]

theorem placeProbe_changes (s : State) (p : Nat) : ChangesOnly [.drv] s (placeProbe s p) :=
  .ite ((pinPut_changes s p _).trans (drvCount_changes _ 0))
    (.ite (changes_drv s _) ((changes_drv s _).trans (drvCount_changes _ 0)))

/-- Placing a probe leaves every point. -/
theorem pointGet_placeProbe (s : State) (p q : Nat) : pointGet (placeProbe s p) q = pointGet s q := by
  unfold placeProbe
  split_ifs
  · rfl
  · rfl
  · rfl

/-- The block with a point noted as probed in the present frame. -/
def probeNoted (s : State) (p : Nat) : State := pointPut s p { pointGet s p with probedIn := s.frm.num + 1 }

/-- GLINT_PROBE of an UNOBSERVED point that is due and may be probed. -/
theorem exec_glintProbe_due {s : State} {p : Nat} (hm : measurable s p = true) (hst : (pointGet s p).state = 4)
    (hen : (s.cfg.sense p).2.1 = true) (hshed : g6Shed s = false) (hsince : (pointGet s p).since ≤ s.frm.num)
    (hdue : (s.frm.num - (pointGet s p).since) % s.cfg.v drvGlintInterval = 0) (hfirst : (pointGet s p).probedIn ≠ s.frm.num + 1)
    (hlit : drivenNow s p ≠ 0 ∨ (s.cfg.sense p).2.2.1 = true)
    (hfault : ∀ k, s.cfg.taker p = some k → bitAt (SMap.get 0 s.src.fault k.1) k.2 = false) (hahead : probeAhead s p = true) :
    exec (.glintProbe p) s = .next (placeProbe (probeNoted s p) p) := by
  have htaken : (s.cfg.taker p).isSome = true := by
    simp only [measurable, Bool.and_eq_true] at hm
    exact hm.2
  obtain ⟨k, hk⟩ := Option.isSome_iff_exists.mp htaken
  have hgood : (!bitAt (SMap.get 0 s.src.fault ((s.cfg.taker p).getD (0, 0)).1) ((s.cfg.taker p).getD (0, 0)).2) = true := by
    rw [hk, Option.getD_some, hfault k hk]
    rfl
  exact congrArg Host.Outcome.next
    (if_pos ⟨hm, hst, hen, by rw [hshed]; rfl, hsince, hdue, hfirst, hlit, hgood, hahead⟩)

/-- Settles O42: each command takes its one branch, and what the recorder, the reports and the pins do besides leaves the point. -/
theorem lampDiagnosis : Obligations.LampDiagnosis := by
  unfold Obligations.LampDiagnosis
  refine ⟨?sample, ?stale, ?probe⟩
  case sample =>
    intro s p c k u b hm hon hfresh hb hu hk
    subst hk
    refine ⟨_, exec_snsSample_measured hm hon hfresh hb hu c, ?_⟩
    generalize sampleClass (s.cfg.sense p).2.2.2.1 (s.cfg.sense p).2.2.2.2.1 (s.cfg.sense p).2.2.2.2.2.1 c = k
    obtain ⟨st, f, d, r, hpoint⟩ := pointGet_measure (advance s u) p k b u
    refine ⟨by rw [hpoint]; rfl, by rw [hpoint]; rfl, fun hk hok hc hn hconf => ?faulty, fun hk => ?verified,
      fun hk hunknown hc hn hconf => ?good⟩
    case faulty =>
      obtain ⟨_, _, hv⟩ := pointGet_lampVerdict (pointPut (advance s u) p (classed (advance s u) p k b u)) p (k + 1) 1 b u
      rw [measure_faulty (s := advance s u) hk hok hc hn hconf, hv]
      exact ⟨rfl, rfl⟩
    case verified =>
      rw [hpoint]
      exact if_pos hk
    case good =>
      subst hk
      rw [measure_good (s := advance s u) hunknown hc hn hconf, pointGet_pointPut]
  case stale =>
    intro s p hm hidle hst
    obtain ⟨t, r, hexec, hpoint⟩ := exec_diagStaleExpiry_stale hm hidle hst
    refine ⟨t, hexec, ?_, ?_, ?_⟩
    · rw [hpoint]; rfl
    · rw [hpoint]; rfl
    · rw [hpoint]; rfl
  case probe =>
    intro s p hm hst hen hshed hsince hdue hfirst hlit hfault hahead
    refine ⟨_, exec_glintProbe_due hm hst hen hshed hsince hdue hfirst hlit hfault hahead, ?noted, ?frame, fun hp => ?channel,
      fun hp he => ?element, fun hp he => ?staged⟩
    case noted => rw [pointGet_placeProbe, probeNoted, pointGet_pointPut]
    case frame => exact (pointPut_changes s p _).trans (placeProbe_changes _ p)
    case channel =>
      rw [placeProbe_channel hp]
      exact ⟨congrArg Pin.probe (pinGet_pinPut (probeNoted s p) p _), get_bump _ 0⟩
    case element =>
      rw [placeProbe_element (s := probeNoted s p) hp he]
      exact ⟨rfl, get_bump _ 0⟩
    case staged =>
      rw [placeProbe_staged (s := probeNoted s p) hp he]
      exact ⟨rfl, rfl⟩

end Sys2Proof.Machine
end

section
/-! Radio slots (R230 to R232, R236, R244): the operations on a radio port, what has been put out only growing, a cell prepared, its slot
started, its frame sent, stamps and fetches, and O43. -/

namespace Sys2Proof.Machine

/-! ### Radio ports and their neighbours -/

theorem neighPut_changes (s : State) (i : Nat) (x : Neigh) : ChangesOnly [.rad] s (neighPut s i x) := changes_rad s _

theorem useFc_changes (s : State) (key : Nat) : ChangesOnly [.rad] s (useFc s key) := changes_rad s _

theorem charge_changes (s : State) (band second time : Nat) : ChangesOnly [.rad] s (charge s band second time) :=
  .ite (changes_rad s _) (.refl _ s)

theorem runScript_changes (s : State) (p first channel : Nat) (psdu : List Byte) :
    ChangesOnly [.out] s (runScript s p first channel psdu) := emit_changes s _

/-- A port reads the same where the radio is untouched. -/
theorem radGet_congr {s t : State} (h : t.rad = s.rad) (p : Nat) : radGet t p = radGet s p := by
  rw [radGet, h, radGet]

/-- So does a neighbour. -/
theorem neighOf_congr {s t : State} (h : t.rad = s.rad) (i : Nat) : neighOf t i = neighOf s i := by
  rw [neighOf, h, neighOf]

@[simp] theorem neighOf_neighPut (s : State) (i : Nat) (x : Neigh) : neighOf (neighPut s i x) i = x := SMap.get_put_same _ _ _ _
@[simp] theorem neighOf_radCount (s : State) (p k n i : Nat) : neighOf (radCount s p k n) i = neighOf s i := rfl

@[simp] theorem radGet_radCount (s : State) (p k n : Nat) :
    radGet (radCount s p k n) p = { radGet s p with cnt := bump (radGet s p).cnt k n } := radGet_radPut s p _

/-- A counter of a port counts one. -/
theorem cnt_radCount (s : State) (p k : Nat) :
    SMap.get 0 (radGet (radCount s p k 1) p).cnt k = sat32 (SMap.get 0 (radGet s p).cnt k) 1 := by
  rw [radGet_radCount]
  exact get_bump _ k

/-! ### What has been put out stays -/

/-- Everything that was put out before still stands behind what came since. -/
def KeepsOut (s t : State) : Prop := s.out <:+ t.out

theorem KeepsOut.of_eq {s t : State} (h : t.out = s.out) : KeepsOut s t := by
  rw [KeepsOut, h]

/-- A change that leaves the output alone. -/
theorem KeepsOut.of_changes {ps : List Part} {s t : State} (h : ChangesOnly ps s t) (hout : .out ∉ ps) : KeepsOut s t :=
  .of_eq (h .out hout)

theorem KeepsOut.trans {s t u : State} (h : KeepsOut s t) (k : KeepsOut t u) : KeepsOut s u := List.IsSuffix.trans h k

theorem KeepsOut.ite {c : Prop} [Decidable c] {s t u : State} (h : KeepsOut s t) (k : KeepsOut s u) :
    KeepsOut s (if c then t else u) := by
  split
  · exact h
  · exact k

theorem keepsOut_emit (s : State) (x : Sent) : KeepsOut s (emit s x) := List.suffix_cons x s.out

theorem keepsOut_raise (s : State) (n : Nat) : KeepsOut s (raise s n) :=
  .ite (.of_eq rfl) (.ite (.of_eq rfl) (.ite (.of_eq rfl) (keepsOut_emit s _)))

theorem keepsOut_qCommit (s : State) (q : Nat) (h : Bool) (b : List Byte) : KeepsOut s (qCommit s q h b) := by
  have hput (x : Queue) : KeepsOut s (watermark (qPut s q x) q) :=
    .of_changes ((qPut_changes s q x).trans (watermark_changes _ q)) (by decide)
  exact .ite ((hput _).trans (keepsOut_raise _ q)) (hput _)

theorem keepsOut_qPush (s : State) (q : Nat) (h : Bool) (b : List Byte) : KeepsOut s (qPush s q h b) :=
  .ite (keepsOut_qCommit s q h b) (.of_eq rfl)

theorem keepsOut_casPump (n : Nat) (s : State) (p c : Nat) : KeepsOut s (casPump n s p c) := by
  induction n generalizing s with
  | zero => exact .of_eq rfl
  | succ n ih =>
    unfold casPump
    dsimp only
    split
    · exact .of_eq rfl
    · exact .ite (.of_eq rfl) ((keepsOut_emit (casClassPut s p c _) _).trans (ih _))

theorem keepsOut_casSend (s : State) (p c d : Nat) (m : List Byte) : KeepsOut s (casSend s p c d m) :=
  keepsOut_casPump _ (casClassPut s p c _) p c

theorem keepsOut_sendMb2 (s : State) (p n : Nat) (m : List Byte) : KeepsOut s (sendMb2 s p n m) := by
  unfold sendMb2
  dsimp only
  refine KeepsOut.trans ?_ (keepsOut_qPush _ _ _ _)
  exact .ite (.of_eq rfl) (.of_eq rfl)

theorem keepsOut_noteCopies (l : List (Nat × Nat)) (s : State) (b : List Byte) : KeepsOut s (noteCopies l s b) := by
  induction l generalizing s with
  | nil => exact .of_eq rfl
  | cons n l ih => exact (keepsOut_sendMb2 s n.2 n.1 _).trans (ih _)

theorem keepsOut_noteOut (s : State) (b : List Byte) : KeepsOut s (noteOut s b) := by
  have hcopies := keepsOut_noteCopies (copySessions s) s b
  exact .ite (hcopies.trans (keepsOut_casSend _ 0 1 0 _)) hcopies

theorem keepsOut_notifyBytes (s : State) (b : List Byte) : KeepsOut s (notifyBytes s b) := by
  unfold notifyBytes
  split
  · exact keepsOut_noteOut (qDiscard s 28) b
  · exact (keepsOut_qCommit s 28 false b).trans (keepsOut_noteOut _ b)

/-- A notification puts out copies of itself, beside what was put out before. -/
theorem keepsOut_notify (s : State) (c : Nat) (b : List Byte) : KeepsOut s (notify s c b) :=
  keepsOut_notifyBytes { s with que := { s.que with seq := (s.que.seq + 1) % 4294967296 } } _

/-! ### Preparation (R230, R244) -/

/-- The block that has run the scripts of a slot: CHANNEL, and TX_LOAD for a transmission. -/
def scriptsRun (s : State) (p : Nat) (x : Slot) : State :=
  if x.what = 0 then runScript s p 16 x.channel [] else runScript (runScript s p 16 x.channel []) p 32 x.channel x.frame

/-- The block with a prepared slot kept; a secured frame has used its counter value. -/
def slotKept (s : State) (p : Nat) (x : Slot) : State :=
  let u := if x.level = 0 then scriptsRun s p x else useFc (scriptsRun s p x) x.key
  radPut u p { radGet u p with slot := some x }

theorem scriptsRun_changes (s : State) (p : Nat) (x : Slot) : ChangesOnly [.out] s (scriptsRun s p x) :=
  .ite (runScript_changes s p _ _ _) ((runScript_changes s p _ _ _).trans (runScript_changes _ p _ _ _))

theorem slot_slotKept (s : State) (p : Nat) (x : Slot) : (radGet (slotKept s p x) p).slot = some x :=
  congrArg RadioPort.slot (radGet_radPut _ p _)

/-- RADIO_CELL_PREPARE of a port that has a cell to run in its next slot. -/
theorem exec_radioCellPrepare {s v : State} {p : Nat} {y : Slot} {u : Time} (hlive : radioLive s p = true)
    (hu : u = asnStart s.cfg (nextSlot s p) - 1000 * us)
    (hchosen : chooseCell (radPut (advance s u) p { radGet s p with slot := none, sfd := none, fetched := false }) p (nextSlot s p)
      = (v, some y)) (k : Nat) :
    exec (.radioCellPrepare p k) s = .next (if scriptsBy v p { y with frame := slotPsdu v p y } < ((u + k * us : Nat) : Int)
      then radCount (scriptsRun v p { y with frame := slotPsdu v p y }) p 8 1
      else slotKept v p { y with frame := slotPsdu v p y }) := by
  have hgo : ¬(!radioLive s p) = true := by simp [hlive]
  have hcell : chooseCell (radPut (advance s u) p { radGet (advance s u) p with slot := none, sfd := none, fetched := false })
      p (nextSlot s p) = (v, some y) := hchosen
  simp only [exec, execRadioCellPrepare, if_neg hgo, ← hu, hcell]
  exact (apply_ite Host.Outcome.next _ _ _).symm

/-! ### The start of a slot (R232) -/

/-- The block in which the slot of a port has begun. -/
def slotBegun (s : State) (p : Nat) (x : Slot) : State :=
  radPut (advance s (asnStart s.cfg x.n)) p { radGet s p with slot := some { x with started := true } }

theorem slotBegun_changes (s : State) (p : Nat) (x : Slot) : ChangesOnly [.tim, .rad] s (slotBegun s p x) :=
  ((advance_changes s _).mono (by decide)).trans ((radPut_changes _ p _).mono (by decide))

/-! ### The trigger (R231, R236, R247, R249, R253, R256) -/

/-- The block that has put a slot's frame on the air and charged its airtime. -/
def onAir (s : State) (p : Nat) (x : Slot) : State :=
  charge (emit (advance s (trigAt s.cfg p (slotSfd s.cfg p x.n)))
      (.radio p (asnOf x.n) x.channel (trigAt s.cfg p (slotSfd s.cfg p x.n)) x.frame))
    x.band (slotSfd s.cfg p x.n / sec) (airtime (s.cfg.row radPort p) x.psdu)

/-- That block with the transmission noted as done. -/
def slotDone (s : State) (p : Nat) (x : Slot) : State :=
  radPut (onAir s p x) p { radGet (onAir s p x) p with slot := some { x with done := true }, dsn := ((radGet s p).dsn + 1) % 256 }

theorem onAir_out (s : State) (p : Nat) (x : Slot) : (onAir s p x).out
    = .radio p (asnOf x.n) x.channel (trigAt s.cfg p (slotSfd s.cfg p x.n)) x.frame :: s.out :=
  charge_changes _ _ _ _ .out (by decide)

theorem txDone_changes (s : State) (p status handle : Nat) :
    ChangesOnly [.que, .host, .stk, .sec, .out] s (txDone s p status handle) := notify_changes s _ _

/-- The end of a cause is a matter of the guarantees and the recorder. -/
theorem restoreG_changes (s : State) (l c o : Nat) : ChangesOnly [.eng, .log] s (restoreG s l c o) :=
  .ite (((changes_eng s _).mono (by decide)).trans ((logEv_changes _ _ _ _ _).mono (by decide))) (.refl _ s)

/-- A frame that has gone out leaves its slot and the next sequence number to the port, and everything that was put out. -/
theorem afterTx_keeps (s : State) (p : Nat) (x : Slot) : (radGet (afterTx s p x) p).slot = (radGet s p).slot
    ∧ (radGet (afterTx s p x) p).dsn = (radGet s p).dsn ∧ KeepsOut s (afterTx s p x) := by
  unfold afterTx
  dsimp only
  split
  case h_1 f _ _ =>
    split
    · simp only [radGet_radPut, true_and]
      exact .of_eq rfl
    · simp only [radGet_congr (txDone_changes _ p 1 f.handle .rad (by decide)), radGet_radPut, true_and]
      exact keepsOut_notify (radPut s p _) _ _
  case h_2 =>
    split
    · simp only [radGet_congr (restoreG_changes _ 2 0x0B13 p .rad (by decide)), radGet_radPut, true_and]
      exact .of_eq (restoreG_changes _ 2 0x0B13 p .out (by decide))
    · simp only [radGet_radPut, true_and]
      exact .of_eq rfl
  case h_3 => exact ⟨rfl, rfl, .of_eq rfl⟩

/-! ### Stamps and fetches (R230, R231) -/

/-- The block with the SFD of a port's slot stamped at `u`. -/
def sfdStamped (s : State) (p : Nat) (u : Time) (a : Bool × Time) : State :=
  radPut (advance s u) p { radGet s p with sfd := some a }

theorem sfdStamped_changes (s : State) (p : Nat) (u : Time) (a : Bool × Time) : ChangesOnly [.tim, .rad] s (sfdStamped s p u a) :=
  ((advance_changes s u).mono (by decide)).trans ((radPut_changes _ p _).mono (by decide))

/-- The block with the frame of a port's slot fetched. -/
def frameFetched (s : State) (p : Nat) (x : Slot) : State :=
  radPut (runScript s p 48 x.channel []) p { radGet s p with fetched := true }

/-- The block that has lost the frame of a port's slot, whose fetch came too late. -/
def frameLost (s : State) (p : Nat) (x : Slot) : State :=
  radCount (radPut (runScript s p 48 x.channel []) p { radGet s p with slot := none }) p 8 1

section
variable {s : State} {p : Nat} {x : Slot} (hslot : (radGet s p).slot = some x) (hlive : radioLive s p = true)
include hslot hlive

theorem exec_radioSlotStart (hnew : x.started = false) : exec (.radioSlotStart p) s = .next (slotBegun s p x) := by
  have hgo : ¬((!radioLive s p) = true ∨ x.started = true) := by simp [hlive, hnew]
  simp only [exec, execRadioSlotStart, hslot, if_neg hgo]
  rfl

variable (hstarted : x.started = true)
include hstarted

theorem exec_radioTxtrig (hdone : x.done = false) (hwhat : x.what ≠ 0) :
    exec (.radioTxtrig p) s = .next (afterTx (slotDone s p x) p x) := by
  have hgo : ¬((!radioLive s p) = true ∨ (!x.started) = true ∨ x.done = true ∨ x.what = 0) := by
    simp [hlive, hstarted, hdone, hwhat]
  simp only [exec, execRadioTxtrig, hslot, if_neg hgo]
  rfl

/-- RADIO_SFD_STAMP of a slot that listens. -/
theorem exec_radioSfdStamp_listening (hwhat : x.what = 0) (u : Time) : exec (.radioSfdStamp p u) s
    = .next (sfdStamped s p u (true, u - u16At (s.cfg.row radPort p) 18 * ns)) := by
  have hgo : ¬((!radioLive s p) = true ∨ (!x.started) = true ∨ (x.what ≠ 0 ∧ x.done = false)) := by simp [hlive, hstarted, hwhat]
  have hown : ¬(x.what != 0 && (radGet s p).sfd.isNone) = true := by simp [hwhat]
  simp only [exec, execRadioSfdStamp, hslot, if_neg hgo, if_neg hown]
  rfl

/-- RADIO_SFD_STAMP, the first after a transmission. -/
theorem exec_radioSfdStamp_own (hwhat : x.what ≠ 0) (hdone : x.done = true) (hfirst : (radGet s p).sfd = none) (u : Time) :
    exec (.radioSfdStamp p u) s = .next (sfdStamped s p u (false, slotSfd s.cfg p x.n)) := by
  have hgo : ¬((!radioLive s p) = true ∨ (!x.started) = true ∨ (x.what ≠ 0 ∧ x.done = false)) := by simp [hlive, hstarted, hdone]
  have hown : (x.what != 0 && (radGet s p).sfd.isNone) = true := by simp [hwhat, hfirst]
  simp only [exec, execRadioSfdStamp, hslot, if_neg hgo, if_pos hown]
  rfl

theorem exec_radioRxFetch (hwhat : x.what = 0) (hsfd : (radGet s p).sfd.isSome = true) (complete : Bool) :
    exec (.radioRxFetch p complete) s = .next (if complete then frameFetched s p x else frameLost s p x) := by
  have hgo : ¬((!radioLive s p) = true ∨ (!x.started) = true ∨ x.what ≠ 0 ∨ (radGet s p).sfd.isNone = true) := by
    simp [hlive, hstarted, hwhat, Option.isSome_iff_ne_none.mp hsfd]
  simp only [exec, execRadioRxFetch, hslot, if_neg hgo]
  exact (apply_ite Host.Outcome.next _ _ _).symm

end

/-- Settles O43: each command takes its one branch, and what a transmission entails leaves its slot, its sequence number and what it put
out. -/
theorem radioSlotsAndTransmission : Obligations.RadioSlotsAndTransmission := by
  unfold Obligations.RadioSlotsAndTransmission
  refine ⟨?prepare, ?start, ?trigger, ?stamp, ?fetch⟩
  case prepare =>
    intro s v p k x y u hlive hu hchosen hx
    subst hx
    have hexec := exec_radioCellPrepare hlive hu hchosen k
    refine ⟨fun hintime => ⟨_, hexec, ?kept⟩, fun hlate => ⟨_, hexec, ?late⟩⟩
    case kept =>
      rw [if_neg (not_lt.mpr hintime)]
      exact slot_slotKept v p _
    case late =>
      rw [if_pos hlate, cnt_radCount, radGet_congr (scriptsRun_changes v p _ .rad (by decide))]
  case start =>
    intro s p x hslot hlive hnew
    exact ⟨_, exec_radioSlotStart hslot hlive hnew, congrArg RadioPort.slot (radGet_radPut _ p _), rfl, slotBegun_changes s p x⟩
  case trigger =>
    intro s p x hslot hlive hstarted hdone hwhat
    obtain ⟨hkept, hdsn, hout⟩ := afterTx_keeps (slotDone s p x) p x
    refine ⟨_, exec_radioTxtrig hslot hlive hstarted hdone hwhat, hout.subset ?sent, hkept.trans ?slot, hdsn.trans ?dsn⟩
    case sent => exact onAir_out s p x ▸ List.mem_cons_self
    case slot => exact congrArg RadioPort.slot (radGet_radPut _ p _)
    case dsn => exact congrArg RadioPort.dsn (radGet_radPut _ p _)
  case stamp =>
    intro s p x u hslot hlive hstarted
    refine ⟨fun hwhat => ?listening, fun hwhat hdone hfirst => ?own⟩
    case listening =>
      exact ⟨_, exec_radioSfdStamp_listening hslot hlive hstarted hwhat u, congrArg RadioPort.sfd (radGet_radPut _ p _),
        sfdStamped_changes s p u _⟩
    case own =>
      exact ⟨_, exec_radioSfdStamp_own hslot hlive hstarted hwhat hdone hfirst u, congrArg RadioPort.sfd (radGet_radPut _ p _),
        sfdStamped_changes s p u _⟩
  case fetch =>
    intro s p x hslot hlive hstarted hwhat hsfd
    have hexec := exec_radioRxFetch hslot hlive hstarted hwhat hsfd
    have hscript := (runScript_changes s p 48 x.channel []).mono (qs := [.rad, .out]) (by decide)
    refine ⟨⟨frameFetched s p x, _, hexec true, congrArg RadioPort.fetched (radGet_radPut _ p _), rfl, ?held⟩,
      ⟨frameLost s p x, hexec false, ?slot, ?late, ?lost⟩⟩
    case held => exact hscript.trans ((radPut_changes _ p _).mono (by decide))
    case slot => rw [frameLost, radGet_radCount, radGet_radPut]
    case late => rw [frameLost, cnt_radCount, radGet_radPut]
    case lost => exact hscript.trans (((radPut_changes _ p _).trans (radCount_changes _ p 8 1)).mono (by decide))

end Sys2Proof.Machine
end

section
/-! Radio reception and command frames (R238 to R241, R246, R249, R253, R256, R257): a neighbour's frame judged, acknowledgements that came
and did not come, guards, command frames and deferred civic commands, and O44. -/

namespace Sys2Proof.Machine

/-! ### Queues and civic deferrals -/

/-- A queue reads the same where the queues are untouched. -/
theorem qGet_congr {s t : State} (h : t.que = s.que) (q : Nat) : qGet t q = qGet s q := by
  rw [qGet, h, qGet]

/-- A cause is in force once it is entered, whether it was before or not. -/
theorem mem_causes_breakG (s : State) (l c o n : Nat) : causeKey c o ∈ (breakG s l c o n).eng.causes := by
  unfold breakG
  split
  case isTrue h => exact List.elem_iff.mp h
  case isFalse =>
    rw [notify_changes _ _ _ .eng (by decide), logEv_changes _ _ _ _ _ .eng (by decide)]
    exact List.mem_append_right _ (List.mem_singleton_self _)

/-! ### A neighbour's frame (R238, R246, R257) -/

/-- An acknowledgement takes its counter value and its airtime, or is noted as not sent. -/
theorem sendAck_changes (s : State) (p nb : Nat) (h : HeardFrame) : ChangesOnly [.rad, .log, .out] s (sendAck s p nb h).2 := by
  have hsent (u : State) (x : Sent) (b n t : Nat) : ChangesOnly [.rad, .log, .out] u (charge (emit u x) b n t) :=
    ((emit_changes u x).mono (by decide)).trans ((charge_changes _ b n t).mono (by decide))
  unfold sendAck
  dsimp only
  split
  · exact (radCount_changes s p 7 1).mono (by decide)
  split
  · exact (logEntry_changes s _ _ _ _ _ _).mono (by decide)
  · exact ChangesOnly.trans (.ite (.refl _ s) ((useFc_changes s _).mono (by decide))) (hsent _ _ _ _ _)

theorem keepTime_changes (s : State) (p nb : Nat) (h : HeardFrame) (timed : Bool) :
    ChangesOnly [.rad, .log, .out] s (keepTime s p nb h timed).2 := by
  have hack : ChangesOnly [.rad, .log, .out] s (if h.mac.ackReq then sendAck s p nb h else (false, s)).2 := by
    split
    · exact sendAck_changes s p nb h
    · exact .refl _ s
  unfold keepTime
  dsimp only
  split
  · exact hack.trans ((neighPut_changes _ _ _).mono (by decide))
  · exact hack

/-- A block past a luminaire's report: what is known of fixtures and the radio ports may differ, and nothing else. -/
def Reported (s t : State) : Prop := ∃ src ports, t = { s with src := src, rad := { s.rad with ports := ports } }

theorem Reported.refl (s : State) : Reported s s := ⟨s.src, s.rad.ports, rfl⟩

theorem Reported.trans {s t u : State} (h : Reported s t) (k : Reported t u) : Reported s u := by
  obtain ⟨_, _, rfl⟩ := h
  obtain ⟨src, ports, rfl⟩ := k
  exact ⟨src, ports, rfl⟩

theorem Reported.ite {c : Prop} [Decidable c] {s t u : State} (h : Reported s t) (k : Reported s u) :
    Reported s (if c then t else u) := by
  split
  · exact h
  · exact k

theorem reported_takeReport (s : State) (p nb : Nat) (n : Int) (b : List Byte) : Reported s (takeReport s p nb n b) := by
  unfold takeReport
  split
  case h_1 => exact .refl s
  case h_2 l _ =>
    split
    case isTrue => exact .refl s
    case isFalse =>
      extract_lets s1 s2 levels
      have htemp : Reported s s1 := .ite ⟨_, s.rad.ports, rfl⟩ (.refl s)
      have hfault : Reported s s2 := .ite (htemp.trans ⟨_, s1.rad.ports, rfl⟩) htemp
      split
      · split
        · exact .ite (hfault.trans ⟨s2.src, _, rfl⟩) hfault
        · exact hfault
      · exact hfault

section
variable {s t : State} (h : Reported s t)
include h

theorem Reported.qGet (q : Nat) : qGet t q = qGet s q := by
  obtain ⟨_, _, rfl⟩ := h
  rfl

theorem Reported.neighOf (i : Nat) : neighOf t i = neighOf s i := by
  obtain ⟨_, _, rfl⟩ := h
  rfl

end

/-- The block that has kept time by an accepted frame and noted its sequence number and frame counter. -/
def frameNoted (s : State) (p nb cell : Nat) (h : HeardFrame) : State :=
  let a := keepTime s p nb h (bitAt cell 27 || u16At cell 8 == nb)
  neighPut a.2 (p * 4096 + nb) { neighOf a.2 (p * 4096 + nb) with
    dsn := some h.mac.dsn, fc := if h.mac.secured then some h.mac.fc else (neighOf a.2 (p * 4096 + nb)).fc }

/-- The block that has delivered an accepted frame with flags to its port's receive queue. -/
def frameDelivered (s : State) (p nb cell : Nat) (h : HeardFrame) (flags : Nat) : State :=
  qCommit (radCount (frameNoted s p nb cell h) p 0 1) (18 + p) false
    (rxRecord p h.slot h.sfd h.frame.rssi h.frame.lqi (clearPsdu h.mac ((openFrom s p nb h.mac).getD [])) flags nb)

theorem frameNoted_changes (s : State) (p nb cell : Nat) (h : HeardFrame) :
    ChangesOnly [.rad, .log, .out] s (frameNoted s p nb cell h) :=
  (keepTime_changes s p nb h _).trans ((neighPut_changes _ _ _).mono (by decide))

/-- A frame delivered is in its port's receive queue after the others. -/
theorem packets_frameDelivered (s : State) (p nb cell : Nat) (h : HeardFrame) (flags : Nat) :
    (qGet (frameDelivered s p nb cell h flags) (18 + p)).packets = (qGet s (18 + p)).packets
      ++ [rxRecord p h.slot h.sfd h.frame.rssi h.frame.lqi (clearPsdu h.mac ((openFrom s p nb h.mac).getD [])) flags nb] := by
  rw [frameDelivered, qGet_qCommit_packets, qGet_congr (radCount_changes _ p 0 1 .que (by decide)),
    qGet_congr (frameNoted_changes s p nb cell h .que (by decide))]

/-- Its sequence number is noted at its neighbour. -/
theorem dsn_frameDelivered (s : State) (p nb cell : Nat) (h : HeardFrame) (flags : Nat) :
    (neighOf (frameDelivered s p nb cell h flags) (p * 4096 + nb)).dsn = some h.mac.dsn := by
  rw [frameDelivered, neighOf_congr (qCommit_changes _ _ _ _ .rad (by decide)), neighOf_radCount, frameNoted, neighOf_neighPut]

section
variable {s : State} {p nb : Nat} {h : HeardFrame}

/-- A good frame of a neighbour that is not LOST is delivered, and what its payload tells is taken. -/
theorem receive_good (hgood : verdictOf s p nb h.mac (openFrom s p nb h.mac) = 0) (hactive : (neighOf s (p * 4096 + nb)).state = 1)
    (cell : Nat) : ∃ flags, receive s p nb cell h = takeReport (frameDelivered s p nb cell h flags) p nb h.slot.n
      (macPayload h.mac ((openFrom s p nb h.mac).getD [])) := by
  have hlost : ¬(neighOf s (p * 4096 + nb)).state = 2 := by simp [hactive]
  unfold receive
  dsimp only
  rw [hgood]
  simp only [if_neg hlost, decide_eq_false hlost, Bool.or_false]
  exact ⟨_, rfl⟩

/-- A good frame is in the receive queue after the others, and its sequence number at its neighbour. -/
theorem receive_good_delivers (hgood : verdictOf s p nb h.mac (openFrom s p nb h.mac) = 0)
    (hactive : (neighOf s (p * 4096 + nb)).state = 1) (cell : Nat) :
    ∃ flags, (qGet (receive s p nb cell h) (18 + p)).packets = (qGet s (18 + p)).packets
        ++ [rxRecord p h.slot h.sfd h.frame.rssi h.frame.lqi (clearPsdu h.mac ((openFrom s p nb h.mac).getD [])) flags nb]
      ∧ (neighOf (receive s p nb cell h) (p * 4096 + nb)).dsn = some h.mac.dsn := by
  obtain ⟨flags, hreceive⟩ := receive_good hgood hactive cell
  refine ⟨flags, ?_, ?_⟩
  · rw [hreceive, (reported_takeReport _ p nb _ _).qGet, packets_frameDelivered]
  · rw [hreceive, (reported_takeReport _ p nb _ _).neighOf, dsn_frameDelivered]

theorem receive_bad (hbad : verdictOf s p nb h.mac (openFrom s p nb h.mac) = 1) (cell : Nat) :
    receive s p nb cell h = radCount s p 3 1 := by
  unfold receive
  dsimp only
  rw [hbad]
  rfl

theorem judge_active (hsource : neighFrom s p h.mac = some nb) (hactive : (neighOf s (p * 4096 + nb)).state = 1) (cell : Nat) :
    judge s p cell h = receive s p nb cell h := by
  simp [judge, hsource, hactive]

end

/-- The block whose port hands on what it fetched. -/
def handedOn (s : State) (p : Nat) : State := radPut s p { radGet s p with fetched := false, slot := none }

/-- RADIO_FRAME_RECEIVED of a whole frame of an ACTIVE neighbour whose SFD fell in the listening interval. -/
theorem exec_radioFrameReceived {s : State} {p nb cell : Nat} {h : HeardFrame} (hslot : (radGet s p).slot = some h.slot)
    (hlive : radioLive s p = true) (hstarted : h.slot.started = true) (hwhat : h.slot.what = 0) (hfetched : (radGet s p).fetched = true)
    (hsfd : (radGet s p).sfd = some (true, h.sfd)) (hmac : parseMac h.frame.psdu = some h.mac)
    (hcell : cell = s.cfg.row radCell (p * 16384 + h.slot.cell)) (hfrom : (listens s p h.slot.n cell).1 ≤ (h.sfd : Int))
    (hto : (h.sfd : Int) < (listens s p h.slot.n cell).2) (hsource : neighFrom s p h.mac = some nb)
    (hactive : (neighOf s (p * 4096 + nb)).state = 1) :
    exec (.radioFrameReceived p h.frame) s = .next (receive (handedOn s p) p nb cell h) := by
  have hgo : ¬((!radioLive s p) = true ∨ (!h.slot.started) = true ∨ h.slot.what ≠ 0 ∨ (!(radGet s p).fetched) = true) := by
    simp [hlive, hstarted, hwhat, hfetched]
  rw [← judge_active (s := handedOn s p) hsource hactive cell]
  subst hcell
  simp only [exec]
  unfold execRadioFrameReceived
  split
  case h_1 x a hx ha =>
    obtain rfl : h.slot = x := Option.some.inj (hslot.symm.trans hx)
    obtain rfl : h.sfd = a := congrArg Prod.snd (Option.some.inj (hsfd.symm.trans ha))
    simp only [if_neg hgo, hmac, if_pos (And.intro hfrom hto)]
    rfl
  case h_2 hnone => exact (hnone h.slot h.sfd hslot hsfd).elim

/-! ### Acknowledgements (R238, R256) -/

/-- The block with the acknowledged frame of a port taken off it. -/
def ackTaken (s : State) (p : Nat) (f : HostFrame) (u : Time) (c : Int) : State :=
  radPut (neighPut s (p * 4096 + f.neigh) { neighOf s (p * 4096 + f.neigh) with
    contact := heardAt (radGet s p) u, offset := -c * 1000, open_ := false }) p { radGet s p with awaiting := none, backoff := 0 }

/-- The block with the back-off of a port, after a SHARED cell a free value. -/
def backedOff (s : State) (p : Nat) (shared : Bool) : State :=
  if shared then radPut (takeFree s).2 p { radGet s p with backoff := Config.freeNat (takeFree s).1 } else s

/-- The block with an unacknowledged frame back at the head of its port's queue. -/
def requeued (s : State) (p : Nat) (f : HostFrame) : State :=
  radPut s p { radGet s p with awaiting := none, queue := f :: (radGet s p).queue }

theorem queue_backedOff (s : State) (p : Nat) (shared : Bool) : (radGet (backedOff s p shared) p).queue = (radGet s p).queue := by
  unfold backedOff
  split
  · rw [radGet_radPut]
  · rfl

theorem radGet_requeued (s : State) (p : Nat) (f : HostFrame) : radGet (requeued s p f) p
    = { radGet s p with awaiting := none, queue := f :: (radGet s p).queue } := radGet_radPut s p _

section
variable {s : State} {p : Nat} {f : HostFrame} (hawaits : (radGet s p).awaiting = some f) (hlive : radioLive s p = true)
include hawaits hlive

theorem exec_radioAckReceived (u : Time) (c : Int) :
    exec (.radioAckReceived p u c) s = .next (txDone (ackTaken s p f u c) p 0 f.handle) := by
  have hgo : ¬(!radioLive s p) = true := by simp [hlive]
  simp only [exec, execRadioAckReceived, hawaits, if_neg hgo]
  rfl

/-- RADIO_ACK_TIMEOUT of a frame with a retry left. -/
theorem exec_radioAckTimeout_retry (hfound : (neighOf s (p * 4096 + f.neigh)).state ≠ 2) (htries : f.tries < s.cfg.v radMaxRetries) :
    ∃ shared, exec (.radioAckTimeout p) s = .next (requeued (backedOff s p shared) p { f with tries := f.tries + 1 }) := by
  have hgo : ¬(!radioLive s p) = true := by simp [hlive]
  simp only [exec]
  unfold execRadioAckTimeout
  split
  case h_1 hnone => exact absurd (hawaits.symm.trans hnone) (Option.some_ne_none f)
  case h_2 g hg =>
    obtain rfl : f = g := Option.some.inj (hawaits.symm.trans hg)
    simp only [if_neg hgo, if_neg hfound, if_pos htries]
    exact ⟨_, rfl⟩

end

/-! ### Guards (R240) -/

/-- The block with the guard of a neighbour evaluated. -/
def guarded (s : State) (p nb : Nat) (u : Time) : State :=
  neighPut (advance s u) (p * 4096 + nb) { neighOf s (p * 4096 + nb) with
    guard := min 65535 (guardOf (s.cfg.row radPort p) (u - (neighOf s (p * 4096 + nb)).contact)) }

/-- The block that has given a neighbour up as LOST. -/
def neighLost (s : State) (p nb : Nat) : State :=
  logEv (radCount (neighPut s (p * 4096 + nb) { neighOf s (p * 4096 + nb) with state := 2 }) p 9 1) 0x0701 p nb 0

theorem guarded_changes (s : State) (p nb : Nat) (u : Time) : ChangesOnly [.tim, .rad] s (guarded s p nb u) :=
  ((advance_changes s u).mono (by decide)).trans ((neighPut_changes _ _ _).mono (by decide))

theorem neighLost_changes (s : State) (p nb : Nat) : ChangesOnly [.rad, .log] s (neighLost s p nb) :=
  (((neighPut_changes s _ _).trans (radCount_changes _ p 9 1)).mono (by decide)).trans ((logEv_changes _ _ _ _ _).mono (by decide))

/-- A neighbour given up is LOST, and otherwise as it was. -/
theorem neighOf_neighLost (s : State) (p nb : Nat) :
    neighOf (neighLost s p nb) (p * 4096 + nb) = { neighOf s (p * 4096 + nb) with state := 2 } := by
  rw [neighLost, neighOf_congr (logEv_changes _ _ _ _ _ .rad (by decide)), neighOf_radCount, neighOf_neighPut]

theorem exec_radioGuardEval {s : State} {p nb : Nat} (hlive : radioLive s p = true) (hnb : nb < 4096)
    (hactive : (neighOf s (p * 4096 + nb)).state = 1) (u : Time) : exec (.radioGuardEval p nb u) s = .next
      (if u16At (s.cfg.row radPort p) 10 < 2 * guardOf (s.cfg.row radPort p) (u - (neighOf s (p * 4096 + nb)).contact)
        then neighLost (guarded s p nb u) p nb else guarded s p nb u) := by
  have hgo : ¬((!radioLive s p) = true ∨ 4096 ≤ nb ∨ (neighOf s (p * 4096 + nb)).state ≠ 1) := by
    simp [hlive, hnb, hactive]
  exact (if_neg hgo).trans (apply_ite Host.Outcome.next _ _ _).symm

/-! ### Command frames (R253) -/

/-- The block with the command frame of a port's next slot built. -/
def commandBuilt (s : State) (p : Nat) : State :=
  radPut (advance s (asnStart s.cfg (nextSlot s p) - 1000 * us)) p { radGet s p with built := commandFrame s p (nextSlot s p) }

theorem commandBuilt_changes (s : State) (p : Nat) : ChangesOnly [.tim, .rad] s (commandBuilt s p) :=
  ((advance_changes s _).mono (by decide)).trans ((radPut_changes _ p _).mono (by decide))

theorem exec_commandFrameBuild {s : State} {p : Nat} (hlive : radioLive s p = true) (hrun : s.dev.state = .run)
    (hdue : ((activeCells s p (nextSlot s p)).any fun x => bitAt x.2 24 && byteAt x.2 7 == 1) = true) :
    exec (.commandFrameBuild p) s = .next (commandBuilt s p) := by
  have hgo : ¬((!radioLive s p) = true ∨ s.dev.state ≠ .run
      ∨ (!(activeCells s p (nextSlot s p)).any fun x => bitAt x.2 24 && byteAt x.2 7 == 1) = true) := by
    simp only [hlive, hrun, hdue]
    decide
  exact if_neg hgo

/-- Settles O44: each command takes its one branch; a report that a frame carries, the acknowledgement sent for it, notifications and
the recorder leave the neighbours, the receive queues and the causes as told. -/
theorem radioReceptionAndCommands : Obligations.RadioReceptionAndCommands := by
  unfold Obligations.RadioReceptionAndCommands
  refine ⟨?heard, ?acked, ?timeout, ?guard, ?build, ?civic⟩
  case heard =>
    intro s p nb cell x f m a hslot hlive hstarted hwhat hfetched hsfd hmac hcell hfrom hto hsource hactive
    have hexec := exec_radioFrameReceived (h := ⟨x, f, m, a⟩) hslot hlive hstarted hwhat hfetched hsfd hmac hcell hfrom hto
      hsource hactive
    refine ⟨fun hgood => ?good, fun hbad => ?bad⟩
    case good =>
      obtain ⟨fl, hpackets, hdsn⟩ := receive_good_delivers (s := handedOn s p) (h := ⟨x, f, m, a⟩) hgood hactive cell
      exact ⟨_, fl, hexec, hpackets, hdsn⟩
    case bad =>
      rw [receive_bad (s := handedOn s p) (h := ⟨x, f, m, a⟩) hbad cell] at hexec
      refine ⟨_, hexec, rfl, ?count⟩
      rw [cnt_radCount, handedOn, radGet_radPut]
  case acked =>
    intro s p u c f hawaits hlive
    have hrad : (txDone (ackTaken s p f u c) p 0 f.handle).rad = (ackTaken s p f u c).rad := txDone_changes _ p 0 f.handle .rad (by decide)
    have hport : radGet (ackTaken s p f u c) p = { radGet s p with awaiting := none, backoff := 0 } := radGet_radPut _ p _
    have hneigh : neighOf (ackTaken s p f u c) (p * 4096 + f.neigh) = { neighOf s (p * 4096 + f.neigh) with
        contact := heardAt (radGet s p) u, offset := -c * 1000, open_ := false } := neighOf_neighPut s _ _
    refine ⟨_, exec_radioAckReceived hawaits hlive u c, ?_⟩
    rw [radGet_congr hrad, hport, neighOf_congr hrad, hneigh]
    exact ⟨rfl, rfl, rfl, rfl, notify_seq _ _ _⟩
  case timeout =>
    intro s p f hawaits hlive hfound htries
    obtain ⟨shared, hexec⟩ := exec_radioAckTimeout_retry hawaits hlive hfound htries
    refine ⟨_, hexec, ?_⟩
    rw [radGet_requeued, queue_backedOff]
    exact ⟨rfl, rfl⟩
  case guard =>
    intro s p nb g u hlive hnb hactive hg
    subst hg
    refine ⟨_, exec_radioGuardEval hlive hnb hactive u, ?_⟩
    have hneigh : neighOf (guarded s p nb u) (p * 4096 + nb) = { neighOf s (p * 4096 + nb) with
        guard := min 65535 (guardOf (s.cfg.row radPort p) (u - (neighOf s (p * 4096 + nb)).contact)) } := neighOf_neighPut _ _ _
    have hguarded := (guarded_changes s p nb u).mono (qs := [.tim, .rad, .log]) (by decide)
    split
    · rw [neighOf_neighLost, hneigh]
      exact ⟨rfl, rfl, hguarded.trans ((neighLost_changes _ p nb).mono (by decide))⟩
    · rw [hneigh]
      exact ⟨rfl, hactive, hguarded⟩
  case build =>
    intro s p hlive hrun hdue
    exact ⟨_, exec_commandFrameBuild hlive hrun hdue, congrArg RadioPort.built (radGet_radPut _ p _), commandBuilt_changes s p⟩
  case civic =>
    intro s p u a hp hsince hdue
    refine ⟨breakG (advance s u) 2 0x0B13 p 0, ?_, mem_causes_breakG _ 2 0x0B13 p 0⟩
    simp only [exec, execRadioCivicDeferred, hsince, if_pos (And.intro hp hdue)]

end Sys2Proof.Machine
end

section
/-! Ethernet frames (R261, R264, R266 to R268, R270): a frame taken from its queue and put on the wire, its end, link changes, the checks of
a received frame and its way to a receive queue, and O45. -/

namespace Sys2Proof.Machine

/-! ### The Ethernet ports -/

/-- A port reads the same where the ports are untouched. -/
theorem ethGet_congr {s t : State} (h : t.eth = s.eth) (p : Nat) : ethGet t p = ethGet s p := by
  rw [ethGet, h, ethGet]

/-- A frame put on the wire is counted at its port, which is otherwise as it was. -/
theorem ethGet_ethEmit (s : State) (p k : Nat) (u : Time) (f : List Byte) :
    ethGet (ethEmit s p k u f) p = { ethGet s p with cnt := bump (ethGet s p).cnt 0 1 } := ethGet_ethPut _ p _

theorem tsFull_changes (s : State) (p : Nat) : ChangesOnly [.tim, .log] s (tsFull s p) :=
  ((changes_tim s _).mono (by decide)).trans ((logEv_changes _ _ _ _ _).mono (by decide))

theorem ethDone_changes (s : State) (p : Nat) (k : List Byte) (st : Nat) (u : Time) :
    ChangesOnly [.que, .host, .stk, .sec, .out] s (ethDone s p k st u) := notifyAt_changes s _ u _

/-- A completion takes the next SEQ, whatever its time and whether Q28 has room for it or not. -/
theorem ethDone_seq (s : State) (p : Nat) (k : List Byte) (st : Nat) (u : Time) :
    (ethDone s p k st u).que.seq = (s.que.seq + 1) % 4294967296 := by
  have hout (v : State) (m : List Byte) : (noteOut v m).que.seq = v.que.seq := congrArg Prod.snd (posted_noteOut v m)
  unfold ethDone notifyAt notifyBytes
  split
  · exact hout (qDiscard _ 28) _
  · exact (hout _ _).trans (congrArg Prod.snd (posted_qCommit _ false _))

/-! ### A frame leaves (R264) -/

/-- What follows the oldest packet is left when it is taken. -/
theorem qGet_qPop_packets {s : State} {q : Nat} {k : List Byte} {rest : List (List Byte)} (h : (qGet s q).packets = k :: rest) :
    (qGet (qPop s q).2 q).packets = rest := by
  simp only [qPop, h]
  rw [qGet_watermark_packets, qGet_qPut]

/-- The first queue of a list is picked where its head is not held. -/
theorem pickQueue_head {s : State} {p q : Nat} {k : List Byte} {rest : List (List Byte)} (h : (qGet s q).packets = k :: rest)
    (hheld : txHeld s p k = false) (qs : List Nat) : pickQueue p (q :: qs) s = (s, some (q, k)) := by
  simp [pickQueue, h, hheld]

/-- The frame asks for a timestamp that finds no free entry (R77). -/
def missesStamp (s : State) (p : Nat) (k : List Byte) : Bool := bitAt (byteOf k 2) 0 && decide (64 ≤ (tsGet s p).length)

/-- The block once a missed timestamp is counted, and a frame of a SYNC universe noted as carried. -/
def launchNoted (s : State) (p : Nat) (k : List Byte) : State :=
  let s1 := if missesStamp s p k then tsFull s p else s
  if leAt k 6 2 = 3 then sacnPut s1 p { sacnGet s1 p with carried := true } else s1

/-- The block with a frame taken from a queue on the wire of a port. -/
def txLaunched (s : State) (p q : Nat) (k : List Byte) (u : Time) : State :=
  ethEmit (ethPut (launchNoted s p k) p { ethGet (launchNoted s p k) p with sending := some (q, k, u, missesStamp s p k) }) p (q % 4) u
    (txFrame k u)

theorem launchNoted_changes (s : State) (p : Nat) (k : List Byte) : ChangesOnly [.tim, .wired, .log] s (launchNoted s p k) := by
  have hstamp : ChangesOnly [.tim, .wired, .log] s (if missesStamp s p k then tsFull s p else s) :=
    .ite ((tsFull_changes s p).mono (by decide)) (.refl _ s)
  exact .ite (hstamp.trans ((sacnPut_changes _ p _).mono (by decide))) hstamp

theorem txLaunched_que (s : State) (p q : Nat) (k : List Byte) (u : Time) : (txLaunched s p q k u).que = s.que :=
  (ethEmit_changes _ p _ u _ .que (by decide)).trans (launchNoted_changes s p k .que (by decide))

theorem sending_txLaunched (s : State) (p q : Nat) (k : List Byte) (u : Time) :
    (ethGet (txLaunched s p q k u) p).sending = some (q, k, u, missesStamp s p k) := by
  rw [txLaunched, ethGet_ethEmit, ethGet_ethPut]

/-- ETH_TX_FRAME_START of an idle port that may send, with a legal descriptor at the head of its priority 3 queue. -/
theorem exec_ethTxFrameStart {s : State} {p : Nat} {u : Time} {k : List Byte} {rest : List (List Byte)} (hsends : ethSends s p = true)
    (hidle : (ethGet s p).sending = none) (hown : (ethGet s p).ownPause = none) (hheld : (ethGet s p).syncHeld = none)
    (hpause : (ethGet s p).pauseEnd = none) (hquiet : quietNow s p u = false) (hup : (ethGet s p).up = true)
    (hhead : (qGet s (3 + 4 * p)).packets = k :: rest) (hfree : txHeld s p k = false) (hlegal : descFault (ethRec s p) k = none)
    (hsacn : isSacn k = true → transmits s = true) :
    exec (.ethTxFrameStart p u) s = .next (txLaunched (qPop (advance s u) (3 + 4 * p)).2 p (3 + 4 * p) k u) := by
  have hpick : pickQueue p ([3, 2, 1, 0].map (· + 4 * p)) (advance s u) = (advance s u, some (3 + 4 * p, k)) :=
    pickQueue_head (s := advance s u) hhead hfree _
  have hgo : ¬((!ethSends (advance s u) p) = true ∨ (ethGet s p).sending.isSome = true) := by
    rw [show ethSends (advance s u) p = true from hsends, hidle]
    decide
  have hkept : transmits (qPop (advance s u) (3 + 4 * p)).2 = transmits s := by
    rw [transmits, qPop_changes _ _ .frm (by decide), qPop_changes _ _ .dev (by decide)]
    rfl
  have hmay : ¬(isSacn k = true ∧ (!transmits (qPop (advance s u) (3 + 4 * p)).2) = true) := by
    rintro ⟨hk, hno⟩
    rw [hkept, hsacn hk] at hno
    cases hno
  have hport : ethGet (advance s u) p = ethGet s p := rfl
  have hquiet0 : ¬quietNow (advance s u) p u = true := ne_true_of_eq_false hquiet
  have hlegal0 : descFault (ethRec (advance s u) p) k = none := hlegal
  simp only [exec, execEthTxFrameStart, if_neg hgo, hport, hup, hown, hheld, hpause, if_true, Option.isSome_none, Bool.false_eq_true,
    if_false, Bool.not_true, if_neg hquiet0, hpick, if_neg hmay, hlegal0]
  rfl

/-! ### A frame ends (R266) -/

/-- The block with the frame on the wire of a port ended. -/
def txEnded (s : State) (p : Nat) (u a : Time) (k : List Byte) : State :=
  ethPut (advance s (max u (a + wireTime (ethRec s p) (max 60 (leAt k 4 2) + 4)))) p { ethGet s p with sending := none }

/-- ETH_TX_COMPLETE frees the port; a completion posted besides leaves the port alone, and a descriptor with NOTIFY alone posts one. -/
theorem exec_ethTxComplete {s : State} {p q : Nat} {a : Time} {k : List Byte} {miss : Bool} (hp : p < 2)
    (hsending : (ethGet s p).sending = some (q, k, a, miss)) (u : Time) :
    ∃ t, exec (.ethTxComplete p u) s = .next t ∧ t.eth = (txEnded s p u a k).eth
      ∧ (bitAt (byteOf k 2) 0 = false → bitAt (byteOf k 2) 2 = true → t.que.seq = (s.que.seq + 1) % 4294967296) := by
  have hdone (v : State) (st : Nat) (w : Time) : (ethDone v p k st w).eth = v.eth := ethDone_changes v p k st w .eth (by decide)
  simp only [exec, execEthTxComplete, hsending, if_neg (Nat.not_le.mpr hp)]
  split
  case isTrue hsilent =>
    refine ⟨_, rfl, rfl, fun hstamp hnotify => ?_⟩
    simp [hstamp, hnotify] at hsilent
  split
  · exact ⟨_, rfl, hdone _ _ _, fun _ _ => ethDone_seq _ _ _ _ _⟩
  split
  case isTrue hstamp =>
    split
    case h_1 =>
      refine ⟨_, rfl, (hdone _ _ _).trans ?_, fun hno => by simp [hno] at hstamp⟩
      split
      · rfl
      · exact watermark_changes _ _ .eth (by decide)
    case h_2 => exact ⟨_, rfl, hdone _ _ _, fun _ _ => ethDone_seq _ _ _ _ _⟩
  · exact ⟨_, rfl, hdone _ _ _, fun _ _ => ethDone_seq _ _ _ _ _⟩

/-! ### Link changes (R261) -/

/-- The port after its link went up or down; down, it drops its pauses. -/
def linkSet (x : EthState) (up : Bool) : EthState :=
  if up then { x with up := true } else { x with up := false, pauseEnd := none, ownPause := none, paused := false }

theorem linkSet_up (x : EthState) (up : Bool) : (linkSet x up).up = up := by cases up <;> rfl

/-- The block with a link change noted, logged and followed by the PTP ports. -/
def linkChanged (s : State) (p : Nat) (up : Bool) : State :=
  ptpDecide (logEv (ethPut s p (linkSet (ethGet s p) up)) (if up then 0x0802 else 0x0801) p 0 0) none

theorem exec_ethLinkChange {s : State} {p : Nat} {up : Bool} (hp : p < 2) (hup : (ethGet s p).up ≠ up)
    (hmode : modeOf (ethRec s p) ≠ 0) : exec (.ethLinkChange p up) s = .next (linkChanged s p up) := by
  have hgo : ¬(2 ≤ p ∨ (ethGet s p).up = up ∨ modeOf (ethRec s p) = 0) := by
    rintro (h | h | h)
    · exact absurd hp (Nat.not_lt.mpr h)
    · exact hup h
    · exact hmode h
  exact if_neg hgo

theorem ethGet_linkChanged (s : State) (p : Nat) (up : Bool) : ethGet (linkChanged s p up) p = linkSet (ethGet s p) up := by
  rw [linkChanged, ethGet_congr (ptpDecide_changes _ _ .eth (by decide)), ethGet_congr (logEv_changes _ _ _ _ _ .eth (by decide)), ethGet_ethPut]

theorem linkChanged_changes (s : State) (p : Nat) (up : Bool) : ChangesOnly [.tim, .eth, .log] s (linkChanged s p up) :=
  (((ethPut_changes s p _).mono (by decide)).trans ((logEv_changes _ _ _ _ _).mono (by decide))).trans
    ((ptpDecide_changes _ none).mono (by decide))

/-! ### A frame arrives (R267, R268) -/

section
variable {s : State} {p : Nat} {f : EthFrame} (hhears : ethHears s p = true)
include hhears

theorem exec_ethRxFrame_runt (hrunt : f.wireLen ≤ 63) (u : Time) :
    exec (.ethRxFrame p u f) s = .next (ethCount (advance s u) p 2) := by
  have hgo : ¬(!ethHears s p) = true := by simp [hhears]
  exact (if_neg hgo).trans (if_pos hrunt)

theorem exec_ethRxFrame_badFcs (hmin : 64 ≤ f.wireLen) (hmax : f.wireLen ≤ epMax (ethRec s p)) (hfcs : f.fcsGood = false) (u : Time) :
    exec (.ethRxFrame p u f) s = .next (ethCount (advance s u) p 3) := by
  have hgo : ¬(!ethHears s p) = true := by simp [hhears]
  have hbad : f.wireLen ≤ epMax (ethRec s p) ∧ (!f.fcsGood) = true := ⟨hmax, by rw [hfcs]; rfl⟩
  exact (if_neg hgo).trans ((if_neg (Nat.not_le.mpr hmin)).trans (if_pos hbad))

/-- A good frame within the size limits, to an address of the port, is counted and classified. -/
theorem exec_ethRxFrame_accepted (hmin : 64 ≤ f.wireLen) (hmax : f.wireLen ≤ epMax (ethRec s p)) (hfcs : f.fcsGood = true)
    (haddr : addrAccepted s p (beAt f.bytes 0 6) = true) (u : Time) :
    exec (.ethRxFrame p u f) s = .next (classify (ethCount (advance s u) p 1) p f u) := by
  have hgo : ¬(!ethHears s p) = true := by simp [hhears]
  have hgood : ¬(f.wireLen ≤ epMax (ethRec s p) ∧ (!f.fcsGood) = true) := by simp [hfcs]
  have htaken : ¬(!addrAccepted s p (beAt f.bytes 0 6)) = true := by simp [haddr]
  simp only [exec, execEthRxFrame, if_neg hgo, if_neg (Nat.not_le.mpr hmin), if_neg hgood, if_neg (Nat.not_lt.mpr hmax), if_neg htaken]

end

/-- A frame that is no MAC control, PTP, UDP or stream frame and is not for Zhotex goes to the filters. -/
theorem classify_plain {s : State} {p : Nat} {f : EthFrame} (htype : (viewOf f.bytes).etype ≠ 0x8808)
    (hptp : isPtp s p (viewOf f.bytes) = false) (hudp : (viewOf f.bytes).udpPort = none)
    (hstream : streamLayer s p (viewOf f.bytes) = none) (hzhotex : forZhotex s p (viewOf f.bytes) f.bytes = false) (u : Time) :
    classify s p f u = applyFilters s p false f f.bytes (viewOf f.bytes) u := by
  simp [classify, htype, hptp, hudp, hstream, hzhotex]

/-- A frame that no filter takes is steered to queue 0 where the default does not drop it. -/
theorem applyFilters_default {s : State} {p : Nat} {v : RxView}
    (hnone : ((List.range 64).find? fun i => filterTakes (s.cfg.row ethFilter (p * 64 + i)) v) = none)
    (hdefault : bitAt (ethRec s p) 11 = false) (big : Bool) (f : EthFrame) (bytes : List Byte) (u : Time) :
    applyFilters s p big f bytes v u = steer s p 0 0xFF big false f bytes v u := by
  simp [applyFilters, hnone, hdefault]

/-! ### A frame is steered (R270) -/

/-- The reception header of Table 11-5. -/
def rxHeader (p filter : Nat) (big stamped : Bool) (f : EthFrame) (n : Nat) (v : RxView) (u : Time) : List Byte :=
  let t0 := if stamped then u else 0
  leBytes 1 p ++ leBytes 1 (b2n big * 3 + b2n stamped * 4 + b2n v.tagged * 8) ++ leBytes 1 filter ++ leBytes 1 0 ++ leBytes 2 n
    ++ leBytes 2 (min 65535 f.wireLen) ++ leBytes 2 v.tci ++ leBytes 6 0 ++ leBytes 6 (t0 / sec) ++ leBytes 4 (t0 % sec / ns)
    ++ leBytes 2 (t0 % ns) ++ leBytes 4 0

/-- The entry of a received frame: its header, its bytes, and padding to a multiple of 8. -/
def rxEntry (p filter : Nat) (big stamped : Bool) (f : EthFrame) (bytes : List Byte) (v : RxView) (u : Time) : List Byte :=
  pad8 (rxHeader p filter big stamped f bytes.length v u ++ bytes)

section
variable (p filter : Nat) (big stamped : Bool) (f : EthFrame) (bytes : List Byte) (v : RxView) (u : Time)

theorem rxHeader_length (n : Nat) : (rxHeader p filter big stamped f n v u).length = 32 := by
  simp only [rxHeader, List.length_append, leBytes_length]

theorem rxEntry_length_le : (rxEntry p filter big stamped f bytes v u).length ≤ 40 + bytes.length := by
  simp only [rxEntry, pad8, List.length_append, rxHeader_length, List.length_replicate]
  omega

/-- Byte 0 of an entry is its port. -/
theorem rxEntry_port : byteOf (rxEntry p filter big stamped f bytes v u) 0 = p % 256 := rfl

/-- Behind its header an entry has the bytes of its frame. -/
theorem rxEntry_bytes : ((rxEntry p filter big stamped f bytes v u).drop 32).take bytes.length = bytes := by
  rw [rxEntry, pad8, List.append_assoc, List.drop_left' (rxHeader_length p filter big stamped f v u _), List.take_left]

end

theorem pauseCheck_changes (s : State) (p : Nat) : ChangesOnly [.eth] s (pauseCheck s p) :=
  .ite (.refl _ s) (.ite (ethPut_changes s p _) (.ite (ethPut_changes s p _) (.refl _ s)))

/-- A frame is steered by offering its entry to the queue. -/
theorem steer_eq (s : State) (p q filter : Nat) (big stamped : Bool) (f : EthFrame) (bytes : List Byte) (v : RxView) (u : Time) :
    steer s p q filter big stamped f bytes v u = pauseCheck (if (qOffer s (8 + 4 * p + q) (rxEntry p filter big stamped f bytes v u)).1
      then (qOffer s (8 + 4 * p + q) (rxEntry p filter big stamped f bytes v u)).2
      else ethCount (qOffer s (8 + 4 * p + q) (rxEntry p filter big stamped f bytes v u)).2 p (5 + q)) p := rfl

/-- A frame steered to a queue that has room for its entry is there after the others. -/
theorem packets_steer {s : State} {p q : Nat} {f : EthFrame} {bytes : List Byte} (hwaiting : (qGet s (8 + 4 * p + q)).waiting = [])
    (hroom : 40 + bytes.length ≤ qFree s (8 + 4 * p + q)) (filter : Nat) (big stamped : Bool) (v : RxView) (u : Time) :
    (qGet (steer s p q filter big stamped f bytes v u) (8 + 4 * p + q)).packets
      = (qGet s (8 + 4 * p + q)).packets ++ [rxEntry p filter big stamped f bytes v u] := by
  have hoffer : qOffer s (8 + 4 * p + q) (rxEntry p filter big stamped f bytes v u)
      = (true, qCommit s (8 + 4 * p + q) false (rxEntry p filter big stamped f bytes v u)) :=
    if_pos ⟨(rxEntry_length_le p filter big stamped f bytes v u).trans hroom, hwaiting⟩
  rw [steer_eq, hoffer, if_pos rfl, qGet_congr (pauseCheck_changes _ p .que (by decide)), qGet_qCommit_packets]

/-- Settles O45: each command takes its one branch, and what counters, completions, the recorder and the PTP ports do besides leaves the
port and its queues as told. -/
theorem ethernetTransmitsAndReceives : Obligations.EthernetTransmitsAndReceives := by
  unfold Obligations.EthernetTransmitsAndReceives
  refine ⟨?start, ?complete, ?link, ?checks, ?plain⟩
  case start =>
    intro s p u k rest hsends hidle hown hheld hpause hquiet hup hhead hfree hlegal hsacn
    refine ⟨_, _, exec_ethTxFrameStart hsends hidle hown hheld hpause hquiet hup hhead hfree hlegal hsacn, sending_txLaunched _ p _ k u, ?_⟩
    rw [qGet_congr (txLaunched_que _ p _ k u)]
    exact qGet_qPop_packets (s := advance s u) hhead
  case complete =>
    intro s p q u a k miss hp hsending
    obtain ⟨t, hexec, heth, hseq⟩ := exec_ethTxComplete hp hsending u
    refine ⟨t, hexec, ?_, fun hstamp _ hnotify => hseq hstamp hnotify⟩
    rw [ethGet_congr heth, txEnded, ethGet_ethPut]
  case link =>
    intro s p up hp hup hmode
    refine ⟨_, exec_ethLinkChange hp hup hmode, ?_, linkChanged_changes s p up⟩
    rw [ethGet_linkChanged, linkSet_up]
  case checks =>
    intro s p u f hhears
    exact ⟨fun hrunt => exec_ethRxFrame_runt hhears hrunt u, fun hmin hmax hfcs => exec_ethRxFrame_badFcs hhears hmin hmax hfcs u⟩
  case plain =>
    intro s p u f hhears hmin hmax hfcs haddr htype hptp hudp hstream hzhotex hnone hdefault hwaiting hroom
    refine ⟨_, _, exec_ethRxFrame_accepted hhears hmin hmax hfcs haddr u, ?_, rxEntry_port p 0xFF false false f f.bytes (viewOf f.bytes) u,
      rxEntry_bytes p 0xFF false false f f.bytes _ u⟩
    rw [classify_plain (s := ethCount (advance s u) p 1) htype hptp hudp hstream hzhotex u,
      applyFilters_default (s := ethCount (advance s u) p 1) hnone hdefault]
    exact packets_steer (s := ethCount (advance s u) p 1) (q := 0) hwaiting hroom _ _ _ _ u

end Sys2Proof.Machine
end

section
/-! PAUSE of a port's own (R274, R284): where PAUSE_REFRESH sends nothing, and O46. -/

namespace Sys2Proof.Machine

/-- PAUSE_REFRESH of a port none of whose receive queues is above its low watermark does nothing. -/
theorem exec_pauseRefresh_of_not_above {s : State} {p : Nat}
    (hfill : ∀ q ∈ rxQueues p, (markOf s q).1 * 256 ≤ byteAt (s.cfg.row queConfig q) 3 * (markOf s q).2) :
    exec (.pauseRefresh p) s = .next s := by
  refine if_neg ?_
  rintro ⟨-, -, -, -, habove⟩
  obtain ⟨q, hq, hlt⟩ := List.any_eq_true.mp habove
  exact absurd (of_decide_eq_true hlt) (Nat.not_lt.mpr (hfill q hq))

/-- A queue of 96 KiB that was HIGH and has drained to a fill of exactly its low watermark, 64 / 256 of its size: it is HIGH still (R284). -/
def drainedToLow : Queue := { Queue.empty with packets := List.replicate 16 (List.replicate 1536 0), high := true, crossings := 1 }

/-- READY, with PAUSE_TX set on ETH1, whose link is up and whose peer it has paused for its receive queue Q12. -/
def pausedAtLow : State :=
  let s : State := { State.reset with
    dev := { State.reset.dev with state := .ready }
    frm := { State.reset.frm with cur := Store.empty.setRow ethPort 1 (ethPortReset + 2 ^ 10) } }
  qPut (ethPut s 1 { EthState.empty with up := true, paused := true }) 12 drainedToLow

/-- Refutes O46: its PAUSE_REFRESH clause asks for a queue that is HIGH, and a queue stays HIGH at a fill equal to its low watermark (R284),
where it is not above it and nothing is sent again (R274). -/
theorem not_pauseIsKeptAndBroken : ¬ Obligations.PauseIsKeptAndBroken := by
  unfold Obligations.PauseIsKeptAndBroken
  rintro ⟨-, -, -, hrefresh, -⟩
  obtain ⟨t, hexec, hown, -⟩ := hrefresh pausedAtLow 1 (by decide) (by decide +kernel) rfl rfl (by decide +kernel)
  have hnothing : exec (.pauseRefresh 1) pausedAtLow = .next pausedAtLow := exec_pauseRefresh_of_not_above (by decide +kernel)
  obtain rfl : pausedAtLow = t := Host.Outcome.next.inj (hnothing.symm.trans hexec)
  exact Option.some_ne_none _ hown.symm

end Sys2Proof.Machine
end

section
/-! A flush of Ethernet TX Q3 (R266, R276, R286, R316): the completion of a flushed descriptor may leave its copy on Q3 itself, and O19. -/

namespace Sys2Proof.Machine

/-- QUEUE_FLUSH_DONE of a pending flush whose consumer stands at a boundary flushes the queue. -/
theorem exec_queueFlushDone_of_flushing {s : State} {q : Nat} (hflushing : (qGet s q).flushing = true)
    (hboundary : atBoundary s q = true) : exec (.queueFlushDone q) s = .next (flushQueue s q) :=
  congrArg Host.Outcome.next (if_pos ⟨hflushing, hboundary⟩)

/-- A key slot that may serve a session of tenant 0: VALID, AES-256, with SESSION usage (R426). -/
def sessionSlot : KeySlot := { KeySlot.empty with gen := 1, state := 1, ty := 2, usage := 2, key := List.replicate 32 0 }

/-- The record of session 1 of tenant 0 (Table 18-10): role MONITOR, keys in slots 16 and 17, ENABLE, NOTIFY_COPY, accepted on port 0. -/
def copyingSession : Nat := 1 + 3 * 2 ^ 40 + 16 * 2 ^ 48 + 17 * 2 ^ 64 + 7 * 2 ^ 80

/-- READY, with session 1 live and a flush pending of Q3, which holds one descriptor and for which no push waits. -/
def flushingBesideSession : State :=
  let s : State := { State.reset with
    dev := { State.reset.dev with state := .ready }
    imm := State.reset.imm.setRow secSession 0 copyingSession }
  qPut (refreshLive (slotPut (slotPut s 16 sessionSlot) 17 sessionSlot)) 3
    { Queue.empty with packets := [txPacket 0 0 (List.replicate 60 0)], flushing := true }

/-- The flush completes the discarded descriptor with FLUSHED, and the copy of that notification, a datagram of session 1 over port 0, is
committed to the emptied Q3 (R276, R316). -/
theorem packets_flushQueue_besideSession : (qGet (flushQueue flushingBesideSession 3) 3).packets ≠ [] := by decide +kernel

/-- Refutes O19: its QUEUE_FLUSH_DONE clause has every queue below Q28 empty after a flush for which no push waited, but each descriptor that
a flush of Q3 discards completes with FLUSHED (R266, R286), and a session with NOTIFY_COPY gets that notification over Q3 itself. -/
theorem not_queueRegisterCommands : ¬ Obligations.QueueRegisterCommands := by
  unfold Obligations.QueueRegisterCommands
  rintro ⟨-, -, -, hflush, -⟩
  have hflushing : (qGet flushingBesideSession 3).flushing = true := by decide +kernel
  have hwaiting : (qGet flushingBesideSession 3).waiting = [] := by decide +kernel
  have hboundary : atBoundary flushingBesideSession 3 = true := by decide +kernel
  obtain ⟨t, hexec, -, -, hempty, -⟩ := hflush flushingBesideSession 3 hflushing hboundary
  obtain rfl : flushQueue flushingBesideSession 3 = t :=
    Host.Outcome.next.inj ((exec_queueFlushDone_of_flushing hflushing hboundary).symm.trans hexec)
  exact packets_flushQueue_besideSession (hempty hwaiting (by decide)).1

end Sys2Proof.Machine
end

section
/-! Waiting commands and the fabric readings (R481, R482): the commands that move the device state leave both alone, or measure the margin
anew, and every other command leaves the vitals alone; with O1, O2, O3, O5 and O6. -/

namespace Sys2Proof.Machine

/-! ### What a command leaves of the waiting commands and the fabric readings -/

/-- The waiting commands and the fabric readings stay. -/
def Vitals.Kept (v w : Vitals) : Prop := w.pending = v.pending ∧ w.fab = v.fab

theorem Vitals.Kept.refl (v : Vitals) : v.Kept v := ⟨rfl, rfl⟩

theorem Vitals.Kept.trans {u v w : Vitals} (h : u.Kept v) (k : v.Kept w) : u.Kept w := ⟨k.1.trans h.1, k.2.trans h.2⟩

theorem Vitals.Kept.of_eq {v w : Vitals} (h : w = v) : v.Kept w := h ▸ .refl v

/-- The waiting commands stay, and the fabric readings either stay or come from a measurement, whose lowest margin is not above it. -/
def Vitals.Measured (v w : Vitals) : Prop :=
  w.pending = v.pending ∧ (w.fab = v.fab ∨ w.fab.min ≤ w.fab.margin ∧ w.fab.margin < 65536)

theorem Vitals.Kept.measured {v w : Vitals} (h : v.Kept w) : v.Measured w := ⟨h.1, .inl h.2⟩

theorem Vitals.Measured.kept {u v w : Vitals} (h : u.Measured v) (k : v.Kept w) : u.Measured w :=
  ⟨k.1.trans h.1, h.2.imp k.2.trans fun hm => by rwa [k.2]⟩

theorem Vitals.Kept.measuredAfter {u v w : Vitals} (h : u.Kept v) (k : v.Measured w) : u.Measured w :=
  ⟨k.1.trans h.1, k.2.imp_left fun e => e.trans h.2⟩

/-- A relation between a block's vitals and those of either branch is one to their choice. -/
theorem vitals_ite_of {P : Vitals → Prop} {c : Prop} [Decidable c] {s t : State} (h : c → P (vitals s)) (k : ¬c → P (vitals t)) :
    P (vitals (if c then s else t)) := by
  split
  next hc => exact h hc
  next hc => exact k hc

/-- A command goes on to a block whose vitals stand in a relation to those before it. -/
def GoesTo (R : Vitals → Vitals → Prop) (s : State) (o : Host.Outcome State Fault Refusal) : Prop :=
  ∃ t, o = .next t ∧ R (vitals s) (vitals t)

theorem GoesTo.next {R : Vitals → Vitals → Prop} {s t : State} (h : R (vitals s) (vitals t)) : GoesTo R s (.next t) := ⟨t, rfl, h⟩

theorem GoesTo.mono {R Q : Vitals → Vitals → Prop} (hr : ∀ v w, R v w → Q v w) {s : State} {o : Host.Outcome State Fault Refusal}
    (h : GoesTo R s o) : GoesTo Q s o := by
  obtain ⟨t, ht, hrt⟩ := h
  exact ⟨t, ht, hr _ _ hrt⟩

/-- A command that leaves the vitals alone. -/
theorem goesTo_of_vitals {s : State} {o : Host.Outcome State Fault Refusal} (h : vitalsOf o = some (vitals s)) :
    GoesTo Vitals.Kept s o := by
  rcases o with t | _ | _
  · exact .next (.of_eq (Option.some.inj h))
  all_goals cases h

/-! ### Moves that leave both alone -/

theorem enterSafe_kept (s : State) (c : Nat) : (vitals s).Kept (vitals (enterSafe s c)) := by
  rw [enterSafe_vitals]
  exact ⟨rfl, rfl⟩

theorem enterDusk_kept (s : State) (k : Nat) (last : Store × FrameOut × Nat) : (vitals s).Kept (vitals (enterDusk s k last)) := by
  rw [enterDusk_vitals]
  exact ⟨rfl, rfl⟩

theorem toStandby_kept (s : State) (dusk : Bool) : (vitals s).Kept (vitals (toStandby s dusk)) := by
  rw [toStandby_vitals]
  exact ⟨rfl, rfl⟩

theorem dawnFails_kept (s : State) (step code detail : Nat) : (vitals s).Kept (vitals (dawnFails s step code detail)) := by
  rw [dawnFails_vitals]
  exact ⟨rfl, rfl⟩

theorem dawnPasses_kept (s : State) : (vitals s).Kept (vitals (dawnPasses s)) := by
  obtain ⟨b, hb⟩ := dawnPasses_vitals s
  rw [hb]
  exact ⟨rfl, rfl⟩

theorem edgesUp_kept (s : State) : (vitals s).Kept (vitals (edgesUp s)) := by
  rcases edgesUp_vitals s with he | ⟨_, he⟩
  all_goals rw [he]; exact ⟨rfl, rfl⟩

theorem followFrom_kept (s : State) (k : Nat) (e : Time) : (vitals s).Kept (vitals (followFrom s k e)) := by
  rw [followFrom_vitals]
  exact ⟨rfl, rfl⟩

theorem latchFrame_kept (s : State) : (vitals s).Kept (vitals (latchFrame s)) := by
  rcases latchFrame_vitals s with he | he
  all_goals rw [he]; exact ⟨rfl, rfl⟩

theorem lateLatch_kept (s : State) : (vitals s).Kept (vitals (lateLatch s)) := by
  unfold lateLatch
  exact vitals_ite_of (P := (vitals s).Kept) (fun _ => (Vitals.Kept.of_eq (advance_vitals s _)).trans (latchFrame_kept _)) fun _ => .refl _

theorem beforeEdge_kept (s : State) : (vitals s).Kept (vitals (beforeEdge s)) := by
  have h := ((lateLatch_kept s).trans (lateLatch_kept _)).trans (lateLatch_kept _)
  exact h.trans (.of_eq (by simp [beforeEdge]))

theorem activate_kept (s : State) : (vitals s).Kept (vitals (activate s)) := by
  rw [activate_vitals]
  exact ⟨rfl, rfl⟩

/-- Another device state is entered. -/
theorem kept_to {s t : State} {x : DevState} (h : vitals t = { vitals s with state := x }) : (vitals s).Kept (vitals t) := by
  rw [h]
  exact ⟨rfl, rfl⟩

/-- A role taken moves the device state alone. -/
theorem roleEdge_kept (s : State) (k : Nat) : (vitals s).Kept (vitals (roleEdge s k)) := by
  unfold roleEdge
  split
  · dsimp only
    split
    · split
      · exact kept_to (x := .run) (by simp)
      · split
        · exact kept_to (x := .shadow) (by simp)
        · exact .of_eq (by simp)
    · exact .refl _
  · exact .refl _

theorem runEdge_kept (s : State) (f : Frame) : (vitals s).Kept (vitals (runEdge s f)) := by
  unfold runEdge
  dsimp only
  split
  · split
    · exact kept_to (x := .shadow) (by simp)
    · exact kept_to (x := .run) (by simp)
  · split
    · exact kept_to (x := .ready) (by simp [leaveRun])
    · exact .refl _

/-- The lease taken, given up or lost moves the device state alone. -/
theorem leaseEdge_kept (s : State) (k : Nat) : (vitals s).Kept (vitals (leaseEdge s k)) := by
  unfold leaseEdge
  split
  · exact .refl _
  · extract_lets _ _ taken cleared s1 s2 lost _
    have h1 : (vitals s).Kept (vitals s1) := by
      unfold s1
      split
      · split
        · exact kept_to (x := .run) (by simp [cleared, taken])
        · exact .refl _
      · exact .refl _
    have h2 : (vitals s1).Kept (vitals s2) := .of_eq (by simp [s2])
    split
    · exact h1
    · split
      · exact (h1.trans h2).trans (kept_to (x := .shadow) (by simp [giveUp]))
      · exact (h1.trans h2).trans (.of_eq (by simp))

theorem stateEdge_kept (s : State) (f : Frame) : (vitals s).Kept (vitals (stateEdge s f)) := by
  have h := ((leaseEdge_kept s f.num).trans (roleEdge_kept _ f.num)).trans (runEdge_kept _ f)
  unfold stateEdge
  simpa using h

theorem diag_kept (c : Caller) (r : Req) (s : State) : (vitals s).Kept (vitals (diag c r s).2) := by
  rcases diag_vitals c r s with he | ⟨_, he⟩
  all_goals rw [he]; exact ⟨rfl, rfl⟩

theorem handlerOf_kept (op : Nat) (c : Caller) (r : Req) (s : State) : (vitals s).Kept (vitals (handlerOf op c r s).2) := by
  by_cases ho : op = 0x30
  · subst ho
    exact diag_kept c r s
  · exact .of_eq (handlerOf_quiet ho c r s)

/-- Serving a request keeps what its handler keeps. -/
theorem serve_kept {handle : Caller → Req → State → Answer × State} (h : ∀ c r s, (vitals s).Kept (vitals (handle c r s).2)) (op : Nat)
    (r : Req) (s : State) : (vitals s).Kept (vitals (serve op handle r s)) :=
  serve_keeps (P := (vitals s).Kept) (fun c r u hu => hu.trans (h c r u)) op r (.refl _)

/-! ### The commands that move the device state without a dawn or an edge -/

theorem execVbatLoss_kept (s : State) : GoesTo Vitals.Kept s (execVbatLoss s) := .next ⟨rfl, rfl⟩

theorem execMainRailLoss_kept (t : Time) (s : State) : GoesTo Vitals.Kept s (execMainRailLoss t s) := by
  unfold execMainRailLoss
  refine .next (vitals_ite_of (P := (vitals s).Kept) (fun _ => ?_) fun _ => vitals_ite_of (P := (vitals s).Kept) (fun _ => ?_) fun _ => ?_)
  · exact (Vitals.Kept.of_eq (advance_vitals s t)).trans (toStandby_kept _ _)
  · exact ⟨rfl, rfl⟩
  · exact ⟨rfl, rfl⟩

theorem execHostLoadTimeout_kept (s : State) : GoesTo Vitals.Kept s (execHostLoadTimeout s) :=
  .next (vitals_ite_of (P := (vitals s).Kept) (fun _ => dawnFails_kept s _ _ _) fun _ => .refl _)

theorem execDuskEntry_kept (s : State) : GoesTo Vitals.Kept s (execDuskEntry s) := by
  have h (u : State) (hu : vitals u = vitals s) (k : Nat) (last : Store × FrameOut × Nat) :
      (vitals s).Kept (vitals (enterDusk u k last)) := (Vitals.Kept.of_eq hu).trans (enterDusk_kept u k last)
  unfold execDuskEntry
  refine .next (vitals_ite_of (P := (vitals s).Kept) (fun _ => .refl _) fun _ => ?_)
  refine vitals_ite_of (P := (vitals s).Kept) (fun _ => h s rfl _ _) fun _ => ?_
  refine vitals_ite_of (P := (vitals s).Kept) (fun _ => h _ ?_ _ _) fun _ => .refl _
  exact (vitals_mk rfl rfl rfl rfl rfl).trans (reachEdge_vitals s)

theorem execDuskComplete_kept (t : Time) (s : State) : GoesTo Vitals.Kept s (execDuskComplete t s) :=
  .next (vitals_ite_of (P := (vitals s).Kept) (fun _ => ⟨rfl, rfl⟩) fun _ => .of_eq (advance_vitals s t))

theorem execOvertemp_kept (s : State) : GoesTo Vitals.Kept s (execOvertemp s) :=
  .next (vitals_ite_of (P := (vitals s).Kept) (fun _ => enterSafe_kept s 5) fun _ => .refl _)

theorem execFrameLatch_kept (s : State) : GoesTo Vitals.Kept s (execFrameLatch s) := .next (lateLatch_kept s)

theorem execStkRoleDecide_kept (s : State) : GoesTo Vitals.Kept s (execStkRoleDecide s) := by
  refine .next (vitals_ite_of (P := (vitals s).Kept) (fun _ => ?_) fun _ => .refl _)
  refine vitals_ite_of (P := (vitals s).Kept) (fun _ => ⟨rfl, rfl⟩) fun _ => ?_
  exact Vitals.Kept.trans (.of_eq (by simp)) (edgesUp_kept _)

/-- What an EDGE message makes of the edges of a member. -/
theorem hearEdge_kept (s : State) (c : Prop) [Decidable c] (k : Nat) (e : Time) :
    (vitals s).Kept (vitals (if s.frm.running then (if c then placeNext s e else s)
      else if isMember s ∧ s.dev.state.live then followFrom s k e else s)) := by
  refine vitals_ite_of (P := (vitals s).Kept) (fun _ => ?_) fun _ => ?_
  · exact vitals_ite_of (P := (vitals s).Kept) (fun _ => .of_eq (placeNext_vitals s e)) fun _ => .refl _
  · exact vitals_ite_of (P := (vitals s).Kept) (fun _ => followFrom_kept s k e) fun _ => .refl _

theorem execEdgeReceived_kept (k : Nat) (e : Time) (holdover crcOk : Bool) (s : State) :
    GoesTo Vitals.Kept s (execEdgeReceived k e holdover crcOk s) := by
  have h (u : State) (hu : vitals u = vitals s) (c : Prop) [Decidable c] := (Vitals.Kept.of_eq hu).trans (hearEdge_kept u c k e)
  unfold execEdgeReceived
  refine .next (vitals_ite_of (P := (vitals s).Kept) (fun _ => .of_eq (by simp)) fun _ => ?_)
  refine vitals_ite_of (P := (vitals s).Kept) (fun _ => .refl _) fun _ => ?_
  refine vitals_ite_of (P := (vitals s).Kept) (fun _ => Vitals.Kept.trans (h _ ?_ _) (.of_eq (casTime_vitals _ _ _ _))) fun _ => h _ ?_ _
  all_goals simp

theorem execRelayRole_kept (h : RelayHdr) (role edge : Nat) (s : State) : GoesTo Vitals.Kept s (execRelayRole h role edge s) := by
  refine .next (vitals_ite_of (P := (vitals s).Kept) (fun _ => ?_) fun _ => .of_eq (by simp))
  refine vitals_ite_of (P := (vitals s).Kept) (fun _ => ?_) fun _ => .of_eq (by simp)
  exact Vitals.Kept.trans (.of_eq (by simp)) (roleEdge_kept _ _)

theorem execTamperEvent_kept (input : Nat) (t : Time) (s : State) : GoesTo Vitals.Kept s (execTamperEvent input t s) := by
  unfold execTamperEvent
  extract_lets s1 _ s2
  have h2 : vitals s2 = vitals s := (vitals_mk rfl rfl rfl rfl rfl).trans (advance_vitals s t)
  have h := (Vitals.Kept.of_eq h2).trans (enterSafe_kept s2 2)
  refine .next (vitals_ite_of (P := (vitals s).Kept) (fun _ => .of_eq (advance_vitals s t)) fun _ => ?_)
  clear_value s2
  split
  · exact h.trans (.of_eq (raise_vitals _ _))
  · exact (Vitals.Kept.of_eq h2).trans ⟨rfl, rfl⟩
  · exact .of_eq h2
  · exact .of_eq h2
  · exact .of_eq h2
  · exact h
  · exact h
  · exact h

theorem execSelftestFailure_kept (test : Nat) (noise : Bool) (s : State) : GoesTo Vitals.Kept s (execSelftestFailure test noise s) := by
  refine .next (vitals_ite_of (P := (vitals s).Kept) (fun _ => .refl _) fun _ => ?_)
  refine vitals_ite_of (P := (vitals s).Kept) (fun _ => ?_) fun _ => .of_eq (by simp)
  exact Vitals.Kept.trans (.of_eq (by simp)) (enterSafe_kept _ 3)

theorem execDiag_kept (r : Req) (s : State) : GoesTo Vitals.Kept s (execDiagStatus r s) := .next (serve_kept diag_kept 0x30 r s)

/-! ### Dawns and edges measure the margin -/

theorem toDawn_measured (s : State) : (vitals s).Measured (vitals (toDawn s)) := by
  have h : (vitals s).Measured (vitals (restart s)) := by
    rw [restart_vitals]
    exact ⟨rfl, .inr ⟨le_rfl, Nat.zero_lt_succ _⟩⟩
  exact h.kept (.of_eq (islandDawn_vitals _))

theorem wakeToDawn_measured (s : State) : (vitals s).Measured (vitals (wakeToDawn s)) := toDawn_measured _

theorem dawnD6_measured (s : State) (i : DawnIn) : (vitals s).Measured (vitals (dawnD6 s i)) := by
  rw [dawnD6_vitals]
  exact ⟨rfl, .inr ⟨le_rfl, Nat.mod_lt _ (by decide)⟩⟩

/-- MIN takes the lower of itself and the margin measured (R481). -/
theorem fabricEdge_measured (s : State) (m : Nat) (presented : Bool) : (vitals s).Measured (vitals (fabricEdge s m presented)) :=
  ⟨rfl, .inr ⟨Nat.min_le_right _ _, Nat.mod_lt _ (by decide)⟩⟩

/-- Of an edge at which the node goes on, the measurement comes last but for the calibration. -/
theorem edgeOn_measured (s : State) (f : Frame) (e : Time) (i : EdgeIn) : (vitals s).Measured (vitals (edgeOn s f e i)) := by
  unfold edgeOn
  extract_lets o shownO len xs s1 s2 s3 s4 s5 s6
  have h2 : (vitals s).Kept (vitals s2) := Vitals.Kept.trans (.of_eq (by simp [s1])) (stateEdge_kept _ f)
  have h6 : (vitals s).Kept (vitals s6) := h2.trans (.of_eq (by simp [s6, s5, s4, s3]))
  clear_value s6
  rw [calStartEdge_vitals, calEdge_vitals]
  exact h6.measuredAfter (fabricEdge_measured s6 _ _)

/-- A fallback in D3 begins another dawn, D6 measures the margin, and a dawn that fails or passes leaves the readings alone. -/
theorem execDawnEnd_measured (i : DawnIn) (s : State) : GoesTo Vitals.Measured s (execDawnEnd i s) := by
  have hf {u : State} (h : (vitals s).Measured (vitals u)) (n c d : Nat) : (vitals s).Measured (vitals (dawnFails u n c d)) :=
    h.kept (dawnFails_kept u n c d)
  have hs : (vitals s).Measured (vitals s) := (Vitals.Kept.refl _).measured
  unfold execDawnEnd
  refine .next (vitals_ite_of (P := (vitals s).Measured) (fun _ => hs) fun _ => ?_)
  extract_lets _ _ s0 given first b s6
  have h0 : (vitals s).Kept (vitals s0) := .of_eq (vitals_mk rfl rfl rfl rfl rfl)
  have hb : (vitals s).Kept (vitals b.1) := h0.trans (.of_eq (bootD3_vitals s0))
  have h6 : (vitals s).Measured (vitals s6) := hb.measuredAfter (dawnD6_measured b.1 i)
  clear_value s6 b first s0
  rcases first with _ | ⟨n, c, d⟩
  case some => exact hf h0.measured n c d
  generalize given 3 = g3
  rcases g3 with _ | ⟨c, d⟩
  case some => exact hf h0.measured 3 c d
  refine vitals_ite_of (P := (vitals s).Measured) (fun _ => hs) fun _ => ?_
  rcases b with ⟨u, _ | ⟨c, d⟩ | _⟩
  case bad => exact hf hb.measured 3 c d
  case again => exact hb.measuredAfter (toDawn_measured u)
  generalize firstSome (fun n => (given n).map fun x => (n, x)) [4, 5] = g5
  rcases g5 with _ | ⟨n, c, d⟩
  case some => exact hf hb.measured n c d
  generalize given 6 = g6
  rcases g6 with _ | ⟨c, d⟩
  case some => exact hf h6 6 c d
  refine vitals_ite_of (P := (vitals s).Measured) (fun _ => hf h6 _ _ _) fun _ => ?_
  generalize given 7 = g7
  rcases g7 with _ | ⟨c, d⟩
  case some => exact hf h6 7 c d
  exact h6.kept (dawnPasses_kept s6)

theorem execVbatRise_measured (s : State) : GoesTo Vitals.Measured s (execVbatRise s) := by
  unfold execVbatRise
  exact .next (vitals_ite_of (P := (vitals s).Measured) (fun _ => wakeToDawn_measured _) fun _ => ⟨rfl, .inl rfl⟩)

theorem execMainRailsInRange_measured (bootSrc : Nat) (stackEn safeSel : Bool) (s : State) :
    GoesTo Vitals.Measured s (execMainRailsInRange bootSrc stackEn safeSel s) := by
  unfold execMainRailsInRange
  exact .next (vitals_ite_of (P := (vitals s).Measured) (fun _ => wakeToDawn_measured _) fun _ => ⟨rfl, .inl rfl⟩)

theorem execResetNAssert_measured (t : Time) (s : State) : GoesTo Vitals.Measured s (execResetNAssert t s) := by
  unfold execResetNAssert
  extract_lets s1 s2 _ s3
  have h2 : vitals s2 = vitals s := by
    simp only [s2, vitals_ite, logEv_vitals, ite_self]
    exact advance_vitals s t
  have h3 : (vitals s).Kept (vitals s3) := .of_eq ((vitals_mk rfl rfl rfl rfl rfl).trans h2)
  clear_value s3
  refine .next (vitals_ite_of (P := (vitals s).Measured) (fun _ => ?_) fun _ => h3.measured)
  rw [restart_vitals]
  exact ⟨h3.1, .inr ⟨le_rfl, Nat.zero_lt_succ _⟩⟩

theorem execResetNRelease_measured (bootSrc : Nat) (stackEn safeSel : Bool) (s : State) :
    GoesTo Vitals.Measured s (execResetNRelease bootSrc stackEn safeSel s) := by
  unfold execResetNRelease
  refine .next (vitals_ite_of (P := (vitals s).Measured) (fun _ => ⟨rfl, .inl rfl⟩) fun _ => ?_)
  refine vitals_ite_of (P := (vitals s).Measured) (fun _ => toDawn_measured _) fun _ => ?_
  exact vitals_ite_of (P := (vitals s).Measured) (fun _ => wakeToDawn_measured _) fun _ => ⟨rfl, .inl rfl⟩

theorem execWakeEvent_measured (input : Nat) (rising : Bool) (heldMs rtcSec : Nat) (s : State) :
    GoesTo Vitals.Measured s (execWakeEvent input rising heldMs rtcSec s) := by
  unfold execWakeEvent
  refine .next (vitals_ite_of (P := (vitals s).Measured) (fun _ => ⟨rfl, .inl rfl⟩) fun _ => ?_)
  refine vitals_ite_of (P := (vitals s).Measured) (fun _ => wakeToDawn_measured s) fun _ => ?_
  exact vitals_ite_of (P := (vitals s).Measured) (fun _ => ⟨rfl, .inl rfl⟩) fun _ => ⟨rfl, .inl rfl⟩

theorem execSelectorWriteReset_measured (s : State) : GoesTo Vitals.Measured s (execSelectorWriteReset s) := by
  unfold execSelectorWriteReset
  exact .next (vitals_ite_of (P := (vitals s).Measured) (fun _ => ⟨rfl, .inl rfl⟩) fun _ => toDawn_measured _)

theorem execDiagRestart_measured (r : Req) (s : State) : GoesTo Vitals.Measured s (execDiagRestart r s) := by
  have h := serve_kept diag_kept 0x30 r s
  unfold execDiagRestart
  refine .next (vitals_ite_of (P := (vitals s).Measured) (fun _ => ?_) fun _ => h.measured)
  exact (h.trans (.of_eq (restartAnswer_vitals r _))).measuredAfter (toDawn_measured _)

theorem runRelayed_measured (op : Nat) (r : Req) (s : State) : (vitals s).Measured (vitals (runRelayed op r s)) := by
  have h := serve_kept (handlerOf_kept op) op r s
  unfold runRelayed
  refine vitals_ite_of (P := (vitals s).Measured) (fun _ => ?_) fun _ => (Vitals.Kept.of_eq (by simp)).measured
  exact vitals_ite_of (P := (vitals s).Measured) (fun _ => h.measuredAfter (toDawn_measured _)) fun _ => h.measured

theorem execRelayRequest_measured (h : RelayHdr) (op : Nat) (r : Req) (s : State) :
    GoesTo Vitals.Measured s (execRelayRequest h op r s) := by
  unfold execRelayRequest
  extract_lets s1 s2
  have h2 : (vitals s).Kept (vitals s2) := .of_eq (by simp [s2, s1])
  refine .next (vitals_ite_of (P := (vitals s).Measured) (fun _ => (Vitals.Kept.refl _).measured) fun _ => ?_)
  exact vitals_ite_of (P := (vitals s).Measured) (fun _ => h2.measuredAfter (runRelayed_measured op _ s2)) fun _ => h2.measured

theorem execFrameEdge_measured (i : EdgeIn) (s : State) : GoesTo Vitals.Measured s (execFrameEdge i s) := by
  unfold execFrameEdge
  refine .next ?_
  extract_lets s1 e k s2
  have h1 : (vitals s).Kept (vitals s1) := beforeEdge_kept s
  have h2 : (vitals s).Kept (vitals s2) := h1.trans (.of_eq (advance_vitals s1 e))
  have hd (u : State) (hu : vitals u = vitals s2) (k : Nat) (last : Store × FrameOut × Nat) :
      (vitals s).Measured (vitals (enterDusk u k last)) := ((h2.trans (.of_eq hu)).trans (enterDusk_kept u k last)).measured
  clear_value s2 s1
  refine vitals_ite_of (P := (vitals s).Measured) (fun _ => (Vitals.Kept.refl _).measured) fun _ => ?_
  refine vitals_ite_of (P := (vitals s).Measured) (fun _ => h1.measured) fun _ => ?_
  refine vitals_ite_of (P := (vitals s).Measured) (fun _ => h2.measuredAfter (toDawn_measured s2)) fun _ => ?_
  refine vitals_ite_of (P := (vitals s).Measured) (fun _ => ?_) fun _ => ?_
  · refine hd _ ?_ _ _
    exact vitals_mk rfl rfl rfl rfl rfl
  refine vitals_ite_of (P := (vitals s).Measured) (fun _ => (h2.trans (activate_kept s2)).measured) fun _ => ?_
  exact h2.measuredAfter (edgeOn_measured s2 _ _ i)

/-! ### Every command -/

/-- The commands that measure the margin or begin a dawn. -/
def Instr.measures : Instr → Bool
  | .frameEdge _ | .dawnEnd _ | .vbatRise | .mainRailsInRange .. | .resetNAssert _ | .resetNRelease .. | .wakeEvent .. | .diagRestart _
  | .selectorWriteReset | .relayRequest .. => true
  | _ => false

/-- Every command that neither measures the margin nor begins a dawn leaves the waiting commands and the readings alone. -/
theorem exec_kept (i : Instr) (s : State) (hi : Instr.measures i = false) : GoesTo Vitals.Kept s (exec i s) := by
  cases i with
  | vbatRise | mainRailsInRange | resetNAssert | resetNRelease | dawnEnd | wakeEvent | frameEdge | relayRequest | selectorWriteReset
    | diagRestart => cases hi
  | vbatLoss => exact execVbatLoss_kept s
  | mainRailLoss t => exact execMainRailLoss_kept t s
  | hostLoadTimeout => exact execHostLoadTimeout_kept s
  | duskEntry => exact execDuskEntry_kept s
  | duskComplete t => exact execDuskComplete_kept t s
  | overtemp => exact execOvertemp_kept s
  | frameLatch => exact execFrameLatch_kept s
  | stkRoleDecide => exact execStkRoleDecide_kept s
  | edgeReceived k e holdover crcOk => exact execEdgeReceived_kept k e holdover crcOk s
  | relayRole h role edge => exact execRelayRole_kept h role edge s
  | tamperEvent w t => exact execTamperEvent_kept w t s
  | selftestFailure test noise => exact execSelftestFailure_kept test noise s
  | diagStatus r => exact execDiag_kept r s
  | diagDusk r => exact execDiag_kept r s
  | diagRegRead r => exact execDiag_kept r s
  | _ => exact goesTo_of_vitals (by simp [exec])

/-- Every command goes on, leaves the waiting commands alone, and leaves the readings alone or measures them anew. -/
theorem exec_measured (i : Instr) (s : State) : GoesTo Vitals.Measured s (exec i s) := by
  cases hi : Instr.measures i with
  | false => exact (exec_kept i s hi).mono fun _ _ => Vitals.Kept.measured
  | true =>
    cases i with
    | vbatRise => exact execVbatRise_measured s
    | mainRailsInRange b k x => exact execMainRailsInRange_measured b k x s
    | resetNAssert t => exact execResetNAssert_measured t s
    | resetNRelease b k x => exact execResetNRelease_measured b k x s
    | dawnEnd d => exact execDawnEnd_measured d s
    | wakeEvent w rising heldMs rtcSec => exact execWakeEvent_measured w rising heldMs rtcSec s
    | frameEdge e => exact execFrameEdge_measured e s
    | relayRequest h op r => exact execRelayRequest_measured h op r s
    | selectorWriteReset => exact execSelectorWriteReset_measured s
    | diagRestart r => exact execDiagRestart_measured r s
    | _ => cases hi

/-! ### The statements -/

/-- Settles O5: the readings stay, or come from a measurement, which takes MIN as the lower of itself and NOW. -/
theorem stepKeepsMarginInvariant : Obligations.StepKeepsMarginInvariant := by
  unfold Obligations.StepKeepsMarginInvariant
  intro s t hs ht
  unfold step at ht
  split at ht
  next => cases ht; exact hs
  next i rest _ =>
    obtain ⟨u, hu, _, hf | hf⟩ := exec_measured i { s with pending := rest }
    all_goals rw [hu] at ht; cases ht
    · have hf : t.fab = s.fab := hf
      unfold MarginInv
      rwa [hf]
    · exact hf

/-- Settles O6: a command other than those listed keeps the readings with the rest of what the vitals show. -/
theorem fabricMarginChangesOnlyAtDawnAndEdges : Obligations.FabricMarginChangesOnlyAtDawnAndEdges := by
  unfold Obligations.FabricMarginChangesOnlyAtDawnAndEdges
  intro i s t ht hi
  have hm : Instr.measures i = false := by
    cases i with
    | vbatRise | mainRailsInRange | resetNAssert | resetNRelease | dawnEnd | wakeEvent | frameEdge | relayRequest | selectorWriteReset
      | diagRestart => exact hi.elim
    | _ => rfl
  obtain ⟨u, hu, _, hf⟩ := exec_kept i s hm
  rw [hu] at ht
  cases ht
  exact hf

/-- Settles O2: every command's outcome is a next state, and its vitals hold the waiting commands as they were. -/
theorem everyCommandGoesOn : Obligations.EveryCommandGoesOn := by
  unfold Obligations.EveryCommandGoesOn
  intro i s
  obtain ⟨t, ht, hp, _⟩ := exec_measured i s
  exact ⟨t, ht, hp⟩

/-- Settles O1: a step takes the front command off the queue and carries it out on the block with the rest. -/
theorem stepRunsFrontCommand : Obligations.StepRunsFrontCommand := by
  unfold Obligations.StepRunsFrontCommand
  constructor
  · intro c rest s
    rfl
  · intro s hs
    unfold step
    rw [hs]

/-- Settles O3: the block after reset is in no SAFE state, runs no edges and has not measured a margin. -/
theorem powerInvariantAtReset : Obligations.PowerInvariantAtReset := by
  unfold Obligations.PowerInvariantAtReset PowerInv MarginInv
  decide

end Sys2Proof.Machine
end

section
/-! SUPPORT. Frames by masking: a block with the listed parts masked is what a command that changes only these leaves alone, and the shared
operations leave a masked block as it is. A proof about a command's frame goes through these and unfolds no shared operation. -/

namespace Sys2Proof.Machine

/-! ### Masked blocks -/

/-- A block whose listed parts are as at reset: what it shows is the rest. -/
def masked (ps : List Part) (s : State) : State :=
  { pending := if Part.pending ∈ ps then State.reset.pending else s.pending
    dev := if Part.dev ∈ ps then State.reset.dev else s.dev
    tim := if Part.tim ∈ ps then State.reset.tim else s.tim
    frm := if Part.frm ∈ ps then State.reset.frm else s.frm
    con := if Part.con ∈ ps then State.reset.con else s.con
    src := if Part.src ∈ ps then State.reset.src else s.src
    fix := if Part.fix ∈ ps then State.reset.fix else s.fix
    wired := if Part.wired ∈ ps then State.reset.wired else s.wired
    ras := if Part.ras ∈ ps then State.reset.ras else s.ras
    drv := if Part.drv ∈ ps then State.reset.drv else s.drv
    rad := if Part.rad ∈ ps then State.reset.rad else s.rad
    eth := if Part.eth ∈ ps then State.reset.eth else s.eth
    que := if Part.que ∈ ps then State.reset.que else s.que
    host := if Part.host ∈ ps then State.reset.host else s.host
    ox := if Part.ox ∈ ps then State.reset.ox else s.ox
    stk := if Part.stk ∈ ps then State.reset.stk else s.stk
    red := if Part.red ∈ ps then State.reset.red else s.red
    eng := if Part.eng ∈ ps then State.reset.eng else s.eng
    sec := if Part.sec ∈ ps then State.reset.sec else s.sec
    upd := if Part.upd ∈ ps then State.reset.upd else s.upd
    log := if Part.log ∈ ps then State.reset.log else s.log
    cal := if Part.cal ∈ ps then State.reset.cal else s.cal
    sch := if Part.sch ∈ ps then State.reset.sch else s.sch
    fab := if Part.fab ∈ ps then State.reset.fab else s.fab
    imm := if Part.imm ∈ ps then State.reset.imm else s.imm
    free := if Part.free ∈ ps then State.reset.free else s.free
    out := if Part.out ∈ ps then State.reset.out else s.out }

/-- The masked block that a command leaves, where it goes on. -/
def maskedOf (ps : List Part) : Host.Outcome State Fault Refusal → Option State
  | .next t => some (masked ps t)
  | _ => none

@[simp] theorem maskedOf_next (ps : List Part) (t : State) : maskedOf ps (.next t) = some (masked ps t) := rfl

theorem ite_congr_of_or {α : Type} {c : Prop} [Decidable c] {d x y : α} (h : c ∨ y = x) : (if c then d else y) = if c then d else x := by
  split
  · rfl
  · next hc => exact h.resolve_left hc

/-- Blocks agree outside the listed parts exactly where they do so when these are masked. -/
theorem changesOnly_iff_masked {ps : List Part} {s t : State} : ChangesOnly ps s t ↔ masked ps t = masked ps s := by
  constructor
  · intro h
    have hp (p : Part) : p ∈ ps ∨ agree s t p := or_iff_not_imp_left.mpr (h p)
    simp only [masked, State.mk.injEq]
    exact ⟨ite_congr_of_or (hp .pending), ite_congr_of_or (hp .dev), ite_congr_of_or (hp .tim), ite_congr_of_or (hp .frm), ite_congr_of_or
      (hp .con), ite_congr_of_or (hp .src), ite_congr_of_or (hp .fix), ite_congr_of_or (hp .wired), ite_congr_of_or (hp .ras),
      ite_congr_of_or (hp .drv), ite_congr_of_or (hp .rad), ite_congr_of_or (hp .eth), ite_congr_of_or (hp .que), ite_congr_of_or
      (hp .host), ite_congr_of_or (hp .ox), ite_congr_of_or (hp .stk), ite_congr_of_or (hp .red), ite_congr_of_or (hp .eng),
      ite_congr_of_or (hp .sec), ite_congr_of_or (hp .upd), ite_congr_of_or (hp .log), ite_congr_of_or (hp .cal), ite_congr_of_or
      (hp .sch), ite_congr_of_or (hp .fab), ite_congr_of_or (hp .imm), ite_congr_of_or (hp .free), ite_congr_of_or (hp .out)⟩
  · intro h p hp
    simp only [masked, State.mk.injEq] at h
    cases p <;> simp_all [agree]

/-- New parts that agree with the block in what the mask shows. -/
@[simp] theorem masked_mk {ps : List Part} {s : State} {dev tim frm con src fix wired ras drv rad eth que host ox stk red eng sec upd log}
    {cal sch fab imm free out}
    (hdev : Part.dev ∈ ps ∨ dev = s.dev)
    (htim : Part.tim ∈ ps ∨ tim = s.tim)
    (hfrm : Part.frm ∈ ps ∨ frm = s.frm)
    (hcon : Part.con ∈ ps ∨ con = s.con)
    (hsrc : Part.src ∈ ps ∨ src = s.src)
    (hfix : Part.fix ∈ ps ∨ fix = s.fix)
    (hwired : Part.wired ∈ ps ∨ wired = s.wired)
    (hras : Part.ras ∈ ps ∨ ras = s.ras)
    (hdrv : Part.drv ∈ ps ∨ drv = s.drv)
    (hrad : Part.rad ∈ ps ∨ rad = s.rad)
    (heth : Part.eth ∈ ps ∨ eth = s.eth)
    (hque : Part.que ∈ ps ∨ que = s.que)
    (hhost : Part.host ∈ ps ∨ host = s.host)
    (hox : Part.ox ∈ ps ∨ ox = s.ox)
    (hstk : Part.stk ∈ ps ∨ stk = s.stk)
    (hred : Part.red ∈ ps ∨ red = s.red)
    (heng : Part.eng ∈ ps ∨ eng = s.eng)
    (hsec : Part.sec ∈ ps ∨ sec = s.sec)
    (hupd : Part.upd ∈ ps ∨ upd = s.upd)
    (hlog : Part.log ∈ ps ∨ log = s.log)
    (hcal : Part.cal ∈ ps ∨ cal = s.cal)
    (hsch : Part.sch ∈ ps ∨ sch = s.sch)
    (hfab : Part.fab ∈ ps ∨ fab = s.fab)
    (himm : Part.imm ∈ ps ∨ imm = s.imm)
    (hfree : Part.free ∈ ps ∨ free = s.free)
    (hout : Part.out ∈ ps ∨ out = s.out) :
    masked ps ⟨s.pending, dev, tim, frm, con, src, fix, wired, ras, drv, rad, eth, que, host, ox, stk, red, eng, sec, upd, log, cal, sch,
      fab, imm, free, out⟩ = masked ps s := by
  refine changesOnly_iff_masked.mp fun p hp => ?_
  cases p with
  | pending => rfl
  | dev => exact hdev.resolve_left hp
  | tim => exact htim.resolve_left hp
  | frm => exact hfrm.resolve_left hp
  | con => exact hcon.resolve_left hp
  | src => exact hsrc.resolve_left hp
  | fix => exact hfix.resolve_left hp
  | wired => exact hwired.resolve_left hp
  | ras => exact hras.resolve_left hp
  | drv => exact hdrv.resolve_left hp
  | rad => exact hrad.resolve_left hp
  | eth => exact heth.resolve_left hp
  | que => exact hque.resolve_left hp
  | host => exact hhost.resolve_left hp
  | ox => exact hox.resolve_left hp
  | stk => exact hstk.resolve_left hp
  | red => exact hred.resolve_left hp
  | eng => exact heng.resolve_left hp
  | sec => exact hsec.resolve_left hp
  | upd => exact hupd.resolve_left hp
  | log => exact hlog.resolve_left hp
  | cal => exact hcal.resolve_left hp
  | sch => exact hsch.resolve_left hp
  | fab => exact hfab.resolve_left hp
  | imm => exact himm.resolve_left hp
  | free => exact hfree.resolve_left hp
  | out => exact hout.resolve_left hp

section
variable {ps : List Part}

/-- A frame of the model's laws whose parts are masked leaves the masked block alone. -/
theorem ChangesOnly.masked {qs : List Part} {s t : State} (h : ChangesOnly qs s t) (hq : ∀ p ∈ qs, p ∈ ps) :
    masked ps t = masked ps s := changesOnly_iff_masked.mp (h.mono hq)

/-- A command that leaves the masked block alone changes only the masked parts. -/
theorem frames_of_masked {i : Instr} (h : ∀ s, maskedOf ps (exec i s) = some (Machine.masked ps s)) : Frames ps i := by
  intro s t ht
  have hs := h s
  rw [ht] at hs
  exact changesOnly_iff_masked.mpr (Option.some.inj hs)

@[simp] theorem masked_ite (c : Prop) [Decidable c] (s t : State) :
    masked ps (if c then s else t) = if c then masked ps s else masked ps t := apply_ite (masked ps) c s t

@[simp] theorem masked_ite_fst {α : Type} (c : Prop) [Decidable c] (x y : State × α) :
    masked ps (if c then x else y).1 = if c then masked ps x.1 else masked ps y.1 := apply_ite (fun z : State × α => masked ps z.1) c x y

@[simp] theorem masked_ite_snd {α : Type} (c : Prop) [Decidable c] (x y : α × State) :
    masked ps (if c then x else y).2 = if c then masked ps x.2 else masked ps y.2 := apply_ite (fun z : α × State => masked ps z.2) c x y

/-- A fold leaves the masked block alone whose steps do, on an accumulator that carries the block. -/
theorem foldl_masked_of {α β : Type} (g : β → State) {f : β → α → β} (h : ∀ a x, masked ps (g (f a x)) = masked ps (g a))
    (l : List α) (b : β) : masked ps (g (l.foldl f b)) = masked ps (g b) := by
  induction l generalizing b with
  | nil => rfl
  | cons x l ih => exact (ih (f b x)).trans (h b x)

@[simp] theorem foldl_masked {α : Type} {f : State → α → State} (h : ∀ a x, masked ps (f a x) = masked ps a) (l : List α) (s : State) :
    masked ps (l.foldl f s) = masked ps s := foldl_masked_of id h l s

/-! ### Time, output history and interrupt sources -/

@[simp] theorem emit_masked (s : State) (x : Sent) (hout : Part.out ∈ ps) : masked ps (emit s x) = masked ps s :=
  (emit_changes _ _).masked (by simp [*])

@[simp] theorem advance_masked (s : State) (t : Time) (htim : Part.tim ∈ ps) : masked ps (advance s t) = masked ps s :=
  (advance_changes _ _).masked (by simp [*])

@[simp] theorem takeFree_masked (s : State) (hfree : Part.free ∈ ps) : masked ps (takeFree s).2 = masked ps s := by simp [takeFree, *]

@[simp] theorem msixSend_masked (s : State) (v : Nat) (hhost : Part.host ∈ ps) (hout : Part.out ∈ ps) :
    masked ps (msixSend s v) = masked ps s :=
  (msixSend_changes _ _).masked (by simp [*])

@[simp] theorem raise_masked (s : State) (n : Nat) (hhost : Part.host ∈ ps) (hout : Part.out ∈ ps) : masked ps (raise s n) = masked ps s :=
  (raise_changes _ _).masked (by simp [*])

/-! ### Queues, cascade sending, notifications, the recorder, guarantees and transactions -/

@[simp] theorem qPut_masked (s : State) (q : Nat) (x : Queue) (hque : Part.que ∈ ps) : masked ps (qPut s q x) = masked ps s :=
  (qPut_changes _ _ _).masked (by simp [*])

@[simp] theorem watermark_masked (s : State) (q : Nat) (hque : Part.que ∈ ps) : masked ps (watermark s q) = masked ps s :=
  (watermark_changes _ _).masked (by simp [*])

@[simp] theorem qCommit_masked (s : State) (q : Nat) (hostSlot : Bool) (pkt : List Byte) (hque : Part.que ∈ ps) (hhost : Part.host ∈ ps)
    (hout : Part.out ∈ ps) :
    masked ps (qCommit s q hostSlot pkt) = masked ps s :=
  (qCommit_changes _ _ _ _).masked (by simp [*])

@[simp] theorem qPush_masked (s : State) (q : Nat) (hostSlot : Bool) (pkt : List Byte) (hque : Part.que ∈ ps) (hhost : Part.host ∈ ps)
    (hout : Part.out ∈ ps) :
    masked ps (qPush s q hostSlot pkt) = masked ps s :=
  (qPush_changes _ _ _ _).masked (by simp [*])

@[simp] theorem qResume_masked (s : State) (q : Nat) (hque : Part.que ∈ ps) (hhost : Part.host ∈ ps) (hout : Part.out ∈ ps) :
    masked ps (qResume s q) = masked ps s := (qResume_changes _ _).masked (by simp [*])

@[simp] theorem qResumeAll_masked (n : Nat) (s : State) (q : Nat) (hque : Part.que ∈ ps) (hhost : Part.host ∈ ps) (hout : Part.out ∈ ps) :
    masked ps (qResumeAll n s q) = masked ps s := by
  induction n generalizing s with
  | zero => rfl
  | succ n ih => simp [qResumeAll, *]

@[simp] theorem qDiscard_masked (s : State) (q : Nat) (hque : Part.que ∈ ps) : masked ps (qDiscard s q) = masked ps s := by
  simp [qDiscard, *]

@[simp] theorem qOffer_masked (s : State) (q : Nat) (pkt : List Byte) (hque : Part.que ∈ ps) (hhost : Part.host ∈ ps)
    (hout : Part.out ∈ ps) :
    masked ps (qOffer s q pkt).2 = masked ps s := by simp [qOffer, *]

@[simp] theorem qPop_masked (s : State) (q : Nat) (hque : Part.que ∈ ps) : masked ps (qPop s q).2 = masked ps s :=
  (qPop_changes _ _).masked (by simp [*])

@[simp] theorem casPut_masked (s : State) (p : Nat) (x : CasPort) (hstk : Part.stk ∈ ps) : masked ps (casPut s p x) = masked ps s :=
  (casPut_changes _ _ _).masked (by simp [*])

@[simp] theorem casClassPut_masked (s : State) (p c : Nat) (x : CasClass) (hstk : Part.stk ∈ ps) :
    masked ps (casClassPut s p c x) = masked ps s :=
  (casClassPut_changes _ _ _ _).masked (by simp [*])

@[simp] theorem casPump_masked (n : Nat) (s : State) (p c : Nat) (hstk : Part.stk ∈ ps) (hout : Part.out ∈ ps) :
    masked ps (casPump n s p c) = masked ps s :=
  (casPump_changes _ _ _ _).masked (by simp [*])

@[simp] theorem casQueue_masked (s : State) (p c : Nat) (l : List CasPacket) (hstk : Part.stk ∈ ps) (hout : Part.out ∈ ps) :
    masked ps (casQueue s p c l) = masked ps s :=
  (casQueue_changes _ _ _ _).masked (by simp [*])

@[simp] theorem casSend_masked (s : State) (p c dst : Nat) (m : List Byte) (hstk : Part.stk ∈ ps) (hout : Part.out ∈ ps) :
    masked ps (casSend s p c dst m) = masked ps s :=
  (casSend_changes _ _ _ _ _).masked (by simp [*])

@[simp] theorem casTook_masked (s : State) (p c len : Nat) (hstk : Part.stk ∈ ps) (hout : Part.out ∈ ps) :
    masked ps (casTook s p c len) = masked ps s := by simp [casTook, *]

@[simp] theorem casTime_masked (s : State) (p subtype : Nat) (body : List Byte) (hout : Part.out ∈ ps) :
    masked ps (casTime s p subtype body) = masked ps s :=
  (casTime_changes _ _ _ _).masked (by simp [*])

@[simp] theorem sendMb2_masked (s : State) (p n : Nat) (m : List Byte) (hque : Part.que ∈ ps) (hhost : Part.host ∈ ps)
    (hsec : Part.sec ∈ ps) (hout : Part.out ∈ ps) :
    masked ps (sendMb2 s p n m) = masked ps s :=
  (sendMb2_changes _ _ _ _).masked (by simp [*])

@[simp] theorem noteCopies_masked (l : List (Nat × Nat)) (s : State) (b : List Byte) (hque : Part.que ∈ ps) (hhost : Part.host ∈ ps)
    (hsec : Part.sec ∈ ps) (hout : Part.out ∈ ps) :
    masked ps (noteCopies l s b) = masked ps s :=
  (noteCopies_changes _ _ _).masked (by simp [*])

@[simp] theorem noteOut_masked (s : State) (pkt : List Byte) (hque : Part.que ∈ ps) (hhost : Part.host ∈ ps) (hstk : Part.stk ∈ ps)
    (hsec : Part.sec ∈ ps) (hout : Part.out ∈ ps) :
    masked ps (noteOut s pkt) = masked ps s :=
  (noteOut_changes _ _).masked (by simp [*])

@[simp] theorem notifyBytes_masked (s : State) (pkt : List Byte) (hque : Part.que ∈ ps) (hhost : Part.host ∈ ps) (hstk : Part.stk ∈ ps)
    (hsec : Part.sec ∈ ps) (hout : Part.out ∈ ps) :
    masked ps (notifyBytes s pkt) = masked ps s :=
  (notifyBytes_changes _ _).masked (by simp [*])

@[simp] theorem notifyAt_masked (s : State) (code : Nat) (t : Time) (body : List Byte) (hque : Part.que ∈ ps) (hhost : Part.host ∈ ps)
    (hstk : Part.stk ∈ ps) (hsec : Part.sec ∈ ps) (hout : Part.out ∈ ps) :
    masked ps (notifyAt s code t body) = masked ps s :=
  (notifyAt_changes _ _ _ _).masked (by simp [*])

@[simp] theorem notify_masked (s : State) (code : Nat) (body : List Byte) (hque : Part.que ∈ ps) (hhost : Part.host ∈ ps)
    (hstk : Part.stk ∈ ps) (hsec : Part.sec ∈ ps) (hout : Part.out ∈ ps) :
    masked ps (notify s code body) = masked ps s :=
  (notify_changes _ _ _).masked (by simp [*])

@[simp] theorem lossMarker_masked (s : State) (hque : Part.que ∈ ps) (hhost : Part.host ∈ ps) (hstk : Part.stk ∈ ps) (hsec : Part.sec ∈ ps)
    (hout : Part.out ∈ ps) :
    masked ps (lossMarker s) = masked ps s := by simp [lossMarker, *]

@[simp] theorem writeSlot_masked (s : State) (log slot : Nat) (r : List Byte) (hlog : Part.log ∈ ps) :
    masked ps (writeSlot s log slot r) = masked ps s :=
  (writeSlot_changes _ _ _ _).masked (by simp [*])

@[simp] theorem logCount_masked (s : State) (log k n : Nat) (hlog : Part.log ∈ ps) : masked ps (logCount s log k n) = masked ps s :=
  (logCount_changes _ _ _ _).masked (by simp [*])

@[simp] theorem repeatSlot_masked (s : State) (log slot : Nat) (hlog : Part.log ∈ ps) : masked ps (repeatSlot s log slot) = masked ps s :=
  (repeatSlot_changes _ _ _).masked (by simp [*])

@[simp] theorem writeEvent_masked (s : State) (log code sev flags p0 p1 p2 : Nat) (hlog : Part.log ∈ ps) :
    masked ps (writeEvent s log code sev flags p0 p1 p2) = masked ps s :=
  (writeEvent_changes _ _ _ _ _ _ _ _).masked (by simp [*])

@[simp] theorem putBucket_masked (s : State) (code : Nat) (b : Bucket) (hlog : Part.log ∈ ps) :
    masked ps (putBucket s code b) = masked ps s :=
  (putBucket_changes _ _ _).masked (by simp [*])

@[simp] theorem recordEvent_masked (s : State) (log code sev p0 p1 p2 : Nat) (hlog : Part.log ∈ ps) :
    masked ps (recordEvent s log code sev p0 p1 p2) = masked ps s :=
  (recordEvent_changes _ _ _ _ _ _ _).masked (by simp [*])

@[simp] theorem logEv_masked (s : State) (code p0 p1 p2 : Nat) (hlog : Part.log ∈ ps) : masked ps (logEv s code p0 p1 p2) = masked ps s :=
  (logEv_changes _ _ _ _ _).masked (by simp [*])

@[simp] theorem setCond_masked (s : State) (code obj : Nat) (b : Bool) (hlog : Part.log ∈ ps) :
    masked ps (setCond s code obj b) = masked ps s :=
  (setCond_changes _ _ _ _).masked (by simp [*])

@[simp] theorem logEntry_masked (s : State) (b : Bool) (code obj p0 p1 p2 : Nat) (hlog : Part.log ∈ ps) :
    masked ps (logEntry s b code obj p0 p1 p2) = masked ps s :=
  (logEntry_changes _ _ _ _ _ _ _).masked (by simp [*])

@[simp] theorem breakG_masked (s : State) (level code source n : Nat) (hque : Part.que ∈ ps) (hhost : Part.host ∈ ps)
    (hstk : Part.stk ∈ ps) (heng : Part.eng ∈ ps) (hsec : Part.sec ∈ ps) (hlog : Part.log ∈ ps) (hout : Part.out ∈ ps) :
    masked ps (breakG s level code source n) = masked ps s :=
  (breakG_changes _ _ _ _ _).masked (by simp [*])

@[simp] theorem restoreG_masked (s : State) (level code source : Nat) (heng : Part.eng ∈ ps) (hlog : Part.log ∈ ps) :
    masked ps (restoreG s level code source) = masked ps s := by
  simp [restoreG, *]

@[simp] theorem holdRewinds_masked (s : State) (x : AccTxn) (hcon : Part.con ∈ ps) : masked ps (holdRewinds s x) = masked ps s :=
  (holdRewinds_changes _ _).masked (by simp [*])

@[simp] theorem enlist_masked (s : State) (x : AccTxn) (hcon : Part.con ∈ ps) (hox : Part.ox ∈ ps) :
    masked ps (enlist s x) = masked ps s := (enlist_changes _ _).masked (by simp [*])

@[simp] theorem dropTxns_masked (s : State) (hfrm : Part.frm ∈ ps) (hcon : Part.con ∈ ps) (hox : Part.ox ∈ ps) (hstk : Part.stk ∈ ps) :
    masked ps (dropTxns s) = masked ps s := by simp [dropTxns, *]

/-! ### Frame edges and the lock loop -/

@[simp] theorem putFrame_masked (s : State) (f : Frame) (hfrm : Part.frm ∈ ps) : masked ps (putFrame s f) = masked ps s := by
  simp [putFrame, *]

@[simp] theorem renumber_masked (s : State) (d : Int) (hfrm : Part.frm ∈ ps) (hox : Part.ox ∈ ps) :
    masked ps (renumber s d) = masked ps s := by simp [renumber, *]

@[simp] theorem lockAt_masked (s : State) (p : Int) (hfrm : Part.frm ∈ ps) (hox : Part.ox ∈ ps) : masked ps (lockAt s p) = masked ps s := by
  simp [lockAt, *]

@[simp] theorem usePulse_masked (s : State) (t : Time) (hfrm : Part.frm ∈ ps) (hox : Part.ox ∈ ps) (hlog : Part.log ∈ ps) :
    masked ps (usePulse s t) = masked ps s := by
  unfold usePulse
  dsimp only
  repeat' split
  all_goals simp [*]

/-! ### Ingress rings and DMA -/

@[simp] theorem ringPut_masked (s : State) (i : Nat) (r : Ring) (hcon : Part.con ∈ ps) : masked ps (ringPut s i r) = masked ps s := by
  simp [ringPut, *]

@[simp] theorem ringCount_masked (s : State) (i k n : Nat) (hcon : Part.con ∈ ps) : masked ps (ringCount s i k n) = masked ps s := by
  simp [ringCount, *]

@[simp] theorem badEntry_masked (s : State) (i off : Nat) (hcon : Part.con ∈ ps) (hlog : Part.log ∈ ps) :
    masked ps (badEntry s i off) = masked ps s := by simp [badEntry, *]

@[simp] theorem overwrite_masked (s : State) (i limit : Nat) (hcon : Part.con ∈ ps) : masked ps (overwrite s i limit) = masked ps s := by
  simp [overwrite, *]

@[simp] theorem ringWrite_masked (s : State) (i : Nat) (e : Entry) (hcon : Part.con ∈ ps) (hque : Part.que ∈ ps) :
    masked ps (ringWrite s i e) = masked ps s := by simp [ringWrite, *]

@[simp] theorem ringOffer_masked (s : State) (i : Nat) (e : Entry) (hcon : Part.con ∈ ps) (hque : Part.que ∈ ps) :
    masked ps (ringOffer s i e) = masked ps s := by simp [ringOffer, *]

@[simp] theorem dmaDone_masked (s : State) (seq status : Nat) (hque : Part.que ∈ ps) (hhost : Part.host ∈ ps) (hstk : Part.stk ∈ ps)
    (hsec : Part.sec ∈ ps) (hout : Part.out ∈ ps) :
    masked ps (dmaDone s seq status) = masked ps s := by simp [dmaDone, *]

@[simp] theorem dmaFail_masked (s : State) (seq status : Nat) (hque : Part.que ∈ ps) (hhost : Part.host ∈ ps) (hstk : Part.stk ∈ ps)
    (hsec : Part.sec ∈ ps) (hout : Part.out ∈ ps) :
    masked ps (dmaFail s seq status) = masked ps s := by simp [dmaFail, *]

@[simp] theorem entryDone_masked (s : State) (e : Entry) (hque : Part.que ∈ ps) (hhost : Part.host ∈ ps) (hstk : Part.stk ∈ ps)
    (hsec : Part.sec ∈ ps) (hout : Part.out ∈ ps) :
    masked ps (entryDone s e) = masked ps s := by
  unfold entryDone
  split <;> simp [*]

@[simp] theorem sendStreams_masked (s : State) (e : Entry) (hstk : Part.stk ∈ ps) (hout : Part.out ∈ ps) :
    masked ps (sendStreams s e) = masked ps s := by simp [sendStreams, *]

@[simp] theorem passStream_masked (s : State) (stream : Nat) (m : List Byte) (hstk : Part.stk ∈ ps) (hout : Part.out ∈ ps) :
    masked ps (passStream s stream m) = masked ps s := by
  simp [passStream, *]

@[simp] theorem bar2Byte_masked (s : State) (x : Nat × Byte) (hcon : Part.con ∈ ps) : masked ps (bar2Byte s x) = masked ps s := by
  simp [bar2Byte, *]

@[simp] theorem bar2Take_masked (s : State) (pos : Nat) (hcon : Part.con ∈ ps) (hque : Part.que ∈ ps) (hstk : Part.stk ∈ ps)
    (hlog : Part.log ∈ ps) (hout : Part.out ∈ ps) :
    masked ps (bar2Take s pos) = masked ps s := by simp [bar2Take, *]

/-! ### PTP -/

@[simp] theorem ptpPush_masked (s : State) (port : Nat) (m : PtpMsg) (hque : Part.que ∈ ps) (hhost : Part.host ∈ ps) (hout : Part.out ∈ ps)
    :
    masked ps (ptpPush s port m) = masked ps s := by simp [ptpPush, *]

@[simp] theorem ptpOwn_masked (s : State) (port ty flags : Nat) (corr : Int) (body : List Byte) (htim : Part.tim ∈ ps)
    (hque : Part.que ∈ ps) (hhost : Part.host ∈ ps) (hout : Part.out ∈ ps) :
    masked ps (ptpOwn s port ty flags corr body).1 = masked ps s := by simp [ptpOwn, *]

@[simp] theorem ptpAwait_masked (s : State) (port : Nat) (x : PtpPending) (htim : Part.tim ∈ ps) :
    masked ps (ptpAwait s port x) = masked ps s := by
  simp [ptpAwait, *]

@[simp] theorem toHoldover_masked (s : State) (htim : Part.tim ∈ ps) : masked ps (toHoldover s) = masked ps s := by simp [toHoldover, *]

@[simp] theorem losesSource_masked (s : State) (htim : Part.tim ∈ ps) : masked ps (losesSource s) = masked ps s := by simp [losesSource, *]

@[simp] theorem toFree_masked (s : State) (htim : Part.tim ∈ ps) : masked ps (toFree s) = masked ps s := by simp [toFree, *]

@[simp] theorem ptpDecide_masked (s : State) (heardNone : Option Nat) (htim : Part.tim ∈ ps) :
    masked ps (ptpDecide s heardNone) = masked ps s := by
  simp [ptpDecide, *]

@[simp] theorem ptpMaster_masked (s : State) (p : Nat) (t : Time) (htim : Part.tim ∈ ps) (hque : Part.que ∈ ps) (hhost : Part.host ∈ ps)
    (hout : Part.out ∈ ps) :
    masked ps (ptpMaster s p t) = masked ps s := by simp [ptpMaster, *]

@[simp] theorem ptpSlave_masked (s : State) (p : Nat) (htim : Part.tim ∈ ps) (hque : Part.que ∈ ps) (hhost : Part.host ∈ ps)
    (hout : Part.out ∈ ps) :
    masked ps (ptpSlave s p) = masked ps s := by simp [ptpSlave, *]

@[simp] theorem ptpFollowUp_masked (s : State) (p tag : Nat) (t : Time) (htim : Part.tim ∈ ps) (hque : Part.que ∈ ps)
    (hhost : Part.host ∈ ps) (hout : Part.out ∈ ps) :
    masked ps (ptpFollowUp s p tag t) = masked ps s := by
  unfold ptpFollowUp
  dsimp only
  split <;> simp [*]

/-! ### Device time, TOUT, TIN and alarms -/

@[simp] theorem loadRtc_masked (s : State) (t : Time) (htim : Part.tim ∈ ps) : masked ps (loadRtc s t) = masked ps s := by
  simp [loadRtc, *]

@[simp] theorem takeSample_masked (s : State) (o fine : Int) (interval : Nat) (htim : Part.tim ∈ ps) (hlog : Part.log ∈ ps) :
    masked ps (takeSample s o fine interval) = masked ps s := by simp [takeSample, *]

@[simp] theorem tsFull_masked (s : State) (p : Nat) (htim : Part.tim ∈ ps) (hlog : Part.log ∈ ps) : masked ps (tsFull s p) = masked ps s := by
  simp [tsFull, *]

@[simp] theorem toutPut_masked (s : State) (n : Nat) (x : ToutState) (htim : Part.tim ∈ ps) : masked ps (toutPut s n x) = masked ps s := by
  simp [toutPut, *]

@[simp] theorem toutBegin_masked (s : State) (htim : Part.tim ∈ ps) : masked ps (toutBegin s) = masked ps s :=
  foldl_masked (fun a n => toutPut_masked a n _ htim) _ s

@[simp] theorem alarmBegin_masked (s : State) (htim : Part.tim ∈ ps) : masked ps (alarmBegin s) = masked ps s := by simp [alarmBegin, *]

@[simp] theorem timedBegin_masked (s : State) (htim : Part.tim ∈ ps) : masked ps (timedBegin s) = masked ps s := by
  unfold timedBegin
  rw [alarmBegin_masked _ htim, toutBegin_masked _ htim]

@[simp] theorem tinPut_masked (s : State) (n : Nat) (x : TinState) (htim : Part.tim ∈ ps) : masked ps (tinPut s n x) = masked ps s := by
  simp [tinPut, *]

@[simp] theorem tinDrain_masked (n k : Nat) (s : State) (htim : Part.tim ∈ ps) (hque : Part.que ∈ ps) (hhost : Part.host ∈ ps)
    (hstk : Part.stk ∈ ps) (hsec : Part.sec ∈ ps) (hout : Part.out ∈ ps) :
    masked ps (tinDrain n k s) = masked ps s := by
  induction k generalizing s with
  | zero => rfl
  | succ k ih =>
    unfold tinDrain
    split <;> simp [*]

@[simp] theorem afterQ28_masked (s : State) (htim : Part.tim ∈ ps) (hque : Part.que ∈ ps) (hhost : Part.host ∈ ps) (hstk : Part.stk ∈ ps)
    (hsec : Part.sec ∈ ps) (hout : Part.out ∈ ps) :
    masked ps (afterQ28 s) = masked ps s :=
  (foldl_masked (fun a n => tinDrain_masked n 16 a htim hque hhost hstk hsec hout) _ _).trans
    (lossMarker_masked s hque hhost hstk hsec hout)

/-! ### Level sources -/

@[simp] theorem catchUp_masked (s : State) (upTo : Time) (hsrc : Part.src ∈ ps) : masked ps (catchUp s upTo) = masked ps s := by
  simp [catchUp, *]

@[simp] theorem holdCheck_masked (s : State) (hsrc : Part.src ∈ ps) : masked ps (holdCheck s) = masked ps s := by simp [holdCheck, *]

@[simp] theorem solarLog_masked (s : State) (date : Nat) (hsrc : Part.src ∈ ps) (hlog : Part.log ∈ ps) :
    masked ps (solarLog s date) = masked ps s := by simp [solarLog, *]

@[simp] theorem solarShown_masked (s : State) (x : Option Int) (hfree : Part.free ∈ ps) : masked ps (solarShown s x).2 = masked ps s := by
  unfold solarShown
  split <;> simp [*]

/-! ### The computation of a frame -/

@[simp] theorem computeFrame_masked (s : State) (f : Frame) (hsrc : Part.src ∈ ps) (hfix : Part.fix ∈ ps) (hlog : Part.log ∈ ps) :
    masked ps (computeFrame s f).1 = masked ps s := by
  unfold computeFrame
  dsimp only
  refine ((changes_fix _ _).masked (by simp [*])).trans ?_
  exact foldl_masked_of Prod.fst (fun a x => by simp [*]) _ (s, FrameOut.empty)

/-! ### Strand pins, DMX512-A and DALI -/

@[simp] theorem dmxPut_masked (s : State) (p : Nat) (x : DmxState) (hwired : Part.wired ∈ ps) : masked ps (dmxPut s p x) = masked ps s := by
  simp [dmxPut, *]

@[simp] theorem dmxCount_masked (s : State) (p k : Nat) (hwired : Part.wired ∈ ps) : masked ps (dmxCount s p k) = masked ps s := by
  simp [dmxCount, *]

@[simp] theorem rdmEnd_masked (s : State) (port : Nat) (f : RdmFlight) (status ty : Nat) (pd : List Byte) (hwired : Part.wired ∈ ps)
    (hque : Part.que ∈ ps) (hhost : Part.host ∈ ps) (hstk : Part.stk ∈ ps) (hsec : Part.sec ∈ ps) (hout : Part.out ∈ ps) :
    masked ps (rdmEnd s port f status ty pd) = masked ps s := by
  unfold rdmEnd
  split <;> simp [*]

@[simp] theorem rdmBegin_masked (s : State) (port : Nat) (t : Time) (f : RdmFlight) (y : DmxState) (hwired : Part.wired ∈ ps)
    (hout : Part.out ∈ ps) :
    masked ps (rdmBegin s port t f y) = masked ps s := by simp [rdmBegin, *]

@[simp] theorem rdmFail_masked (s : State) (port : Nat) (f : RdmFlight) (counter status : Nat) (hwired : Part.wired ∈ ps)
    (hque : Part.que ∈ ps) (hhost : Part.host ∈ ps) (hstk : Part.stk ∈ ps) (hsec : Part.sec ∈ ps) (hout : Part.out ∈ ps) :
    masked ps (rdmFail s port f counter status) = masked ps s := by simp [rdmFail, *]

@[simp] theorem orFault_masked (s : State) (fixture mask : Nat) (hsrc : Part.src ∈ ps) :
    masked ps (orFault s fixture mask) = masked ps s := by simp [orFault, *]

@[simp] theorem setTemp_masked (s : State) (fixture : Nat) (t : Int) (hsrc : Part.src ∈ ps) :
    masked ps (setTemp s fixture t) = masked ps s := by
  simp [setTemp, *]

@[simp] theorem pollResult_masked (s : State) (d : Nat × Nat) (pd : List Byte) (hsrc : Part.src ∈ ps) :
    masked ps (pollResult s d pd) = masked ps s := by
  simp [pollResult, *]

@[simp] theorem daliPut_masked (s : State) (b : Nat) (x : DaliState) (hwired : Part.wired ∈ ps) :
    masked ps (daliPut s b x) = masked ps s := by simp [daliPut, *]

@[simp] theorem daliCount_masked (s : State) (b k : Nat) (hwired : Part.wired ∈ ps) : masked ps (daliCount s b k) = masked ps s := by
  simp [daliCount, *]

@[simp] theorem daliOut_masked (s : State) (b v : Nat) (x : DaliState) (hwired : Part.wired ∈ ps) (hout : Part.out ∈ ps) :
    masked ps (daliOut s b v x) = masked ps s := by simp [daliOut, *]

@[simp] theorem dalReply_masked (s : State) (b result value : Nat) (hque : Part.que ∈ ps) (hhost : Part.host ∈ ps) (hstk : Part.stk ∈ ps)
    (hsec : Part.sec ∈ ps) (hout : Part.out ∈ ps) :
    masked ps (dalReply s b result value) = masked ps s := by
  simp [dalReply, *]

@[simp] theorem daliQuery_masked (s : State) (b a from_ : Nat) (hwired : Part.wired ∈ ps) (hout : Part.out ∈ ps) :
    masked ps (daliQuery s b a from_) = masked ps s := by simp [daliQuery, *]

@[simp] theorem allFault_masked (s : State) (x : Nat × Nat) (hsrc : Part.src ∈ ps) : masked ps (allFault s x) = masked ps s := by
  simp [allFault, *]

/-! ### Raster ports -/

@[simp] theorem rasPut_masked (s : State) (p : Nat) (x : RasterState) (hras : Part.ras ∈ ps) : masked ps (rasPut s p x) = masked ps s := by
  simp [rasPut, *]

@[simp] theorem rasCount_masked (s : State) (p k : Nat) (hras : Part.ras ∈ ps) : masked ps (rasCount s p k) = masked ps s := by
  simp [rasCount, *]

@[simp] theorem rasUnder_masked (s : State) (p y : Nat) (own : Bool) (hras : Part.ras ∈ ps) (hlog : Part.log ∈ ps) :
    masked ps (rasUnder s p y own) = masked ps s := by
  simp [rasUnder, *]

@[simp] theorem rasSend_masked (s : State) (p idle : Nat) (blocks : List (Bool × List Byte)) (hras : Part.ras ∈ ps) (hout : Part.out ∈ ps)
    :
    masked ps (rasSend s p idle blocks) = masked ps s := by simp [rasSend, *]

@[simp] theorem phaseStep_masked (s : State) (p : Nat) (forward : Bool) (hras : Part.ras ∈ ps) :
    masked ps (phaseStep s p forward) = masked ps s := by
  simp [phaseStep, *]

@[simp] theorem rasFetch_masked (s : State) (p : Nat) (hras : Part.ras ∈ ps) : masked ps (rasFetch s p) = masked ps s := by
  simp [rasFetch, *]

/-! ### Direct drive, the matrix and lamp diagnosis -/

@[simp] theorem pointPut_masked (s : State) (p : Nat) (x : Point) (hdrv : Part.drv ∈ ps) : masked ps (pointPut s p x) = masked ps s := by
  simp [pointPut, *]

@[simp] theorem pinPut_masked (s : State) (ch : Nat) (x : Pin) (hdrv : Part.drv ∈ ps) : masked ps (pinPut s ch x) = masked ps s := by
  simp [pinPut, *]

@[simp] theorem drvCount_masked (s : State) (k : Nat) (hdrv : Part.drv ∈ ps) : masked ps (drvCount s k) = masked ps s := by
  simp [drvCount, *]

@[simp] theorem pointActive_masked (s : State) (p : Nat) (rise active : Time) (probe : Bool) (hdrv : Part.drv ∈ ps) :
    masked ps (pointActive s p rise active probe) = masked ps s := by simp [pointActive, *]

@[simp] theorem mxCut_masked (s : State) (t : Time) (hdrv : Part.drv ∈ ps) : masked ps (mxCut s t) = masked ps s := by simp [mxCut, *]

@[simp] theorem mxSwap_masked (s : State) (m : SMap Nat) (t : Time) (hdrv : Part.drv ∈ ps) : masked ps (mxSwap s m t) = masked ps s := by
  simp [mxSwap, *]

@[simp] theorem probesIn_masked (s : State) (hdrv : Part.drv ∈ ps) : masked ps (probesIn s) = masked ps s := by simp [probesIn, *]

@[simp] theorem lampPush_masked (s : State) (p : Nat) (rep : List Byte) (hdrv : Part.drv ∈ ps) (hque : Part.que ∈ ps)
    (hhost : Part.host ∈ ps) (hout : Part.out ∈ ps) :
    masked ps (lampPush s p rep) = masked ps s := by
  unfold lampPush
  dsimp only
  split <;> simp [*]

@[simp] theorem afterQ29_masked (s : State) (hdrv : Part.drv ∈ ps) (hque : Part.que ∈ ps) (hhost : Part.host ∈ ps) (hout : Part.out ∈ ps) :
    masked ps (afterQ29 s) = masked ps s := by
  refine foldl_masked (fun a x => ?_) _ s
  split <;> simp [*]

@[simp] theorem lampVerdict_masked (s : State) (p new prev : Nat) (byProbe : Bool) (t : Time) (hsrc : Part.src ∈ ps) (hdrv : Part.drv ∈ ps)
    (hque : Part.que ∈ ps) (hhost : Part.host ∈ ps) (hlog : Part.log ∈ ps) (hout : Part.out ∈ ps) :
    masked ps (lampVerdict s p new prev byProbe t) = masked ps s := by simp [lampVerdict, *]

@[simp] theorem measure_masked (s : State) (p k : Nat) (probe : Bool) (t : Time) (hsrc : Part.src ∈ ps) (hdrv : Part.drv ∈ ps)
    (hque : Part.que ∈ ps) (hhost : Part.host ∈ ps) (hlog : Part.log ∈ ps) (hout : Part.out ∈ ps) :
    masked ps (measure s p k probe t) = masked ps s := by
  simp [measure, *]

@[simp] theorem placeProbe_masked (s : State) (p : Nat) (hdrv : Part.drv ∈ ps) : masked ps (placeProbe s p) = masked ps s := by
  simp [placeProbe, *]

/-! ### Delay lines and their calibration -/

@[simp] theorem linePut_masked (s : State) (n : Nat) (x : Line) (hcal : Part.cal ∈ ps) : masked ps (linePut s n x) = masked ps s := by
  simp [linePut, *]

@[simp] theorem calCount_masked (s : State) (k n : Nat) (hcal : Part.cal ∈ ps) : masked ps (calCount s k n) = masked ps s := by
  simp [calCount, *]

@[simp] theorem calPosPut_masked (s : State) (g p : Nat) (hcal : Part.cal ∈ ps) : masked ps (calPosPut s g p) = masked ps s := by
  simp [calPosPut, *]

@[simp] theorem groupBegin_masked (s : State) (g : Nat) (hcal : Part.cal ∈ ps) : masked ps (groupBegin s g) = masked ps s := by
  unfold groupBegin
  dsimp only
  repeat' split
  all_goals simp [*]

@[simp] theorem calBegin_masked (s : State) (hcal : Part.cal ∈ ps) : masked ps (calBegin s) = masked ps s := by simp [calBegin, *]

@[simp] theorem calStartPass_masked (s : State) (hcal : Part.cal ∈ ps) : masked ps (calStartPass s) = masked ps s := by
  simp [calStartPass, *]

@[simp] theorem calResult_masked (s : State) (n : Nat) (attempts : List Bool) (hcal : Part.cal ∈ ps) :
    masked ps (calResult s n attempts) = masked ps s := by
  simp [calResult, *]

/-! ### Radio medium access -/

@[simp] theorem radPut_masked (s : State) (p : Nat) (x : RadioPort) (hrad : Part.rad ∈ ps) : masked ps (radPut s p x) = masked ps s :=
  (radPut_changes _ _ _).masked (by simp [*])

@[simp] theorem radCount_masked (s : State) (p k n : Nat) (hrad : Part.rad ∈ ps) : masked ps (radCount s p k n) = masked ps s :=
  (radCount_changes _ _ _ _).masked (by simp [*])

@[simp] theorem neighPut_masked (s : State) (i : Nat) (x : Neigh) (hrad : Part.rad ∈ ps) : masked ps (neighPut s i x) = masked ps s := by
  simp [neighPut, *]

@[simp] theorem keyStale_masked (s : State) (p key : Nat) (hrad : Part.rad ∈ ps) (hlog : Part.log ∈ ps) :
    masked ps (keyStale s p key) = masked ps s := by simp [keyStale, *]

@[simp] theorem charge_masked (s : State) (band second time : Nat) (hrad : Part.rad ∈ ps) :
    masked ps (charge s band second time) = masked ps s := by
  simp [charge, *]

@[simp] theorem useFc_masked (s : State) (key : Nat) (hrad : Part.rad ∈ ps) : masked ps (useFc s key) = masked ps s := by simp [useFc, *]

@[simp] theorem bookFault_masked (s : State) (p : Nat) (o : Offer) (fault : Nat) (hrad : Part.rad ∈ ps) (hlog : Part.log ∈ ps) :
    masked ps (bookFault s p o fault) = masked ps s := by
  simp [bookFault, *]

@[simp] theorem firstTx_masked (p : Nat) (n : Int) (l : List (Nat × Nat)) (s : State) (hrad : Part.rad ∈ ps) (hlog : Part.log ∈ ps) :
    masked ps (firstTx p n l s).1 = masked ps s := by
  induction l generalizing s with
  | nil => rfl
  | cons x l ih =>
    unfold firstTx
    repeat' split
    all_goals simp [*]

@[simp] theorem countBeacons_masked (s : State) (p : Nat) (cells : List (Nat × Nat)) (hrad : Part.rad ∈ ps) :
    masked ps (countBeacons s p cells) = masked ps s := by simp [countBeacons, *]

@[simp] theorem chooseCell_masked (s : State) (p : Nat) (n : Int) (hrad : Part.rad ∈ ps) (hlog : Part.log ∈ ps) :
    masked ps (chooseCell s p n).1 = masked ps s := by
  have h := firstTx_masked p n ((activeCells s p n).filter fun x => bitAt x.2 24) s hrad hlog
  unfold chooseCell
  dsimp only
  split
  next he => rw [he] at h; simp [*]
  next he => rw [he] at h; simp [*]

@[simp] theorem runScript_masked (s : State) (p first channel : Nat) (psdu : List Byte) (hout : Part.out ∈ ps) :
    masked ps (runScript s p first channel psdu) = masked ps s := by simp [runScript, *]

@[simp] theorem txDone_masked (s : State) (p status handle : Nat) (hque : Part.que ∈ ps) (hhost : Part.host ∈ ps) (hstk : Part.stk ∈ ps)
    (hsec : Part.sec ∈ ps) (hout : Part.out ∈ ps) :
    masked ps (txDone s p status handle) = masked ps s := by
  simp [txDone, *]

@[simp] theorem afterTx_masked (s : State) (p : Nat) (x : Slot) (hrad : Part.rad ∈ ps) (hque : Part.que ∈ ps) (hhost : Part.host ∈ ps)
    (hstk : Part.stk ∈ ps) (heng : Part.eng ∈ ps) (hsec : Part.sec ∈ ps) (hlog : Part.log ∈ ps) (hout : Part.out ∈ ps) :
    masked ps (afterTx s p x) = masked ps s := by
  unfold afterTx
  split <;> simp [*]

/-! ### Radio luminaires, neighbours and reception -/

@[simp] theorem sendAck_masked (s : State) (p nb : Nat) (h : HeardFrame) (hrad : Part.rad ∈ ps) (hlog : Part.log ∈ ps)
    (hout : Part.out ∈ ps) :
    masked ps (sendAck s p nb h).2 = masked ps s := by
  simp [sendAck, *]

@[simp] theorem keepTime_masked (s : State) (p nb : Nat) (h : HeardFrame) (timed : Bool) (hrad : Part.rad ∈ ps) (hlog : Part.log ∈ ps)
    (hout : Part.out ∈ ps) :
    masked ps (keepTime s p nb h timed).2 = masked ps s := by simp [keepTime, *]

@[simp] theorem takeReport_masked (s : State) (p nb : Nat) (n : Int) (b : List Byte) (hsrc : Part.src ∈ ps) (hrad : Part.rad ∈ ps) :
    masked ps (takeReport s p nb n b) = masked ps s := by
  unfold takeReport
  dsimp only
  repeat' split
  all_goals simp [*]

@[simp] theorem rejoin_masked (s : State) (p nb : Nat) (hrad : Part.rad ∈ ps) (hlog : Part.log ∈ ps) :
    masked ps (rejoin s p nb) = masked ps s := by
  unfold rejoin
  dsimp only
  split <;> simp [*]

@[simp] theorem receive_masked (s : State) (p nb cell : Nat) (h : HeardFrame) (hsrc : Part.src ∈ ps) (hrad : Part.rad ∈ ps)
    (hque : Part.que ∈ ps) (hhost : Part.host ∈ ps) (hlog : Part.log ∈ ps) (hout : Part.out ∈ ps) :
    masked ps (receive s p nb cell h) = masked ps s := by
  unfold receive
  dsimp only
  split <;> simp [*]

@[simp] theorem judge_masked (s : State) (p cell : Nat) (h : HeardFrame) (hsrc : Part.src ∈ ps) (hrad : Part.rad ∈ ps)
    (hque : Part.que ∈ ps) (hhost : Part.host ∈ ps) (hlog : Part.log ∈ ps) (hout : Part.out ∈ ps) :
    masked ps (judge s p cell h) = masked ps s := by
  unfold judge
  split <;> simp [*]

/-! ### Ethernet -/

@[simp] theorem ethPut_masked (s : State) (p : Nat) (x : EthState) (heth : Part.eth ∈ ps) : masked ps (ethPut s p x) = masked ps s :=
  (ethPut_changes _ _ _).masked (by simp [*])

@[simp] theorem ethCount_masked (s : State) (p k : Nat) (heth : Part.eth ∈ ps) : masked ps (ethCount s p k) = masked ps s :=
  (ethCount_changes _ _ _).masked (by simp [*])

@[simp] theorem ethEmit_masked (s : State) (p prio : Nat) (t : Time) (frame : List Byte) (heth : Part.eth ∈ ps) (hout : Part.out ∈ ps) :
    masked ps (ethEmit s p prio t frame) = masked ps s := by simp [ethEmit, *]

@[simp] theorem sacnPut_masked (s : State) (p : Nat) (x : SacnPort) (hwired : Part.wired ∈ ps) : masked ps (sacnPut s p x) = masked ps s := by
  simp [sacnPut, *]

@[simp] theorem ethDone_masked (s : State) (p : Nat) (pkt : List Byte) (status : Nat) (t : Time) (hque : Part.que ∈ ps)
    (hhost : Part.host ∈ ps) (hstk : Part.stk ∈ ps) (hsec : Part.sec ∈ ps) (hout : Part.out ∈ ps) :
    masked ps (ethDone s p pkt status t) = masked ps s := by simp [ethDone, *]

@[simp] theorem txFlushed_masked (s : State) (q : Nat) (pkts : List (List Byte)) (hque : Part.que ∈ ps) (hhost : Part.host ∈ ps)
    (hstk : Part.stk ∈ ps) (hsec : Part.sec ∈ ps) (hout : Part.out ∈ ps) :
    masked ps (txFlushed s q pkts) = masked ps s := by
  simp [txFlushed, *]

@[simp] theorem pickQueue_masked (p : Nat) (l : List Nat) (s : State) (htim : Part.tim ∈ ps) (hlog : Part.log ∈ ps) :
    masked ps (pickQueue p l s).1 = masked ps s := by
  induction l generalizing s with
  | nil => rfl
  | cons q l ih =>
    unfold pickQueue
    split
    · exact ih s
    · split <;> simp [*]

@[simp] theorem syncRelease_masked (s : State) (p : Nat) (heth : Part.eth ∈ ps) (hout : Part.out ∈ ps) :
    masked ps (syncRelease s p) = masked ps s := by
  unfold syncRelease
  split <;> simp [*]

@[simp] theorem pauseCheck_masked (s : State) (p : Nat) (heth : Part.eth ∈ ps) : masked ps (pauseCheck s p) = masked ps s := by
  simp [pauseCheck, *]

/-! ### Cascade ports and stacks -/

@[simp] theorem casCount_masked (s : State) (p k n : Nat) (hstk : Part.stk ∈ ps) : masked ps (casCount s p k n) = masked ps s :=
  (casCount_changes _ _ _ _).masked (by simp [*])

@[simp] theorem detach_masked (s : State) (p : Nat) (htim : Part.tim ∈ ps) (hstk : Part.stk ∈ ps) (hlog : Part.log ∈ ps) :
    masked ps (detach s p) = masked ps s := by simp [detach, *]

@[simp] theorem leaveUp_masked (s : State) (p new : Nat) (htim : Part.tim ∈ ps) (hstk : Part.stk ∈ ps) (hlog : Part.log ∈ ps) :
    masked ps (leaveUp s p new) = masked ps s := by simp [leaveUp, *]

@[simp] theorem sendLink_masked (s : State) (p : Nat) (hout : Part.out ∈ ps) : masked ps (sendLink s p) = masked ps s := by
  simp [sendLink, *]

@[simp] theorem casProbe_masked (s : State) (p subtype : Nat) (body : List Byte) (hout : Part.out ∈ ps) :
    masked ps (casProbe s p subtype body) = masked ps s := by simp [casProbe, *]

@[simp] theorem startEnum_masked (s : State) (hout : Part.out ∈ ps) : masked ps (startEnum s) = masked ps s := by simp [startEnum, *]

@[simp] theorem sendSync_masked (s : State) (hstk : Part.stk ∈ ps) (hout : Part.out ∈ ps) : masked ps (sendSync s) = masked ps s := by
  simp [sendSync, *]

@[simp] theorem timeCrc_masked (s : State) (p : Nat) (hstk : Part.stk ∈ ps) : masked ps (timeCrc s p) = masked ps s := by simp [timeCrc, *]

@[simp] theorem placeNext_masked (s : State) (e : Time) (hfrm : Part.frm ∈ ps) (hstk : Part.stk ∈ ps) :
    masked ps (placeNext s e) = masked ps s := by simp [placeNext, *]

@[simp] theorem slipFrame_masked (s : State) (k node : Nat) (hfrm : Part.frm ∈ ps) (hlog : Part.log ∈ ps) :
    masked ps (slipFrame s k node) = masked ps s := by
  unfold slipFrame
  split <;> simp [*]

@[simp] theorem sendSlip_masked (s : State) (k : Nat) (hout : Part.out ∈ ps) : masked ps (sendSlip s k) = masked ps s := by
  simp [sendSlip, *]

@[simp] theorem noteDiscarded_masked (s : State) (x : AccTxn) (hque : Part.que ∈ ps) (hhost : Part.host ∈ ps) (hstk : Part.stk ∈ ps)
    (hsec : Part.sec ∈ ps) (hout : Part.out ∈ ps) :
    masked ps (noteDiscarded s x) = masked ps s := by simp [noteDiscarded, *]

/-! ### Redundant pairs -/

@[simp] theorem redCount_masked (s : State) (k : Nat) (hred : Part.red ∈ ps) : masked ps (redCount s k) = masked ps s :=
  (redCount_changes _ _).masked (by simp [*])

@[simp] theorem mirSend_masked (s : State) (mtype : Nat) (body : List Byte) (hstk : Part.stk ∈ ps) (hout : Part.out ∈ ps) :
    masked ps (mirSend s mtype body) = masked ps s :=
  (mirSend_changes _ _ _).masked (by simp [*])

@[simp] theorem mirTook_masked (s : State) (len : Nat) (hstk : Part.stk ∈ ps) (hout : Part.out ∈ ps) :
    masked ps (mirTook s len) = masked ps s := by simp [mirTook, *]

@[simp] theorem sendHello_masked (s : State) (hstk : Part.stk ∈ ps) (hout : Part.out ∈ ps) : masked ps (sendHello s) = masked ps s := by
  simp [sendHello, *]

@[simp] theorem sendSnapshot_masked (s : State) (hstk : Part.stk ∈ ps) (hred : Part.red ∈ ps) (hout : Part.out ∈ ps) :
    masked ps (sendSnapshot s) = masked ps s := by simp [sendSnapshot, *]

@[simp] theorem sendJournal_masked (s : State) (x : AccTxn) (hstk : Part.stk ∈ ps) (hout : Part.out ∈ ps) :
    masked ps (sendJournal s x) = masked ps s := by simp [sendJournal, *]

@[simp] theorem linkUp_masked (s : State) (p : Nat) (hstk : Part.stk ∈ ps) (hlog : Part.log ∈ ps) (hout : Part.out ∈ ps) :
    masked ps (linkUp s p) = masked ps s := by
  unfold linkUp
  dsimp only
  repeat' split
  all_goals simp [*]

@[simp] theorem announceRole_masked (s : State) (k : Nat) (hstk : Part.stk ∈ ps) (hout : Part.out ∈ ps) :
    masked ps (announceRole s k) = masked ps s := by simp [announceRole, *]

@[simp] theorem raiseCounters_masked (s : State) (hrad : Part.rad ∈ ps) : masked ps (raiseCounters s) = masked ps s :=
  (changes_rad s _).masked (by simp [*])

@[simp] theorem resendCommands_masked (s : State) (hrad : Part.rad ∈ ps) : masked ps (resendCommands s) = masked ps s := by
  simp [resendCommands, *]

@[simp] theorem reflect_masked (s : State) (k : Nat) (hred : Part.red ∈ ps) (hlog : Part.log ∈ ps) :
    masked ps (reflect s k) = masked ps s := by
  unfold reflect
  dsimp only
  repeat' split
  all_goals simp [*]

@[simp] theorem resultDone_masked (s : State) (k : Nat) (c : Store) (o : FrameOut) (hstk : Part.stk ∈ ps) (hred : Part.red ∈ ps)
    (hlog : Part.log ∈ ps) (hout : Part.out ∈ ps) :
    masked ps (resultDone s k c o) = masked ps s := by
  simp [resultDone, *]

/-! ### Threads -/

@[simp] theorem traceLost_masked (s : State) (hque : Part.que ∈ ps) (hhost : Part.host ∈ ps) (hsch : Part.sch ∈ ps) (hout : Part.out ∈ ps)
    :
    masked ps (traceLost s) = masked ps s := by simp [traceLost, *]

@[simp] theorem trace_masked (s : State) (ty core thread : Nat) (other : Option Nat) (cause : Nat) (t : Time) (hque : Part.que ∈ ps)
    (hhost : Part.host ∈ ps) (hsch : Part.sch ∈ ps) (hout : Part.out ∈ ps) :
    masked ps (trace s ty core thread other cause t) = masked ps s := by simp [trace, *]

@[simp] theorem thPut_masked (s : State) (n : Nat) (x : Thread) (hsch : Part.sch ∈ ps) : masked ps (thPut s n x) = masked ps s := by
  simp [thPut, *]

@[simp] theorem makeReady_masked (s : State) (n cause : Nat) (t : Time) (hsch : Part.sch ∈ ps) :
    masked ps (makeReady s n cause t) = masked ps s := by
  simp [makeReady, *]

@[simp] theorem stopRun_masked (s : State) (n state : Nat) (t : Time) (hsch : Part.sch ∈ ps) :
    masked ps (stopRun s n state t) = masked ps s := by
  simp [stopRun, *]

@[simp] theorem startRun_masked (s : State) (n core : Nat) (t : Time) (hsch : Part.sch ∈ ps) :
    masked ps (startRun s n core t) = masked ps s := by
  simp [startRun, *]

@[simp] theorem dispatch_masked (s : State) (core : Nat) (t : Time) (hque : Part.que ∈ ps) (hhost : Part.host ∈ ps) (hsch : Part.sch ∈ ps)
    (hout : Part.out ∈ ps) :
    masked ps (dispatch s core t) = masked ps s := by
  unfold dispatch
  split <;> simp [*]

@[simp] theorem displace_masked (s : State) (n : Nat) (t : Time) (hsch : Part.sch ∈ ps) : masked ps (displace s n t) = masked ps s := by
  simp [displace, *]

/-! ### Queue registers -/

@[simp] theorem afterPop_masked (s : State) (q : Nat) (htim : Part.tim ∈ ps) (hdrv : Part.drv ∈ ps) (heth : Part.eth ∈ ps)
    (hque : Part.que ∈ ps) (hhost : Part.host ∈ ps) (hstk : Part.stk ∈ ps) (hsec : Part.sec ∈ ps) (hsch : Part.sch ∈ ps)
    (hout : Part.out ∈ ps) :
    masked ps (afterPop s q) = masked ps s := by simp [afterPop, *]

@[simp] theorem popN_masked (n : Nat) (s : State) (q : Nat) (hque : Part.que ∈ ps) : masked ps (popN n s q) = masked ps s := by
  induction n generalizing s with
  | zero => rfl
  | succ n ih => simp [popN, *]

@[simp] theorem ptrErr_masked (s : State) (q : Nat) (hque : Part.que ∈ ps) (hhost : Part.host ∈ ps) (hout : Part.out ∈ ps) :
    masked ps (ptrErr s q) = masked ps s := by simp [ptrErr, *]

@[simp] theorem ptrClear_masked (s : State) (q v : Nat) (hque : Part.que ∈ ps) : masked ps (ptrClear s q v) = masked ps s := by
  simp [ptrClear, *]

@[simp] theorem reqFlush_masked (s : State) (q : Nat) (hque : Part.que ∈ ps) : masked ps (reqFlush s q) = masked ps s := by
  simp [reqFlush, *]

@[simp] theorem headWrite_masked (s : State) (q h : Nat) (htim : Part.tim ∈ ps) (hdrv : Part.drv ∈ ps) (heth : Part.eth ∈ ps)
    (hque : Part.que ∈ ps) (hhost : Part.host ∈ ps) (hstk : Part.stk ∈ ps) (hsec : Part.sec ∈ ps) (hsch : Part.sch ∈ ps)
    (hout : Part.out ∈ ps) :
    masked ps (headWrite s q h) = masked ps s := by simp [headWrite, *]

@[simp] theorem consumerWrite_masked (s : State) (q v : Nat) (htim : Part.tim ∈ ps) (hdrv : Part.drv ∈ ps) (heth : Part.eth ∈ ps)
    (hque : Part.que ∈ ps) (hhost : Part.host ∈ ps) (hstk : Part.stk ∈ ps) (hsec : Part.sec ∈ ps) (hsch : Part.sch ∈ ps)
    (hout : Part.out ∈ ps) :
    masked ps (consumerWrite s q v) = masked ps s := by simp [consumerWrite, *]

@[simp] theorem producerWrite_masked (s : State) (q v : Nat) (hque : Part.que ∈ ps) (hhost : Part.host ∈ ps) (hout : Part.out ∈ ps) :
    masked ps (producerWrite s q v) = masked ps s := by simp [producerWrite, *]

@[simp] theorem qregWrite_masked (s : State) (q v : Nat) (htim : Part.tim ∈ ps) (hdrv : Part.drv ∈ ps) (heth : Part.eth ∈ ps)
    (hque : Part.que ∈ ps) (hhost : Part.host ∈ ps) (hstk : Part.stk ∈ ps) (hsec : Part.sec ∈ ps) (hsch : Part.sch ∈ ps)
    (hout : Part.out ∈ ps) :
    masked ps (qregWrite s q v) = masked ps s := by simp [qregWrite, *]

@[simp] theorem flushQueue_masked (s : State) (q : Nat) (htim : Part.tim ∈ ps) (hdrv : Part.drv ∈ ps) (heth : Part.eth ∈ ps)
    (hque : Part.que ∈ ps) (hhost : Part.host ∈ ps) (hstk : Part.stk ∈ ps) (hsec : Part.sec ∈ ps) (hsch : Part.sch ∈ ps)
    (hout : Part.out ∈ ps) :
    masked ps (flushQueue s q) = masked ps s := by simp [flushQueue, *]

/-! ### Host registers and windows -/

@[simp] theorem timeSecRead_masked (s : State) (qspi : Bool) (hhost : Part.host ∈ ps) : masked ps (timeSecRead s qspi).2 = masked ps s := by
  simp [timeSecRead, *]

@[simp] theorem wordRead_masked (s : State) (qspi : Bool) (off : Nat) (hhost : Part.host ∈ ps) :
    masked ps (wordRead s qspi off).2 = masked ps s := by
  simp [wordRead, *]

@[simp] theorem wordsRead_masked (qspi : Bool) (n off : Nat) (s : State) (acc : List Byte) (hhost : Part.host ∈ ps) :
    masked ps (wordsRead qspi n off s acc).2 = masked ps s := by
  induction n generalizing off s acc with
  | zero => rfl
  | succ n ih => simp [wordsRead, *]

@[simp] theorem maskWrite_masked (s : State) (v : Nat) (hhost : Part.host ∈ ps) (hout : Part.out ∈ ps) :
    masked ps (maskWrite s v) = masked ps s := by simp [maskWrite, *]

@[simp] theorem statusClear_masked (s : State) (v : Nat) (hhost : Part.host ∈ ps) : masked ps (statusClear s v) = masked ps s := by
  simp [statusClear, *]

@[simp] theorem mbCount_masked (s : State) (p : Path) (k : Nat) (hox : Part.ox ∈ ps) : masked ps (mbCount s p k) = masked ps s :=
  (mbCount_changes _ _ _).masked (by simp [*])

@[simp] theorem takePacket_masked (s : State) (q : Nat) (pkt : List Byte) (hque : Part.que ∈ ps) :
    masked ps (takePacket s q pkt) = masked ps s := by
  simp [takePacket, *]

@[simp] theorem takeRequest_masked (s : State) (p : Path) (pkt : List Byte) (hque : Part.que ∈ ps) :
    masked ps (takeRequest s p pkt) = masked ps s :=
  (takeRequest_changes _ _ _).masked (by simp [*])

@[simp] theorem malformed_masked (s : State) (p : Path) (hhost : Part.host ∈ ps) (hox : Part.ox ∈ ps) (hout : Part.out ∈ ps) :
    masked ps (malformed s p) = masked ps s := by simp [malformed, *]

/-! ### Requests: checks, duplicates and answers -/

@[simp] theorem sendResp_masked (s : State) (p : Path) (m : List Byte) (hque : Part.que ∈ ps) (hhost : Part.host ∈ ps)
    (hstk : Part.stk ∈ ps) (hsec : Part.sec ∈ ps) (hout : Part.out ∈ ps) :
    masked ps (sendResp s p m) = masked ps s :=
  (sendResp_changes _ _ _).masked (by simp [*])

@[simp] theorem setEntry_masked (s : State) (op : Nat) (r : Req) (m : List Byte) (hox : Part.ox ∈ ps) :
    masked ps (setEntry s op r m) = masked ps s :=
  (setEntry_changes _ _ _ _).masked (by simp [*])

@[simp] theorem finish_masked (s : State) (op : Nat) (r : Req) (m : List Byte) (hque : Part.que ∈ ps) (hhost : Part.host ∈ ps)
    (hox : Part.ox ∈ ps) (hstk : Part.stk ∈ ps) (hsec : Part.sec ∈ ps) (hout : Part.out ∈ ps) :
    masked ps (finish s op r m) = masked ps s :=
  (finish_changes _ _ _ _).masked (by simp [*])

@[simp] theorem relayDown_masked (s : State) (op : Nat) (r : Req) (c : Caller) (waiting : Nat) (answers : List     (Nat × List Byte))
    (failed : List (Nat × Err)) (hstk : Part.stk ∈ ps) (hout : Part.out ∈ ps) :
    masked ps (relayDown s op r c waiting answers failed) = masked ps s := by simp [relayDown, *]

/-! ### Firmware update -/

@[simp] theorem updCount_masked (s : State) (k : Nat) (hupd : Part.upd ∈ ps) : masked ps (updCount s k) = masked ps s := by
  simp [updCount, *]

@[simp] theorem toUpd_masked (s : State) (new : Nat) (manifest : List Byte) (hupd : Part.upd ∈ ps) (hlog : Part.log ∈ ps) :
    masked ps (toUpd s new manifest) = masked ps s :=
  (toUpd_changes _ _ _).masked (by simp [*])

@[simp] theorem armAt_masked (s : State) (j : Nat) (hupd : Part.upd ∈ ps) (hlog : Part.log ∈ ps) : masked ps (armAt s j) = masked ps s := by
  simp [armAt, *]

@[simp] theorem disarm_masked (s : State) (hupd : Part.upd ∈ ps) (hlog : Part.log ∈ ps) : masked ps (disarm s) = masked ps s := by
  simp [disarm, *]

@[simp] theorem confirmSet_masked (s : State) (hupd : Part.upd ∈ ps) (hlog : Part.log ∈ ps) : masked ps (confirmSet s) = masked ps s := by
  simp [confirmSet, *]

@[simp] theorem fallback_masked (s : State) (cause : Nat) (hupd : Part.upd ∈ ps) (hlog : Part.log ∈ ps) :
    masked ps (fallback s cause) = masked ps s :=
  (fallback_changes _ _).masked (by simp [*])

/-! ### The commands of the recorder -/

@[simp] theorem flushSuppressed_masked (s : State) (log code : Nat) (hlog : Part.log ∈ ps) :
    masked ps (flushSuppressed s log code) = masked ps s := by
  unfold flushSuppressed
  dsimp only
  repeat' split
  all_goals simp [*]

@[simp] theorem writeHeld_masked (s : State) (log : Nat) (e : Event) (hlog : Part.log ∈ ps) :
    masked ps (writeHeld s log e) = masked ps s := by
  unfold writeHeld
  repeat' split
  all_goals simp [*]

@[simp] theorem clearLog_masked (s : State) (log : Nat) (c : Clearing) (hlog : Part.log ∈ ps) :
    masked ps (clearLog s log c) = masked ps s := by
  simp [clearLog, *]

/-! ### sACN output -/

@[simp] theorem noteSeq_masked (s : State) (i n : Nat) (hwired : Part.wired ∈ ps) : masked ps (noteSeq s i n) = masked ps s := by
  simp [noteSeq, *]

@[simp] theorem dropSacn_masked (s : State) (port : Nat) (hque : Part.que ∈ ps) (hhost : Part.host ∈ ps) (hout : Part.out ∈ ps) :
    masked ps (dropSacn s port).2 = masked ps s := by simp [dropSacn, *]

@[simp] theorem quietStart_masked (s : State) (port : Nat) (htim : Part.tim ∈ ps) (hwired : Part.wired ∈ ps) (hque : Part.que ∈ ps)
    (hhost : Part.host ∈ ps) (hlog : Part.log ∈ ps) (hout : Part.out ∈ ps) :
    masked ps (quietStart s port) = masked ps s := by simp [quietStart, *]

@[simp] theorem syncStart_masked (s : State) (port : Nat) (htim : Part.tim ∈ ps) (hwired : Part.wired ∈ ps) (heth : Part.eth ∈ ps)
    (hout : Part.out ∈ ps) :
    masked ps (syncStart s port) = masked ps s := by simp [syncStart, *]

/-! ### Transactions -/

@[simp] theorem closeTxn_masked (s : State) (id : Nat) (hox : Part.ox ∈ ps) : masked ps (closeTxn s id) = masked ps s := by
  simp [closeTxn, *]

@[simp] theorem accept_masked (s : State) (x : AccTxn) (hcon : Part.con ∈ ps) (hox : Part.ox ∈ ps) (hstk : Part.stk ∈ ps)
    (hout : Part.out ∈ ps) :
    masked ps (accept s x) = masked ps s := (accept_changes _ _).masked (by simp [*])

@[simp] theorem sendDiscard_masked (s : State) (r : Req) (c : Caller) (id : Nat) (hstk : Part.stk ∈ ps) (hout : Part.out ∈ ps) :
    masked ps (sendDiscard s r c id) = masked ps s := by
  simp [sendDiscard, *]

@[simp] theorem endRelay_masked (s : State) (x : Relay) (hstk : Part.stk ∈ ps) : masked ps (endRelay s x) = masked ps s := by
  simp [endRelay, *]

@[simp] theorem giveAnswer_masked (x : Relay) (a : Answer × State) (hque : Part.que ∈ ps) (hhost : Part.host ∈ ps) (hox : Part.ox ∈ ps)
    (hstk : Part.stk ∈ ps) (hsec : Part.sec ∈ ps) (hout : Part.out ∈ ps) :
    masked ps (giveAnswer x a) = masked ps a.2 := by
  unfold giveAnswer
  split <;> simp [*]

@[simp] theorem endStage_masked (s0 : State) (x : Relay) (hcon : Part.con ∈ ps) (hox : Part.ox ∈ ps) (hstk : Part.stk ∈ ps)
    (hout : Part.out ∈ ps) :
    masked ps (endStage s0 x).2 = masked ps s0 := by
  unfold endStage
  dsimp only
  repeat' split
  all_goals simp [*]

@[simp] theorem armDone_masked (s : State) (arm : Req) (j : Nat) (hupd : Part.upd ∈ ps) (hlog : Part.log ∈ ps) :
    masked ps (armDone s arm j) = masked ps s := by simp [armDone, *]

@[simp] theorem endArm_masked (s0 : State) (x : Relay) (hstk : Part.stk ∈ ps) (hupd : Part.upd ∈ ps) (hlog : Part.log ∈ ps)
    (hout : Part.out ∈ ps) :
    masked ps (endArm s0 x).2 = masked ps s0 := by
  unfold endArm
  dsimp only
  repeat' split
  all_goals simp [*]

/-! ### Latch and COMPUTE -/

@[simp] theorem fillBand_masked (s : State) (f : Frame) (hcon : Part.con ∈ ps) : masked ps (fillBand s f) = masked ps s := by
  unfold fillBand
  split <;> simp [*]

@[simp] theorem slipOwn_masked (s : State) (k : Nat) (hfrm : Part.frm ∈ ps) (hlog : Part.log ∈ ps) (hout : Part.out ∈ ps) :
    masked ps (slipOwn s k) = masked ps s := by
  unfold slipOwn
  split <;> simp [*]

@[simp] theorem completeFrame_masked (s : State) (f : Frame) (hfrm : Part.frm ∈ ps) (hsrc : Part.src ∈ ps) (hfix : Part.fix ∈ ps)
    (hstk : Part.stk ∈ ps) (hred : Part.red ∈ ps) (hlog : Part.log ∈ ps) (hout : Part.out ∈ ps) :
    masked ps (completeFrame s f) = masked ps s := by simp [completeFrame, *]

/-! ### The requests of 13.5 to 13.7 -/

@[simp] theorem snapshotGetOp_masked (c : Caller) (r : Req) (s : State) (hstk : Part.stk ∈ ps) (hout : Part.out ∈ ps) :
    masked ps (snapshotGetOp c r s).2 = masked ps s := by
  unfold snapshotGetOp
  split <;> simp [*]

@[simp] theorem orderBack_masked (s : State) (hupd : Part.upd ∈ ps) (hlog : Part.log ∈ ps) : masked ps (orderBack s) = masked ps s := by
  simp [orderBack, *]

@[simp] theorem confirmFails_masked (n : Nat) (st : Status) (s : State) (hupd : Part.upd ∈ ps) (hlog : Part.log ∈ ps) :
    masked ps (confirmFails n st s).2 = masked ps s := by
  simp [confirmFails, *]

/-! ### Relay messages -/

@[simp] theorem passOn_masked (s : State) (port kind src dst : Nat) (h : RelayHdr) (body : List Byte) (hstk : Part.stk ∈ ps)
    (hout : Part.out ∈ ps) :
    masked ps (passOn s port kind src dst h body) = masked ps s :=
  (passOn_changes _ _ _ _ _ _ _).masked (by simp [*])

@[simp] theorem tookDown_masked (s : State) (len : Nat) (hstk : Part.stk ∈ ps) (hout : Part.out ∈ ps) :
    masked ps (tookDown s len) = masked ps s := by simp [tookDown, *]

@[simp] theorem tookUp_masked (s : State) (len : Nat) (hstk : Part.stk ∈ ps) (hout : Part.out ∈ ps) :
    masked ps (tookUp s len) = masked ps s := by simp [tookUp, *]

@[simp] theorem endSpread_masked (s : State) (x : Relay) (hque : Part.que ∈ ps) (hhost : Part.host ∈ ps) (hox : Part.ox ∈ ps)
    (hstk : Part.stk ∈ ps) (hsec : Part.sec ∈ ps) (hupd : Part.upd ∈ ps) (hlog : Part.log ∈ ps) (hout : Part.out ∈ ps) :
    masked ps (endSpread s x) = masked ps s := by
  unfold endSpread
  dsimp only
  repeat' split
  all_goals simp [*]

@[simp] theorem dropAsked_masked (s : State) (node : Nat) (hstk : Part.stk ∈ ps) : masked ps (dropAsked s node) = masked ps s := by
  simp [dropAsked, *]

@[simp] theorem askAgain_masked (s : State) (node : Nat) (hstk : Part.stk ∈ ps) (hout : Part.out ∈ ps) :
    masked ps (askAgain s node) = masked ps s := by
  unfold askAgain
  split <;> simp [*]

@[simp] theorem memberFound_masked (s : State) (m : MemberIn) (hstk : Part.stk ∈ ps) (hupd : Part.upd ∈ ps) (hlog : Part.log ∈ ps)
    (hout : Part.out ∈ ps) :
    masked ps (memberFound s m) = masked ps s := by simp [memberFound, *]

end

end Sys2Proof.Machine
end

section
/-! Frames of the commands: which parts of the block each of them changes, whatever its operands, and O60. -/

namespace Sys2Proof.Machine

/-! ### Ingress rings and DMA -/

theorem execDmaTailWrite_frames (v : BitVec 64) : Frames [.host, .out] (.dmaTailWrite v) := by
  refine frames_of_masked fun s => ?_
  simp [exec, execDmaTailWrite]

theorem execDmaBaseWrite_frames (v : BitVec 64) : Frames [.host, .out] (.dmaBaseWrite v) := by
  refine frames_of_masked fun s => ?_
  simp [exec, execDmaBaseWrite]

theorem execDmaSizeWrite_frames (v : BitVec 64) : Frames [.host, .out] (.dmaSizeWrite v) := by
  refine frames_of_masked fun s => ?_
  simp [exec, execDmaSizeWrite]

theorem execDmaDescriptorRead_frames (desc : List Byte) :
    Frames [.con, .que, .host, .stk, .sec, .log, .out] (.dmaDescriptorRead desc) := by
  refine frames_of_masked fun s => ?_
  simp [exec, execDmaDescriptorRead]

theorem execDmaEntryWritten_frames (t : Time) (pcieError : Bool) (map : List Nat) (data : List Byte) :
    Frames [.tim, .con, .que, .host, .stk, .sec, .log, .out] (.dmaEntryWritten t pcieError map data) := by
  refine frames_of_masked fun s => ?_
  simp only [exec]
  unfold execDmaEntryWritten
  dsimp only
  split <;> simp

theorem execRingSpaceFreed_frames (ring : Nat) : Frames [.con, .que, .host, .stk, .sec, .out] (.ringSpaceFreed ring) := by
  refine frames_of_masked fun s => ?_
  simp only [exec]
  unfold execRingSpaceFreed
  dsimp only
  split <;> simp

theorem execRingACtrlWrite_frames (v : BitVec 64) : Frames [.host, .out] (.ringACtrlWrite v) := by
  refine frames_of_masked fun s => ?_
  simp [exec, execRingACtrlWrite]

theorem execBar2RingWrite_frames (offset : Nat) (bytes : List Byte) : Frames [.con] (.bar2RingWrite offset bytes) := by
  refine frames_of_masked fun s => ?_
  simp only [exec]
  have h (xs : List (Nat × Byte)) : masked [.con] (xs.foldl bar2Byte s) = masked [.con] s :=
    foldl_masked (fun a x => bar2Byte_masked a x (by simp)) xs s
  unfold execBar2RingWrite
  dsimp only
  repeat' split
  all_goals simp [h]

theorem execRingAWpWrite_frames (v : BitVec 64) : Frames [.con, .que, .host, .stk, .log, .out] (.ringAWpWrite v) := by
  refine frames_of_masked fun s => ?_
  simp only [exec]
  unfold execRingAWpWrite
  extract_lets size off r stop
  split
  · simp
  · split
    · simp
    · exact congrArg some (foldl_masked (fun a x => by simp) _ s)

theorem execCaptureRelWrite_frames (v : BitVec 64) : Frames [.con] (.captureRelWrite v) := by
  refine frames_of_masked fun s => ?_
  simp [exec, execCaptureRelWrite]

theorem execContentStreamReceived_frames (t : Time) (stream : Nat) (complete : Bool) (e : EntryIn) :
    Frames [.tim, .con, .que, .stk, .log, .out] (.contentStreamReceived t stream complete e) := by
  refine frames_of_masked fun s => ?_
  simp only [exec]
  unfold execContentStreamReceived
  dsimp only
  split <;> simp

theorem execLayerSourceLost_frames (layer : Nat) : Frames [.con, .log] (.layerSourceLost layer) := by
  refine frames_of_masked fun s => ?_
  simp [exec, execLayerSourceLost]

/-! ### Device time, TOUT, TIN and alarms -/

theorem execRtcUpdate_frames (t : Time) : Frames [.tim] (.rtcUpdate t) := by
  refine frames_of_masked fun s => ?_
  simp only [exec]
  unfold execRtcUpdate
  dsimp only
  split <;> simp

theorem execSyncSampleTimeout_frames (t : Time) : Frames [.tim] (.syncSampleTimeout t) := by
  refine frames_of_masked fun s => ?_
  simp [exec, execSyncSampleTimeout]

theorem execHoldoverExpiry_frames (t : Time) : Frames [.tim] (.holdoverExpiry t) := by
  refine frames_of_masked fun s => ?_
  simp [exec, execHoldoverExpiry]

theorem execPtpMessageInterval_frames (port : Nat) (master : Bool) (t : Time) :
    Frames [.tim, .que, .host, .out] (.ptpMessageInterval port master t) := by
  refine frames_of_masked fun s => ?_
  simp [exec, execPtpMessageInterval]

theorem execTxTimestampCapture_frames (port tag : Nat) (ptp : Bool) (t : Time) :
    Frames [.tim, .que] (.txTimestampCapture port tag ptp t) := by
  refine frames_of_masked fun s => ?_
  simp only [exec]
  unfold execTxTimestampCapture
  dsimp only
  repeat' split
  all_goals simp

theorem execTxTimestampPop_frames (port : Nat) : Frames [.tim, .que, .host, .out] (.txTimestampPop port) := by
  refine frames_of_masked fun s => ?_
  simp only [exec]
  unfold execTxTimestampPop
  split <;> simp

theorem execToutPulse_frames (n : Nat) : Frames [.tim, .out] (.toutPulse n) := by
  refine frames_of_masked fun s => ?_
  simp only [exec]
  unfold execToutPulse
  repeat' split
  all_goals simp

theorem execTimAlarmFire_frames (n : Nat) : Frames [.tim, .que, .host, .stk, .sec, .out] (.timAlarmFire n) := by
  refine frames_of_masked fun s => ?_
  simp [exec, execTimAlarmFire]

theorem execTinCapture_frames (n : Nat) (rising : Bool) (t : Time) :
    Frames [.tim, .que, .host, .stk, .sec, .log, .out] (.tinCapture n rising t) := by
  refine frames_of_masked fun s => ?_
  simp [exec, execTinCapture]

/-! ### Level sources -/

theorem execSacnClose_frames : Frames [.tim, .con, .que, .stk, .out] (.sacnClose) := by
  refine frames_of_masked fun s => ?_
  simp [exec, execSacnClose]

theorem execScheduleFire_frames (entry : Nat) : Frames [.src] (.scheduleFire entry) := by
  refine frames_of_masked fun s => ?_
  simp [exec, execScheduleFire]

theorem execSolarCompute_frames (date : Nat) : Frames [.src, .log, .free] (.solarCompute date) := by
  refine frames_of_masked fun s => ?_
  simp [exec, execSolarCompute]

theorem execPtpOffsetSample_frames (t : Time) (o : Int) (src : Nat) (interval : Nat) :
    Frames [.tim, .src, .log] (.ptpOffsetSample t o src interval) := by
  refine frames_of_masked fun s => ?_
  simp only [exec]
  unfold execPtpOffsetSample
  dsimp only
  split <;> simp

/-! ### Strand pins, DMX512-A and DALI -/

theorem execStrandTxStart_frames (pin : Nat) : Frames [.tim, .wired, .out] (.strandTxStart pin) := by
  refine frames_of_masked fun s => ?_
  simp [exec, execStrandTxStart]

theorem execDmxPacketStart_frames (port : Nat) : Frames [.tim, .wired, .que, .host, .stk, .sec, .out] (.dmxPacketStart port) := by
  refine frames_of_masked fun s => ?_
  simp only [exec]
  unfold execDmxPacketStart
  dsimp only
  repeat' split
  all_goals simp

theorem execRdmTransactionStart_frames (port : Nat) (t : Time) : Frames [.tim, .wired, .out] (.rdmTransactionStart port t) := by
  refine frames_of_masked fun s => ?_
  simp only [exec]
  unfold execRdmTransactionStart
  dsimp only
  repeat' split
  all_goals simp

theorem execRdmResponse_frames (port : Nat) (t : Time) (respType : Nat) (checksumOk : Bool) (pd : List Byte) :
    Frames [.tim, .src, .wired, .que, .host, .stk, .sec, .out] (.rdmResponse port t respType checksumOk pd) := by
  refine frames_of_masked fun s => ?_
  simp only [exec]
  unfold execRdmResponse
  dsimp only
  repeat' split
  all_goals simp

theorem execRdmResponseTimeout_frames (port : Nat) (t : Time) :
    Frames [.tim, .wired, .que, .host, .stk, .sec, .out] (.rdmResponseTimeout port t) := by
  refine frames_of_masked fun s => ?_
  simp only [exec]
  unfold execRdmResponseTimeout
  dsimp only
  split <;> simp

theorem execRdmDiscDone_frames (port : Nat) (t : Time) (uids : List Nat) :
    Frames [.tim, .wired, .que, .host, .stk, .sec, .out] (.rdmDiscDone port t uids) := by
  refine frames_of_masked fun s => ?_
  simp [exec, execRdmDiscDone]

theorem execRdmTelemetryPoll_frames (record : Nat) : Frames [.wired] (.rdmTelemetryPoll record) := by
  refine frames_of_masked fun s => ?_
  simp only [exec]
  unfold execRdmTelemetryPoll
  dsimp only
  repeat' split
  all_goals simp

theorem execDaliFrameSend_frames (bus : Nat) : Frames [.wired, .out] (.daliFrameSend bus) := by
  refine frames_of_masked fun s => ?_
  simp only [exec]
  unfold execDaliFrameSend
  dsimp only
  repeat' split
  all_goals simp

theorem execDaliCollision_frames (bus : Nat) : Frames [.wired, .que, .host, .stk, .sec, .out] (.daliCollision bus) := by
  refine frames_of_masked fun s => ?_
  simp only [exec]
  unfold execDaliCollision
  dsimp only
  split <;> simp

theorem execDaliPoll_frames (bus address : Nat) : Frames [.wired, .out] (.daliPoll bus address) := by
  refine frames_of_masked fun s => ?_
  simp [exec, execDaliPoll]

theorem execDaliBackwardFrame_frames (bus value : Nat) (t : Time) :
    Frames [.tim, .src, .wired, .que, .host, .stk, .sec, .log, .out] (.daliBackwardFrame bus value t) := by
  refine frames_of_masked fun s => ?_
  simp only [exec]
  unfold execDaliBackwardFrame
  dsimp only
  repeat' split
  all_goals simp

theorem execDaliReplyTimeout_frames (bus : Nat) (t : Time) :
    Frames [.tim, .wired, .que, .host, .stk, .sec, .log, .out] (.daliReplyTimeout bus t) := by
  refine frames_of_masked fun s => ?_
  simp only [exec]
  unfold execDaliReplyTimeout
  dsimp only
  split <;> simp

theorem execDaliBusDown_frames (bus : Nat) : Frames [.wired, .que, .host, .stk, .sec, .log, .out] (.daliBusDown bus) := by
  refine frames_of_masked fun s => ?_
  simp [exec, execDaliBusDown]

theorem execDaliBusRestored_frames (bus : Nat) : Frames [.wired] (.daliBusRestored bus) := by
  refine frames_of_masked fun s => ?_
  simp [exec, execDaliBusRestored]

theorem execDalAddressDone_frames (bus : Nat) (t : Time) (found : List (Nat × Nat)) :
    Frames [.tim, .wired, .que, .host, .stk, .sec, .out] (.dalAddressDone bus t found) := by
  refine frames_of_masked fun s => ?_
  simp [exec, execDalAddressDone]

theorem execDaliDeviceFrame_frames (bus : Nat) : Frames [.wired] (.daliDeviceFrame bus) := by
  refine frames_of_masked fun s => ?_
  simp [exec, execDaliDeviceFrame]

/-! ### Raster ports -/

theorem execRasterLineStart_frames (port : Nat) (fetched : Option Nat) :
    Frames [.tim, .ras, .log, .out] (.rasterLineStart port fetched) := by
  refine frames_of_masked fun s => ?_
  simp only [exec]
  unfold execRasterLineStart
  dsimp only
  repeat' split
  all_goals simp

theorem execRasterPhaseStep_frames (port : Nat) (forward : Bool) : Frames [.tim, .ras] (.rasterPhaseStep port forward) := by
  refine frames_of_masked fun s => ?_
  simp [exec, execRasterPhaseStep]

theorem execRasterFetchAdvance_frames (port : Nat) : Frames [.ras] (.rasterFetchAdvance port) := by
  refine frames_of_masked fun s => ?_
  simp only [exec]
  unfold execRasterFetchAdvance
  dsimp only
  split <;> simp

theorem execDramGrant_frames (requests : List Nat) : Frames [.con, .ras] (.dramGrant requests) := by
  refine frames_of_masked fun s => ?_
  simp only [exec]
  unfold execDramGrant
  dsimp only
  repeat' split
  all_goals simp

/-! ### Direct drive, the matrix and lamp diagnosis -/

theorem execPwmPeriodStart_frames (channel : Nat) : Frames [.tim, .drv, .out] (.pwmPeriodStart channel) := by
  refine frames_of_masked fun s => ?_
  simp only [exec]
  unfold execPwmPeriodStart
  dsimp only
  split <;> simp

theorem execPdmSlot_frames (channel : Nat) : Frames [.tim, .drv, .out] (.pdmSlot channel) := by
  refine frames_of_masked fun s => ?_
  simp only [exec]
  unfold execPdmSlot
  dsimp only
  split <;> simp

theorem execMatrixRowSlot_frames : Frames [.tim, .drv, .out] (.matrixRowSlot) := by
  refine frames_of_masked fun s => ?_
  simp only [exec]
  unfold execMatrixRowSlot
  dsimp only
  split <;> simp

theorem execMsyncEdge_frames (t : Time) : Frames [.tim, .drv, .log] (.msyncEdge t) := by
  refine frames_of_masked fun s => ?_
  simp only [exec]
  unfold execMsyncEdge
  repeat' split
  all_goals simp

theorem execMsyncLost_frames : Frames [.drv, .log] (.msyncLost) := by
  refine frames_of_masked fun s => ?_
  simp only [exec]
  unfold execMsyncLost
  split <;> simp

theorem execSnsSample_frames (point : Nat) (t : Time) (tenMv : Nat) (probe : Bool) :
    Frames [.tim, .src, .drv, .que, .host, .log, .out] (.snsSample point t tenMv probe) := by
  refine frames_of_masked fun s => ?_
  simp only [exec]
  unfold execSnsSample
  dsimp only
  split <;> simp

theorem execDiagStaleExpiry_frames (point : Nat) : Frames [.drv, .que, .host, .log, .out] (.diagStaleExpiry point) := by
  refine frames_of_masked fun s => ?_
  simp only [exec]
  unfold execDiagStaleExpiry
  dsimp only
  split <;> simp

theorem execGlintProbe_frames (point : Nat) : Frames [.drv] (.glintProbe point) := by
  refine frames_of_masked fun s => ?_
  simp [exec, execGlintProbe]

/-! ### Delay lines and their calibration -/

theorem execCalPassStart_frames : Frames [.cal] (.calPassStart) := by
  refine frames_of_masked fun s => ?_
  simp [exec, execCalPassStart]

theorem execCalLineCalibrate_frames (line : Nat) (attempts : List Bool) : Frames [.cal] (.calLineCalibrate line attempts) := by
  refine frames_of_masked fun s => ?_
  simp [exec, execCalLineCalibrate]

/-! ### Radio medium access -/

theorem execRadioCellPrepare_frames (port scriptUs : Nat) : Frames [.tim, .rad, .log, .out] (.radioCellPrepare port scriptUs) := by
  refine frames_of_masked fun s => ?_
  simp only [exec]
  unfold execRadioCellPrepare
  dsimp only
  split
  next => rfl
  next =>
    generalize hs1 : radPut (advance s _) port _ = s1
    have h := chooseCell_masked (ps := [.tim, .rad, .log, .out]) s1 port (nextSlot s port) (by simp) (by simp)
    have h1 : masked [.tim, .rad, .log, .out] s1 = masked [.tim, .rad, .log, .out] s := by simp [← hs1]
    split
    next he => rw [he] at h; simpa [h1] using h
    next he =>
      rw [he, h1] at h
      split <;> simp [h]

theorem execRadioSlotStart_frames (port : Nat) : Frames [.tim, .rad] (.radioSlotStart port) := by
  refine frames_of_masked fun s => ?_
  simp only [exec]
  unfold execRadioSlotStart
  repeat' split
  all_goals simp

theorem execRadioTxtrig_frames (port : Nat) : Frames [.tim, .rad, .que, .host, .stk, .eng, .sec, .log, .out] (.radioTxtrig port) := by
  refine frames_of_masked fun s => ?_
  simp only [exec]
  unfold execRadioTxtrig
  repeat' split
  all_goals simp

theorem execRadioSfdStamp_frames (port : Nat) (t : Time) : Frames [.tim, .rad] (.radioSfdStamp port t) := by
  refine frames_of_masked fun s => ?_
  simp only [exec]
  unfold execRadioSfdStamp
  repeat' split
  all_goals simp

theorem execRadioRxFetch_frames (port : Nat) (complete : Bool) : Frames [.rad, .out] (.radioRxFetch port complete) := by
  refine frames_of_masked fun s => ?_
  simp only [exec]
  unfold execRadioRxFetch
  repeat' split
  all_goals simp

theorem execRadioAckReceived_frames (port : Nat) (sfd : Time) (correctionUs : Int) :
    Frames [.rad, .que, .host, .stk, .sec, .out] (.radioAckReceived port sfd correctionUs) := by
  refine frames_of_masked fun s => ?_
  simp only [exec]
  unfold execRadioAckReceived
  repeat' split
  all_goals simp

theorem execRadioAckTimeout_frames (port : Nat) : Frames [.rad, .que, .host, .stk, .sec, .free, .out] (.radioAckTimeout port) := by
  refine frames_of_masked fun s => ?_
  simp only [exec]
  unfold execRadioAckTimeout
  repeat' split
  all_goals simp

/-! ### Radio luminaires, neighbours and reception -/

theorem execCommandFrameBuild_frames (port : Nat) : Frames [.tim, .rad] (.commandFrameBuild port) := by
  refine frames_of_masked fun s => ?_
  simp only [exec]
  unfold execCommandFrameBuild
  dsimp only
  split <;> simp

theorem execRadioCivicDeferred_frames (port : Nat) (t : Time) :
    Frames [.tim, .que, .host, .stk, .eng, .sec, .log, .out] (.radioCivicDeferred port t) := by
  refine frames_of_masked fun s => ?_
  simp only [exec]
  unfold execRadioCivicDeferred
  repeat' split
  all_goals simp

theorem execRadioGuardEval_frames (port neigh : Nat) (t : Time) : Frames [.tim, .rad, .log] (.radioGuardEval port neigh t) := by
  refine frames_of_masked fun s => ?_
  simp only [exec]
  unfold execRadioGuardEval
  dsimp only
  repeat' split
  all_goals simp

theorem execRadioFrameReceived_frames (port : Nat) (f : RadioFrame) :
    Frames [.src, .rad, .que, .host, .log, .out] (.radioFrameReceived port f) := by
  refine frames_of_masked fun s => ?_
  simp only [exec]
  unfold execRadioFrameReceived
  repeat' split
  all_goals simp

/-! ### Ethernet -/

theorem execEthLinkChange_frames (port : Nat) (up : Bool) : Frames [.tim, .eth, .log] (.ethLinkChange port up) := by
  refine frames_of_masked fun s => ?_
  simp only [exec]
  unfold execEthLinkChange
  split <;> simp

theorem execEthTxFrameStart_frames (port : Nat) (t : Time) :
    Frames [.tim, .wired, .eth, .que, .host, .stk, .sec, .log, .out] (.ethTxFrameStart port t) := by
  refine frames_of_masked fun s => ?_
  simp only [exec]
  have h := pickQueue_masked (ps := [.tim, .wired, .eth, .que, .host, .stk, .sec, .log, .out]) port ([3, 2, 1, 0].map (· + 4 * port))
    (advance s t) (by simp) (by simp)
  unfold execEthTxFrameStart
  dsimp only
  generalize pickQueue port ([3, 2, 1, 0].map (· + 4 * port)) (advance s t) = x at h ⊢
  rw [advance_masked _ _ (by simp)] at h
  obtain ⟨s1, o⟩ := x
  repeat' split
  all_goals simp_all

theorem execEthTxComplete_frames (port : Nat) (t : Time) : Frames [.tim, .eth, .que, .host, .stk, .sec, .out] (.ethTxComplete port t) := by
  refine frames_of_masked fun s => ?_
  simp only [exec]
  unfold execEthTxComplete
  dsimp only
  repeat' split
  all_goals simp

theorem execPauseExpiry_frames (port : Nat) : Frames [.tim, .eth, .out] (.pauseExpiry port) := by
  refine frames_of_masked fun s => ?_
  simp only [exec]
  unfold execPauseExpiry
  repeat' split
  all_goals simp

theorem execPauseWatchdog_frames (port : Nat) : Frames [.tim, .eth, .log, .out] (.pauseWatchdog port) := by
  refine frames_of_masked fun s => ?_
  simp only [exec]
  unfold execPauseWatchdog
  dsimp only
  repeat' split
  all_goals simp

theorem execPauseIgnoreEnd_frames (port : Nat) : Frames [.tim, .eth, .log] (.pauseIgnoreEnd port) := by
  refine frames_of_masked fun s => ?_
  simp only [exec]
  unfold execPauseIgnoreEnd
  repeat' split
  all_goals simp

theorem execPauseRefresh_frames (port : Nat) : Frames [.tim, .eth] (.pauseRefresh port) := by
  refine frames_of_masked fun s => ?_
  simp only [exec]
  unfold execPauseRefresh
  dsimp only
  split <;> simp

/-! ### Cascade ports and stacks -/

theorem execCascadeLaneLock_frames (port lane goodHeaders : Nat) : Frames [.stk] (.cascadeLaneLock port lane goodHeaders) := by
  refine frames_of_masked fun s => ?_
  simp [exec, execCascadeLaneLock]

theorem execCascadeLockLoss_frames (port lane : Nat) : Frames [.tim, .stk, .log] (.cascadeLockLoss port lane) := by
  refine frames_of_masked fun s => ?_
  simp [exec, execCascadeLockLoss]

theorem execCascadeAlignSlot_frames (port : Nat) (counts : List Nat) :
    Frames [.tim, .stk, .log, .out] (.cascadeAlignSlot port counts) := by
  refine frames_of_masked fun s => ?_
  simp [exec, execCascadeAlignSlot]

theorem execEnumReceived_frames (index : Nat) (final : Bool) (nodes proto : Nat) :
    Frames [.stk, .log, .out] (.enumReceived index final nodes proto) := by
  refine frames_of_masked fun s => ?_
  simp only [exec]
  unfold execEnumReceived
  dsimp only
  repeat' split
  all_goals simp

theorem execSyncSend_frames (t : Time) : Frames [.tim, .stk, .out] (.syncSend t) := by
  refine frames_of_masked fun s => ?_
  simp only [exec]
  unfold execSyncSend
  dsimp only
  split <;> simp

theorem execProbeSend_frames (t : Time) : Frames [.tim, .stk, .out] (.probeSend t) := by
  refine frames_of_masked fun s => ?_
  simp [exec, execProbeSend]

theorem execSyncReceived_frames (tRx tSync : Time) (crcOk : Bool) : Frames [.tim, .stk, .log, .out] (.syncReceived tRx tSync crcOk) := by
  refine frames_of_masked fun s => ?_
  simp only [exec]
  unfold execSyncReceived
  dsimp only
  repeat' split
  all_goals simp

theorem execProbeReceived_frames (t : Time) (seq residence : Nat) (crcOk : Bool) :
    Frames [.tim, .stk, .out] (.probeReceived t seq residence crcOk) := by
  refine frames_of_masked fun s => ?_
  simp [exec, execProbeReceived]

theorem execEchoReceived_frames (port : Nat) (t1 t4 : Time) (seq residence : Nat) (crcOk : Bool) :
    Frames [.tim, .stk] (.echoReceived port t1 t4 seq residence crcOk) := by
  refine frames_of_masked fun s => ?_
  simp [exec, execEchoReceived]

theorem execEdgeHoldover_frames : Frames [.tim, .stk, .log] (.edgeHoldover) := by
  refine frames_of_masked fun s => ?_
  simp [exec, execEdgeHoldover]

theorem execSlipReceived_frames (port k node : Nat) : Frames [.frm, .stk, .log, .out] (.slipReceived port k node) := by
  refine frames_of_masked fun s => ?_
  simp [exec, execSlipReceived]

theorem execCreditReceived_frames (port cls seq credits : Nat) : Frames [.stk, .out] (.creditReceived port cls seq credits) := by
  refine frames_of_masked fun s => ?_
  simp [exec, execCreditReceived]

theorem execCmdRetransmit_frames (port cls : Nat) : Frames [.stk, .out] (.cmdRetransmit port cls) := by
  refine frames_of_masked fun s => ?_
  simp [exec, execCmdRetransmit]

/-! ### Redundant pairs -/

theorem execCascadeLinkSlot_frames (port mode : Nat) (stackEn : Bool) (role devState : Nat) :
    Frames [.stk, .log, .out] (.cascadeLinkSlot port mode stackEn role devState) := by
  refine frames_of_masked fun s => ?_
  simp [exec, execCascadeLinkSlot]

theorem execHeartbeatReceived_frames (t : Time) (k : Nat) (sentAt : Time) (release : Bool) :
    Frames [.tim, .stk, .red, .log, .out] (.heartbeatReceived t k sentAt release) := by
  refine frames_of_masked fun s => ?_
  simp [exec, execHeartbeatReceived]

theorem execMirrorAckReceived_frames (k fit devState : Nat) (counters : List Nat) :
    Frames [.stk, .red, .out] (.mirrorAckReceived k fit devState counters) := by
  refine frames_of_masked fun s => ?_
  simp [exec, execMirrorAckReceived]

theorem execLeaseTake_frames (t : Time) : Frames [.tim, .rad, .stk, .red, .log, .out] (.leaseTake t) := by
  refine frames_of_masked fun s => ?_
  simp only [exec]
  unfold execLeaseTake
  dsimp only
  repeat' split
  all_goals simp

theorem execPeerActChange_frames (level : Bool) (t : Time) : Frames [.tim, .red, .log] (.peerActChange level t) := by
  refine frames_of_masked fun s => ?_
  simp only [exec]
  unfold execPeerActChange
  dsimp only
  split <;> simp

theorem execHelloReceived_frames (deviceId nodes : Nat) (active : Bool) (proto resultLevel : Nat) :
    Frames [.stk, .red, .log, .out] (.helloReceived deviceId nodes active proto resultLevel) := by
  refine frames_of_masked fun s => ?_
  simp [exec, execHelloReceived]

theorem execSnapshotReceived_frames (part : Nat) (last : Bool) (j : Nat) (items : List (Nat × Req)) :
    Frames [.ox, .stk, .red, .out] (.snapshotReceived part last j items) := by
  refine frames_of_masked fun s => ?_
  simp [exec, execSnapshotReceived]

theorem execJournalReceived_frames (t : Time) (j txnId : Nat) (items : List (Nat × Req)) :
    Frames [.tim, .con, .ox, .stk, .red, .out] (.journalReceived t j txnId items) := by
  refine frames_of_masked fun s => ?_
  simp [exec, execJournalReceived]

theorem execInputReceived_frames (k step h : Nat) (rings : List Nat) (tsns : List Int) (fixtures : List (Nat × Int × Nat)) :
    Frames [.frm, .stk, .red, .out] (.inputReceived k step h rings tsns fixtures) := by
  refine frames_of_masked fun s => ?_
  simp only [exec]
  unfold execInputReceived
  dsimp only
  repeat' split
  all_goals simp

theorem execResultReceived_frames (k : Nat) (crcs : List (Nat × Nat)) : Frames [.stk, .red, .log, .out] (.resultReceived k crcs) := by
  refine frames_of_masked fun s => ?_
  simp [exec, execResultReceived]

theorem execContinuityReceived_frames (k : Nat) (sacn : List (Nat × Nat)) (counters : List (Nat × Nat)) (neighbours : List
    (Nat × Nat × Nat × Nat)) (commands : List (Nat × Nat × Nat × Nat × List Nat)) :
    Frames [.wired, .rad, .stk, .out] (.continuityReceived k sacn counters neighbours commands) := by
  refine frames_of_masked fun s => ?_
  simp [exec, execContinuityReceived]

theorem execRedTestDue_frames (t : Time) : Frames [.tim, .log] (.redTestDue t) := by
  refine frames_of_masked fun s => ?_
  simp only [exec]
  unfold execRedTestDue
  dsimp only
  split <;> simp

/-! ### Energy -/

theorem execEnergyRetrim_frames (domain cls value : Nat) : Frames [.eng, .log] (.energyRetrim domain cls value) := by
  refine frames_of_masked fun s => ?_
  simp [exec, execEnergyRetrim]

theorem execEngHistoryMinute_frames (t : Time) : Frames [.tim, .eng] (.engHistoryMinute t) := by
  refine frames_of_masked fun s => ?_
  simp only [exec]
  unfold execEngHistoryMinute
  dsimp only
  split <;> simp

/-! ### Threads -/

theorem execThreadWake_frames (thread causeKind causeValue : Nat) (waker : Option Nat) (t : Time) :
    Frames [.tim, .que, .host, .sch, .out] (.threadWake thread causeKind causeValue waker t) := by
  refine frames_of_masked fun s => ?_
  simp only [exec]
  unfold execThreadWake
  dsimp only
  repeat' split
  all_goals simp

theorem execThreadBlock_frames (core : Nat) (t : Time) : Frames [.tim, .que, .host, .sch, .out] (.threadBlock core t) := by
  refine frames_of_masked fun s => ?_
  simp only [exec]
  unfold execThreadBlock
  dsimp only
  split <;> simp

theorem execThreadSlice_frames (core : Nat) (t : Time) : Frames [.tim, .que, .host, .sch, .out] (.threadSlice core t) := by
  refine frames_of_masked fun s => ?_
  simp only [exec]
  unfold execThreadSlice
  dsimp only
  split <;> simp

theorem execThreadExit_frames (core : Nat) (t : Time) : Frames [.tim, .que, .host, .sch, .out] (.threadExit core t) := by
  refine frames_of_masked fun s => ?_
  simp only [exec]
  unfold execThreadExit
  dsimp only
  split <;> simp

/-! ### Queue registers -/

theorem execHeadWrite_frames (q : Nat) (v : BitVec 64) :
    Frames [.tim, .drv, .eth, .que, .host, .stk, .sec, .sch, .out] (.headWrite q v) := by
  refine frames_of_masked fun s => ?_
  simp [exec, execHeadWrite]

theorem execQregFlush_frames (q : Nat) (v : BitVec 64) :
    Frames [.tim, .drv, .eth, .que, .host, .stk, .sec, .sch, .out] (.qregFlush q v) := by
  refine frames_of_masked fun s => ?_
  simp [exec, execQregFlush]

theorem execPushLenWrite_frames (q : Nat) (v : BitVec 64) : Frames [.que, .host, .out] (.pushLenWrite q v) := by
  refine frames_of_masked fun s => ?_
  simp [exec, execPushLenWrite]

theorem execQueueFlushDone_frames (q : Nat) : Frames [.tim, .drv, .eth, .que, .host, .stk, .sec, .sch, .out] (.queueFlushDone q) := by
  refine frames_of_masked fun s => ?_
  simp [exec, execQueueFlushDone]

theorem execQueuePushResume_frames (q : Nat) : Frames [.que, .host, .out] (.queuePushResume q) := by
  refine frames_of_masked fun s => ?_
  simp [exec, execQueuePushResume]

/-! ### Host registers and windows -/

theorem execQspiRead_frames (offset len : Nat) : Frames [.host, .free, .out] (.qspiRead offset len) := by
  refine frames_of_masked fun s => ?_
  simp [exec, execQspiRead]

theorem execQspiStatus_frames : Frames [.host] (.qspiStatus) := by
  refine frames_of_masked fun s => ?_
  simp [exec, execQspiStatus]

theorem execTimeSecRead_frames (qspi : Bool) (t : Time) : Frames [.tim, .host] (.timeSecRead qspi t) := by
  refine frames_of_masked fun s => ?_
  simp [exec, execTimeSecRead]

theorem execIntStatusWrite_frames (v : BitVec 64) : Frames [.host] (.intStatusWrite v) := by
  refine frames_of_masked fun s => ?_
  simp [exec, execIntStatusWrite]

theorem execIntMaskWrite_frames (v : BitVec 64) : Frames [.host, .out] (.intMaskWrite v) := by
  refine frames_of_masked fun s => ?_
  simp [exec, execIntMaskWrite]

theorem execMbMalformed_frames (path : Path) (bytes : List Byte) : Frames [.que, .host, .ox, .out] (.mbMalformed path bytes) := by
  refine frames_of_masked fun s => ?_
  simp [exec, execMbMalformed]

/-! ### Requests: checks, duplicates and answers -/

theorem execConsoleFrameError_frames (bytes : List Byte) : Frames [.ox] (.consoleFrameError bytes) := by
  refine frames_of_masked fun s => ?_
  simp [exec, execConsoleFrameError]

theorem execDedupeExpiry_frames (t : Time) : Frames [.tim, .ox] (.dedupeExpiry t) := by
  refine frames_of_masked fun s => ?_
  simp [exec, execDedupeExpiry]

/-! ### The commands of the recorder -/

theorem execLogTokenAdd_frames (code : Nat) : Frames [.log] (.logTokenAdd code) := by
  refine frames_of_masked fun s => ?_
  simp only [exec]
  unfold execLogTokenAdd
  split <;> simp

theorem execOptimeWrite_frames : Frames [.log] (.optimeWrite) := by
  refine frames_of_masked fun s => ?_
  simp [exec, execOptimeWrite]

theorem execLogClearDone_frames (log : Nat) (t : Time) :
    Frames [.tim, .que, .host, .ox, .stk, .sec, .log, .out] (.logClearDone log t) := by
  refine frames_of_masked fun s => ?_
  simp only [exec]
  unfold execLogClearDone
  dsimp only
  repeat' split
  all_goals simp

/-! ### sACN output -/

theorem execSacnDataPacket_frames (port : Nat) : Frames [.tim, .wired, .que, .host, .out] (.sacnDataPacket port) := by
  refine frames_of_masked fun s => ?_
  simp only [exec]
  unfold execSacnDataPacket
  dsimp only
  split <;> simp

theorem execSacnQuietStart_frames (port : Nat) : Frames [.tim, .wired, .que, .host, .log, .out] (.sacnQuietStart port) := by
  refine frames_of_masked fun s => ?_
  simp [exec, execSacnQuietStart]

theorem execSacnSyncPacket_frames (port : Nat) : Frames [.tim, .wired, .eth, .out] (.sacnSyncPacket port) := by
  refine frames_of_masked fun s => ?_
  simp [exec, execSacnSyncPacket]

/-! ### What dawn and dusk do besides changing the state -/

theorem execPcieLinkChange_frames (up : Bool) (t : Time) : Frames [.dev, .tim] (.pcieLinkChange up t) := by
  refine frames_of_masked fun s => ?_
  simp [exec, execPcieLinkChange]

theorem execConfirmWindowExpiry_frames (t : Time) : Frames [.tim, .upd, .log] (.confirmWindowExpiry t) := by
  refine frames_of_masked fun s => ?_
  simp only [exec]
  unfold execConfirmWindowExpiry
  dsimp only
  repeat' split
  all_goals simp

/-! ### Temperatures -/

theorem execTsnsRead_frames (ohms : List Nat) : Frames [.fix, .log] (.tsnsRead ohms) := by
  refine frames_of_masked fun s => ?_
  simp [exec, execTsnsRead]

theorem execDieTempSample_frames (sensors : List Int) : Frames [.dev] (.dieTempSample sensors) := by
  refine frames_of_masked fun s => ?_
  simp only [exec]
  unfold execDieTempSample
  split <;> simp

theorem execRailMeasure_frames (mv : List Nat) : Frames [.dev] (.railMeasure mv) := by
  refine frames_of_masked fun s => ?_
  simp [exec, execRailMeasure]

/-! ### Latch and COMPUTE -/

theorem execComposerBand_frames : Frames [.frm, .con] (.composerBand) := by
  refine frames_of_masked fun s => ?_
  simp only [exec]
  unfold execComposerBand
  split <;> simp

theorem execComputeComplete_frames (t : Time) : Frames [.tim, .frm, .src, .fix, .stk, .red, .log, .out] (.computeComplete t) := by
  refine frames_of_masked fun s => ?_
  simp only [exec]
  unfold execComputeComplete
  dsimp only
  split <;> simp

theorem execComputeDeadline_frames : Frames [.tim, .frm, .log, .out] (.computeDeadline) := by
  refine frames_of_masked fun s => ?_
  simp only [exec]
  unfold execComputeDeadline
  split <;> simp

/-! ### Frame lock and timecode -/

theorem execGenlockPulse_frames (t : Time) : Frames [.tim, .frm, .ox, .log] (.genlockPulse t) := by
  refine frames_of_masked fun s => ?_
  simp only [exec]
  unfold execGenlockPulse
  dsimp only
  split <;> simp

theorem execGenlockPulseMissing_frames : Frames [.frm] (.genlockPulseMissing) := by
  refine frames_of_masked fun s => ?_
  simp [exec, execGenlockPulseMissing]

theorem execGenlockLost_frames : Frames [.frm, .log] (.genlockLost) := by
  refine frames_of_masked fun s => ?_
  simp [exec, execGenlockLost]

theorem execWclkPulse_frames (t : Time) : Frames [.tim, .frm, .ox, .log] (.wclkPulse t) := by
  refine frames_of_masked fun s => ?_
  simp only [exec]
  unfold execWclkPulse
  dsimp only
  repeat' split
  all_goals simp

theorem execLtcWord_frames (t : Time) (timecode : BitVec 32) (drop : Bool) : Frames [.tim, .frm] (.ltcWord t timecode drop) := by
  refine frames_of_masked fun s => ?_
  simp [exec, execLtcWord]

theorem execLtcWordMissing_frames (t : Time) : Frames [.tim, .frm] (.ltcWordMissing t) := by
  refine frames_of_masked fun s => ?_
  simp only [exec]
  unfold execLtcWordMissing
  dsimp only
  repeat' split
  all_goals simp

theorem execLtcLost_frames : Frames [.frm, .log] (.ltcLost) := by
  refine frames_of_masked fun s => ?_
  simp [exec, execLtcLost]

/-! ### Relay messages -/

theorem execRelayResponse_frames (h : RelayHdr) (body : List Byte) :
    Frames [.que, .host, .ox, .stk, .sec, .upd, .log, .out] (.relayResponse h body) := by
  refine frames_of_masked fun s => ?_
  simp only [exec]
  unfold execRelayResponse
  dsimp only
  repeat' split
  all_goals simp

theorem execRelayStage_frames (h : RelayHdr) (frame mode : Nat) (items : List (Nat × Req)) :
    Frames [.stk, .out] (.relayStage h frame mode items) := by
  refine frames_of_masked fun s => ?_
  simp [exec, execRelayStage]

theorem execRelayVerdict_frames (h : RelayHdr) (frame : Nat) (detail : List Byte) :
    Frames [.con, .que, .host, .ox, .stk, .sec, .upd, .log, .out] (.relayVerdict h frame detail) := by
  refine frames_of_masked fun s => ?_
  simp only [exec]
  unfold execRelayVerdict
  dsimp only
  repeat' split
  all_goals simp

theorem execCommitReceived_frames (txnId node j : Nat) :
    Frames [.con, .que, .host, .ox, .stk, .sec, .upd, .log, .out] (.commitReceived txnId node j) := by
  refine frames_of_masked fun s => ?_
  simp only [exec]
  unfold execCommitReceived
  dsimp only
  repeat' split
  all_goals simp

theorem execRelayDiscard_frames (h : RelayHdr) : Frames [.stk, .out] (.relayDiscard h) := by
  refine frames_of_masked fun s => ?_
  simp [exec, execRelayDiscard]

theorem execReportReceived_frames (x : ReportIn) : Frames [.stk, .upd, .log, .out] (.reportReceived x) := by
  refine frames_of_masked fun s => ?_
  simp [exec, execReportReceived]

theorem execRelayNotify_frames (h : RelayHdr) (bytes : List Byte) : Frames [.que, .host, .stk, .sec, .out] (.relayNotify h bytes) := by
  refine frames_of_masked fun s => ?_
  simp [exec, execRelayNotify]

/-! ### Supplies, dusk, roles and edges of a stack -/

@[simp] theorem edgesUp_masked {ps : List Part} (s : State) (hfrm : Part.frm ∈ ps) : masked ps (edgesUp s) = masked ps s := by
  simp [edgesUp, startEdges, beginEdges, *]

@[simp] theorem followFrom_masked {ps : List Part} (s : State) (k : Nat) (e : Time) (htim : Part.tim ∈ ps) (hfrm : Part.frm ∈ ps)
    (hstk : Part.stk ∈ ps) : masked ps (followFrom s k e) = masked ps s := by
  unfold followFrom beginEdges
  exact ((changes_frm _ _).masked (by simp [*])).trans (((changes_stk _ _).masked (by simp [*])).trans (timedBegin_masked s htim))

@[simp] theorem toStandby_masked {ps : List Part} (s : State) (dusk : Bool) (hdev : Part.dev ∈ ps) (hfrm : Part.frm ∈ ps)
    (hcon : Part.con ∈ ps) (heth : Part.eth ∈ ps) (hox : Part.ox ∈ ps) (hstk : Part.stk ∈ ps) (hred : Part.red ∈ ps) :
    masked ps (toStandby s dusk) = masked ps s := by simp [toStandby, *]

theorem execVbatLoss_frames : Frames [.dev, .tim] .vbatLoss := by
  refine frames_of_masked fun s => ?_
  simp [exec, execVbatLoss]

theorem execMainRailLoss_frames (t : Time) : Frames [.dev, .tim, .frm, .con, .eth, .ox, .stk, .red] (.mainRailLoss t) := by
  refine frames_of_masked fun s => ?_
  simp only [exec]
  unfold execMainRailLoss
  dsimp only
  repeat' split
  all_goals simp

theorem execDuskComplete_frames (t : Time) : Frames [.dev, .tim, .frm, .con, .eth, .ox, .stk, .red, .log] (.duskComplete t) := by
  refine frames_of_masked fun s => ?_
  simp only [exec]
  unfold execDuskComplete
  dsimp only
  repeat' split
  all_goals simp

theorem execStkRoleDecide_frames : Frames [.tim, .frm, .stk, .out] .stkRoleDecide := by
  refine frames_of_masked fun s => ?_
  simp [exec, execStkRoleDecide]

theorem execEdgeReceived_frames (k : Nat) (e : Time) (holdover crcOk : Bool) :
    Frames [.tim, .frm, .stk, .log, .out] (.edgeReceived k e holdover crcOk) := by
  refine frames_of_masked fun s => ?_
  simp [exec, execEdgeReceived]

/-! ### Every command of the list -/

/-- Settles O60: each command's frame, in the order of the statement. -/
theorem commandsChangeOnlyTheirPartsOfTheBlock : Obligations.CommandsChangeOnlyTheirPartsOfTheBlock := by
  unfold Obligations.CommandsChangeOnlyTheirPartsOfTheBlock
  exact ⟨execCalPassStart_frames, execCalLineCalibrate_frames, execBar2RingWrite_frames, execCaptureRelWrite_frames,
    execDieTempSample_frames, execRailMeasure_frames, execGlintProbe_frames, execGenlockPulseMissing_frames, execQspiStatus_frames,
    execIntStatusWrite_frames, execLogTokenAdd_frames, execOptimeWrite_frames, execConsoleFrameError_frames,
    execRasterFetchAdvance_frames, execScheduleFire_frames, execCascadeLaneLock_frames, execSyncSampleTimeout_frames,
    execHoldoverExpiry_frames, execRtcUpdate_frames, execRdmTelemetryPoll_frames, execDaliBusRestored_frames,
    execDaliDeviceFrame_frames, execLayerSourceLost_frames, execDramGrant_frames, execVbatLoss_frames, execPcieLinkChange_frames,
    execMsyncLost_frames, execEnergyRetrim_frames, execTsnsRead_frames, execComposerBand_frames, execGenlockLost_frames,
    execLtcLost_frames, execDmaTailWrite_frames, execRingACtrlWrite_frames, execIntMaskWrite_frames, execDmaBaseWrite_frames,
    execDmaSizeWrite_frames, execRadioRxFetch_frames, execCreditReceived_frames, execCmdRetransmit_frames, execRelayStage_frames,
    execRelayDiscard_frames, execEngHistoryMinute_frames, execPauseRefresh_frames, execLtcWord_frames, execLtcWordMissing_frames,
    execTimeSecRead_frames, execRedTestDue_frames, execToutPulse_frames, execDedupeExpiry_frames, execTxTimestampCapture_frames,
    execRadioSlotStart_frames, execRadioSfdStamp_frames, execCommandFrameBuild_frames, execRasterPhaseStep_frames,
    execEchoReceived_frames, execDaliFrameSend_frames, execDaliPoll_frames, execQspiRead_frames, execPushLenWrite_frames,
    execQueuePushResume_frames, execSolarCompute_frames, execCascadeLinkSlot_frames, execEnumReceived_frames,
    execMirrorAckReceived_frames, execMsyncEdge_frames, execPwmPeriodStart_frames, execPdmSlot_frames, execMatrixRowSlot_frames,
    execPauseIgnoreEnd_frames, execEthLinkChange_frames, execPauseExpiry_frames, execRadioGuardEval_frames,
    execPeerActChange_frames, execPtpOffsetSample_frames, execCascadeLockLoss_frames, execEdgeHoldover_frames, execSyncSend_frames,
    execProbeSend_frames, execProbeReceived_frames, execConfirmWindowExpiry_frames, execStrandTxStart_frames,
    execRdmTransactionStart_frames, execSlipReceived_frames, execInputReceived_frames, execSnapshotReceived_frames,
    execMbMalformed_frames, execHelloReceived_frames, execResultReceived_frames, execReportReceived_frames,
    execPauseWatchdog_frames, execComputeDeadline_frames, execGenlockPulse_frames, execWclkPulse_frames, execStkRoleDecide_frames,
    execTxTimestampPop_frames, execPtpMessageInterval_frames, execRadioCellPrepare_frames, execRasterLineStart_frames,
    execCascadeAlignSlot_frames, execSyncReceived_frames, execSacnSyncPacket_frames, execContinuityReceived_frames,
    execEdgeReceived_frames, execSacnDataPacket_frames, execJournalReceived_frames, execDiagStaleExpiry_frames,
    execRelayNotify_frames, execSacnClose_frames, execThreadWake_frames, execThreadBlock_frames, execThreadSlice_frames,
    execThreadExit_frames, execHeartbeatReceived_frames, execRingAWpWrite_frames, execRingSpaceFreed_frames,
    execRadioAckReceived_frames, execRadioFrameReceived_frames, execContentStreamReceived_frames, execTimAlarmFire_frames,
    execLeaseTake_frames, execSacnQuietStart_frames, execDaliCollision_frames, execDmaDescriptorRead_frames,
    execRadioAckTimeout_frames, execEthTxComplete_frames, execTinCapture_frames, execSnsSample_frames, execDmxPacketStart_frames,
    execRdmResponseTimeout_frames, execRdmDiscDone_frames, execDalAddressDone_frames, execDaliBusDown_frames,
    execMainRailLoss_frames, execRelayResponse_frames, execDmaEntryWritten_frames, execComputeComplete_frames,
    execLogClearDone_frames, execRadioCivicDeferred_frames, execRdmResponse_frames, execDaliReplyTimeout_frames,
    execCommitReceived_frames, execRelayVerdict_frames, execDuskComplete_frames, execHeadWrite_frames, execQregFlush_frames,
    execQueueFlushDone_frames, execRadioTxtrig_frames, execDaliBackwardFrame_frames, execEthTxFrameStart_frames⟩

end Sys2Proof.Machine
end

section
/-! The host's registers (13.1, 13.2): bits of a register, interrupt sources and their messages, the DMA and ring registers, accesses of the
PCIe and QSPI ports, and packets that no response answers. -/

namespace Sys2Proof.Machine

/-! ### Bits of a register -/

/-- Bits of a register are the bits of its value. -/
theorem bitAt_eq_testBit (v i : Nat) : bitAt v i = v.testBit i := by
  rw [Nat.testBit_eq_decide_div_mod_eq]
  exact Bool.beq_eq_decide_eq _ _

/-- A bit written reads back. -/
theorem bitAt_putBit_same (v i : Nat) (b : Bool) : bitAt (putBit v i b) i = b := by
  have hp : 0 < 2 ^ i := Nat.two_pow_pos i
  have hs : putBit v i b = v % 2 ^ i + (v / 2 ^ i - v / 2 ^ i % 2 + if b then 1 else 0) * 2 ^ i := by
    have hd := Nat.mod_add_div' v (2 ^ i)
    have hm : v / 2 ^ i % 2 * 2 ^ i ≤ v / 2 ^ i * 2 ^ i := Nat.mul_le_mul_right _ (Nat.mod_le _ _)
    unfold putBit putBits bitsAt
    rw [Nat.add_mul, Nat.sub_mul, pow_one]
    cases b <;> simp <;> omega
  rw [bitAt, hs, Nat.add_mul_div_right _ _ hp, Nat.div_eq_of_lt (Nat.mod_lt _ hp)]
  cases b <;> simp <;> omega

/-- The lowest bit says whether a number is odd. -/
theorem decide_mod_two (v : Nat) : decide (v % 2 = 1) = bitAt v 0 := by simp [bitAt, Bool.beq_eq_decide_eq]

/-- A mask takes each bit or leaves it, in the lowest place and above it. -/
theorem sub_land_div_two (a b : Nat) : (a - Nat.land a b) / 2 = a / 2 - Nat.land (a / 2) (b / 2)
    ∧ (a - Nat.land a b) % 2 = a % 2 - (a % 2) * (b % 2) := by
  have hd : Nat.land a b / 2 = Nat.land (a / 2) (b / 2) := Nat.and_div_two
  have hm : Nat.land a b % 2 = (a % 2) * (b % 2) := by
    refine (Nat.and_mod_two_pow (n := 1)).trans ?_
    rcases Nat.mod_two_eq_zero_or_one a with ha | ha <;> rcases Nat.mod_two_eq_zero_or_one b with hb | hb <;> simp [ha, hb]
  have hl : Nat.land (a / 2) (b / 2) ≤ a / 2 := Nat.and_le_left
  have hp : a % 2 * (b % 2) ≤ a % 2 := by
    have := Nat.mul_le_mul_left (a % 2) (show b % 2 ≤ 1 by omega)
    omega
  omega

/-- What is left of a register when the bits of a mask are taken from it. -/
theorem bitAt_sub_land (a b n : Nat) : bitAt (a - Nat.land a b) n = (bitAt a n && !bitAt b n) := by
  obtain ⟨hd, hm⟩ := sub_land_div_two a b
  induction n generalizing a b with
  | zero =>
    simp only [bitAt, pow_zero, Nat.div_one, hm]
    rcases Nat.mod_two_eq_zero_or_one a with ha | ha <;> rcases Nat.mod_two_eq_zero_or_one b with hb | hb <;> simp [ha, hb]
  | succ n ih =>
    have hs (v : Nat) : bitAt v (n + 1) = bitAt (v / 2) n := by rw [bitAt, bitAt, Nat.div_div_eq_div_mul, ← Nat.pow_succ']
    rw [hs, hs, hs, hd]
    exact ih _ _ (sub_land_div_two _ _).1 (sub_land_div_two _ _).2

/-! ### Interrupt sources and their messages (R300) -/

/-- Sending a message, or leaving it pending, changes the pending vectors and what was put out alone. -/
theorem msixSend_host (s : State) (v : Nat) : (msixSend s v).host = { s.host with msixPending := (msixSend s v).host.msixPending } := by
  unfold msixSend
  split <;> rfl

/-- A vector that is not masked sends its message. -/
theorem msixSend_of_unmasked {s : State} {v : Nat} (h : msixMasked s v = false) : msixSend s v = emit s (.msix v) := by
  simp [msixSend, h]

/-- A vector that is masked stays pending. -/
theorem msixSend_of_masked {s : State} {v : Nat} (h : msixMasked s v = true) :
    msixSend s v = { s with host := { s.host with msixPending := putBit s.host.msixPending v true } } := by
  simp [msixSend, h]

/-- A source that is set already changes nothing. -/
theorem raise_of_set {s : State} {n : Nat} (h : bitAt s.host.intStatus n = true) : raise s n = s := by
  simp [raise, h]

/-- A source that becomes set while it is masked sends no message. -/
theorem raise_of_masked {s : State} {n : Nat} (h : bitAt s.host.intStatus n = false) (hm : bitAt s.host.intMask n = true) :
    raise s n = { s with host := { s.host with intStatus := putBit s.host.intStatus n true } } := by
  simp [raise, h, hm]

/-- A source that becomes set while it is unmasked sends the message of its vector. -/
theorem raise_of_unmasked {s : State} {n : Nat} (h : bitAt s.host.intStatus n = false) (hm : bitAt s.host.intMask n = false) :
    raise s n = msixSend { s with host := { s.host with intStatus := putBit s.host.intStatus n true } } (vectorOf s n) := by
  simp [raise, h, hm]

/-- The message goes out at once where the MSI-X table does not mask its vector. -/
theorem raise_of_sent {s : State} {n : Nat} (h : bitAt s.host.intStatus n = false) (hm : bitAt s.host.intMask n = false)
    (hv : msixMasked s (vectorOf s n) = false) :
    raise s n = emit { s with host := { s.host with intStatus := putBit s.host.intStatus n true } } (.msix (vectorOf s n)) :=
  (raise_of_unmasked h hm).trans
    (msixSend_of_unmasked (s := { s with host := { s.host with intStatus := putBit s.host.intStatus n true } }) hv)

/-- The message stays pending where the MSI-X table masks its vector. -/
theorem raise_of_held {s : State} {n : Nat} (h : bitAt s.host.intStatus n = false) (hm : bitAt s.host.intMask n = false)
    (hv : msixMasked s (vectorOf s n) = true) :
    raise s n = { s with host := { s.host with
      intStatus := putBit s.host.intStatus n true, msixPending := putBit s.host.msixPending (vectorOf s n) true } } :=
  (raise_of_unmasked h hm).trans
    (msixSend_of_masked (s := { s with host := { s.host with intStatus := putBit s.host.intStatus n true } }) hv)

/-- A source that is raised is set. -/
@[simp] theorem bitAt_raise (s : State) (n : Nat) : bitAt (raise s n).host.intStatus n = true := by
  cases h : bitAt s.host.intStatus n with
  | true => rw [raise_of_set h, h]
  | false =>
    cases hm : bitAt s.host.intMask n with
    | true => rw [raise_of_masked h hm]; exact bitAt_putBit_same _ _ _
    | false => rw [raise_of_unmasked h hm, msixSend_host]; exact bitAt_putBit_same _ _ _

/-- Raising a source leaves every register of the host but INT_STATUS and the pending vectors alone. -/
theorem raise_host (s : State) (n : Nat) :
    (raise s n).host = { s.host with intStatus := (raise s n).host.intStatus, msixPending := (raise s n).host.msixPending } := by
  unfold raise
  split
  · rfl
  · dsimp only
    split
    · rfl
    · rw [msixSend_host]

/-- INT_MASK written changes the mask and the pending vectors, of the host's registers. -/
theorem maskWrite_host (s : State) (v : Nat) :
    (maskWrite s v).host = { s.host with intMask := v, msixPending := (maskWrite s v).host.msixPending } := by
  have hf (l : List Nat) (a : State) :
      (l.foldl (fun a n => msixSend a (vectorOf a n)) a).host
        = { a.host with msixPending := (l.foldl (fun a n => msixSend a (vectorOf a n)) a).host.msixPending } := by
    induction l generalizing a with
    | nil => rfl
    | cons n l ih => rw [List.foldl_cons, ih, msixSend_host]
  exact hf _ _

/-- INT_MASK written changes host registers and what was put out alone. -/
theorem maskWrite_changes (s : State) (v : Nat) : ChangesOnly [.host, .out] s (maskWrite s v) :=
  ((changes_host s _).mono (by decide)).trans (ChangesOnly.foldl _ (fun _ _ => msixSend_changes _ _) _ _)

/-- Vectors number 32. -/
theorem vectorOf_lt (s : State) (n : Nat) : vectorOf s n < 32 := Nat.mod_lt _ (by decide)

/-- While no vector is masked, sources that are unmasked send one message each, in their order. -/
theorem foldl_msixSend_out (l : List Nat) (s : State) (h : ∀ n, n < 32 → msixMasked s n = false) :
    (l.foldl (fun a n => msixSend a (vectorOf a n)) s).out = (l.map fun n => Sent.msix (vectorOf s n)).reverse ++ s.out := by
  induction l generalizing s with
  | nil => rfl
  | cons n l ih =>
    rw [List.foldl_cons, msixSend_of_unmasked (h _ (vectorOf_lt s n)), ih (emit s (.msix (vectorOf s n))) h, List.map_cons,
      List.reverse_cons, List.append_assoc]
    rfl

/-- Settles O12: the bits taken from INT_STATUS are those written 1, and messages and pending vectors are all else that a mask changes. -/
theorem interruptRegisterWrites : Obligations.InterruptRegisterWrites := by
  refine ⟨fun s v hu => ⟨_, ?_, bitAt_sub_land _ _⟩, fun s v hu => ⟨maskWrite s v.toNat, ?_, ?_, ?_, maskWrite_host s v.toNat,
    maskWrite_changes s v.toNat⟩⟩
  · exact congrArg Host.Outcome.next (if_pos hu)
  · exact congrArg Host.Outcome.next (if_pos hu)
  · rw [maskWrite_host]
  · rw [maskWrite_host]

/-- Settles O58, by the three cases of a source that is raised. -/
theorem interruptsSendOneMessage : Obligations.InterruptsSendOneMessage := by
  refine ⟨fun s => ?_, fun s n => raise_of_set, fun s n h => ⟨bitAt_raise s n, fun hm hv => ?_, fun hm hv => ?_, fun hm => ?_⟩,
    fun s v hu hv => ⟨maskWrite s v.toNat, congrArg Host.Outcome.next (if_pos hu), ?_⟩⟩
  · simp [irqPending, List.any_eq_true]
  · rw [raise_of_sent h hm hv]
    rfl
  · rw [raise_of_held h hm hv]
    exact ⟨rfl, bitAt_putBit_same _ _ _⟩
  · rw [raise_of_masked h hm]
    exact ⟨rfl, rfl⟩
  · exact foldl_msixSend_out _ { s with host := { s.host with intMask := v.toNat } } hv

/-! ### The DMA and ring registers (R301, R302) -/

/-- The sizes that DMA_SIZE takes are the powers of two from 16 to 65,536. -/
theorem dmaSize_ok {k : Nat} (h4 : 4 ≤ k) (h16 : k ≤ 16) : ((List.range 13).all fun j => decide (2 ^ k ≠ 2 ^ (j + 4))) = false := by
  rw [List.all_eq_false]
  exact ⟨k - 4, List.mem_range.mpr (by omega), by rw [Nat.sub_add_cancel h4]; simp⟩

/-- Releasing canvases one after another empties exactly theirs. -/
theorem get_foldl_release {α : Type} [DecidableEq α] (l : List Nat) (m : SMap (Option α)) (c : Nat) :
    SMap.get none (l.foldl (fun m c => SMap.put none m c none) m) c = if c ∈ l then none else SMap.get none m c := by
  induction l generalizing m with
  | nil => rfl
  | cons a l ih =>
    rw [List.foldl_cons, ih, SMap.get_put]
    by_cases hc : c ∈ l <;> by_cases ha : c = a <;> simp [hc, ha]

/-- Settles O15, by the branch that each register's own condition takes. -/
theorem dmaAndRingRegisterWrites : Obligations.DmaAndRingRegisterWrites := by
  refine ⟨fun s v hb hn => ?_, fun s v h => ?_, fun s v k h h4 h16 hv => ?_, fun s v h => ?_, fun s v => ⟨_, rfl, fun c => ?_⟩⟩
  · refine congrArg Host.Outcome.next (if_neg ?_)
    rw [hb]
    simpa using hn
  · exact congrArg Host.Outcome.next (if_neg (not_not.mpr h))
  · have ht : ¬ (s.host.dmaHead ≠ s.host.dmaTail ∨ ((List.range 13).all fun j => decide (v.toNat % 131072 ≠ 2 ^ (j + 4))) = true) := by
      rw [hv, dmaSize_ok h4 h16]
      simpa using h
    exact congrArg Host.Outcome.next ((if_neg ht).trans (by rw [hv]))
  · show execRingACtrlWrite v s = _
    simp only [execRingACtrlWrite, decide_mod_two, h]
    by_cases hb : bitAt v.toNat 0 = s.host.bar2Mode <;> simp [hb]
  · rw [get_foldl_release]
    simp [bitsSet]

/-- Settles O16, by the branch that each register's own condition refuses. -/
theorem dmaRegistersGuardTheirValues : Obligations.DmaRegistersGuardTheirValues := by
  refine ⟨fun s v h => ⟨congrArg Host.Outcome.next (if_pos h), congrArg Host.Outcome.next (if_pos (.inl h))⟩,
    fun s v h => congrArg Host.Outcome.next (if_pos (.inl h)), fun s v hb hw => ?_⟩
  show execRingACtrlWrite v s = _
  simp only [execRingACtrlWrite, decide_mod_two]
  rw [if_neg hb, if_pos hw]

/-! ### Reads (R293, R297, R299) -/

/-- Register words below the windows, the time registers aside, read as the registers say and change nothing. -/
theorem wordRead_reg {s : State} {off : Nat} (h : off < 0x1000) (ht : off < 0x038 ∨ 0x050 ≤ off) (q : Bool) :
    wordRead s q off = (leBytes 8 (regWord s off), s) := by
  unfold wordRead
  rw [if_neg (by omega), if_neg (by omega), if_neg (by omega), if_pos h]

/-- Consecutive register words come in order. -/
theorem wordsRead_reg (q : Bool) (s : State) (n off : Nat) (acc : List Byte) (h : off + 8 * n ≤ 0x038 ∨ 0x050 ≤ off ∧ off + 8 * n ≤ 0x1000) :
    wordsRead q n off s acc = (acc ++ (List.range n).flatMap (fun k => leBytes 8 (regWord s (off + 8 * k))), s) := by
  induction n generalizing off acc with
  | zero => simp [wordsRead]
  | succ n ih =>
    simp only [wordsRead]
    rw [wordRead_reg (by omega) (by omega) q, ih _ _ (by omega), List.range_succ_eq_map, List.flatMap_cons, List.append_assoc,
      List.flatMap_map]
    simp only [Nat.mul_zero, Nat.add_zero, Nat.mul_succ, ← Nat.add_assoc, Nat.add_right_comm]

/-- An access of whole words from an aligned offset on keeps the rules of the QSPI port. -/
theorem qspiOk_words {off n : Nat} (ho : off % 8 = 0) (hn : n ≠ 0) (hl : n ≤ 8192) : qspiOk off (8 * n) = true := by
  simp [qspiOk, ho]
  omega

/-- An access that breaks one of them does not. -/
theorem qspiOk_bad {off len : Nat} (h : off % 8 ≠ 0 ∨ len % 8 ≠ 0 ∨ len = 0 ∨ 65536 < len) : qspiOk off len = false := by
  simp only [qspiOk, Bool.and_eq_false_iff, beq_eq_false_iff_ne, decide_eq_false_iff_not]
  omega

/-- A QSPI read that keeps the rules puts its words on the bus. -/
theorem exec_qspiRead {s : State} {off len : Nat} (hu : hostUp s = true) (ho : qspiOk off len = true) :
    exec (.qspiRead off len) s = .next { (wordsRead true (len / 8) off s []).2 with
      free := (wordsRead true (len / 8) off s []).2.free + 1048576
      host := { (wordsRead true (len / 8) off s []).2.host with busData := (wordsRead true (len / 8) off s []).1 } } := by
  show execQspiRead off len s = _
  simp only [execQspiRead, hu, ho, Bool.true_eq_false, if_false, if_true]

/-- A latched register read over QSPI leaves the block alone. -/
theorem exec_qspiRead_latch (s : State) (off : Nat) (w : List Byte) (hu : hostUp s = true) (ho : qspiOk off 8 = true)
    (h : wordRead s true off = (w, s)) :
    exec (.qspiRead off 8) s = .next { s with free := s.free + 1048576, host := { s.host with busData := w } } := by
  rw [exec_qspiRead hu ho]
  simp [wordsRead, h]

/-- The block with a path's latch holding `l` and `b` on the bus. -/
def latched (s : State) (q : Bool) (l : Nat × Nat) (b : List Byte) : State :=
  if q then { s with host := { s.host with latchQspi := l, busData := b } } else { s with host := { s.host with latchPcie := l, busData := b } }

/-- A path's latch reads what it holds, -/
theorem latchOf_latched (s : State) (q : Bool) (l : Nat × Nat) (b : List Byte) : latchOf (latched s q l b) q = l := by cases q <;> rfl

/-- and the other path's is left alone. -/
theorem latchOf_latched_not (s : State) (q : Bool) (l : Nat × Nat) (b : List Byte) : latchOf (latched s q l b) (!q) = latchOf s (!q) := by
  cases q <;> rfl

theorem latched_busData (s : State) (q : Bool) (l : Nat × Nat) (b : List Byte) : (latched s q l b).host.busData = b := by cases q <;> rfl

theorem latched_changes (s : State) (q : Bool) (l : Nat × Nat) (b : List Byte) : ChangesOnly [.host] s (latched s q l b) := by
  unfold latched
  exact ChangesOnly.ite (changes_host s _) (changes_host s _)

theorem latched_eq (s : State) (q : Bool) (l : Nat × Nat) (b : List Byte) (t : State)
    (h : t = if q then { s with host := { s.host with latchQspi := l } } else { s with host := { s.host with latchPcie := l } }) :
    { t with host := { t.host with busData := b } } = latched s q l b := by
  subst h
  cases q <;> rfl

/-- A read of TIME_SEC puts the seconds on the bus and latches the rest of the instant. -/
theorem timeSecRead_latched (s : State) (q : Bool) :
    { (timeSecRead s q).2 with host := { (timeSecRead s q).2.host with busData := leBytes 8 (timeSecRead s q).1 } }
      = latched s q (s.tim.now % sec / ns + s.tim.now % ns * 2 ^ 32, if s.frm.begun then s.frm.num else 0) (leBytes 8 (s.tim.now / sec)) :=
  latched_eq s q _ _ _ rfl

theorem exec_timeSecRead {s : State} (q : Bool) (u : Time) (hu : hostUp s = true) : exec (.timeSecRead q u) s = .next (latched (advance s u) q
    ((advance s u).tim.now % sec / ns + (advance s u).tim.now % ns * 2 ^ 32, if s.frm.begun then s.frm.num else 0)
    (leBytes 8 ((advance s u).tim.now / sec))) :=
  congrArg Host.Outcome.next ((if_pos (show hostUp (advance s u) = true from hu)).trans (timeSecRead_latched (advance s u) q))

/-- What a QSPI read changes: the bus and the free values. -/
theorem qspiRead_changes (s : State) (n : Nat) (bs : List Byte) :
    ChangesOnly [.host, .free] s { s with free := n, host := { s.host with busData := bs } } :=
  ((changes_host s _).mono (by decide)).trans
    ((changes_free { s with host := { s.host with busData := bs } } n).mono (by decide))

/-- Settles O13, one register or range of registers at a time. -/
theorem statusAndTimeReads : Obligations.StatusAndTimeReads := by
  refine ⟨fun s hu => ?_, fun s q u hu => ?_, fun s off n hu ho hn hr => ?_, fun s hu => ?_, fun s off len hu h => ?_⟩
  · refine congrArg Host.Outcome.next ((if_pos hu).trans ?_)
    rw [Nat.mul_comm]
  · exact ⟨_, exec_timeSecRead q u hu, latched_busData .., latchOf_latched .., latchOf_latched_not ..,
      ((advance_changes s u).mono (by decide)).trans ((latched_changes _ q _ _).mono (by decide))⟩
  · have hok : qspiOk off (8 * n) = true := qspiOk_words ho hn (by omega)
    rw [exec_qspiRead hu hok, Nat.mul_div_cancel_left n (by decide), wordsRead_reg true s n off [] hr]
    dsimp only
    exact ⟨_, rfl, rfl, rfl, qspiRead_changes s _ _⟩
  · exact ⟨_, _, exec_qspiRead_latch s 0x040 _ hu rfl rfl, rfl, exec_qspiRead_latch s 0x048 _ hu rfl rfl, rfl⟩
  · show execQspiRead off len s = _
    simp only [execQspiRead, hu, qspiOk_bad h, Bool.true_eq_false, Bool.false_eq_true, if_false]

/-! ### Writes (R293, R297, R298) -/

/-- One whole word below the windows is one register write. -/
theorem wordsWrite_word (n : Nat) (s : State) {off : Nat} {bs : List Byte} (h : off < 0x1000) (hb : bs.length = 8) :
    wordsWrite (n + 1) s off bs = regWordWrite s off (leNat bs) := by
  have hne : bs ≠ [] := fun h => by simp [h] at hb
  have he (m : Nat) (t : State) (o : Nat) : wordsWrite m t o [] = t := by cases m <;> simp [wordsWrite]
  rw [wordsWrite, if_neg hne, if_pos h, if_neg (by omega), List.drop_of_length_le (by omega), he, leAt, List.drop_zero,
    List.take_of_length_le (by omega)]

/-- An aligned PCIe write of one word is one register write. -/
theorem exec_regWrite_word {s : State} {off : Nat} {bs : List Byte} (hu : hostUp s = true) (h : off < 0x1000) (ha : off % 8 = 0)
    (hb : bs.length = 8) : exec (.regWrite off bs) s = .next (regWordWrite s off (leNat bs)) := by
  have hne : bs ≠ [] := fun h => by simp [h] at hb
  show execRegWrite off bs s = _
  rw [execRegWrite, if_neg (by simp [hu, hne]), if_neg (by omega), wordsWrite_word _ s h hb]

/-- An aligned QSPI write of one word is one register write. -/
theorem exec_qspiWrite_word {s : State} {off : Nat} {bs : List Byte} (hu : hostUp s = true) (h : off < 0x1000) (ha : off % 8 = 0)
    (hb : bs.length = 8) : exec (.qspiWrite off bs) s = .next (regWordWrite s off (leNat bs)) := by
  have hok : qspiOk off bs.length = true := by simp [qspiOk, ha, hb]
  show execQspiWrite off bs s = _
  rw [execQspiWrite, if_neg (by simp [hu]), if_pos hok, hb]
  exact congrArg Host.Outcome.next (wordsWrite_word 0 s h hb)

/-- Eight bytes spell less than 2^64. -/
theorem leNat_lt (bs : List Byte) : leNat bs < 256 ^ bs.length := by
  induction bs with
  | nil => decide
  | cons b bs ih =>
    have hb := b.isLt
    rw [List.length_cons, Nat.pow_succ, leNat]
    omega

/-- The registers that R297 has written through the commands of their own: each command goes on to the state that the word's write leaves. -/
theorem regWordWrite_own {s : State} {v : BitVec 64} (hu : hostUp s = true) {off : Nat} {c : Instr}
    (h : (off, c) = (0x050, Instr.intStatusWrite v) ∨ (off, c) = (0x058, Instr.intMaskWrite v) ∨ (off, c) = (0x088, Instr.dmaBaseWrite v)
      ∨ (off, c) = (0x090, Instr.dmaSizeWrite v) ∨ (off, c) = (0x098, Instr.dmaTailWrite v) ∨ (off, c) = (0x0A8, Instr.ringACtrlWrite v)
      ∨ (off, c) = (0x0B0, Instr.ringAWpWrite v) ∨ (off, c) = (0x0E8, Instr.captureRelWrite v)) :
    off < 0x1000 ∧ off % 8 = 0 ∧ exec c s = .next (regWordWrite s off v.toNat) := by
  have hb : BitVec.ofNat 64 v.toNat = v := by simp
  obtain ⟨t, ht, -⟩ := everyCommandGoesOn c s
  simp only [Prod.mk.injEq] at h
  obtain ⟨rfl, rfl⟩ | ⟨rfl, rfl⟩ | ⟨rfl, rfl⟩ | ⟨rfl, rfl⟩ | ⟨rfl, rfl⟩ | ⟨rfl, rfl⟩ | ⟨rfl, rfl⟩ | ⟨rfl, rfl⟩ := h
  all_goals refine ⟨by decide, by decide, ?_⟩
  · exact congrArg Host.Outcome.next (if_pos hu)
  · exact congrArg Host.Outcome.next (if_pos hu)
  all_goals
    rw [ht]
    refine congrArg Host.Outcome.next ?_
    simp only [regWordWrite, hb]
    exact (congrArg (outState s) ht).symm

/-- Settles O14: a whole word is the register's own write, and what breaks R293 or R297 stops before any word. -/
theorem registerWritesReachTheirRegisters : Obligations.RegisterWritesReachTheirRegisters := by
  refine ⟨fun s bs hu hb => ?_, fun s bs off hu hne ho h => ?_, fun s bs off hu h => ?_⟩
  · have hv : (BitVec.ofNat 64 (leNat bs)).toNat = leNat bs := by
      have hlt : leNat bs < 256 ^ 8 := hb ▸ leNat_lt bs
      rw [BitVec.toNat_ofNat, Nat.mod_eq_of_lt (by omega)]
    refine ⟨BitVec.ofNat 64 (leNat bs), hv, fun c off hc => ?_⟩
    obtain ⟨ho, ha, he⟩ := regWordWrite_own hu hc
    rw [hv] at he
    exact ⟨_, exec_regWrite_word hu ho ha hb, exec_qspiWrite_word hu ho ha hb, he⟩
  · have hreg (o : Nat) (h : o ≤ off) : isReg (o / 8 * 8) = true := by
      simp only [isReg, Bool.or_eq_true, decide_eq_true_eq]
      omega
    show execRegWrite off bs s = _
    rw [execRegWrite, if_neg (by simp [hu, hne])]
    by_cases ha : off % 8 = 0
    · have hs : bs.length < 8 := h.resolve_left (not_not.mpr ha)
      have hr : isReg off = true := by
        have := hreg off le_rfl
        rwa [Nat.div_mul_cancel (Nat.dvd_of_mod_eq_zero ha)] at this
      rw [if_neg (by omega), wordsWrite, if_neg hne, if_pos (by omega), if_pos hs, if_pos hr]
    · rw [if_pos ⟨by omega, ha⟩, if_pos (hreg off le_rfl)]
  · have hok : qspiOk off bs.length = false := qspiOk_bad (by simpa using h)
    show execQspiWrite off bs s = _
    simp only [execQspiWrite, hu, hok, Bool.true_eq_false, Bool.false_eq_true, if_false]

/-! ### Packets that no response answers (R303, R304, R476) -/

/-- The watermark state is kept for one queue; the others are left alone. -/
theorem qGet_watermark_other (s : State) {q n : Nat} (h : n ≠ q) : qGet (watermark s q) n = qGet s n := by
  unfold watermark
  dsimp only
  split
  · split
    · rfl
    · exact qGet_qPut_other _ _ _ _ h
  · split
    · exact qGet_qPut_other _ _ _ _ h
    · rfl

/-- Taking a packet from a queue leaves the others alone. -/
theorem qGet_qPop_other (s : State) {q n : Nat} (h : n ≠ q) : qGet (qPop s q).2 n = qGet s n := by
  unfold qPop
  split
  · rfl
  · exact (qGet_watermark_other _ h).trans (qGet_qPut_other _ _ _ _ h)

/-- A request is taken from a request queue: the other queues are left alone. -/
theorem qGet_takeRequest (s : State) (p : Path) (pkt : List Byte) {n : Nat} (h : n ≠ 24 ∧ n ≠ 26 ∧ n ≠ 31) :
    qGet (takeRequest s p pkt) n = qGet s n := by
  have ht (q : Nat) (hq : n ≠ q) : qGet (takePacket s q pkt) n = qGet s n := by
    unfold takePacket
    split
    · exact qGet_qPop_other s hq
    · rfl
  cases p with
  | mb0 => exact ht 24 h.1
  | mb1 => exact ht 26 h.2.1
  | mb3 => exact ht 31 h.2.2
  | mb2 => rfl
  | console => rfl

/-- A packet shorter than 24 bytes on a path that hears it is taken and counted. -/
theorem exec_mbMalformed {s : State} {p : Path} {bs : List Byte} (hu : hostUp s = true) (hb : bs.length < 24)
    (hp : ∀ n q, p = .mb2 n q → s.dev.state ≠ .dawn ∧ s.dev.state ≠ .dusk) :
    exec (.mbMalformed p bs) s = .next (malformed (takeRequest s p bs) p) := by
  refine congrArg Host.Outcome.next (if_neg ?_)
  rintro (h | h | h)
  · simp [hu] at h
  · omega
  · cases p with
    | mb2 n q => simp [hp n q rfl] at h
    | _ => simp at h

/-- What counting a message that cannot be answered comes to. -/
theorem malformed_counters (s : State) (p : Path) :
    SMap.get 0 (malformed s p).ox.counters (pathRecord p * 8 + 3) = sat32 (SMap.get 0 s.ox.counters (pathRecord p * 8 + 3)) 1
      ∧ (malformed s p).ox = { s.ox with counters := (malformed s p).ox.counters } := by
  have h : (malformed s p).ox = (mbCount s p 3).ox := raise_changes _ _ .ox (by decide)
  rw [h]
  exact ⟨get_bump _ _, rfl⟩

/-- Settles O57: the packet leaves a request queue, its count moves and MB_MALFORMED is set. -/
theorem shortPacketsAreMalformed : Obligations.ShortPacketsAreMalformed := by
  intro s p bs hu hb hp
  have hox : (takeRequest s p bs).ox = s.ox := takeRequest_changes s p bs .ox (by decide)
  have hq (n : Nat) (h : n ≠ 24 ∧ n ≠ 26 ∧ n ≠ 31) : qGet (malformed (takeRequest s p bs) p) n = qGet s n := by
    have hr : (malformed (takeRequest s p bs) p).que = (takeRequest s p bs).que := raise_changes _ _ .que (by decide)
    rw [← qGet_takeRequest s p bs h, qGet, hr, qGet]
  obtain ⟨hn, hk⟩ := malformed_counters (takeRequest s p bs) p
  rw [hox] at hn hk
  exact ⟨_, exec_mbMalformed hu hb hp, hn, bitAt_raise _ _, hq 25 (by decide), hq 27 (by decide), hk,
    execMbMalformed_frames p bs s _ (exec_mbMalformed hu hb hp)⟩

/-- A request with an opcode of no table entry is answered E_OPCODE before anything else is looked at. -/
theorem serve_unknownOpcode {op : Nat} {handle : Caller → Req → State → Answer × State} {r : Req} {s : State} (ho : op ∉ opcodes)
    (ha : answers (advance s r.t) r.path = true) (hb : pathBusy (advance s r.t) r.path = false)
    (hs : seenOf (mbCount (takeRequest (advance s r.t) r.path (reqBytes op r)) r.path 0) op r = .fresh) :
    serve op handle r s
      = answered op r (inService op r s) .eOpcode 0 (errBytes (inService op r s) { status := .eOpcode }) := by
  have he : requestErr (inService op r s) op r = some .eOpcode := if_pos (by simpa using ho)
  have hrun : runHere op handle r (inService op r s) = (failWith .eOpcode, inService op r s) := by
    unfold runHere
    rw [he]
  unfold serve
  simp only [ha, hb, hs]
  exact congrArg (fun a : Answer × State => match answerBytes a.2 op r a.1 with
    | some m => finish a.2 op r m
    | none => a.2) hrun

/-- Settles O36, each packet by the branch of its own rule. -/
theorem mailboxPacketsThatNoRequestIs : Obligations.MailboxPacketsThatNoRequestIs := by
  refine ⟨fun s bs hu hb => ?_, fun s bs ha _ hc => ?_, fun s u r op ho hu ha hb hs => ?_⟩
  · obtain ⟨t, ht, hn, hi, _, _, _, hc⟩ := shortPacketsAreMalformed s .mb0 bs hu hb (fun _ _ h => by cases h)
    exact ⟨t, ht, hi, hn, hc⟩
  · exact ⟨_, congrArg Host.Outcome.next (if_pos ⟨ha, .inr hc⟩), get_bump _ _, rfl, mbCount_changes s .console 3⟩
  · rw [hu]
    exact congrArg Host.Outcome.next (serve_unknownOpcode ho ha hb hs)

/-- Settles O56, by the device states: only RUN and SHADOW let the node's own level through, and PEER_ACT holds that low. -/
theorem actOutStaysLowWhilePeerActIsHigh : Obligations.ActOutStaysLowWhilePeerActIsHigh := by
  intro s hp
  have hpow : poweredBall s .actOut ≠ .high := by
    unfold poweredBall
    cases s.dev.state <;> simp [hp, heldLevel, safeSet]
  unfold ballLevel
  split
  · decide
  · rwa [if_neg (by simp)]

end Sys2Proof.Machine
end

section
/-! The DMA engine and BAR2 (R87 to R92, R301, R302): what an entry written leaves of its ring and of the other, and what a notification leaves
of the host's registers. -/

namespace Sys2Proof.Machine

/-! ### The host's registers beside its interrupts -/

/-- The host's registers without what interrupts set: INT_STATUS and the pending vectors. -/
def hostRegs (s : State) : HostRegs := { s.host with intStatus := 0, msixPending := 0 }

theorem hostRegs_congr {s t : State} (h : t.host = s.host) : hostRegs t = hostRegs s := by simp only [hostRegs, h]

@[simp] theorem hostRegs_raise (s : State) (n : Nat) : hostRegs (raise s n) = hostRegs s := by
  rw [hostRegs, raise_host]
  rfl

@[simp] theorem hostRegs_qCommit (s : State) (q : Nat) (h : Bool) (b : List Byte) : hostRegs (qCommit s q h b) = hostRegs s := by
  have hw : hostRegs (watermark (qPut s q { qGet s q with packets := (qGet s q).packets ++ [b] }) q) = hostRegs s :=
    hostRegs_congr (watermark_changes _ q .host (by decide))
  unfold qCommit
  dsimp only
  split
  · rw [hostRegs_raise, hw]
  · exact hw

@[simp] theorem hostRegs_qPush (s : State) (q : Nat) (h : Bool) (b : List Byte) : hostRegs (qPush s q h b) = hostRegs s := by
  unfold qPush
  dsimp only
  split
  · exact hostRegs_qCommit s q h b
  · rfl

@[simp] theorem hostRegs_sendMb2 (s : State) (p n : Nat) (m : List Byte) : hostRegs (sendMb2 s p n m) = hostRegs s := by
  unfold sendMb2
  dsimp only
  rw [hostRegs_qPush]
  split <;> rfl

@[simp] theorem hostRegs_noteCopies (l : List (Nat × Nat)) (s : State) (b : List Byte) : hostRegs (noteCopies l s b) = hostRegs s := by
  induction l generalizing s with
  | nil => rfl
  | cons n l ih => exact (ih _).trans (hostRegs_sendMb2 s _ _ _)

/-- A notification sets interrupts and no other register of the host. -/
@[simp] theorem hostRegs_noteOut (s : State) (b : List Byte) : hostRegs (noteOut s b) = hostRegs s := by
  unfold noteOut
  dsimp only
  split
  · exact (hostRegs_congr (casSend_changes _ 0 1 0 _ .host (by decide))).trans (hostRegs_noteCopies _ s b)
  · exact hostRegs_noteCopies _ s b

@[simp] theorem hostRegs_notify (s : State) (code : Nat) (b : List Byte) : hostRegs (notify s code b) = hostRegs s := by
  unfold notify notifyAt notifyBytes
  dsimp only
  split
  · exact hostRegs_noteOut (qDiscard { s with que := { s.que with seq := (s.que.seq + 1) % 4294967296 } } 28) _
  · rw [hostRegs_noteOut, hostRegs_qCommit]
    rfl

/-- The descriptors whose entries are still to come, and HEAD. -/
theorem dma_of_hostRegs {s t : State} (h : hostRegs t = hostRegs s) :
    t.host.dmaWork = s.host.dmaWork ∧ t.host.dmaHead = s.host.dmaHead := by
  show (hostRegs t).dmaWork = (hostRegs s).dmaWork ∧ (hostRegs t).dmaHead = (hostRegs s).dmaHead
  rw [h]
  exact ⟨rfl, rfl⟩

@[simp] theorem hostRegs_dmaFail (s : State) (n k : Nat) : hostRegs (dmaFail s n k) = hostRegs s := by simp [dmaFail, dmaDone]

theorem dmaFail_con (s : State) (n k : Nat) : (dmaFail s n k).con = s.con :=
  (raise_changes _ _ .con (by decide)).trans (notify_changes _ _ _ .con (by decide))

@[simp] theorem hostRegs_entryDone (s : State) (e : Entry) : hostRegs (entryDone s e) = hostRegs s := by
  unfold entryDone
  split
  · simp [dmaDone]
  · rfl

theorem entryDone_con (s : State) (e : Entry) : (entryDone s e).con = s.con := by
  unfold entryDone
  split
  · exact notify_changes _ _ _ .con (by decide)
  · rfl

/-! ### An entry written into its ring (R91 to R93) -/

theorem ringGet_congr {s t : State} (h : t.con = s.con) (i : Nat) : ringGet t i = ringGet s i := by simp only [ringGet, h]

theorem ringGet_zero (s : State) : ringGet s 0 = s.con.ringA := rfl

theorem ringGet_watermark (s : State) (q i : Nat) : ringGet (watermark s q) i = ringGet s i := ringGet_congr (watermark_con s q) i

theorem ringGet_ringPut_other (s : State) {i j : Nat} (h : (i = 0) ≠ (j = 0)) (r : Ring) : ringGet (ringPut s i r) j = ringGet s j := by
  unfold ringGet ringPut
  by_cases hi : i = 0 <;> by_cases hj : j = 0 <;> simp_all

/-- What writing an entry leaves of its ring: the entry with its place and its marks is the newest, W follows it, and stalled writes stay. -/
structure Wrote (r : Ring) (e : Entry) (r' : Ring) : Prop where
  newest : ∃ seq off done dead, r'.entries.getLast? = some { e with seq := seq, off := off, done := done, dead := dead }
    ∧ r'.w = off + e.len
  stalled : r'.stalled = r.stalled

theorem overwrite_stalled (s : State) (i limit : Nat) : (ringGet (overwrite s i limit) i).stalled = (ringGet s i).stalled := by
  unfold overwrite
  dsimp only
  split
  · rfl
  · rw [ringGet_ringCount, ringGet_ringPut]

theorem overwrite_other (s : State) {i j : Nat} (h : (i = 0) ≠ (j = 0)) (limit : Nat) : ringGet (overwrite s i limit) j = ringGet s j := by
  unfold overwrite
  dsimp only
  split
  · rfl
  · rw [ringCount, ringGet_ringPut_other _ h, ringGet_ringPut_other _ h]

theorem wrote_ringWrite (s : State) (i : Nat) (e : Entry) : Wrote (ringGet s i) e (ringGet (ringWrite s i e) i) := by
  have hs := overwrite_stalled s i (ringStart (ringGet s i) (ringSize s i) e.len + e.len - ringSize s i)
  unfold ringWrite
  dsimp only
  rw [ringGet_watermark]
  split
  · rw [ringGet_ringCount, ringGet_ringPut]
    exact ⟨⟨_, _, _, _, List.getLast?_concat, rfl⟩, hs⟩
  · rw [ringGet_ringPut]
    exact ⟨⟨_, _, _, _, List.getLast?_concat, rfl⟩, hs⟩

theorem ringGet_ringWrite_other (s : State) {i j : Nat} (h : (i = 0) ≠ (j = 0)) (e : Entry) :
    ringGet (ringWrite s i e) j = ringGet s j := by
  unfold ringWrite
  dsimp only
  rw [ringGet_watermark]
  split
  · rw [ringCount, ringGet_ringPut_other _ h, ringGet_ringPut_other _ h, overwrite_other s h]
  · rw [ringGet_ringPut_other _ h, overwrite_other s h]

/-! ### DMA descriptors and their entries (R88, R301) -/

/-- An invalid entry moves a counter of its ring and the log. -/
theorem badEntry_con (s : State) (i off : Nat) : (badEntry s i off).con = (ringCount s i 3 1).con :=
  logEv_changes _ _ _ _ _ .con (by decide)

theorem badEntry_host (s : State) (i off : Nat) : (badEntry s i off).host = s.host :=
  (logEv_changes _ _ _ _ _ .host (by decide)).trans (ringCount_changes s i 3 1 .host (by decide))

/-- DMA_DESCRIPTOR_READ of a descriptor: it is held, or completes as invalid. -/
theorem exec_dmaDescriptorRead {s : State} {d : List Byte} (hb : s.host.bar2Mode = false) (hh : s.host.dmaHead ≠ s.host.dmaTail)
    (hd : d.length = 64) : exec (.dmaDescriptorRead d) s = .next
      (let s1 := { s with host := { s.host with dmaHead := (s.host.dmaHead + 1) % 4294967296 } }
       if headerFault d = none ∧ byteOf d 0 = 1 then { s1 with host := { s1.host with dmaWork := s.host.dmaWork ++ [d] } }
       else dmaFail (badEntry s1 0 s.con.ringA.w) (leAt d 56 4) 2) :=
  congrArg Host.Outcome.next (if_neg (by simp [hb, hh, hd]))

/-- DMA_ENTRY_WRITTEN where the source could not be read. -/
theorem exec_dmaEntryWritten_error {s : State} {d : List Byte} {rest : List (List Byte)} (u : Time) (map : List Nat) (data : List Byte)
    (hw : s.host.dmaWork = d :: rest) : exec (.dmaEntryWritten u true map data) s = .next
      (dmaFail { advance s u with host := { s.host with dmaWork := rest } } (leAt d 56 4) 1) := by
  have hw' : (advance s u).host.dmaWork = d :: rest := hw
  simp only [exec, execDmaEntryWritten, hw']
  rfl

/-- The entry that the oldest descriptor asks for, read at `u`. -/
def dmaEntry (s : State) (u : Time) (d : List Byte) (map : List Nat) (data : List Byte) : Entry :=
  { entryOf (advance s u) d map (sourcePixels s d data) with dma := some (leAt d 56 4) }

theorem dmaEntry_fields (s : State) (u : Time) (d : List Byte) (map : List Nat) (data : List Byte) :
    (dmaEntry s u d map data).width = leAt d 24 2 ∧ (dmaEntry s u d map data).height = leAt d 26 2
      ∧ (dmaEntry s u d map data).len = max 64 (leAt d 32 4 / 64 * 64) ∧ (dmaEntry s u d map data).layer = layerOf (byteOf d 1) :=
  ⟨rfl, rfl, rfl, rfl⟩

/-- The block at `u` with the oldest descriptor taken. -/
def dmaTaken (s : State) (u : Time) (rest : List (List Byte)) : State :=
  { advance s u with host := { s.host with dmaWork := rest } }

/-- DMA_ENTRY_WRITTEN of a valid entry with room: it is written into ring A, sent to the stack and completed. -/
theorem exec_dmaEntryWritten {s : State} {d : List Byte} {rest : List (List Byte)} (u : Time) {map : List Nat} (data : List Byte)
    (hw : s.host.dmaWork = d :: rest) (hm : mapBad d map = false) (hs : s.con.ringA.stalled = [])
    (hf : ringFits s 0 (max 64 (leAt d 32 4 / 64 * 64)) = true) : exec (.dmaEntryWritten u false map data) s = .next
      (entryDone (sendStreams (ringWrite (dmaTaken s u rest) 0 (dmaEntry s u d map data))
        (dmaEntry s u d map data)) (dmaEntry s u d map data)) := by
  have hw' : (advance s u).host.dmaWork = d :: rest := hw
  have hf' : ringFits (dmaTaken s u rest) 0 (dmaEntry s u d map data).len = true := hf
  have hoff := ringOffer_of_fits (e := dmaEntry s u d map data)
    (s := dmaTaken s u rest) (i := 0) hs hf'
  have hgo : (decide (s.con.ringA.stalled = [])
      && ringFits (dmaTaken s u rest) 0 (dmaEntry s u d map data).len) = true := by
    rw [hf', Bool.and_true]
    exact decide_eq_true hs
  simp only [exec, execDmaEntryWritten, hw', hm, Bool.false_eq_true, if_false]
  exact congrArg Host.Outcome.next ((if_pos hgo).trans (by rw [← hoff]; rfl))

/-- RING_SPACE_FREED for a stalled write that fits. -/
theorem exec_ringSpaceFreed {s : State} {i : Nat} {e : Entry} {rest : List Entry} (hi : i < 2) (hs : (ringGet s i).stalled = e :: rest)
    (hf : ringFits s i e.len = true) : exec (.ringSpaceFreed i) s = .next
      (entryDone (sendStreams (ringWrite (ringPut s i { ringGet s i with stalled := rest }) i e) e) e) := by
  have hm : i % 2 = i := Nat.mod_eq_of_lt hi
  simp only [exec, execRingSpaceFreed, hm, hs, hf, if_true]

/-- Settles O17: a descriptor is held or completes, and an entry written is the newest of its ring, whatever is sent and notified after. -/
theorem dmaMovesEntriesIntoRingA : Obligations.DmaMovesEntriesIntoRingA := by
  refine ⟨fun s d hb hh hd hf h0 => ?held, fun s d hb hh hd hbad => ?bad, fun s u map data d rest hw => ?error,
    fun s u map data d rest hw hm hs hf => ?entry, fun s i e rest hi hs hf => ?freed⟩
  case held =>
    have hexec := (exec_dmaDescriptorRead hb hh hd).trans (congrArg Host.Outcome.next (if_pos ⟨hf, h0⟩))
    generalize (s.host.dmaHead + 1) % 4294967296 = n at hexec ⊢
    exact hexec
  case bad =>
    have hbad' : ¬(headerFault d = none ∧ byteOf d 0 = 1) := fun ⟨hf, h0⟩ => hbad.elim (· hf) (· h0)
    have hexec := (exec_dmaDescriptorRead hb hh hd).trans (congrArg Host.Outcome.next (if_neg hbad'))
    generalize (s.host.dmaHead + 1) % 4294967296 = n at hexec ⊢
    refine ⟨_, hexec, bitAt_raise _ _, ?_⟩
    set s1 : State := { s with host := { s.host with dmaHead := n } }
    obtain ⟨hwork, hhead⟩ := dma_of_hostRegs
      ((hostRegs_dmaFail (badEntry s1 0 s.con.ringA.w) (leAt d 56 4) 2).trans (hostRegs_congr (badEntry_host s1 0 _)))
    have hcon := (dmaFail_con (badEntry s1 0 s.con.ringA.w) (leAt d 56 4) 2).trans (badEntry_con s1 0 _)
    exact ⟨hhead, hwork, hcon ▸ rfl, hcon ▸ rfl⟩
  case error =>
    refine ⟨_, exec_dmaEntryWritten_error u map data hw, ?_, bitAt_raise _ _, dmaFail_con _ _ _⟩
    exact (dma_of_hostRegs (hostRegs_dmaFail _ _ _)).1
  case entry =>
    have hexec := exec_dmaEntryWritten u data hw hm hs hf
    have hframe := execDmaEntryWritten_frames u false map data s _ hexec
    obtain ⟨hwidth, hheight, hlen, hlayer⟩ := dmaEntry_fields s u d map data
    have htaken : (dmaTaken s u rest).host.dmaWork = rest := rfl
    have hringB : (dmaTaken s u rest).con = s.con := rfl
    generalize dmaTaken s u rest = s2 at hexec hframe htaken hringB
    generalize dmaEntry s u d map data = e at hexec hframe hwidth hheight hlen hlayer
    have hcon := (entryDone_con (sendStreams (ringWrite s2 0 e) e) e).trans (sendStreams_con _ e)
    obtain ⟨seq, off, done, dead, hlast, hend⟩ := (wrote_ringWrite s2 0 e).newest
    have hother := (ringGet_ringWrite_other s2 (i := 0) (j := 1) (by simp) e).trans (ringGet_congr hringB 1)
    rw [ringGet_zero] at hlast hend
    rw [ringGet_one, ringGet_one] at hother
    have hhost : (sendStreams (ringWrite s2 0 e) e).host = s2.host :=
      (sendStreams_changes _ e .host (by decide)).trans (ringWrite_changes s2 0 e .host (by decide))
    have hwork := dma_of_hostRegs ((hostRegs_entryDone _ e).trans (hostRegs_congr hhost))
    exact ⟨_, { e with seq := seq, off := off, done := done, dead := dead }, hexec,
      (congrArg (fun c : Content => c.ringA.entries.getLast?) hcon).trans hlast, hwidth, hheight, hlen, hlayer,
      (congrArg (fun c : Content => c.ringA.w) hcon).trans (hend.trans (by rw [hlen])), hwork.1.trans htaken,
      (congrArg Content.ringB hcon).trans hother, hframe⟩
  case freed =>
    have hexec := exec_ringSpaceFreed hi hs hf
    set s1 := ringPut s i { ringGet s i with stalled := rest }
    have hring (j : Nat) := ringGet_congr ((entryDone_con (sendStreams (ringWrite s1 i e) e) e).trans (sendStreams_con _ e)) j
    obtain ⟨⟨seq, off, done, dead, hlast, hend⟩, hst⟩ := wrote_ringWrite s1 i e
    have hij : (i = 0) ≠ (1 - i = 0) := by
      obtain rfl | rfl : i = 0 ∨ i = 1 := by omega
      · simp
      · simp
    have hget : ringGet s1 i = { ringGet s i with stalled := rest } := ringGet_ringPut s i _
    refine ⟨_, { e with seq := seq, off := off, done := done, dead := dead }, hexec, ?_,
      (congrArg (·.entries.getLast?) (hring i)).trans hlast, rfl, rfl, (congrArg Ring.w (hring i)).trans hend, ?_,
      execRingSpaceFreed_frames i s _ hexec⟩
    · rw [hring, hst, hget]
    · rw [hring, ringGet_ringWrite_other s1 hij, ringGet_ringPut_other s hij]

/-! ### BAR2 (R89, R302) -/

/-- BAR2_RING_WRITE of one byte that reaches the window below the guard: the byte is kept. -/
theorem exec_bar2RingWrite {s : State} {off : Nat} (b : Byte) (hb : s.host.bar2Mode = true) (ho : off < ringSize s 0)
    (hg : posAfter s.con.ringA (ringSize s 0) off < ringGuard s 0 + ringSize s 0) :
    exec (.bar2RingWrite off [b]) s = .next { s with con := { s.con with bar2 := SMap.put 0 s.con.bar2 off b } } := by
  have hbyte : bar2Byte s (off, b) = { s with con := { s.con with bar2 := SMap.put 0 s.con.bar2 off b } } :=
    if_neg (by simp; omega)
  have hxs : ((List.range [b].length).map fun k => (off + k, [b].getD k 0)) = [(off, b)] := rfl
  simp only [exec, execBar2RingWrite, hb, Bool.true_eq_false, if_false, if_neg (Nat.not_le.mpr ho), hxs, List.foldl_cons, List.foldl_nil,
    List.any_cons, List.any_nil, hbyte, decide_eq_false (Nat.not_le.mpr hg), Bool.and_false, Bool.or_false, Bool.false_eq_true]

/-- One whole entry with its mark fills the ring from its place to its end. -/
theorem bar2Walk_one {s : State} {pos n len : Nat} (hl : leAt (bar2Read s pos 64) 32 4 = len) (hm : leAt (bar2Read s pos 64) 62 2 = 0xE196)
    (h64 : 64 ≤ len) (ha : len % 64 = 0) : bar2Walk s (pos + len) (n + 2) pos = some [pos] := by
  have hne : pos ≠ pos + len := by omega
  have hok : ¬(pos + len < pos ∨ leAt (bar2Read s pos 64) 62 2 ≠ 0xE196 ∨ len < 64 ∨ len % 64 ≠ 0) := by
    rw [hm]
    omega
  rw [bar2Walk, if_neg hne]
  dsimp only
  rw [hl, if_neg hok, bar2Walk, if_pos rfl]
  rfl

/-- The entry that a header in the window starts. -/
def bar2Entry (s : State) (pos : Nat) : Entry :=
  let h := bar2Read s pos 64
  { entryOf s h (mapOf (bar2Read s (pos + 64) 0) ((leAt h 24 2 + 63) / 64 * ((leAt h 26 2 + 63) / 64)))
      (pixelsOf (bar2Read s (pos + 64 + 0) (8 * leAt h 24 2 * leAt h 26 2)) (leAt h 24 2 * leAt h 26 2)) with
    len := leAt h 32 4, dead := false }

theorem bar2Entry_fields (s : State) (pos : Nat) : (bar2Entry s pos).len = leAt (bar2Read s pos 64) 32 4
    ∧ (bar2Entry s pos).width = leAt (bar2Read s pos 64) 24 2 ∧ (bar2Entry s pos).height = leAt (bar2Read s pos 64) 26 2
    ∧ (bar2Entry s pos).layer = layerOf (byteOf (bar2Read s pos 64) 1) := ⟨rfl, rfl, rfl, rfl⟩

/-- A valid entry without a hint map is written into ring A and sent to the stack. -/
theorem bar2Take_valid {s : State} {pos : Nat} {h : List Byte} (hh : h = bar2Read s pos 64) (hf : headerFault h = none) (h0 : byteOf h 0 = 1)
    (h2 : byteOf h 2 = 8) (h3 : byteOf h 3 = 0) (h4 : bitAt (byteOf h 4) 0 = false) :
    bar2Take s pos = sendStreams (ringWrite s 0 (bar2Entry s pos)) (bar2Entry s pos) := by
  have hm (map : List Nat) : mapBad h map = false := by simp [mapBad, h4]
  unfold bar2Take bar2Entry
  simp only [← hh, hf, h0, h2, h3, h4, hm]
  simp

/-- RING_A_WP_WRITE at the end of one whole entry: the entry is taken, and the bytes of the window that it covered are given up. -/
theorem exec_ringAWpWrite {s : State} {v : BitVec 64} {len : Nat} (hb : s.host.bar2Mode = true) (hv : v.toNat < 2 ^ 34)
    (hs : v.toNat < ringSize s 0) (ha : v.toNat % 64 = 0) (hl : leAt (bar2Read s s.con.ringA.w 64) 32 4 = len)
    (hp : posAfter s.con.ringA (ringSize s 0) v.toNat = s.con.ringA.w + len)
    (hc : posAfter s.con.ringA (ringSize s 0) v.toNat < s.con.ringA.c + ringSize s 0)
    (hg : posAfter s.con.ringA (ringSize s 0) v.toNat ≤ ringGuard s 0 + ringSize s 0)
    (hm : leAt (bar2Read s s.con.ringA.w 64) 62 2 = 0xE196) (h64 : 64 ≤ len) (hlen : len % 64 = 0) :
    ∃ m, exec (.ringAWpWrite v) s = .next { bar2Take s s.con.ringA.w with con := { (bar2Take s s.con.ringA.w).con with bar2 := m } } := by
  have hpos : posAfter s.con.ringA (ringSize s 0) v.toNat < s.con.ringA.w + ringSize s 0 := by
    rw [posAfter, if_neg (by omega)]
    exact Nat.add_lt_add_left (Nat.mod_lt _ (by omega)) _
  obtain ⟨k, hk⟩ : ∃ k, ringSize s 0 / 64 + 1 = k + 2 := ⟨ringSize s 0 / 64 - 1, by omega⟩
  have hwalk := bar2Walk_one (n := k) hl hm h64 hlen
  have hoff : v.toNat % 2 ^ 34 = v.toNat := Nat.mod_eq_of_lt hv
  simp only [exec, execRingAWpWrite, hoff]
  rw [if_neg (by simp only [hb, Bool.true_eq_false, false_or]; omega), hp, hk, hwalk]
  exact ⟨_, rfl⟩

/-- RING_A_WP_WRITE in DMA mode is ignored. -/
theorem exec_ringAWpWrite_dma {s : State} (v : BitVec 64) (hb : s.host.bar2Mode = false) : exec (.ringAWpWrite v) s = .next (raise s intRing) := by
  show execRingAWpWrite v s = _
  unfold execRingAWpWrite
  extract_lets size off r stop
  rw [if_pos (.inl hb)]

/-- What BAR2 writes left is no part of ring A. -/
theorem ringA_withBar2 (t : State) (m : SMap Byte) : ({ t with con := { t.con with bar2 := m } } : State).con.ringA = t.con.ringA := rfl

/-- Settles O18: a byte below the guard is kept, and the walk of a doorbell over one whole entry takes just that. -/
theorem bar2BytesAndDoorbell : Obligations.Bar2BytesAndDoorbell := by
  refine ⟨fun s off b hb ho hg => ⟨_, exec_bar2RingWrite b hb ho hg, SMap.get_put_same _ _ _ _,
      fun k hk => SMap.get_put_other _ _ _ _ _ _ hk⟩,
    fun s v h hb hv hs ha hh hp hc hg hm h64 hl hf h0 h2 h3 h4 => ?_, fun s v hb => exec_ringAWpWrite_dma v hb⟩
  subst hh
  obtain ⟨m, hexec⟩ := exec_ringAWpWrite hb hv hs ha rfl hp hc hg hm h64 hl
  have hframe := execRingAWpWrite_frames v s _ hexec
  rw [bar2Take_valid rfl hf h0 h2 h3 h4] at hexec hframe
  obtain ⟨hlen, hwidth, hheight, hlayer⟩ := bar2Entry_fields s s.con.ringA.w
  generalize bar2Entry s s.con.ringA.w = e at hexec hframe hlen hwidth hheight hlayer
  obtain ⟨seq, off, done, dead, hlast, hend⟩ := (wrote_ringWrite s 0 e).newest
  rw [ringGet_zero, ← sendStreams_con _ e] at hlast hend
  exact ⟨_, { e with seq := seq, off := off, done := done, dead := dead }, hexec,
    (congrArg (fun r : Ring => r.entries.getLast?) (ringA_withBar2 _ m)).trans hlast, hlen, hwidth, hheight, hlayer,
    (congrArg Ring.w (ringA_withBar2 _ m)).trans hend, hframe⟩

end Sys2Proof.Machine
end

section
/-! Reset, wake events, dusk and DIAG (R466, R468, R475 to R477, R479): what a restart and a dusk make of the block. -/

namespace Sys2Proof.Machine

/-! ### CYCLES (R454) -/

theorem writeEvent_cycles (s : State) (log code sev flags p0 p1 p2 : Nat) :
    (writeEvent s log code sev flags p0 p1 p2).log.cycles = s.log.cycles := by
  unfold writeEvent
  dsimp only
  repeat' split
  all_goals rfl

theorem recordEvent_cycles (s : State) (log code sev p0 p1 p2 : Nat) : (recordEvent s log code sev p0 p1 p2).log.cycles = s.log.cycles := by
  unfold recordEvent
  extract_lets u last r b n
  split
  · rfl
  · split
    · rfl
    · split
      · split
        · rfl
        · exact writeEvent_cycles _ log code sev 0 p0 p1 p2
      · exact writeEvent_cycles s log code sev 0 p0 p1 p2

/-- An event is logged in the present power cycle. -/
@[simp] theorem logEv_cycles (s : State) (code p0 p1 p2 : Nat) : (logEv s code p0 p1 p2).log.cycles = s.log.cycles := by
  unfold logEv
  split
  · rfl
  · dsimp only
    split
    · rfl
    · split
      · split <;> rfl
      · exact recordEvent_cycles s _ code _ _ _ _

/-- What D0 does of the island leaves everything but the island and the log alone. -/
theorem islandDawn_changes (s : State) : ChangesOnly [.sec, .log] s (islandDawn s) := by
  unfold islandDawn
  extract_lets sec s1 x
  split
  · exact (((changes_sec s _).trans (changes_sec s1 _)).mono (by decide)).trans ((logEv_changes _ _ _ _ _).mono (by decide))
  · exact ((changes_sec s _).trans (changes_sec s1 _)).mono (by decide)

theorem islandDawn_cycles (s : State) : (islandDawn s).log.cycles = s.log.cycles := by
  unfold islandDawn
  extract_lets sec s1 x
  split
  · exact logEv_cycles _ _ _ _ _
  · rfl

/-- A dawn advances no CYCLES by itself. -/
theorem toDawn_cycles (s : State) : (toDawn s).log.cycles = s.log.cycles := islandDawn_cycles (restart s)

theorem toDawn_dev (s : State) : (toDawn s).dev = (restart s).dev := islandDawn_changes (restart s) .dev (by decide)

/-- A request's rules keep what receiving and answering it keeps, where its handler does. -/
theorem runHere_of_handler {α : Type} {f : State → α} (hf : ∀ s t, ChangesOnly [.tim, .que, .host, .ox, .stk, .sec, .out] s t → f t = f s)
    {handle : Caller → Req → State → Answer × State} {r : Req} (hh : ∀ c s, f (handle c r s).2 = f s) (op : Nat) (s : State) :
    f (runHere op handle r s).2 = f s := by
  have ha := hh (callerOf s op r.path) s
  have hd (u : State) (c : Caller) (n : Nat) (a : List (Nat × List Byte)) (e : List (Nat × Err)) :
      f (relayDown u op r c n a e) = f u :=
    hf _ _ (((changes_stk u _).mono (by decide)).trans ((casSend_changes _ 1 1 r.node _).mono (by decide)))
  unfold runHere
  dsimp only
  repeat' split
  all_goals simp only [ha, hd]

/-- So does serving it. -/
theorem serve_of_handler {α : Type} {f : State → α} (hf : ∀ s t, ChangesOnly [.tim, .que, .host, .ox, .stk, .sec, .out] s t → f t = f s)
    {handle : Caller → Req → State → Answer × State} {r : Req} (hh : ∀ c s, f (handle c r s).2 = f s) (op : Nat) (s : State) :
    f (serve op handle r s) = f s := by
  have up {ps : List Part} {a b : State} (h : ChangesOnly ps a b)
      (hq : ∀ p ∈ ps, p ∈ ([.tim, .que, .host, .ox, .stk, .sec, .out] : List Part)) : f b = f a := hf _ _ (h.mono hq)
  have hrecv : f (mbCount (takeRequest (advance s r.t) r.path (reqBytes op r)) r.path 0) = f s :=
    (up (mbCount_changes _ r.path 0) (by decide)).trans
      ((up (takeRequest_changes _ r.path _) (by decide)).trans (up (advance_changes s r.t) (by decide)))
  have hcount (a : State) (k : Nat) : f (mbCount a r.path k) = f a := up (mbCount_changes a r.path k) (by decide)
  have hresp (a : State) (m : List Byte) : f (sendResp a r.path m) = f a := up (sendResp_changes a r.path m) (by decide)
  have hfin (a : State) (m : List Byte) : f (finish a op r m) = f a := up (finish_changes a op r m) (by decide)
  have hrun := runHere_of_handler hf hh op
  have hox (a : State) (x : Oxold) : f { a with ox := x } = f a := up (changes_ox a x) (by decide)
  unfold serve
  dsimp only
  split
  · exact up (advance_changes s r.t) (by decide)
  · split
    · rw [hresp, hcount, hrecv]
    · rw [hresp, hcount, hrecv]
    · split
      · rw [hfin, hrun, hox]
        split
        · rw [hcount, hrecv]
        · exact hrecv
      · rw [hrun, hox]
        split
        · rw [hcount, hrecv]
        · exact hrecv

/-! ### RESET_N and wake events -/

/-- While RESET_N is low every output ball is at high impedance. -/
theorem ballLevel_of_resetN_low {s : State} (h : s.dev.resetN = false) (b : Ball) : ballLevel s b = .highZ := if_pos (.inr (.inl h))

/-- RESET_N_ASSERT in a powered node: the block restarts with RESET_N low. -/
theorem exec_resetNAssert {s : State} (u : Time) (hp : s.dev.state.powered = true) : ∃ a : State, a.pending = s.pending
    ∧ exec (.resetNAssert u) s = .next (restart { a with dev := { a.dev with resetN := false } }) := by
  have hp' : (advance s u).dev.state.powered = true := hp
  refine ⟨if (advance s u).dev.state = .safe then logEv (advance s u) 0x0E02 0 0 0 else advance s u, ?_,
    congrArg Host.Outcome.next (if_pos hp')⟩
  split
  · exact logEv_changes _ _ _ _ _ .pending (by decide)
  · rfl

/-- Settles O8: a restart sets all but what it keeps to reset, and a dawn adds to it what D0 does of the island. -/
theorem resetAndWakeBeginADawn : Obligations.ResetAndWakeBeginADawn := by
  refine ⟨fun s u hp => ?_, fun s b k x hp hr => ?_, fun s n ms_ at_ rising hn hs hv hr hd hw hm hh => ?_⟩
  · obtain ⟨a, hpend, hexec⟩ := exec_resetNAssert u hp
    exact ⟨_, hexec, rfl, rfl, rfl, rfl, rfl, hpend, ballLevel_of_resetN_low rfl⟩
  · refine ⟨_, congrArg Host.Outcome.next ((if_neg (by simp [hr])).trans (if_pos hp)), (toDawn_stops _).1, ?_⟩
    rw [toDawn_dev, toDawn_cycles]
    exact ⟨rfl, rfl, rfl, rfl, rfl⟩
  · have hmode : (byteAt (s.cfg.row diaWake n) 0 == 3 || byteAt (s.cfg.row diaWake n) 0 == (if rising then 1 else 2)) = true := by
      simpa using hm
    refine ⟨wakeToDawn s, ?_, (toDawn_stops _).1, (toDawn_cycles _).trans rfl⟩
    simp only [exec, execWakeEvent, hmode, hs, hv, hr, hd, hw, decide_eq_true hn, decide_eq_true hh]
    simp

/-! ### Dusk -/

/-- A node in DUSK shows no SAFE cause and no dusk requested. -/
theorem enterDusk_dev (s : State) (k : Nat) (last : Store × FrameOut × Nat) :
    (enterDusk s k last).dev.duskWanted = false ∧ (enterDusk s k last).dev.safeCause = 0 := by
  unfold enterDusk
  extract_lets s1 s2 rad wired red dev log s3
  have hd (u : Time) : (partialMinute (toState (loadRtc s3 u) .dusk)).dev = { s3.dev with state := .dusk } :=
    congrArg Course.dev (toState_course _ _)
  rw [hd]
  exact ⟨rfl, rfl⟩

/-- What STANDBY leaves alone. -/
theorem toStandby_changes (s : State) (dusk : Bool) : ChangesOnly [.dev, .frm, .con, .eth, .ox, .stk, .red] s (toStandby s dusk) := by
  refine changesOnly_iff_masked.mpr ?_
  simp [toStandby, stopEdges]

/-- Settles O10: DUSK is entered at once in SAFE and at the edge reached otherwise, and STANDBY ends it. -/
theorem duskLeadsToStandby : Obligations.DuskLeadsToStandby := by
  refine ⟨fun s hw hs => ?_, fun s hw hl hr => ?_, fun s u hs => ?_⟩
  · obtain ⟨hst, hrun, -⟩ := enterDusk_stops s 0 (sending s)
    obtain ⟨hwant, hcause⟩ := enterDusk_dev s 0 (sending s)
    exact ⟨_, congrArg Host.Outcome.next ((if_neg (by simp [hw])).trans (if_pos hs)), hst, hwant, hcause, hrun⟩
  · have hns : s.dev.state ≠ .safe := fun h => by simp [h, DevState.live] at hl
    refine ⟨_, congrArg Host.Outcome.next ((if_neg (by simp [hw])).trans ((if_neg hns).trans (if_pos ⟨hl, hr⟩))), ?_⟩
    obtain ⟨hst, hrun, hnum, hlast⟩ := enterDusk_stops
      { reachEdge s with frm := { (reachEdge s).frm with num := nextNum s, last := s.frm.next, begun := true } } (nextNum s) (sending s)
    exact ⟨hst, (enterDusk_dev _ _ _).1, hrun, hnum, hlast⟩
  · refine ⟨_, congrArg Host.Outcome.next (if_pos (show (advance s u).dev.state = .dusk from hs)), rfl, rfl, rfl, ?_⟩
    exact ((advance_changes s u).mono (by decide)).trans
      (((changes_log (advance s u) _).mono (by decide)).trans ((toStandby_changes _ true).mono (by decide)))

/-! ### DIAG -/

/-- The diagnostic restart is logged, and is all that its rules change. -/
theorem diag_restart_cycles {r : Req} (h : diagSub r = 2) (c : Caller) (s : State) : (diag c r s).2.log.cycles = s.log.cycles := by
  unfold diag
  split
  · rfl
  · rw [if_neg (by simp [h]), if_pos h]
    exact logEv_cycles _ _ _ _ _

theorem restartAnswer_log (r : Req) (s : State) : (restartAnswer r s).log = s.log := by
  unfold restartAnswer
  dsimp only
  split <;> rfl

/-- Settles O11: each subfunction by the branch of its own, once the request is heard. -/
theorem diagnosticRequestsAnswer : Obligations.DiagnosticRequestsAnswer := by
  refine ⟨fun r s u hu hh he hsub hf => ?status, fun r s u hu hh he hsub hv hf => ?reg, fun r s h => ?restart,
    fun r s u hu hh he hsub hs hf => ?request, fun r s u hu hh he hsub hs hf => ?dusk⟩
  case status =>
    subst hu
    refine congrArg Host.Outcome.next (serve_done _ diag r s _ _ _ _ hh ?_ hf)
    simp [diag, he, hsub, okWith]
  case reg =>
    subst hu
    refine congrArg Host.Outcome.next (serve_done _ diag r s _ _ _ _ hh ?_ hf)
    simp [diag, he, hsub, okWith, hv, takeFree]
  case restart =>
    have hsub : diagSub r = 2 := by
      simp only [diagRestarts, Bool.and_eq_true, beq_iff_eq] at h
      exact h.1.2
    have hserve : (serve 0x30 diag r s).log.cycles = s.log.cycles :=
      serve_of_handler (f := fun s => s.log.cycles) (fun _ _ hc => congrArg Recorder.cycles (hc .log (by decide)))
        (diag_restart_cycles hsub) 0x30 s
    refine ⟨_, congrArg Host.Outcome.next (if_pos h), (toDawn_stops _).1, (toDawn_stops _).2, ?_⟩
    rw [toDawn_cycles, restartAnswer_log, hserve]
  case request =>
    subst hu
    refine congrArg Host.Outcome.next (serve_done _ diag r s _ _ _ _ hh ?_ hf)
    simp [diag, he, hsub, okWith, hs]
  case dusk =>
    subst hu
    refine congrArg Host.Outcome.next (serve_done _ diag r s _ _ _ _ hh ?_ hf)
    simp [diag, he, hsub, okWith, hs]

end Sys2Proof.Machine
end

section
/-! The ledger's minutes, temperatures, rails and delay lines (R387, R404, R474, R483, R485, R486, R502, R509, R513), and the recorder's
commands (R454, R457, R459 to R462). -/

namespace Sys2Proof.Machine

/-! ### Energy and temperatures -/

/-- The record of a minute begins with three words of 32 bits. -/
theorem minute_words (a b c d e : Nat) :
    u32At (a % 2 ^ 32 + b % 2 ^ 32 * 2 ^ 32 + c % 2 ^ 32 * 2 ^ 64 + d * 2 ^ 96 + e * 2 ^ 104) 0 = a % 2 ^ 32
      ∧ u32At (a % 2 ^ 32 + b % 2 ^ 32 * 2 ^ 32 + c % 2 ^ 32 * 2 ^ 64 + d * 2 ^ 96 + e * 2 ^ 104) 4 = b % 2 ^ 32
      ∧ u32At (a % 2 ^ 32 + b % 2 ^ 32 * 2 ^ 32 + c % 2 ^ 32 * 2 ^ 64 + d * 2 ^ 96 + e * 2 ^ 104) 8 = c % 2 ^ 32 := by
  unfold u32At bitsAt
  omega

/-- ENG_HISTORY_MINUTE in a powered node. -/
theorem exec_engHistoryMinute {s : State} (u : Time) (h : s.dev.state.powered = true) : ∃ r t, exec (.engHistoryMinute u) s = .next t
    ∧ t.eng.history = (r :: s.eng.history).take 10080 ∧ t.eng.minute = (0, 0, s.eng.step, s.eng.h)
    ∧ r = (u / sec / 60 - 1) % 2 ^ 32 + s.eng.minute.1 / 60000 % 2 ^ 32 * 2 ^ 32 + s.eng.minute.2.1 % 2 ^ 32 * 2 ^ 64
      + s.eng.minute.2.2.1 * 2 ^ 96 + s.eng.minute.2.2.2 * 2 ^ 104 :=
  ⟨_, _, congrArg Host.Outcome.next (if_pos h), rfl, rfl, rfl⟩

/-- TSNS_READ in a powered node: the resistances are taken, and faulted inputs only logged. -/
theorem exec_tsnsRead {s : State} (os : List Nat) (h : s.dev.state.powered = true) : ∃ t, exec (.tsnsRead os) s = .next t
    ∧ t.fix = { s.fix with ohms := (List.range 8).map fun i => os.getD i 0 } := by
  refine ⟨_, congrArg Host.Outcome.next (if_neg (by simp [h])), ?_⟩
  exact (ChangesOnly.foldl (ps := [.log]) _ (fun a i => logEntry_changes _ _ _ _ _ _ _) _ _) .fix (by decide)

/-- A temperature at or above 125 °C stays so within the limits of its field. -/
theorem hot_limited (x : Int) : (2000 ≤ max (-640) (min 3200 x)) ↔ 2000 ≤ x := by omega

/-- SAFE holds no transaction, and lets ACT_OUT fall. -/
theorem enterSafe_drops (s : State) (c : Nat) : (enterSafe s c).ox.accepted = [] ∧ (enterSafe s c).ox.open_ = []
    ∧ (enterSafe s c).red.actOut = false := by
  unfold enterSafe
  extract_lets s1 dev ox red wired s2
  have h : ChangesOnly [.dev, .que, .host, .stk, .sec, .log, .out] s2 (logEv (toState s2 .safe) 0x0E01 c s.dev.state.code 0) :=
    ((toState_changes s2 _).mono (by decide)).trans ((logEv_changes _ _ _ _ _).mono (by decide))
  rw [h .ox (by decide), h .red (by decide)]
  exact ⟨rfl, rfl, rfl⟩

/-- Settles O28, each command by the branch of its own condition. -/
theorem energyAndTemperatures : Obligations.EnergyAndTemperatures := by
  refine ⟨fun s d c v x hl hg hd hc hx => ?retrim, fun s u hp => ?minute, fun s os hp => ?tsns, fun s x xs hp => ?die,
    fun s hl hh => ?hot, fun s mv hr => congrArg Host.Outcome.next (if_pos hr)⟩
  case retrim =>
    have hgo : ¬(s.dev.state.live = false ∨ g6Shed s ∨ 7 ≤ d ∨ 256 ≤ c) := by
      simp only [hl, hg, Bool.true_eq_false, Bool.false_eq_true, false_or]
      omega
    simp only [exec, execEnergyRetrim, if_neg hgo, ← hx]
    exact ⟨fun h => by rw [if_neg (by omega)], fun h => by rw [if_pos h]⟩
  case minute =>
    obtain ⟨r, t, hexec, hhist, hmin, hr⟩ := exec_engHistoryMinute u hp
    obtain ⟨h0, h4, h8⟩ := minute_words (u / sec / 60 - 1) (s.eng.minute.1 / 60000) s.eng.minute.2.1 s.eng.minute.2.2.1 s.eng.minute.2.2.2
    rw [← hr] at h0 h4 h8
    exact ⟨t, r, hexec, hhist, h0, h4, h8, hmin, execEngHistoryMinute_frames u s t hexec⟩
  case tsns =>
    obtain ⟨t, hexec, hfix⟩ := exec_tsnsRead os hp
    exact ⟨t, hexec, hfix, execTsnsRead_frames os s t hexec⟩
  case die =>
    simp only [exec, execDieTempSample, hp, Bool.not_true, Bool.false_eq_true, if_false, hot_limited]
  case hot =>
    have hv := enterSafe_vitals s 5
    obtain ⟨hacc, hopen, hact⟩ := enterSafe_drops s 5
    exact ⟨_, congrArg Host.Outcome.next (if_pos ⟨hl, hh⟩), state_of_vitals hv, congrArg Vitals.safeCause hv, running_of_vitals hv, hacc,
      hopen, hact⟩

/-! ### Delay lines -/

@[simp] theorem lineGet_linePut_same (s : State) (n : Nat) (x : Line) : lineGet (linePut s n x) n = x := SMap.get_put_same _ _ _ _

theorem lineGet_linePut_other (s : State) {n m : Nat} (h : m ≠ n) (x : Line) : lineGet (linePut s n x) m = lineGet s m :=
  SMap.get_put_other _ _ _ _ _ _ h

theorem calPos_calPosPut_other (s : State) {g k : Nat} (h : k ≠ g) (p : Nat) : calPos (calPosPut s g p) k = calPos s k :=
  SMap.get_put_other _ _ _ _ _ _ h

/-- A group whose pass stands at its idle spare calibrates that first. -/
theorem groupBegin_spare {s : State} {g : Nat} (hp : calPos s g = 0) (hs : spareIdle s g = true) :
    groupBegin s g = calPosPut { s with cal := { s.cal with now := s.cal.now ++ [g * 9 + 8] } } g 1 := by
  unfold groupBegin
  simp [hp, hs]

/-- Groups whose passes stand at their idle spares calibrate all of these, and no line changes. -/
theorem foldl_groupBegin_spares (gs : List Nat) (s : State) (hn : gs.Nodup) (hp : ∀ g ∈ gs, calPos s g = 0)
    (hs : ∀ g ∈ gs, spareIdle s g = true) : ∃ pos, gs.foldl groupBegin s
      = { s with cal := { s.cal with now := s.cal.now ++ gs.map (fun g => g * 9 + 8), pos := pos } } := by
  induction gs generalizing s with
  | nil => exact ⟨s.cal.pos, by simp⟩
  | cons g gs ih =>
    obtain ⟨hg, hn⟩ := List.nodup_cons.mp hn
    obtain ⟨pos, h⟩ := ih (calPosPut { s with cal := { s.cal with now := s.cal.now ++ [g * 9 + 8] } } g 1) hn
      (fun k hk => (calPos_calPosPut_other _ (ne_of_mem_of_not_mem hk hg) 1).trans (hp k (List.mem_cons_of_mem _ hk)))
      (fun k hk => hs k (List.mem_cons_of_mem _ hk))
    refine ⟨pos, ?_⟩
    rw [List.foldl_cons, groupBegin_spare (hp g (List.mem_cons_self ..)) (hs g (List.mem_cons_self ..)), h]
    simp [calPosPut]

/-- The block as a pass begins: every group stands at its spare. -/
def passBegun (s : State) : State :=
  { s with cal := { s.cal with
    running := true, startAt := s.tim.up, spareFailed := [], pos := [(0, 0), (1, 0), (2, 0), (3, 0), (4, 0), (5, 0), (6, 0), (7, 0), (8, 0)] } }

theorem calPos_passBegun (s : State) : ∀ g ∈ List.range 9, calPos (passBegun s) g = 0 := by
  have h : ∀ g ∈ List.range 9, SMap.get 9 [(0, 0), (1, 0), (2, 0), (3, 0), (4, 0), (5, 0), (6, 0), (7, 0), (8, 0)] g = 0 := by decide
  exact h

/-- The calibrations of an edge in a pass while G6 is not shed. -/
theorem calBegin_of_running {s : State} (hr : s.cal.running = true) (hg : g6Shed s = false) :
    calBegin s = (List.range 9).foldl groupBegin s := by simp [calBegin, hr, hg]

/-- CAL_PASS_START with every spare idle: the nine spares calibrate. -/
theorem exec_calPassStart {s : State} (hr : s.frm.running = true) (hb : s.frm.begun = true) (hc : s.cal.running = false)
    (ht : s.cal.startAt + s.cfg.v calInterval * sec ≤ s.tim.up) (hg : g6Shed s = false) (hs : ∀ g, g < 9 → spareIdle s g = true) :
    ∃ pos, exec .calPassStart s = .next { passBegun s with cal := { (passBegun s).cal with
      now := s.cal.now ++ [8, 17, 26, 35, 44, 53, 62, 71, 80], pos := pos } } := by
  obtain ⟨pos, h⟩ := foldl_groupBegin_spares (List.range 9) (passBegun s) List.nodup_range (calPos_passBegun s)
    (fun g h => hs g (List.mem_range.mp h))
  have hstart : calStartPass s = (List.range 9).foldl groupBegin (passBegun s) := calBegin_of_running (s := passBegun s) rfl hg
  exact ⟨pos, congrArg Host.Outcome.next ((if_pos ⟨hr, hb, by simp [hc], ht⟩).trans (hstart.trans h))⟩

/-- CAL_LINE_CALIBRATE of a line that calibrates. -/
theorem exec_calLineCalibrate {s : State} {n : Nat} {as_ : List Bool} (hn : n ∈ s.cal.now) (ha : as_ ≠ []) :
    exec (.calLineCalibrate n as_) s = .next (calResult s n as_) :=
  congrArg Host.Outcome.next (if_pos ⟨by simpa using hn, ha⟩)

/-- Attempts one of which agrees. -/
theorem calResult_agree {s : State} {n : Nat} {as_ : List Bool} (h : true ∈ as_.take 4) : ∃ k, calResult s n as_
    = linePut (calCount s 1 k) n { lineGet s n with fails := 0, lastPass := optimeNow s / 1000 % 4294967296 } :=
  ⟨_, if_pos (List.any_eq_true.mpr ⟨true, h, rfl⟩)⟩

/-- Four attempts that disagree. -/
theorem calResult_disagree (s : State) (n : Nat) (rest : List Bool) :
    ∃ x, calResult s n (false :: false :: false :: false :: rest)
      = { linePut (calCount s 1 4) n { lineGet s n with fails := min 3 ((lineGet s n).fails + 1) } with cal := { (linePut (calCount s 1 4) n
          { lineGet s n with fails := min 3 ((lineGet s n).fails + 1) }).cal with spareFailed := x } } := by
  unfold calResult
  dsimp only
  rw [if_neg (by simp)]
  split
  · exact ⟨_, rfl⟩
  · exact ⟨_, rfl⟩

/-- Settles O29: a pass begins with the spares of its nine groups, and a line's result is put into that line alone. -/
theorem calibrationPassesAndLines : Obligations.CalibrationPassesAndLines := by
  refine ⟨fun s hr hb hc ht hg hnow hs => ?pass, fun s n as_ hn ha => ?agree, fun s n rest hn => ?disagree⟩
  case pass =>
    obtain ⟨pos, hexec⟩ := exec_calPassStart hr hb hc ht hg hs
    rw [hnow] at hexec
    exact ⟨_, hexec, rfl, rfl, rfl, fun n => rfl, execCalPassStart_frames s _ hexec⟩
  case agree =>
    have hexec := exec_calLineCalibrate hn (as_ := as_) (fun h => by simp [h] at ha)
    have hframe := execCalLineCalibrate_frames n as_ s _ hexec
    obtain ⟨k, hres⟩ := calResult_agree (s := s) (n := n) ha
    rw [hres] at hexec hframe
    have hget := lineGet_linePut_same (calCount s 1 k) n
      { lineGet s n with fails := 0, lastPass := optimeNow s / 1000 % 4294967296 }
    exact ⟨_, hexec, (congrArg Line.fails hget :), (congrArg Line.state hget :), (congrArg Line.lastPass hget :),
      fun m hm => lineGet_linePut_other _ hm _, hframe⟩
  case disagree =>
    have hexec := exec_calLineCalibrate hn (as_ := false :: false :: false :: false :: rest) (by simp)
    have hframe := execCalLineCalibrate_frames n _ s _ hexec
    obtain ⟨x, hres⟩ := calResult_disagree s n rest
    rw [hres] at hexec hframe
    exact ⟨_, hexec, congrArg Line.fails (lineGet_linePut_same (calCount s 1 4) n
        { lineGet s n with fails := min 3 ((lineGet s n).fails + 1) }),
      SMap.get_upd_same 0 s.cal.cnt 1 fun x => sat32 x 4, fun m hm => lineGet_linePut_other (calCount s 1 4) hm _, hframe⟩

/-! ### The recorder's slots and buckets -/

/-- A filtered map reads a key of which the filter knows only the key itself: as before where it passes, -/
theorem SMap.get_filter_of_true {α : Type} (d : α) {p : Nat → Bool} {k : Nat} (h : p k = true) (m : SMap α) :
    SMap.get d (m.filter fun x => p x.1) k = SMap.get d m k := by
  induction m with
  | nil => rfl
  | cons x m ih =>
    obtain ⟨j, v⟩ := x
    by_cases hj : p j = true
    · rw [List.filter_cons_of_pos (p := fun x : Nat × α => p x.1) hj, SMap.get, SMap.get, ih]
    · have hne : j ≠ k := fun e => hj (e ▸ h)
      rw [List.filter_cons_of_neg (p := fun x : Nat × α => p x.1) hj, ih, SMap.get, if_neg hne]

/-- and as nothing where it does not. -/
theorem SMap.get_filter_of_false {α : Type} (d : α) {p : Nat → Bool} {k : Nat} (h : p k = false) (m : SMap α) :
    SMap.get d (m.filter fun x => p x.1) k = d := by
  induction m with
  | nil => rfl
  | cons x m ih =>
    obtain ⟨j, v⟩ := x
    by_cases hj : p j = true
    · have hne : j ≠ k := fun e => by rw [e, h] at hj; cases hj
      rw [List.filter_cons_of_pos (p := fun x : Nat × α => p x.1) hj, SMap.get, if_neg hne, ih]
    · rw [List.filter_cons_of_neg (p := fun x : Nat × α => p x.1) hj, ih]

@[simp] theorem bucketOf_putBucket (s : State) (code : Nat) (b : Bucket) : bucketOf (putBucket s code b) code = b :=
  SMap.get_put_same _ _ _ _

theorem slotAt_writeSlot_same (s : State) (l k : Nat) (r : List Byte) : slotAt (writeSlot s l k r) l k = r := SMap.get_put_same _ _ _ _

theorem slotAt_putBucket (s : State) (code : Nat) (b : Bucket) (l k : Nat) : slotAt (putBucket s code b) l k = slotAt s l k := rfl

/-- A slot written leaves the others, of its log and of the others. -/
theorem slotAt_writeSlot_other (s : State) {l k m j : Nat} (h : ¬(m = l ∧ j = k)) (hk : k < 4096) (hj : j < 4096) (r : List Byte) :
    slotAt (writeSlot s l k r) m j = slotAt s m j :=
  SMap.get_put_other _ _ _ _ _ _ (by unfold slotKey; omega)

/-- LOG_SUPPRESSED goes into the next slot where the log has room and is not being cleared. -/
theorem flushSuppressed_room {s : State} {l code : Nat} (hs : (bucketOf s code).suppressed ≠ 0) (hc : clearingOf s l = none)
    (hu : logUsed s l < 4095) : flushSuppressed s l code
      = writeSlot (putBucket s code { bucketOf s code with suppressed := 0, firstAt := 0 }) l (logUsed s l)
          (recordBytes 3 0 8 (optimeNow s) s.log.cycles 0 (logUsed s l) code (bucketOf s code).suppressed
            ((bucketOf s code).firstAt % 4294967296)) := by
  have hc' : clearingOf (putBucket s code { bucketOf s code with suppressed := 0, firstAt := 0 }) l = none := hc
  unfold flushSuppressed
  rw [if_neg hs]
  simp only [hc']
  exact if_pos hu

/-- LOG_TOKEN_ADD of a code of a log with buckets. -/
theorem exec_logTokenAdd {s : State} {code l v : Nat} (he : eventRow code = some (l, v)) (hl : l ≤ 5) (hp : s.dev.state.powered = true) :
    exec (.logTokenAdd code) s = .next (putBucket (flushSuppressed s l code) code { bucketOf (flushSuppressed s l code) code with
      tokens := some (min (tokensOf (flushSuppressed s l code) code + 1) (rateOf (flushSuppressed s l code) code).1) }) := by
  simp only [exec, execLogTokenAdd, he]
  rw [if_pos ⟨hl, hp⟩]

/-- A clear that held no event leaves LOG_CLEARED alone in the log. -/
theorem clearLog_slots (s : State) (l : Nat) {c : Clearing} (hc : c.held = []) :
    (∀ k, 1 ≤ k → k < 4096 → slotAt (clearLog s l c) l k = [])
      ∧ slotAt (clearLog s l c) l 0 = recordBytes 1 0 0 (optimeNow s) s.log.cycles 0 0 c.path (c.tenant + c.role * 256) c.used
      ∧ (∀ j k, j ≠ l → k < 4096 → slotAt (clearLog s l c) j k = slotAt s j k) ∧ clearingOf (clearLog s l c) l = none := by
  unfold clearLog
  extract_lets log s1 s2
  rw [hc, List.foldl_nil]
  have hslot (j k : Nat) : slotAt (logCount s2 l 3 1) j k = slotAt s2 j k := rfl
  have hs1 (j k : Nat) : slotAt s1 j k = SMap.get [] (s.log.slots.filter fun x => decide (x.1 / 4096 ≠ l)) (slotKey j k) := rfl
  have hdiv (j k : Nat) (hk : k < 4096) : slotKey j k / 4096 = j := by unfold slotKey; omega
  refine ⟨fun k h1 hk => ?_, (hslot l 0).trans (slotAt_writeSlot_same s1 l 0 _), fun j k hj hk => ?_, SMap.get_put_same none s.log.clearing l none⟩
  · rw [hslot, slotAt_writeSlot_other s1 (by omega) (by decide) hk, hs1]
    exact SMap.get_filter_of_false (p := fun k => decide (k / 4096 ≠ l)) [] (by simp [hdiv l k hk]) _
  · rw [hslot, slotAt_writeSlot_other s1 (by omega) (by decide) hk, hs1]
    exact SMap.get_filter_of_true (p := fun k => decide (k / 4096 ≠ l)) [] (by simp [hdiv j k hk, hj]) _

/-- The slots and the clears of a log are no part of what its answer changes. -/
theorem exec_logClearDone {s : State} {l : Nat} (u : Time) {c : Clearing} (hc : clearingOf s l = some c) :
    ∃ t, exec (.logClearDone l u) s = .next t ∧ t.log = (clearLog (advance s u) l c).log := by
  have hc' : clearingOf (advance s u) l = some c := hc
  simp only [exec, execLogClearDone, hc']
  split
  · exact ⟨_, rfl, finish_changes _ _ _ _ .log (by decide)⟩
  · exact ⟨_, rfl, rfl⟩

/-- Settles O23: a bucket and the slots of a log read back what is written into them. -/
theorem recorderCommands : Obligations.RecorderCommands := by
  refine ⟨fun s code l v he hl hp h0 => ?none, fun s code l v he hl hp hs hc hu => ?some,
    fun s hp => congrArg Host.Outcome.next (if_pos hp), fun s l u c hc hh => ?clear⟩
  case none =>
    have hf : flushSuppressed s l code = s := if_pos h0
    rw [exec_logTokenAdd he hl hp, hf]
  case some =>
    refine ⟨_, exec_logTokenAdd he hl hp, ?_⟩
    rw [flushSuppressed_room hs hc hu, bucketOf_putBucket]
    have hb := bucketOf_putBucket s code { bucketOf s code with suppressed := 0, firstAt := 0 }
    exact ⟨(congrArg Bucket.suppressed hb :), (congrArg (fun b : Bucket => some (min (min (b.tokens.getD (rateOf s code).1)
      (rateOf s code).1 + 1) (rateOf s code).1)) hb :),
      (slotAt_putBucket _ code _ l _).trans (slotAt_writeSlot_same _ l _ _)⟩
  case clear =>
    obtain ⟨t, hexec, hlog⟩ := exec_logClearDone u hc
    obtain ⟨hrest, hfirst, hother, hclear⟩ := clearLog_slots (advance s u) l hh
    simp only [slotAt, clearingOf, ← hlog] at hrest hfirst hother hclear
    exact ⟨t, hexec, hclear, hrest, hfirst, hother⟩

/-! ### The recorder's requests -/

/-- Settles O24: each request by the branch that takes it, once it is heard. -/
theorem logRequestsAnswer : Obligations.LogRequestsAnswer := by
  refine ⟨fun r s u f hu hh he hf hb hfit => ?read, fun r s u hu hh h1 h4 hl hs hfit => ?cursor,
    fun r s u x f hu hh h1 h4 hlo hhi hx hs hf hb hfit => ?window, fun r s u x hu hh he hx => ?clear⟩
  case read =>
    subst hu
    refine congrArg Host.Outcome.next (serve_done _ logRead r s _ _ _ _ hh ?_ hfit)
    simp only [logRead, he, ← hf, hb, if_true, okWith]
  case cursor =>
    subst hu
    refine congrArg Host.Outcome.next (serve_done _ cursorSet r s _ _ _ _ hh ?_ hfit)
    rw [cursorSet, if_neg (by simp [h1, h4]), if_neg (by omega)]
    rfl
  case window =>
    subst hu
    refine congrArg Host.Outcome.next (serve_done _ windowReadOp r s _ _ _ _ hh ?_ hfit)
    simp only [windowReadOp, hx, ← hf, hs, hb, if_true]
    rw [if_neg (by simp [h1, h4]), if_neg (by omega)]
    rfl
  case clear =>
    subst hu hx
    refine congrArg Host.Outcome.next (serve_wait _ logClear r s _ hh ?_)
    simp only [logClear, he]

end Sys2Proof.Machine
end

section
/-! Lamplighter (R491, R492): the thread that runs next, the thread that gives way, and what a decision leaves of the others. -/

namespace Sys2Proof.Machine

/-! ### A map's entries after one is written -/

/-- Writing an entry that a test fails, in place of one that it fails, leaves the entries that pass. -/
theorem SMap.filter_ins_of_not {α : Type} (d : α) {p : Nat × α → Bool} {k : Nat} {v : α} (hv : p (k, v) = false) (m : SMap α)
    (hg : p (k, SMap.get d m k) = false) : (SMap.ins k v m).filter p = m.filter p := by
  induction m with
  | nil => simp [SMap.ins, hv]
  | cons x m ih =>
    obtain ⟨j, w⟩ := x
    unfold SMap.ins
    split
    · simp [List.filter_cons, hv]
    · split
      · next hj =>
        subst hj
        rw [SMap.get, if_pos rfl] at hg
        simp [hv, hg]
      · next hj =>
        rw [SMap.get, if_neg hj] at hg
        simp [List.filter_cons, ih hg]

/-- Where no entry passes a test, a new one that does is the only one. -/
theorem SMap.filter_ins_of_empty {α : Type} {p : Nat × α → Bool} {k : Nat} {v : α} (hv : p (k, v) = true) (m : SMap α)
    (he : m.filter p = []) : (SMap.ins k v m).filter p = [(k, v)] := by
  induction m with
  | nil => simp [SMap.ins, hv]
  | cons x m ih =>
    obtain ⟨j, w⟩ := x
    obtain ⟨hw, hm⟩ : p (j, w) = false ∧ m.filter p = [] := by
      rw [List.filter_cons] at he
      split at he
      · cases he
      · next h => exact ⟨by simpa using h, he⟩
    unfold SMap.ins
    split
    · simp [hv, hw, hm]
    · split
      · simp [hv, hm]
      · simp [hw, ih hm]

/-- A deleted key's entries are gone, and the others stay. -/
theorem SMap.del_eq_filter {α : Type} (k : Nat) (m : SMap α) : SMap.del k m = m.filter fun x => decide (x.1 ≠ k) := by
  induction m with
  | nil => rfl
  | cons x m ih =>
    obtain ⟨j, w⟩ := x
    unfold SMap.del
    split
    · next hj => simp [hj, ih]
    · next hj => simp [hj, ih]

/-! ### The ready thread that runs next (R491) -/

/-- A ready thread goes before another: it has the greater priority, or the same and has been ready longer. -/
def Beats (a b : Nat × Thread) : Prop :=
  (Config.threadPrio b.1).val < (Config.threadPrio a.1).val
    ∨ (Config.threadPrio a.1).val = (Config.threadPrio b.1).val ∧ a.2.order < b.2.order

theorem readier_of_beats {a b : Nat × Thread} (h : Beats a b) : readier a b = a := if_pos h

theorem readier_of_not_beats {a b : Nat × Thread} (h : ¬Beats a b) : readier a b = b := if_neg h

/-- The thread that goes first in a list of ready threads. -/
def firstReady (l : List (Nat × Thread)) : Option (Nat × Thread) :=
  l.foldl (fun a x => some (match a with
    | none => x
    | some y => readier y x)) none

theorem nextReady_eq (s : State) : nextReady s = firstReady (s.sch.threads.filter fun x => decide (x.2.state = 1)) := rfl

theorem firstReady_concat (l : List (Nat × Thread)) (x : Nat × Thread) : firstReady (l ++ [x]) = some (match firstReady l with
    | none => x
    | some y => readier y x) := by
  rw [firstReady, List.foldl_append]
  rfl

theorem firstReady_eq_none {l : List (Nat × Thread)} : firstReady l = none ↔ l = [] := by
  induction l using List.reverseRecOn with
  | nil => simp [firstReady]
  | append_singleton l x _ => simp [firstReady_concat]

theorem mem_of_firstReady {l : List (Nat × Thread)} {y : Nat × Thread} (h : firstReady l = some y) : y ∈ l := by
  induction l using List.reverseRecOn generalizing y with
  | nil => cases h
  | append_singleton l x ih =>
    rw [firstReady_concat, Option.some.injEq] at h
    rw [List.mem_append, List.mem_singleton]
    cases hl : firstReady l with
    | none =>
      rw [hl] at h
      exact .inr h.symm
    | some w =>
      rw [hl] at h
      by_cases hb : Beats w x
      · exact .inl ((readier_of_beats hb).symm.trans h ▸ ih hl)
      · exact .inr ((readier_of_not_beats hb).symm.trans h).symm

/-- No thread of the list goes before the first. -/
theorem not_beats_firstReady {l : List (Nat × Thread)} {y : Nat × Thread} (h : firstReady l = some y) : ∀ z ∈ l, ¬Beats z y := by
  induction l using List.reverseRecOn generalizing y with
  | nil => simp
  | append_singleton l x ih =>
    rw [firstReady_concat, Option.some.injEq] at h
    intro z hz
    rw [List.mem_append, List.mem_singleton] at hz
    cases hl : firstReady l with
    | none =>
      rw [firstReady_eq_none.mp hl] at hz
      rw [hl] at h
      obtain rfl : x = y := h
      obtain rfl : z = x := by simpa using hz
      unfold Beats
      omega
    | some w =>
      rw [hl] at h
      by_cases hb : Beats w x
      · obtain rfl : w = y := (readier_of_beats hb).symm.trans h
        obtain hz | rfl := hz
        · exact ih hl z hz
        · unfold Beats at hb ⊢
          omega
      · obtain rfl : x = y := (readier_of_not_beats hb).symm.trans h
        obtain hz | rfl := hz
        · have := ih hl z hz
          unfold Beats at hb this ⊢
          omega
        · unfold Beats
          omega

/-- The first stays first where others leave the list. -/
theorem firstReady_filter {l : List (Nat × Thread)} {y : Nat × Thread} {p : Nat × Thread → Bool} (h : firstReady l = some y) (hp : p y = true) :
    firstReady (l.filter p) = some y := by
  induction l using List.reverseRecOn generalizing y with
  | nil => cases h
  | append_singleton l x ih =>
    have hfirst := h
    rw [firstReady_concat, Option.some.injEq] at h
    rw [List.filter_append]
    cases hl : firstReady l with
    | none =>
      rw [hl] at h
      obtain rfl : x = y := h
      rw [firstReady_eq_none.mp hl]
      simp [hp, firstReady]
    | some w =>
      rw [hl] at h
      by_cases hb : Beats w x
      · obtain rfl : w = y := (readier_of_beats hb).symm.trans h
        by_cases hx : p x = true
        · simp [hx, firstReady_concat, ih hl hp, readier_of_beats hb]
        · simp [hx, ih hl hp]
      · obtain rfl : x = y := (readier_of_not_beats hb).symm.trans h
        have hx : [x].filter p = [x] := by simp [hp]
        rw [hx, firstReady_concat]
        cases hf : firstReady (l.filter p) with
        | none => rfl
        | some v =>
          have hv : v ∈ l := List.mem_of_mem_filter (mem_of_firstReady hf)
          exact congrArg some (readier_of_not_beats (not_beats_firstReady hfirst v (List.mem_append_left _ hv)))

/-! ### Threads and cores -/

section
variable {s t : State} (h : t.sch.threads = s.sch.threads)
include h

theorem thGet_congr (n : Nat) : thGet t n = thGet s n := by rw [thGet, h, thGet]
theorem onCore_congr (c : Nat) : onCore t c = onCore s c := by rw [onCore, h, onCore]
theorem nextReady_congr : nextReady t = nextReady s := by rw [nextReady, h, nextReady]

end

/-- The trace is no part of the threads. -/
theorem trace_threads (s : State) (ty core n : Nat) (other : Option Nat) (cause : Nat) (t : Time) :
    (trace s ty core n other cause t).sch.threads = s.sch.threads := by
  have hlost : (traceLost s).sch.threads = s.sch.threads := by
    unfold traceLost
    split
    · rfl
    · rw [qCommit_changes _ 30 _ _ .sch (by decide)]
  have hoffer (a : State) (b : List Byte) : (qOffer a 30 b).2.sch = a.sch := by
    unfold qOffer
    split
    · exact qCommit_changes a 30 false b .sch (by decide)
    · rfl
  unfold trace
  dsimp only
  split
  · rfl
  · split
    · rw [hoffer, hlost]
    · exact (congrArg Sched.threads (hoffer _ _)).trans hlost

@[simp] theorem thGet_trace (s : State) (ty core n : Nat) (other : Option Nat) (cause : Nat) (t : Time) (k : Nat) :
    thGet (trace s ty core n other cause t) k = thGet s k := thGet_congr (trace_threads ..) k

@[simp] theorem onCore_trace (s : State) (ty core n : Nat) (other : Option Nat) (cause : Nat) (t : Time) (c : Nat) :
    onCore (trace s ty core n other cause t) c = onCore s c := onCore_congr (trace_threads ..) c

@[simp] theorem nextReady_trace (s : State) (ty core n : Nat) (other : Option Nat) (cause : Nat) (t : Time) :
    nextReady (trace s ty core n other cause t) = nextReady s := nextReady_congr (trace_threads ..)

@[simp] theorem thGet_advance (s : State) (u : Time) (n : Nat) : thGet (advance s u) n = thGet s n := rfl
@[simp] theorem onCore_advance (s : State) (u : Time) (c : Nat) : onCore (advance s u) c = onCore s c := rfl
@[simp] theorem nextReady_advance (s : State) (u : Time) : nextReady (advance s u) = nextReady s := rfl

@[simp] theorem thGet_thPut_same (s : State) (n : Nat) (x : Thread) : thGet (thPut s n x) n = x := SMap.get_put_same _ _ _ _

theorem thGet_thPut_other (s : State) {n k : Nat} (h : k ≠ n) (x : Thread) : thGet (thPut s n x) k = thGet s k :=
  SMap.get_put_other _ _ _ _ _ _ h

/-- The record of a thread made ready. -/
def readied (s : State) (n cause : Nat) (u : Time) : Thread :=
  { thGet s n with state := 1, core := 0xFF, since := u, order := s.sch.next, cause := cause }

theorem makeReady_threads (s : State) (n cause : Nat) (u : Time) :
    (makeReady s n cause u).sch.threads = (thPut s n (readied s n cause u)).sch.threads := rfl

theorem thGet_makeReady_same (s : State) (n cause : Nat) (u : Time) : thGet (makeReady s n cause u) n = readied s n cause u :=
  (thGet_congr (makeReady_threads s n cause u) n).trans (thGet_thPut_same _ _ _)

theorem thGet_makeReady_other (s : State) {n k : Nat} (h : k ≠ n) (cause : Nat) (u : Time) : thGet (makeReady s n cause u) k = thGet s k :=
  (thGet_congr (makeReady_threads s n cause u) k).trans (thGet_thPut_other _ h _)

theorem thGet_startRun_same (s : State) (n c : Nat) (u : Time) : thGet (startRun s n c u) n = { thGet s n with state := 2, core := c, since := u } :=
  thGet_thPut_same _ _ _

theorem thGet_startRun_other (s : State) {n k : Nat} (h : k ≠ n) (c : Nat) (u : Time) : thGet (startRun s n c u) k = thGet s k :=
  thGet_thPut_other _ h _

/-- A used record takes its place among the threads. -/
theorem thPut_threads {s : State} {n : Nat} {x : Thread} (h : x ≠ Thread.unused) :
    (thPut s n x).sch.threads = SMap.ins n x s.sch.threads := if_neg h

/-- A core runs what it ran where a thread that does not run stays off the cores. -/
theorem onCore_thPut {s : State} {n : Nat} {x : Thread} (hx : x.state ≠ 2) (hn : (thGet s n).state ≠ 2) (hu : x ≠ Thread.unused) (c : Nat) :
    onCore (thPut s n x) c = onCore s c := by
  have h := SMap.filter_ins_of_not Thread.unused (p := fun y : Nat × Thread => decide (y.2.state = 2 ∧ y.2.core = c)) (k := n) (v := x)
    (by simp [hx]) s.sch.threads (by simpa [thGet] using fun e => absurd e hn)
  rw [onCore, thPut_threads hu, onCore, ← List.head?_filter, ← List.head?_filter, h]

/-- The next ready thread stays the next where a thread that is not ready changes to another such state. -/
theorem nextReady_thPut {s : State} {n m : Nat} {x y : Thread} (hx : x.state ≠ 1) (hn : (thGet s n).state ≠ 1)
    (hr : nextReady s = some (m, y)) (hm : m ≠ n) : nextReady (thPut s n x) = some (m, y) := by
  have hr' : firstReady (s.sch.threads.filter fun z => decide (z.2.state = 1)) = some (m, y) := hr
  by_cases hu : x = Thread.unused
  · have ht : (thPut s n x).sch.threads = SMap.del n s.sch.threads := if_pos hu
    rw [nextReady_eq, ht, SMap.del_eq_filter, List.filter_filter]
    have hk := firstReady_filter hr' (p := fun z => decide (z.1 ≠ n)) (by simpa using hm)
    rw [List.filter_filter] at hk
    simpa only [Bool.and_comm] using hk
  · have h := SMap.filter_ins_of_not Thread.unused (p := fun z : Nat × Thread => decide (z.2.state = 1)) (k := n) (v := x)
      (by simp [hx]) s.sch.threads (by simpa [thGet] using hn)
    rw [nextReady_eq, thPut_threads hu, h]
    exact hr'

/-- A thread made ready while no other is comes next. -/
theorem nextReady_makeReady {s : State} (h : nextReady s = none) (n cause : Nat) (u : Time) :
    nextReady (makeReady s n cause u) = some (n, readied s n cause u) := by
  have he : (s.sch.threads.filter fun z => decide (z.2.state = 1)) = [] := firstReady_eq_none.mp h
  have hu : readied s n cause u ≠ Thread.unused := fun e => absurd (congrArg Thread.state e) (by simp [readied, Thread.unused])
  rw [nextReady_congr (makeReady_threads s n cause u), nextReady_eq, thPut_threads hu,
    SMap.filter_ins_of_empty (by simp [readied]) _ he]
  rfl

theorem onCore_makeReady {s : State} {n : Nat} (h : (thGet s n).state ≠ 2) (cause : Nat) (u : Time) (c : Nat) :
    onCore (makeReady s n cause u) c = onCore s c := by
  have hu : readied s n cause u ≠ Thread.unused := fun e => absurd (congrArg Thread.state e) (by simp [readied, Thread.unused])
  rw [onCore_congr (makeReady_threads s n cause u), onCore_thPut (by simp [readied]) h hu]

/-- A core that has become free runs the next ready thread. -/
theorem dispatch_ready {s : State} {m : Nat} {x : Thread} (h : nextReady s = some (m, x)) (c : Nat) (u : Time) :
    dispatch s c u = trace (startRun s m c u) 1 c m none x.cause u := by
  rw [dispatch, h]

/-! ### The thread that gives way (R491) -/

/-- One core weighed against the choice so far. -/
def victimStep (s : State) (a : Option (Nat × Nat)) (core : Nat) : Option (Nat × Nat) :=
  match onCore s core with
  | none => a
  | some n => match a with
    | none => some (core, n)
    | some (c0, m) =>
      let pn := (Config.threadPrio n).val
      let pm := (Config.threadPrio m).val
      if pn < pm ∨ (pn = pm ∧ (thGet s n).since < (thGet s m).since) then some (core, n) else some (c0, m)

theorem victim_eq (s : State) : victim s = (List.range 4).foldl (victimStep s) none := rfl

/-- The choice is a thread on its core. -/
theorem victimStep_onCore {s : State} {a : Option (Nat × Nat)} (ha : ∀ x ∈ a, onCore s x.1 = some x.2) (core : Nat) :
    ∀ x ∈ victimStep s a core, onCore s x.1 = some x.2 := by
  unfold victimStep
  split
  · exact ha
  · next n hn =>
    split
    · rintro _ ⟨⟩
      exact hn
    · dsimp only
      split
      · rintro _ ⟨⟩
        exact hn
      · exact ha

theorem foldl_victimStep_onCore {s : State} (l : List Nat) {a : Option (Nat × Nat)} (ha : ∀ x ∈ a, onCore s x.1 = some x.2) :
    ∀ x ∈ l.foldl (victimStep s) a, onCore s x.1 = some x.2 := by
  induction l generalizing a with
  | nil => exact ha
  | cons c l ih => exact ih (victimStep_onCore ha c)

theorem onCore_of_victim {s : State} {c m : Nat} (h : victim s = some (c, m)) : onCore s c = some m :=
  foldl_victimStep_onCore (List.range 4) (a := none) (by simp) (c, m) (victim_eq s ▸ h)

/-- The choice depends on the threads on the cores alone. -/
theorem victim_congr {s t : State} (hc : ∀ c, onCore t c = onCore s c) (hg : ∀ c n, onCore s c = some n → thGet t n = thGet s n) :
    victim t = victim s := by
  have hstep {a : Option (Nat × Nat)} (ha : ∀ x ∈ a, onCore s x.1 = some x.2) (c : Nat) : victimStep t a c = victimStep s a c := by
    unfold victimStep
    rw [hc]
    split
    · rfl
    · next n hn =>
      split
      · rfl
      · next c0 m => rw [hg c n hn, hg c0 m (ha (c0, m) rfl)]
  have hfold (l : List Nat) {a : Option (Nat × Nat)} (ha : ∀ x ∈ a, onCore s x.1 = some x.2) :
      l.foldl (victimStep t) a = l.foldl (victimStep s) a := by
    induction l generalizing a with
    | nil => rfl
    | cons c l ih => rw [List.foldl_cons, List.foldl_cons, hstep ha, ih (victimStep_onCore ha c)]
  exact (victim_eq t).trans ((hfold (List.range 4) (by simp)).trans (victim_eq s).symm)

/-! ### The commands -/

section
variable {s : State} {n k v : Nat} {w : Option Nat} {u : Time}

/-- The cause of a wake as a thread keeps it. -/
def wakeCause (k v : Nat) : Nat := k % 16 * 4096 + v % 4096

/-- The block once a woken thread is ready. -/
def woken (s : State) (n k v : Nat) (w : Option Nat) (u : Time) : State :=
  trace (makeReady (advance s u) n (wakeCause k v) u) 4 0 n w (wakeCause k v) u

/-- THREAD_WAKE of a thread that is neither ready nor running. -/
theorem exec_threadWake (k v : Nat) (w : Option Nat) (u : Time) (hn : n < 256) (h1 : (thGet s n).state ≠ 1) (h2 : (thGet s n).state ≠ 2)
    (hp : s.dev.state.powered = true) : exec (.threadWake n k v w u) s = .next
      (match (List.range 4).find? fun c => (onCore (woken s n k v w u) c).isNone with
        | some c => dispatch (woken s n k v w u) c u
        | none => match victim (woken s n k v w u) with
          | none => woken s n k v w u
          | some (c, m) =>
            if (Config.threadPrio m).val < (Config.threadPrio n).val then
              trace (startRun (displace (woken s n k v w u) m u) n c u) 2 c n (some m) (wakeCause k v) u
            else woken s n k v w u) :=
  congrArg Host.Outcome.next (if_neg (by simp [h1, h2, hp, hn]))

theorem onCore_woken (h2 : (thGet s n).state ≠ 2) (c : Nat) : onCore (woken s n k v w u) c = onCore s c :=
  (onCore_trace ..).trans (onCore_makeReady (s := advance s u) h2 _ u c)

theorem thGet_woken_same : thGet (woken s n k v w u) n = readied (advance s u) n (wakeCause k v) u :=
  (thGet_trace ..).trans (thGet_makeReady_same _ _ _ _)

theorem thGet_woken_other {m : Nat} (hm : m ≠ n) : thGet (woken s n k v w u) m = thGet s m :=
  (thGet_trace ..).trans (thGet_makeReady_other _ hm _ _)

end

/-- A thread displaced is ready again, and has been preempted once more. -/
theorem thGet_displace_same (s : State) (n : Nat) (u : Time) :
    (thGet (displace s n u) n).state = 1 ∧ (thGet (displace s n u) n).preempts = sat32 (thGet s n).preempts 1 := by
  unfold displace
  dsimp only
  rw [thGet_makeReady_same, readied, thGet_thPut_same, stopRun, thGet_thPut_same]
  exact ⟨rfl, rfl⟩

/-- A thread that leaves its core for a state other than ready gives it to the next ready thread. -/
theorem thGet_dispatch_stopRun {s : State} {n m c st : Nat} {x : Thread} (u : Time) (ty : Nat) (hst : st ≠ 1) (hn : (thGet s n).state = 2)
    (hr : nextReady s = some (m, x)) (hm : m ≠ n) :
    thGet (dispatch (trace (stopRun s n st u) ty c n none 0 u) c u) n
        = { thGet s n with state := st, core := 0xFF, runNs := (thGet s n).runNs + (u - (thGet s n).since), since := u }
      ∧ (thGet (dispatch (trace (stopRun s n st u) ty c n none 0 u) c u) m).state = 2
      ∧ (thGet (dispatch (trace (stopRun s n st u) ty c n none 0 u) c u) m).core = c := by
  have hnext : nextReady (trace (stopRun s n st u) ty c n none 0 u) = some (m, x) :=
    (nextReady_trace ..).trans (nextReady_thPut hst (by rw [hn]; decide) hr hm)
  rw [dispatch_ready hnext, thGet_trace, thGet_trace, thGet_startRun_other _ hm.symm, thGet_startRun_same, thGet_trace, stopRun,
    thGet_thPut_same]
  exact ⟨rfl, rfl, rfl⟩

/-- Settles O22: a thread made ready is the only one, or leaves the choice of the victim alone; one that stops leaves the next ready. -/
theorem threadsMoveBetweenCoresByPriority : Obligations.ThreadsMoveBetweenCoresByPriority := by
  refine ⟨fun s n k v c w u hn h1 h2 hp hr hc => ?idle, fun s n k v c m w u hn h1 h2 hp hall hno hv => ?busy,
    fun s n m c x u ho hn hr hm => ⟨?block, ?exit⟩, fun s n m c x u ho hr hm hs => ?slice⟩
  case idle =>
    refine ⟨_, exec_threadWake k v w u hn h1 h2 hp, ?_⟩
    have hfind : ((List.range 4).find? fun c => (onCore (woken s n k v w u) c).isNone) = some c := by simpa only [onCore_woken h2] using hc
    have hnext : nextReady (woken s n k v w u) = some (n, readied (advance s u) n (wakeCause k v) u) :=
      (nextReady_trace ..).trans (nextReady_makeReady (s := advance s u) hr n _ u)
    rw [hfind]
    dsimp only
    rw [dispatch_ready hnext, thGet_trace, thGet_startRun_same]
    exact ⟨rfl, rfl, rfl⟩
  case busy =>
    have hfind : ((List.range 4).find? fun c => (onCore (woken s n k v w u) c).isNone) = none := by
      rw [List.find?_eq_none]
      intro x hx
      rw [onCore_woken h2, Option.isNone_iff_eq_none]
      exact hall x (List.mem_range.mp hx)
    have hmn : m ≠ n := fun e => hno c (e ▸ onCore_of_victim hv)
    have hvict : victim (woken s n k v w u) = some (c, m) :=
      (victim_congr (fun c => onCore_woken h2 c) fun c j hj => thGet_woken_other fun e => hno c (e ▸ hj)).trans hv
    refine ⟨_, exec_threadWake k v w u hn h1 h2 hp, ?_⟩
    rw [hfind]
    dsimp only
    rw [hvict]
    dsimp only
    by_cases hlt : Config.threadPrio m < Config.threadPrio n
    · obtain ⟨hst, hpre⟩ := thGet_displace_same (woken s n k v w u) m u
      rw [if_pos hlt, if_pos (Fin.lt_def.mp hlt), thGet_trace, thGet_trace, thGet_startRun_same, thGet_startRun_other _ hmn]
      exact ⟨rfl, rfl, hst, hpre.trans (by rw [thGet_woken_other hmn])⟩
    · rw [if_neg hlt, if_neg fun h => hlt (Fin.lt_def.mpr h), thGet_woken_same, thGet_woken_other hmn]
      exact ⟨rfl, rfl⟩
  case block =>
    obtain ⟨hget, hst, hcore⟩ := thGet_dispatch_stopRun (s := advance s u) (c := c) u 3 (st := 3) (by decide) hn hr hm
    have ho' : onCore (advance s u) c = some n := ho
    refine ⟨dispatch (trace (stopRun (advance s u) n 3 u) 3 c n none 0 u) c u, by simp only [exec, execThreadBlock, ho'], ?_⟩
    rw [hget]
    exact ⟨rfl, rfl, hst, hcore⟩
  case exit =>
    obtain ⟨hget, hst, hcore⟩ := thGet_dispatch_stopRun (s := advance s u) (c := c) u 6 (st := 0) (by decide) hn hr hm
    have ho' : onCore (advance s u) c = some n := ho
    refine ⟨dispatch (trace (stopRun (advance s u) n 0 u) 6 c n none 0 u) c u, by simp only [exec, execThreadExit, ho'], ?_⟩
    rw [hget]
    exact ⟨rfl, hst, hcore⟩
  case slice =>
    have ho' : onCore (advance s u) c = some n := ho
    have hr' : nextReady (advance s u) = some (m, x) := hr
    have hs' : (thGet (advance s u) n).since + ms ≤ u := hs
    by_cases hp : Config.threadPrio n = Config.threadPrio m
    · refine ⟨trace (startRun (displace (advance s u) n u) m c u) 5 c m (some n) x.cause u, ?_, fun _ => ?_⟩
      · simp only [exec, execThreadSlice, ho', hr']
        rw [if_pos ⟨hp, hs'⟩]
      · rw [thGet_trace, thGet_trace, thGet_startRun_same, thGet_startRun_other _ hm.symm]
        exact ⟨rfl, rfl, (thGet_displace_same _ n u).1⟩
    · refine ⟨advance s u, ?_, fun h => absurd h hp⟩
      simp only [exec, execThreadSlice, ho', hr']
      rw [if_neg fun h => hp h.1]

end Sys2Proof.Machine
end

section
/-! What requests of EDGE items and single IMMEDIATE writes come to: a transaction of its own accepted for the next open frame, or the
parameter's action carried out at once. -/

namespace Sys2Proof.Machine

/-! ### A request that is its own transaction (R309, R311) -/

/-- What a transaction of its own answers where everything that it needs is there. -/
theorem ownTxn_of_edgeReady {op : Nat} {r : Req} {s v : State} (h : EdgeReady op r s v) :
    ownTxn op (by_ op r s) r (inService op r s)
      = (.done .accepted 0 (acceptedBytes true (ownAcc op r s).frame (ownAcc op r s).id), v) := by
  obtain ⟨-, -, -, hrun, hroom, hinv, herr, hv, -⟩ := h
  subst hv
  unfold ownTxn
  simp only [hrun, hroom, hinv, commitHere]
  dsimp only [ownAcc] at herr
  simp [herr, ownAcc]

/-- A handler that treats a well-formed request outside a transaction as its own transaction accepts one that is ready. -/
theorem serve_of_edgeReady {op : Nat} {r : Req} {s v : State} (h : EdgeReady op r s v) {handle : Caller → Req → State → Answer × State}
    (hh : handle (by_ op r s) r (inService op r s) = ownTxn op (by_ op r s) r (inService op r s)) :
    serve op handle r s = edgeAnswered op r s v := by
  have hown := ownTxn_of_edgeReady h
  obtain ⟨heard, -, -, -, -, -, -, -, hfit⟩ := h
  exact serve_done op handle r s v _ _ _ heard (hh.trans hown) hfit

/-- Accepting a transaction puts it behind those accepted. -/
theorem accept_accepted (s : State) (x : AccTxn) : (accept s x).ox.accepted = s.ox.accepted ++ [x] := by
  have hj (u : State) : (sendJournal u x).ox = u.ox := by
    unfold sendJournal
    split
    · exact mirSend_changes u 5 _ .ox (by decide)
    · rfl
  rw [accept, hj, enlist_accepted]

/-- The transaction stands among those accepted once its request is answered. -/
theorem ownAcc_mem_edgeAnswered {op : Nat} {r : Req} {s v : State} (h : EdgeReady op r s v) :
    ownAcc op r s ∈ (edgeAnswered op r s v).ox.accepted := by
  obtain ⟨-, -, -, -, -, -, -, hv, -⟩ := h
  have hkeep : (edgeAnswered op r s v).ox.accepted = v.ox.accepted := congrArg Course.accepted (finish_course v op r _)
  rw [hkeep, hv, accept_accepted]
  simp

theorem setOp_of_edge {c : Caller} {r : Req} (u : State) (ht : r.txn = false) (hf : itemForm { op := 0x02, req := r } = none)
    (he : ∀ y ∈ r.items, edgeId y.id = true) : setOp c r u = ownTxn 0x02 c r u := by
  have hall : (r.items.all fun y => edgeId y.id) = true := List.all_eq_true.mpr he
  simp [setOp, ht, hf, hall]

theorem tableWriteOp_of_edge {c : Caller} {r : Req} {d : TableSpec} (u : State) (ht : r.txn = false)
    (hf : itemForm { op := 0x20, req := r } = none) (hd : findTable (tblId r) = some d) (he : d.edge = true) :
    tableWriteOp c r u = ownTxn 0x20 c r u := by
  simp [tableWriteOp, ht, hf, hd, he]

theorem streamBindOp_of_form {c : Caller} {r : Req} (u : State) (ht : r.txn = false) (hf : itemForm { op := 0x22, req := r } = none) :
    streamBindOp c r u = ownTxn 0x22 c r u := by
  simp [streamBindOp, ht, hf]

theorem rewindOp_of_form {c : Caller} {r : Req} (u : State) (ht : r.txn = false) (hf : itemForm { op := 0x23, req := r } = none) :
    rewindOp c r u = ownTxn 0x23 c r u := by
  simp [rewindOp, ht, hf]

/-- Settles O32: each of the commands is a handler that hands a ready request to `ownTxn`, whose acceptance puts the transaction on the
list that the answer keeps. -/
theorem edgeRequestsAreAccepted : Obligations.EdgeRequestsAreAccepted := by
  unfold Obligations.EdgeRequestsAreAccepted
  refine ⟨fun r s v he h => ?_, fun r d s v hd he h => ?_, fun r s v h => ?_, fun r s v h => ?_⟩
  case refine_1 =>
    obtain ⟨-, ht, hf, -⟩ := id h
    have hs : Host.Outcome.next (serve 0x02 setOp r s) = (.next (edgeAnswered 0x02 r s v) : Host.Outcome State Fault Refusal) :=
      congrArg _ (serve_of_edgeReady h (setOp_of_edge _ ht hf he))
    exact ⟨hs, hs, hs, hs, hs, hs, hs, hs, hs, ownAcc_mem_edgeAnswered h⟩
  case refine_2 =>
    obtain ⟨-, ht, hf, -⟩ := id h
    exact ⟨congrArg _ (serve_of_edgeReady h (tableWriteOp_of_edge _ ht hf hd he)), ownAcc_mem_edgeAnswered h⟩
  case refine_3 =>
    obtain ⟨-, ht, hf, -⟩ := id h
    exact ⟨congrArg _ (serve_of_edgeReady h (streamBindOp_of_form _ ht hf)), ownAcc_mem_edgeAnswered h⟩
  case refine_4 =>
    obtain ⟨-, ht, hf, -⟩ := id h
    exact ⟨congrArg _ (serve_of_edgeReady h (rewindOp_of_form _ ht hf)), ownAcc_mem_edgeAnswered h⟩

/-! ### IMMEDIATE parameters that act (R309) -/

/-- A SET of one acting IMMEDIATE parameter is what its action makes of the block, answered OK. -/
theorem serve_of_actsReady {p : ParamRow} {r : Req} {s v : State} (h : ActsReady p r s v) (hedge : p.edge = false)
    (hact : p.wo = true ∨ p.id = timRtcSet.id) : serve 0x02 setOp r s = answered 0x02 r v .ok 0 [] := by
  obtain ⟨y, hy, hid, hfind, heard, ht, hform, himm, herr, hv, hfit⟩ := h
  subst hv
  have hfind' : findParam y.id = some p := hid ▸ hfind
  have hnow : setOp (by_ 0x02 r s) r (inService 0x02 r s) = setNow (by_ 0x02 r s) r (inService 0x02 r s) := by
    simp [setOp, ht, hform, hy, edgeId, hfind', hedge]
  refine serve_done 0x02 setOp r s _ _ _ _ heard (hnow.trans ?_) hfit
  have hitem : immItem (by_ 0x02 r s) r (.ok (inService 0x02 r s)) (0, y) = .ok (actionDo (inService 0x02 r s) p y) := by
    simp only [immItem, hfind', herr]
    exact if_pos hact
  have hnum : numbered [y] = [(0, y)] := rfl
  simp only [setNow, himm, hy, hnum, List.foldl_cons, List.foldl_nil, hitem]
  rfl

/-- A fold makes true of each of its elements what a step makes true of its own and no step undoes. -/
theorem foldl_establishes {σ α : Type} {P : σ → α → Prop} {f : σ → α → σ} (hset : ∀ s a, P (f s a) a)
    (hkeep : ∀ s a b, P s b → P (f s a) b) {l : List α} {b : α} (hb : b ∈ l) (s : σ) : P (l.foldl f s) b := by
  have keep (l : List α) (s : σ) (h : P s b) : P (l.foldl f s) b := by
    induction l generalizing s with
    | nil => exact h
    | cons a as ih => exact ih _ (hkeep s a b h)
  induction l generalizing s with
  | nil => cases hb
  | cons a as ih =>
    rcases List.mem_cons.mp hb with rfl | hb
    · exact keep as _ (hset s b)
    · exact ih hb _

theorem mem_bitsSet {n mask k : Nat} (hk : k < n) (hb : bitAt mask k = true) : k ∈ bitsSet n mask :=
  List.mem_filter.mpr ⟨List.mem_range.mpr hk, hb⟩

theorem discStart_disc (s : State) {mask n : Nat} (hn : n < 16) (hb : bitAt mask n = true) : (dmxGet (discStart s mask) n).disc = true := by
  refine foldl_establishes (P := fun a k => (dmxGet a k).disc = true) (fun a k => ?_) (fun a k j h => ?_) (mem_bitsSet hn hb) s
  · rw [dmxGet_dmxPut]
  · by_cases hk : j = k
    · rw [hk, dmxGet_dmxPut]
    · rw [dmxGet_dmxPut_other _ _ _ _ hk]
      exact h

theorem dalRunStart_addressing (s : State) {v n : Nat} (hn : n < 8) (hb : bitAt v n = true) :
    (daliGet (dalRunStart s v) n).addressing = some (bitAt v 8) := by
  refine foldl_establishes (P := fun a k => (daliGet a k).addressing = some (bitAt v 8)) (fun a k => ?_) (fun a k j h => ?_)
    (mem_bitsSet hn hb) s
  · rw [daliGet_daliPut]
  · by_cases hk : j = k
    · rw [hk, daliGet_daliPut]
    · rw [daliGet_daliPut_other _ _ _ _ hk]
      exact h

theorem queFlushMask_flushing (s : State) {mask n : Nat} (hn : n < 32) (hb : bitAt mask n = true) :
    (qGet (queFlushMask s mask) n).flushing = true := by
  refine foldl_establishes (P := fun a k => (qGet a k).flushing = true) (fun a k => ?_) (fun a k j h => ?_) (mem_bitsSet hn hb) s
  · rw [reqFlush, qGet_qPut]
  · by_cases hk : j = k
    · rw [hk, reqFlush, qGet_qPut]
    · rw [reqFlush, qGet_qPut_other _ _ _ _ hk]
      exact h

/-! What each of the actions is. -/

section
variable {s : State} {p : ParamRow} {y : SetItem}

theorem actionDo_dmxRdmReq (h : p.id = dmxRdmReq.id) : actionDo s p y = rdmSubmit s y.value := if_pos h
theorem actionDo_dmxRdmDisc (h : p.id = dmxRdmDisc.id) : actionDo s p y = discStart s y.value := by
  rw [actionDo, h]
  rfl
theorem actionDo_dalCmd (h : p.id = dalCmd.id) : actionDo s p y = dalSubmit s y.value := by
  rw [actionDo, h]
  rfl
theorem actionDo_dalAddressRun (h : p.id = dalAddressRun.id) : actionDo s p y = dalRunStart s y.value := by
  rw [actionDo, h]
  rfl
theorem actionDo_radTx (h : p.id = radTx.id) : actionDo s p y = radTxSubmit s (leBytes y.len y.value) := by
  rw [actionDo, h]
  rfl
theorem actionDo_queFlush (h : p.id = queFlush.id) : actionDo s p y = queFlushMask s y.value := by
  rw [actionDo, h]
  rfl
theorem actionDo_timRtcSet (h : p.id = timRtcSet.id) : actionDo s p y
    = holdCheck { loadRtc s (timeDec y.value) with tim := { (loadRtc s (timeDec y.value)).tim with rtcValid := true } } := by
  rw [actionDo, h]
  rfl

end

/-- Settles O33: `setNow` carries the one item's action out, and what each action does is read off the port, bus, queue or clock that it
writes. -/
theorem immediateRequestsActAtOnce : Obligations.ImmediateRequestsActAtOnce := by
  unfold Obligations.ImmediateRequestsActAtOnce
  have served {p : ParamRow} (hedge : p.edge = false) (hact : p.wo = true ∨ p.id = timRtcSet.id) (r : Req) (s v : State)
      (h : ActsReady p r s v) :
      Host.Outcome.next (serve 0x02 setOp r s) = (.next (answered 0x02 r v .ok 0 []) : Host.Outcome State Fault Refusal) :=
    congrArg _ (serve_of_actsReady h hedge hact)
  refine ⟨served rfl (.inl rfl), served rfl (.inl rfl), served rfl (.inl rfl), served rfl (.inl rfl), served rfl (.inl rfl),
    served rfl (.inl rfl), served rfl (.inr rfl), fun s p y h => ?_, fun s p y n h hn hb => ?_, fun s p y h => ?_,
    fun s p y n h hn hb => ?_, fun s p y h => ?_, fun s p y n h hn hb => ?_, fun s p y h => ?_⟩
  · rw [actionDo_dmxRdmReq h, rdmSubmit, dmxGet_dmxPut]
  · rw [actionDo_dmxRdmDisc h]
    exact discStart_disc s hn hb
  · rw [actionDo_dalCmd h, dalSubmit, daliGet_daliPut]
  · rw [actionDo_dalAddressRun h]
    exact dalRunStart_addressing s hn hb
  · rw [actionDo_radTx h, radTxSubmit, radGet_radPut]
    exact List.length_append
  · rw [actionDo_queFlush h]
    exact queFlushMask_flushing s hn hb
  · rw [actionDo_timRtcSet h, holdCheck_tim]
    exact ⟨rfl, rfl⟩

/-! ### Reads (R308) -/

theorem getOp_of_items {c : Caller} {r : Req} {u : State} {b : List Byte} (hn : r.node ≠ 0x3F) (hb : getItems u r = .ok b) :
    getOp c r u = (.done .ok 0 b, u) := by
  simp [getOp, hn, hb, okWith]

theorem snapshotGetOp_of_items {c : Caller} {r : Req} {u : State} {b : List Byte} (hn : r.node ≠ 0x3F) (hb : getItems u r = .ok b) :
    snapshotGetOp c r u = (.done .ok 0 (leBytes 8 u.frm.num ++ nodeBlock u b), u) := by
  simp [snapshotGetOp, hn, hb, okWith]

theorem tableReadOp_of_no_error {c : Caller} {r : Req} {u : State} (h : tableReadErr u c r = none) :
    tableReadOp c r u = (.done .ok 0 (r.payload ++ tableReadData u r),
      if tblId r = 0x7002 then { u with dev := { u.dev with wakeRead := true } } else u) := by
  simp [tableReadOp, h, okWith]

/-- Settles O34: each read leaves the block as it is, the wake latch's note aside, and answers what it read. -/
theorem readRequestsAnswer : Obligations.ReadRequestsAnswer := by
  unfold Obligations.ReadRequestsAnswer
  refine ⟨fun r s u b hu hh hn hb hfit => ?_, fun r s u b hu hh hn hb hfit => ?_, fun r s u v hu hh he hv hfit => ?_⟩
  · subst hu
    exact congrArg Host.Outcome.next (serve_done 0x01 getOp r s _ _ _ _ hh (getOp_of_items hn hb) hfit)
  · subst hu
    exact congrArg Host.Outcome.next (serve_done 0x03 snapshotGetOp r s _ _ _ _ hh (snapshotGetOp_of_items hn hb) hfit)
  · subst hu
    subst hv
    exact congrArg Host.Outcome.next (serve_done 0x21 tableReadOp r s _ _ _ _ hh (tableReadOp_of_no_error he) hfit)

/-! ### Transactions (R310, R311) -/

theorem txnOpenOp_of_room {c : Caller} {r : Req} {u : State} (h : u.ox.open_.length < 32) :
    txnOpenOp c r u = (.done .ok (newId u) [], { noteId u (newId u) with ox := { (noteId u (newId u)).ox with
      open_ := u.ox.open_ ++ [⟨newId u, c.ident, c.tenant, c.role, [], u.tim.up⟩] } }) := by
  rw [txnOpenOp, if_neg (Nat.not_le.mpr h)]
  rfl

/-- The frame that a commit is for: the next open one under NEXT, and the one it names otherwise. -/
theorem txnCommitOp_of_valid {c : Caller} {r : Req} {u : State} {x : OpenTxn} {j : Nat} (hx : openOf u c r = .ok x)
    (hf : commitForm r.payload = none) (he : commitEdgeErr u r.payload = none) (hi : involved u x.items = [])
    (hj : j = if byteOf r.payload 0 = 2 then commitNext u 1 else commitFrame u r.payload)
    (hv : txnErr (closeTxn u x.id) c.tenant c.role j x.items = none) :
    txnCommitOp c r u = (.done .accepted 0 (leBytes 8 j), accept (closeTxn u x.id) ⟨x.id, j, c.tenant, c.role, x.items, true⟩) := by
  have hj' : (if byteOf r.payload 0 = 2 then commitNext u 1 else commitFrame u r.payload) = j := hj.symm
  simp [txnCommitOp, hx, hf, he, hi, hj', commitHere, hv, acceptedBytes]

theorem txnAbortOp_of_open {c : Caller} {r : Req} {u : State} {x : OpenTxn} (hx : openOf u c r = .ok x) :
    txnAbortOp c r u = (.done .ok 0 [], closeTxn u x.id) := by
  simp [txnAbortOp, hx, okWith]

/-- Closing transactions one by one, each with its notification, leaves those open whose ID none of them has, and accepts none. -/
theorem foldl_closeTxn (l : List OpenTxn) (f : State → OpenTxn → State) (hf : ∀ a x, (f a x).ox.open_ = (closeTxn a x.id).ox.open_)
    (hacc : ∀ a x, (f a x).ox.accepted = a.ox.accepted) (s : State) :
    (∀ y, y ∈ (l.foldl f s).ox.open_ ↔ y ∈ s.ox.open_ ∧ ∀ x ∈ l, x.id ≠ y.id) ∧ (l.foldl f s).ox.accepted = s.ox.accepted := by
  induction l generalizing s with
  | nil => simp
  | cons a as ih =>
    obtain ⟨hmem, hkeep⟩ := ih (f s a)
    refine ⟨fun y => ?_, hkeep.trans (hacc s a)⟩
    rw [List.foldl_cons, hmem, hf, closeTxn, List.mem_filter, List.forall_mem_cons]
    have hne : (!decide (y.id = a.id)) = true ↔ a.id ≠ y.id := by
      rw [Bool.not_eq_true', decide_eq_false_iff_not]
      exact ne_comm
    rw [hne, and_assoc]

theorem notify_ox (s : State) (code : Nat) (b : List Byte) : (notify s code b).ox = s.ox := notify_changes s code b .ox (by decide)

/-- Settles O35: open, commit and abort are their handlers' equations; the idle ones are closed in a fold, and the dedupe entries are
filtered. -/
theorem transactionsOpenCommitAndEnd : Obligations.TransactionsOpenCommitAndEnd := by
  unfold Obligations.TransactionsOpenCommitAndEnd
  refine ⟨fun r s u v hu hh hn hv hfit => ?_, fun r s u v x j hu hh hx hf he hi hj hok hv hfit => ?_,
    fun r s u x hu hh hx hfit => ?_, fun s u => ?_, fun s u => ?_⟩
  case refine_1 =>
    subst hu
    subst hv
    exact congrArg Host.Outcome.next (serve_done 0x10 txnOpenOp r s _ _ _ _ hh (txnOpenOp_of_room hn) hfit)
  case refine_2 =>
    subst hu
    subst hv
    exact congrArg Host.Outcome.next (serve_done 0x11 txnCommitOp r s _ _ _ _ hh (txnCommitOp_of_valid hx hf he hi hj hok) hfit)
  case refine_3 =>
    subst hu
    exact congrArg Host.Outcome.next (serve_done 0x12 txnAbortOp r s _ _ _ _ hh (txnAbortOp_of_open hx) hfit)
  case refine_4 =>
    obtain ⟨hmem, hacc⟩ := foldl_closeTxn (idleTxns (advance s u))
      (fun a x => notify (closeTxn a x.id) 0x0003 (leBytes 2 x.id ++ leBytes 6 0))
      (fun a x => congrArg Oxold.open_ (notify_ox _ _ _)) (fun a x => (congrArg Oxold.accepted (notify_ox (closeTxn a x.id) _ _)).trans rfl) (advance s u)
    exact ⟨_, rfl, hmem, hacc⟩
  case refine_5 =>
    refine ⟨_, rfl, execDedupeExpiry_frames u s _ rfl, fun k d => ?_, rfl⟩
    exact List.mem_filter.trans (and_congr_right fun _ => decide_eq_true_iff)

end Sys2Proof.Machine
end

section
/-! The cascade ports under the messages that go out over them: what a message leaves of the stack, of the other ports and of the link. -/

namespace Sys2Proof.Machine

/-! ### The stack beside its ports -/

/-- What a stack knows beside its ports. -/
def stackOf (s : State) : Stack := { s.stk with port := [] }

theorem stackOf_of_stk {s t : State} (h : t.stk = s.stk) : stackOf t = stackOf s := by rw [stackOf, h, stackOf]

theorem ChangesOnly.stackOf {ps : List Part} {s t : State} (h : ChangesOnly ps s t) (hp : .stk ∉ ps) : stackOf t = stackOf s :=
  stackOf_of_stk (h .stk hp)

@[simp] theorem stackOf_ite (c : Prop) [Decidable c] (s t : State) : stackOf (if c then s else t) = if c then stackOf s else stackOf t :=
  apply_ite stackOf c s t

@[simp] theorem emit_stackOf (s : State) (x : Sent) : stackOf (emit s x) = stackOf s := rfl
@[simp] theorem casPut_stackOf (s : State) (p : Nat) (x : CasPort) : stackOf (casPut s p x) = stackOf s := rfl
@[simp] theorem casClassPut_stackOf (s : State) (p c : Nat) (x : CasClass) : stackOf (casClassPut s p c x) = stackOf s := rfl
@[simp] theorem casTime_stackOf (s : State) (p n : Nat) (b : List Byte) : stackOf (casTime s p n b) = stackOf s := by simp [casTime]
@[simp] theorem casTook_stackOf (s : State) (p c n : Nat) : stackOf (casTook s p c n) = stackOf s := by simp [casTook]

@[simp] theorem casPump_stackOf (n : Nat) (s : State) (p c : Nat) : stackOf (casPump n s p c) = stackOf s := by
  obtain ⟨ports, out, h⟩ := casPump_eq_withPorts n s p c
  rw [h]
  rfl

@[simp] theorem casQueue_stackOf (s : State) (p c : Nat) (l : List CasPacket) : stackOf (casQueue s p c l) = stackOf s := by simp [casQueue]
@[simp] theorem casSend_stackOf (s : State) (p c d : Nat) (m : List Byte) : stackOf (casSend s p c d m) = stackOf s := by simp [casSend]
@[simp] theorem mirSend_stackOf (s : State) (n : Nat) (b : List Byte) : stackOf (mirSend s n b) = stackOf s := by simp [mirSend]
@[simp] theorem mirTook_stackOf (s : State) (n : Nat) : stackOf (mirTook s n) = stackOf s := by simp [mirTook]
@[simp] theorem tookUp_stackOf (s : State) (n : Nat) : stackOf (tookUp s n) = stackOf s := by simp [tookUp]
@[simp] theorem tookDown_stackOf (s : State) (n : Nat) : stackOf (tookDown s n) = stackOf s := by simp [tookDown]
@[simp] theorem passOn_stackOf (s : State) (p k a d : Nat) (h : RelayHdr) (b : List Byte) : stackOf (passOn s p k a d h b) = stackOf s := by
  simp [passOn]

@[simp] theorem sendJournal_stackOf (s : State) (x : AccTxn) : stackOf (sendJournal s x) = stackOf s := by simp [sendJournal]

@[simp] theorem accept_stackOf (s : State) (x : AccTxn) : stackOf (accept s x) = stackOf s := by
  rw [accept, sendJournal_stackOf]
  exact (enlist_changes s x).stackOf (by decide)

@[simp] theorem qPush_stackOf (s : State) (q : Nat) (h : Bool) (b : List Byte) : stackOf (qPush s q h b) = stackOf s :=
  (qPush_changes s q h b).stackOf (by decide)

@[simp] theorem sendMb2_stackOf (s : State) (p n : Nat) (m : List Byte) : stackOf (sendMb2 s p n m) = stackOf s := by
  unfold sendMb2
  dsimp only
  rw [qPush_stackOf, stackOf_ite]
  exact ite_self _

@[simp] theorem noteCopies_stackOf (l : List (Nat × Nat)) (s : State) (b : List Byte) : stackOf (noteCopies l s b) = stackOf s := by
  induction l generalizing s with
  | nil => rfl
  | cons n l ih => rw [noteCopies, ih, sendMb2_stackOf]

@[simp] theorem noteOut_stackOf (s : State) (b : List Byte) : stackOf (noteOut s b) = stackOf s := by simp [noteOut]

@[simp] theorem notifyBytes_stackOf (s : State) (b : List Byte) : stackOf (notifyBytes s b) = stackOf s := by
  unfold notifyBytes
  split
  · exact noteOut_stackOf (qDiscard s 28) b
  · rw [noteOut_stackOf]
    exact (qCommit_changes s 28 false b).stackOf (by decide)

@[simp] theorem notify_stackOf (s : State) (c : Nat) (b : List Byte) : stackOf (notify s c b) = stackOf s := notifyBytes_stackOf _ _

@[simp] theorem sendResp_stackOf (s : State) (p : Path) (m : List Byte) : stackOf (sendResp s p m) = stackOf s := by
  cases p with
  | mb0 => exact qPush_stackOf ..
  | mb1 => exact qPush_stackOf ..
  | mb2 n p => exact sendMb2_stackOf ..
  | mb3 => exact casSend_stackOf ..
  | console => rfl

@[simp] theorem finish_stackOf (s : State) (op : Nat) (r : Req) (m : List Byte) : stackOf (finish s op r m) = stackOf s := by
  have hentry (u : State) : stackOf (setEntry u op r m) = stackOf u := by
    unfold setEntry
    split <;> rfl
  rw [finish, hentry, sendResp_stackOf]

/-! ### The ports beside their classes -/

/-- What packets move of a port is its classes, and of the one port that they go out over alone. -/
theorem casGet_casPump (n : Nat) (s : State) (p c q : Nat) :
    ∃ cls, casGet (casPump n s p c) q = { casGet s q with cls := cls } ∧ (q ≠ p → cls = (casGet s q).cls) := by
  induction n generalizing s with
  | zero => exact ⟨_, rfl, fun _ => rfl⟩
  | succ n ih =>
    have hput (x : CasClass) (y : Sent) :
        ∃ cls, casGet (casPump n (emit (casClassPut s p c x) y) p c) q = { casGet s q with cls := cls } ∧ (q ≠ p → cls = (casGet s q).cls) := by
      obtain ⟨cls, h, hother⟩ := ih (emit (casClassPut s p c x) y)
      have hemit : casGet (emit (casClassPut s p c x) y) q = casGet (casClassPut s p c x) q := rfl
      rw [hemit] at h hother
      by_cases hq : q = p
      · subst hq
        rw [casClassPut, casGet_casPut] at h
        exact ⟨cls, h, fun hne => absurd rfl hne⟩
      · rw [casClassPut, casGet_casPut_other _ _ _ _ hq] at h hother
        exact ⟨cls, h, hother⟩
    unfold casPump
    dsimp only
    split
    · exact ⟨_, rfl, fun _ => rfl⟩
    · split
      · exact ⟨_, rfl, fun _ => rfl⟩
      · exact hput _ _

theorem casGet_casQueue (s : State) (p c : Nat) (l : List CasPacket) (q : Nat) :
    ∃ cls, casGet (casQueue s p c l) q = { casGet s q with cls := cls } ∧ (q ≠ p → cls = (casGet s q).cls) := by
  obtain ⟨cls, h, hother⟩ := casGet_casPump ((casClass s p c).waiting.length + l.length)
    (casClassPut s p c { casClass s p c with waiting := (casClass s p c).waiting ++ l }) p c q
  by_cases hq : q = p
  · subst hq
    rw [casClassPut, casGet_casPut] at h
    exact ⟨cls, h, fun hne => absurd rfl hne⟩
  · rw [casClassPut, casGet_casPut_other _ _ _ _ hq] at h hother
    exact ⟨cls, h, hother⟩

theorem casGet_casQueue_other (s : State) {p q : Nat} (c : Nat) (l : List CasPacket) (h : q ≠ p) :
    casGet (casQueue s p c l) q = casGet s q := by
  obtain ⟨cls, hq, hcls⟩ := casGet_casQueue s p c l q
  rw [hq, hcls h]

/-- A MIRROR message that goes out leaves each port but for its classes. -/
theorem casGet_mirSend (s : State) (n : Nat) (b : List Byte) (q : Nat) : ∃ cls, casGet (mirSend s n b) q = { casGet s q with cls := cls } := by
  have hsend (p : Nat) (m : List Byte) : ∃ cls, casGet (casSend s p 3 0 m) q = { casGet s q with cls := cls } := by
    obtain ⟨cls, h, -⟩ := casGet_casQueue s p 3 (packetsOf 3 s.stk.index 0 0 m) q
    exact ⟨cls, h⟩
  unfold mirSend
  dsimp only
  split
  · exact ⟨_, rfl⟩
  · split
    · split
      · exact hsend 0 _
      · exact ⟨_, rfl⟩
    · split
      · exact hsend _ _
      · exact ⟨_, rfl⟩

theorem keepsOut_casTime (s : State) (p n : Nat) (b : List Byte) : KeepsOut s (casTime s p n b) := .ite (keepsOut_emit s _) (.of_eq rfl)

theorem keepsOut_mirSend (s : State) (n : Nat) (b : List Byte) : KeepsOut s (mirSend s n b) :=
  .ite (.of_eq rfl) (.ite (.ite (keepsOut_casSend s 0 3 0 _) (.of_eq rfl)) (.ite (keepsOut_casSend s _ 3 0 _) (.of_eq rfl)))

theorem keepsOut_passOn (s : State) (p k a d : Nat) (h : RelayHdr) (b : List Byte) : KeepsOut s (passOn s p k a d h b) :=
  .ite (keepsOut_casPump _ (casClassPut s p 1 _) p 1) (.of_eq rfl)

theorem KeepsOut.mem {s t : State} (h : KeepsOut s t) {x : Sent} (hx : x ∈ s.out) : x ∈ t.out := List.IsSuffix.mem hx h

end Sys2Proof.Machine
end

section
/-! The lease of a pair (R364, R372 to R377): how it is renewed, taken and awaited, and until when a shadow holds the active alive. -/

namespace Sys2Proof.Machine

/-! ### Conditions of the recorder -/

theorem writeEvent_cond (s : State) (log code sev flags p0 p1 p2 : Nat) :
    (writeEvent s log code sev flags p0 p1 p2).log.cond = s.log.cond := by
  unfold writeEvent
  dsimp only
  split
  · rfl
  · split <;> rfl

theorem recordEvent_cond (s : State) (log code sev p0 p1 p2 : Nat) : (recordEvent s log code sev p0 p1 p2).log.cond = s.log.cond := by
  unfold recordEvent
  extract_lets u last r b n
  split
  · rfl
  · split
    · rfl
    · split
      · split
        · rfl
        · exact writeEvent_cond _ log code sev 0 p0 p1 p2
      · exact writeEvent_cond s log code sev 0 p0 p1 p2

/-- Logging an event leaves the conditions alone. -/
theorem logEv_cond (s : State) (code p0 p1 p2 : Nat) : (logEv s code p0 p1 p2).log.cond = s.log.cond := by
  unfold logEv
  split
  · rfl
  · dsimp only
    split
    · rfl
    · split
      · split <;> rfl
      · exact recordEvent_cond s _ code _ _ _ _

/-- A condition that is entered holds. -/
theorem condHolds_logEntry_true (s : State) (code obj p0 p1 p2 : Nat) : condHolds (logEntry s true code obj p0 p1 p2) code obj = true := by
  rw [logEntry, if_pos rfl]
  split
  · assumption
  · rw [condHolds, logEv_cond, setCond]
    dsimp only
    rw [SMap.get_put_same]
    rfl

/-! ### Deadlines (R374) -/

@[simp] theorem advance_deadlineD (s : State) (u : Time) : deadlineD (advance s u) = deadlineD s := rfl

theorem Acked.deadlineD {s u : State} (h : Acked s u) : deadlineD u = deadlineD s := by
  obtain ⟨ports, out, rfl⟩ := h
  rfl

theorem deadlineD_of_not_first {s : State} (h : s.red.first = false) : deadlineD s = s.red.r + leaseL s.cfg + leaseG s.cfg := by
  unfold deadlineD
  dsimp only
  split <;> simp [h]

/-! ### Taking the lease (R364, R376, R377) -/

theorem announceRole_changes (s : State) (k : Nat) : ChangesOnly [.stk, .out] s (announceRole s k) := changesOnly_iff_masked.mpr (by simp)
theorem raiseCounters_changes (s : State) : ChangesOnly [.rad] s (raiseCounters s) := changesOnly_iff_masked.mpr (by simp)
theorem resendCommands_changes (s : State) : ChangesOnly [.rad] s (resendCommands s) := changesOnly_iff_masked.mpr (by simp)

/-- The pair's standing on the unit that takes the lease at an instant. -/
def leaseTaken (r : Red) (t : Time) : Red :=
  { r with
    role := 1, actOut := true, takenAt := some (t + 200 * us), holding := false, zeroed := false, sAck := none, sent := [], lastActive := t
    released := none, first := false, peer := (3, 0, []) }

/-- The taker with its outgoing counters raised and its commands due again, before it announces its role. -/
def leaseTaker (s : State) (t : Time) : State :=
  resendCommands (raiseCounters (logEv (redCount { s with red := leaseTaken s.red t } 0) 0x0A03 ((s.frm.num + 1) % 2 ^ 32) 0 0))

theorem leaseTaker_red (s : State) (t : Time) : (leaseTaker s t).red = (redCount { s with red := leaseTaken s.red t } 0).red := by
  rw [leaseTaker, resendCommands_changes _ .red (by decide), raiseCounters_changes _ .red (by decide),
    logEv_changes _ _ _ _ _ .red (by decide)]

/-- LEASE_TAKE at D or later on a FIT shadow of a pair that meets no PEER_ACT. -/
theorem exec_leaseTake_fit {s : State} {u : Time} (hs : s.dev.state = .shadow) (hp : s.red.pair = true) (hm : isMember s = false)
    (hr : s.red.role ≠ 1) (hd : deadlineD s ≤ u) (hf : s.red.fit = 1) (ha : s.red.peerAct = false) :
    exec (.leaseTake u) s
      = .next (announceRole (leaseTaker (advance s u) u) (edgeFrom (leaseTaker (advance s u) u) (u + 200 * us))) := by
  have hm' : isMember (advance s u) = false := hm
  refine congrArg Host.Outcome.next ((if_neg ?idle).trans ((if_neg ?held).trans (if_pos ?fit)))
  case idle => simp [hs, hp, hm', hr, hd]
  case held => simp [ha]
  case fit => exact .inl hf

/-- LEASE_TAKE under a high PEER_ACT logs at most that it was held off. -/
theorem exec_leaseTake_held {s : State} (u : Time) (ha : s.red.peerAct = true) :
    exec (.leaseTake u) s = .next (advance s u)
      ∨ exec (.leaseTake u) s = .next (logEntry (advance s u) (decide (deadlineD s ≤ u)) 0x0A04 0 0 0 0) := by
  by_cases h : (advance s u).dev.state ≠ .shadow ∨ (advance s u).red.pair = false ∨ isMember (advance s u) = true
      ∨ (advance s u).red.role = 1 ∨ (!(decide (deadlineD (advance s u) ≤ u) || (advance s u).red.released.isSome)) = true
  · exact .inl (congrArg Host.Outcome.next (if_pos h))
  · exact .inr (congrArg Host.Outcome.next ((if_neg h).trans (if_pos ha)))

/-- LEASE_TAKE before D with no RELEASE received moves the clock alone. -/
theorem exec_leaseTake_early {s : State} {u : Time} (hd : u < deadlineD s) (hrel : s.red.released = none) :
    exec (.leaseTake u) s = .next (advance s u) := by
  have hnot : decide (deadlineD s ≤ u) = false := decide_eq_false (Nat.not_le.mpr hd)
  refine congrArg Host.Outcome.next (if_pos ?_)
  rw [advance_deadlineD, hnot]
  simp [hrel]

/-! ### Renewing it (R373) -/

/-- s_a after the acknowledgement of a HEARTBEAT sent at an instant. -/
def renewed (sAck : Option Time) (a : Time) : Time := match sAck with
  | some y => max a y
  | none => a

theorem renewed_ge (o : Option Time) (a : Time) : a ≤ renewed o a := by
  cases o with
  | none => exact le_rfl
  | some y => exact le_max_left a y

theorem renewed_never_back {o : Option Time} (a : Time) {y : Time} (h : o = some y) : y ≤ renewed o a := by
  subst h
  exact le_max_right a y

theorem renewed_eq (o : Option Time) (a : Time) : renewed o a = a ∨ o = some (renewed o a) := by
  cases o with
  | none => exact .inl rfl
  | some y => exact (max_choice a y).imp id fun h => congrArg some h.symm

/-- The pair's standing after the acknowledgement of the HEARTBEAT of edge `k`, sent at `a`. -/
def leaseRenewed (r : Red) (k f d : Nat) (c : List Nat) (a : Time) : Red :=
  { r with sAck := some (renewed r.sAck a), sent := r.sent.filter fun x => decide (k < x.1), peer := (f, d, c.take 5) }

theorem sendSnapshot_lease (s : State) : (sendSnapshot s).red.sAck = s.red.sAck ∧ (sendSnapshot s).red.peer = s.red.peer := by
  rw [sendSnapshot, mirSend_changes _ _ _ .red (by decide)]
  exact ⟨rfl, rfl⟩

theorem exec_mirrorAckReceived_active {s : State} {k : Nat} {a : Time} (f d : Nat) (c : List Nat) (hr : s.red.role = 1)
    (ha : SMap.get none s.red.sent k = some a) : ∃ u, Acked s u ∧ exec (.mirrorAckReceived k f d c) s
      = .next (if f = 0 ∧ u.red.peer.1 ≠ 0 then sendSnapshot { u with red := leaseRenewed u.red k f d c a }
        else { u with red := leaseRenewed u.red k f d c a }) := by
  have hu := acked_mirTook s 40
  have ha' : SMap.get none (mirTook s 40).red.sent k = some a := by rw [hu.red, ha]
  refine ⟨_, hu, congrArg Host.Outcome.next ((if_pos (by rw [hu.red, hr])).trans ?_)⟩
  dsimp only
  rw [ha']
  cases h : (mirTook s 40).red.sAck <;> simp only [leaseRenewed, renewed, h]

/-- Settles O51: s_a only grows, and taking the lease, its refusal under PEER_ACT and the test's condition are read off the commands. -/
theorem theLeasePassesBetweenUnits : Obligations.TheLeasePassesBetweenUnits := by
  unfold Obligations.TheLeasePassesBetweenUnits
  refine ⟨fun s k f d c a hr ha => ?ack, fun s u hs hp hm hr hd hf ha => ?take, fun s u ha => ?held, fun s b u => ?level,
    fun s u hpow hp hact hlate => ?test⟩
  case ack =>
    obtain ⟨u, hu, hexec⟩ := exec_mirrorAckReceived_active f d c hr ha
    have hsent : ∀ t, exec (.mirrorAckReceived k f d c) s = .next t → ChangesOnly [.stk, .red, .out] s t :=
      fun t ht => execMirrorAckReceived_frames k f d c s t ht
    have hkept : ∀ t : State, t = (if f = 0 ∧ u.red.peer.1 ≠ 0 then sendSnapshot { u with red := leaseRenewed u.red k f d c a }
        else { u with red := leaseRenewed u.red k f d c a }) →
        t.red.sAck = some (renewed s.red.sAck a) ∧ t.red.peer = (f, d, c.take 5) := by
      intro t ht
      rw [ht, ← hu.red]
      split
      · exact sendSnapshot_lease _
      · exact ⟨rfl, rfl⟩
    obtain ⟨hsack, hpeer⟩ := hkept _ rfl
    exact ⟨_, _, hexec, hsack, renewed_ge _ a, fun y hy => renewed_never_back a hy, renewed_eq _ a, hpeer, hsent _ hexec⟩
  case take =>
    have hexec := exec_leaseTake_fit hs hp hm hr hd hf ha
    have hred : (announceRole (leaseTaker (advance s u) u) (edgeFrom (leaseTaker (advance s u) u) (u + 200 * us))).red
        = (redCount { advance s u with red := leaseTaken s.red u } 0).red := by
      rw [announceRole_changes _ _ .red (by decide), leaseTaker_red]
      rfl
    refine ⟨_, hexec, ?_, ?_, ?_, ?_, execLeaseTake_frames u s _ hexec⟩
    · rw [hred]
      rfl
    · rw [hred]
      rfl
    · rw [hred]
      rfl
    · rw [hred]
      exact redCount_cnt { advance s u with red := leaseTaken s.red u } 0
  case held =>
    rcases exec_leaseTake_held u ha with h | h
    · exact ⟨_, h, (advance_changes s u).mono (by decide)⟩
    · exact ⟨_, h, ((advance_changes s u).mono (by decide)).trans ((logEntry_changes _ _ _ _ _ _ _).mono (by decide))⟩
  case level =>
    have hlog (c : Prop) [Decidable c] (x : State) (y : Bool) :
        (if c then logEntry x y 0x0A04 0 0 0 0 else setCond x 0x0A04 0 false).red = x.red := by
      split
      · exact logEntry_changes _ _ _ _ _ _ _ .red (by decide)
      · rfl
    refine ⟨_, rfl, ?_, ?_, execPeerActChange_frames b u s _ rfl⟩
    · rw [hlog]
    · rw [hlog]
      rfl
  case test =>
    have hdue : (!(advance s u).red.actOut && decide ((advance s u).red.lastActive + (advance s u).cfg.v redTestDays * 86400 * sec
        < (advance s u).tim.now)) = true := by
      have hnow : (advance s u).red.lastActive + (advance s u).cfg.v redTestDays * 86400 * sec < (advance s u).tim.now := hlate
      rw [decide_eq_true hnow]
      simp [hact]
    have hexec : exec (.redTestDue u) s = .next (logEntry (advance s u) true 0x0A05 0 (daysSince (advance s u)) 0 0) := by
      refine congrArg Host.Outcome.next ((if_pos ⟨hpow, hp⟩).trans ?_)
      rw [hdue]
    exact ⟨_, hexec, condHolds_logEntry_true .., execRedTestDue_frames u s _ hexec⟩

/-! ### Until when the active is held alive (R372, R374) -/

/-- The pair's standing on a shadow that a HEARTBEAT reached in time. -/
def heldAlive (r : Red) (u : Time) (release : Bool) : Red := { r with r := u, first := false, released := if release then some u else none }

theorem exec_heartbeatReceived_inTime {s : State} {u : Time} (v : Time) (k : Nat) (b : Bool) (hs : s.dev.state = .shadow)
    (hp : s.red.pair = true) (ht : s.red.takenAt = none) (hd : u < deadlineD s) :
    ∃ m, exec (.heartbeatReceived u k v b) s
      = .next (mirSend (setCond { mirTook (advance s u) 24 with red := heldAlive s.red u b } 0x0A04 0 false) 3 m)
      ∧ m.take 8 = leBytes 8 k := by
  have hu := acked_mirTook (advance s u) 24
  have htime : (mirTook (advance s u) 24).dev.state = .shadow ∧ (mirTook (advance s u) 24).red.pair = true
      ∧ (mirTook (advance s u) 24).red.takenAt.isNone = true ∧ u < deadlineD (mirTook (advance s u) 24) := by
    rw [hu.dev, hu.red, hu.deadlineD, advance_deadlineD]
    exact ⟨hs, hp, by simp [ht], hd⟩
  have hred : heldAlive s.red u b = heldAlive (mirTook (advance s u) 24).red u b := by
    rw [hu.red]
    rfl
  rw [hred]
  refine ⟨_, congrArg Host.Outcome.next (if_pos htime), ?_⟩
  simp only [List.append_assoc]
  exact List.take_left' (leBytes_length 8 k)

/-- Settles O59: D is read off its definition, and both commands compare their instant with it. -/
theorem aShadowHoldsTheActiveAliveUntilD : Obligations.AShadowHoldsTheActiveAliveUntilD := by
  unfold Obligations.AShadowHoldsTheActiveAliveUntilD
  refine ⟨fun s h => deadlineD_of_not_first h, fun s u b => rfl, fun s u _ _ hd hrel => exec_leaseTake_early hd hrel,
    fun s u v k b hs hp ht hd => ?intime, fun s u v k b hd => ?late⟩
  case intime =>
    obtain ⟨m, hexec, hm⟩ := exec_heartbeatReceived_inTime v k b hs hp ht hd
    have hred : (mirSend (setCond { mirTook (advance s u) 24 with red := heldAlive s.red u b } 0x0A04 0 false) 3 m).red
        = heldAlive s.red u b := mirSend_changes _ _ _ .red (by decide)
    refine ⟨_, m, hexec, ?_, ?_, ?_, hm⟩
    · rw [hred]
      rfl
    · rw [hred]
      rfl
    · rw [hred]
  case late =>
    refine congrArg Host.Outcome.next (if_neg fun h => ?_)
    obtain ⟨-, -, -, hlt⟩ := h
    rw [(acked_mirTook (advance s u) 24).deadlineD, advance_deadlineD] at hlt
    exact Nat.not_lt.mpr hd hlt

end Sys2Proof.Machine
end

section
/-! The edges of a stack (R51, R350, R351, R353, R360): where an EDGE message places the next edge, and what misses, slips and commits
bring. -/

namespace Sys2Proof.Machine

/-! ### EDGE messages (R351, R360) -/

/-- The block with the instant of an edge kept for its frame. -/
def keepEdge (s : State) (k : Nat) (e : Time) : State := { s with stk := { s.stk with edges := SMap.put none s.stk.edges k (some e) } }

/-- What HOLDOVER in an EDGE message, or its absence, tells a member of its section. -/
def heardHoldover (s : State) (b : Bool) : State :=
  if b ∧ !s.stk.detached then logEv { s with stk := { s.stk with detached := true, reach := s.stk.reach / 2 * 2 } } 0x0908 0 0 0
  else if !b ∧ s.stk.detached ∧ casUp s (timePort s) then { s with stk := { s.stk with detached := false } }
  else s

theorem heardHoldover_frm (s : State) (b : Bool) : (heardHoldover s b).frm = s.frm := by
  unfold heardHoldover
  split
  · exact logEv_changes _ _ _ _ _ .frm (by decide)
  · split <;> rfl

/-- The section that a node belongs to is all that HOLDOVER tells. -/
theorem heardHoldover_stk (s : State) (b : Bool) :
    ∃ d n, (heardHoldover s b).stk = { s.stk with detached := d, reach := n } ∧ (b = true → d = true) := by
  unfold heardHoldover
  split
  · exact ⟨true, _, logEv_changes _ _ _ _ _ .stk (by decide), fun _ => rfl⟩
  next hnew =>
    split
    next hback => exact ⟨false, s.stk.reach, rfl, fun hb => by simp [hb] at hback⟩
    · refine ⟨s.stk.detached, s.stk.reach, rfl, fun hb => ?_⟩
      simpa [hb] using hnew

theorem heardHoldover_changes (s : State) (b : Bool) : ChangesOnly [.stk, .log] s (heardHoldover s b) :=
  .ite (((changes_stk s _).mono (by decide)).trans ((logEv_changes _ _ _ _ _).mono (by decide)))
    (.ite ((changes_stk s _).mono (by decide)) (.refl _ s))

theorem placeNext_changes (s : State) (e : Time) : ChangesOnly [.frm, .stk] s (placeNext s e) := changesOnly_iff_masked.mpr (by simp)

/-- What EDGE_RECEIVED makes of the next edge where edges run. -/
theorem next_placed {x : State} {k : Nat} {c : Prop} [Decidable c] (e : Time) (hr : x.frm.running = true) (hc : c) :
    (if x.frm.running then (if c then placeNext x e else x) else if isMember x ∧ x.dev.state.live then followFrom x k e else x)
      = placeNext x e := (if_pos hr).trans (if_pos hc)

/-- A follower whose edges run and that hears of its next edge for the first time places it. -/
theorem exec_edgeReceived_next {s : State} {k : Nat} (e : Time) (b : Bool) (hh : hearsEdges s = true) (hr : s.frm.running = true)
    (hk : k = nextNum s) (hnew : SMap.get none s.stk.edges k = none) :
    exec (.edgeReceived k e b true) s = .next
      (if s.dev.stackEn then casTime (placeNext (heardHoldover (keepEdge s k e) b) e) 1 4 (edgeBody k e b)
        else placeNext (heardHoldover (keepEdge s k e) b) e) := by
  have hfrm : (heardHoldover (keepEdge s k e) b).frm = s.frm := heardHoldover_frm _ b
  have hrun : (heardHoldover (keepEdge s k e) b).frm.running = true := by rw [hfrm, hr]
  have hnum : nextNum (heardHoldover (keepEdge s k e) b) = nextNum s := by rw [nextNum, hfrm, nextNum]
  refine congrArg Host.Outcome.next ((if_neg (by simp)).trans ((if_neg (by simp [hh])).trans ?_))
  rw [if_pos hk.ge]
  exact congrArg (fun x : State => if s.dev.stackEn then casTime x 1 4 (edgeBody k e b) else x)
    (next_placed e hrun ⟨hk.trans hnum.symm, hnew⟩)

theorem placed_frm {s t : State} {e : Time} (hf : t.frm = s.frm) (hh : stepHat t = stepHat s) :
    (placeNext t e).frm.next = max (s.frm.last + 1) ((e : Int) + stepHat s).toNat := by
  rw [placeNext, hf, hh]

/-- The offset of the edges moves by at most 500 ns towards the latest o (R351). -/
theorem stepHat_near {s : State} {h : Int} (hh : s.stk.oHat = some h) : stepHat s - h ≤ (500 * ns : Nat) ∧ h - stepHat s ≤ (500 * ns : Nat)
    ∧ ((s.stk.o - h).natAbs ≤ 500 * ns → stepHat s = s.stk.o) := by
  simp only [stepHat, hh]
  generalize 500 * ns = m
  omega

/-! ### HOLDOVER (R69, R351, R360) -/

theorem losesSource_changes (s : State) : ChangesOnly [.tim] s (losesSource s) := changesOnly_iff_masked.mpr (by simp)

theorem losesSource_disc {s : State} (h : s.tim.disc ≠ .free) : (losesSource s).tim.disc = .holdover := by
  unfold losesSource
  split
  · rfl
  next hn =>
    rw [not_or] at hn
    cases hd : s.tim.disc with
    | free => exact absurd hd h
    | acquiring => exact absurd hd hn.1
    | locked => exact absurd hd hn.2
    | holdover => rfl

theorem exec_edgeHoldover {s : State} (hh : hearsEdges s = true) (hm : 4 ≤ s.stk.missed) (hd : s.stk.detached = false) :
    exec .edgeHoldover s = .next (logEv (losesSource { s with stk := { s.stk with detached := true } }) 0x0908 0 0 0) :=
  congrArg Host.Outcome.next (if_pos ⟨hh, hm, by simp [hd]⟩)

/-! ### Slips (R49, R51) -/

/-- The block with a frame slipped and counted. -/
def slipped (s : State) (f : Frame) : State :=
  { putFrame s { f with stage := .slipped } with
    frm := { (putFrame s { f with stage := .slipped }).frm with slips := sat32 s.frm.slips 1 } }

theorem slipFrame_of_active {s : State} {k : Nat} (node : Nat) {f : Frame} (hf : frameOf s k = some f) (hs : f.stage ≠ .slipped)
    (hi : f.stage ≠ .idle) : slipFrame s k node = logEv (slipped s f) 0x0101 (k % 2 ^ 32) (k / 2 ^ 32) node := by
  simp only [slipFrame, hf, hs, hi]
  rfl

theorem frameOf_slipped {s : State} {k : Nat} {f : Frame} (hf : frameOf s k = some f) :
    frameOf (slipped s f) k = some { f with stage := .slipped } := by
  have hnum := num_of_frameOf hf
  subst hnum
  exact frameOf_putFrame_same (g := { f with stage := .slipped }) hf

/-- The block with a slip token passed on and kept. -/
def slipHeard (s : State) (p k n : Nat) : State :=
  let s1 := if casMode s (1 - p) = 1 then casTime s (1 - p) 5 (leBytes 8 k ++ leBytes 1 n) else s
  { s1 with stk := { s1.stk with slips := if s1.stk.slips.elem k then s1.stk.slips else (k :: s1.stk.slips).take 16 } }

theorem slipHeard_frm (s : State) (p k n : Nat) : (slipHeard s p k n).frm = s.frm := by
  unfold slipHeard
  dsimp only
  split
  · exact casTime_changes _ _ _ _ .frm (by decide)
  · rfl

/-- SLIP_RECEIVED for a frame in progress: the token goes on and is kept, and the frame slips. -/
theorem exec_slipReceived {s : State} {p k : Nat} (n : Nat) {f : Frame} (hen : s.dev.stackEn = true) (hp : p < 2)
    (hf : frameOf s k = some f) (hs : f.stage ≠ .slipped) (hi : f.stage ≠ .idle) :
    exec (.slipReceived p k n) s = .next (logEv (slipped (slipHeard s p k n) f) 0x0101 (k % 2 ^ 32) (k / 2 ^ 32) n) := by
  have hx : frameOf (slipHeard s p k n) k = some f := (frameOf_congr (congrArg Frm.frames (slipHeard_frm s p k n)) k).trans hf
  refine congrArg Host.Outcome.next ((if_neg ?_).trans (slipFrame_of_active n hx hs hi))
  simp [hen, hp]

/-! ### Commits (R353) -/

theorem nextLatch_congr {s t : State} (h : t.frm = s.frm) : nextLatch t = nextLatch s := by
  rw [nextLatch, nextNum, h, nextLatch, nextNum]

/-- The member's block once the order to commit has gone on and the transaction is no longer staged. -/
def unstaged (s : State) (i n j : Nat) (x : AccTxn) : State :=
  let s1 := casTime s 1 6 (leBytes 2 i ++ leBytes 1 n ++ leBytes 8 j)
  { s1 with stk := { s1.stk with staged := s1.stk.staged.filter fun y => !decide (y = x) } }

theorem exec_commitReceived {s : State} {i : Nat} (n j : Nat) {x : AccTxn} (hm : isMember s = true)
    (hx : s.stk.staged.find? (·.id = i) = some x) (hop : ∀ y ∈ x.items, y.op ≠ 0x62) :
    exec (.commitReceived i n j) s = .next (if j < nextLatch s then noteDiscarded (unstaged s i n j x) { x with frame := j }
      else accept (unstaged s i n j x) { x with frame := j, ordered := true }) := by
  have hstk : (casTime s 1 6 (leBytes 2 i ++ leBytes 1 n ++ leBytes 8 j)).stk = s.stk := casTime_changes s 1 6 _ .stk (by decide)
  have hfind : x.items.find? (fun y => y.op == 0x62) = none := by
    simpa using hop
  have hlatch : nextLatch (unstaged s i n j x) = nextLatch s := nextLatch_congr (casTime_changes s 1 6 _ .frm (by decide))
  refine congrArg Host.Outcome.next ((if_neg (by simp [hm])).trans ?_)
  dsimp only
  rw [hstk, hx]
  dsimp only
  rw [hfind, ← hlatch]
  rw [unstaged]
  simp only [hstk]

/-- Settles O49: each of the messages is read off its command, with what the member's notes and tokens leave of the edges. -/
theorem membersFollowTheEdgesOfTheStack : Obligations.MembersFollowTheEdgesOfTheStack := by
  unfold Obligations.MembersFollowTheEdgesOfTheStack
  refine ⟨fun s k e b hh hr hk hnew => ?edge, fun s k e b => rfl, fun s h hh => stepHat_near hh, fun s hh hm hd => ?holdover,
    fun s p k n f hen hp hf hs hi => ?slip, fun s i n j x hm hx hop => ?commit⟩
  case edge =>
    have hexec := exec_edgeReceived_next e b hh hr hk hnew
    obtain ⟨d, m, hstk, hd⟩ := heardHoldover_stk (keepEdge s k e) b
    have hfrm := heardHoldover_frm (keepEdge s k e) b
    have hhat : stepHat (heardHoldover (keepEdge s k e) b) = stepHat s := by
      rw [stepHat, hstk]
      rfl
    have hsent (x : State) : ChangesOnly [.out] x (if s.dev.stackEn then casTime x 1 4 (edgeBody k e b) else x) :=
      .ite (casTime_changes _ _ _ _) (.refl _ x)
    have hplaced := hsent (placeNext (heardHoldover (keepEdge s k e) b) e)
    have hpstk : (placeNext (heardHoldover (keepEdge s k e) b) e).stk
        = { (keepEdge s k e).stk with detached := d, reach := m, oHat := some (stepHat s) } := by
      rw [placeNext, hhat, hstk]
    refine ⟨_, hexec, ?_, ?_, ?_, fun hb => ?_, ?_⟩
    · rw [hplaced .frm (by decide)]
      exact placed_frm hfrm hhat
    · rw [hplaced .stk (by decide), hpstk]
    · rw [hplaced .stk (by decide), hpstk]
      exact SMap.get_put_same none s.stk.edges k (some e)
    · rw [hplaced .stk (by decide), hpstk]
      exact hd hb
    · refine .trans ?_ (hplaced.mono (by decide))
      exact ((changes_stk s _).mono (by decide)).trans
        (((heardHoldover_changes _ b).mono (by decide)).trans ((placeNext_changes _ e).mono (by decide)))
  case holdover =>
    have hexec := exec_edgeHoldover hh hm hd
    refine ⟨_, hexec, ?_, fun hfree => ?_, execEdgeHoldover_frames s _ hexec⟩
    · rw [logEv_changes _ _ _ _ _ .stk (by decide), losesSource_changes _ .stk (by decide)]
    · rw [logEv_changes _ _ _ _ _ .tim (by decide)]
      exact losesSource_disc hfree
  case slip =>
    have hexec := exec_slipReceived n hen hp hf hs hi
    have hfrm := slipHeard_frm s p k n
    have hx : frameOf (slipHeard s p k n) k = some f := (frameOf_congr (congrArg Frm.frames hfrm) k).trans hf
    refine ⟨_, { f with stage := .slipped }, hexec, ?_, rfl, ?_, execSlipReceived_frames p k n s _ hexec⟩
    · rw [frameOf_congr (s := slipped (slipHeard s p k n) f) (congrArg Frm.frames (logEv_changes _ _ _ _ _ .frm (by decide))),
        frameOf_slipped hx]
    · rw [logEv_changes _ _ _ _ _ .frm (by decide), slipped, hfrm]
  case commit =>
    have hgone : x ∉ (unstaged s i n j x).stk.staged := fun h => by
      have := List.of_mem_filter h
      simp at this
    have hox : (unstaged s i n j x).ox = s.ox := casTime_changes s 1 6 _ .ox (by decide)
    refine ⟨_, exec_commitReceived n j hm hx hop, ?_, fun hj => ?_, fun hj => ?_⟩
    · split
      · have h := congrArg Stack.staged (notify_stackOf (unstaged s i n j x) 0x0002 (leBytes 2 x.id ++ leBytes 6 0 ++ leBytes 8 j))
        exact fun hin => hgone (h ▸ hin)
      · have h := congrArg Stack.staged (accept_stackOf (unstaged s i n j x) { x with frame := j, ordered := true })
        exact fun hin => hgone (h ▸ hin)
    · rw [if_neg (Nat.not_lt.mpr hj), accept_accepted]
      simp
    · rw [if_pos hj, noteDiscarded, notify_ox, hox]

end Sys2Proof.Machine
end

section
/-! TIME messages (R350): SYNC, PROBE and ECHO on the ports of a stack. -/

namespace Sys2Proof.Machine

/-! ### SYNC (R350) -/

/-- A TIME message on a port that is UP is put out. -/
theorem mem_casTime {s : State} {p : Nat} (n : Nat) (b : List Byte) (h : casUp s p = true) :
    .cascade p 0 (timeSlot n b) ∈ (casTime s p n b).out := by
  rw [casTime, if_pos h]
  exact List.mem_cons_self

/-- A SYNC message on a port, where the node sends one there. -/
def syncOn (s a : State) (p : Nat) : State :=
  if sendsTime s p then casTime a p 1 (stampBytes (masterTime s) ++ leBytes 2 s.stk.syncSeq) else a

theorem syncOn_stk (s a : State) (p : Nat) : (syncOn s a p).stk = a.stk := by
  unfold syncOn
  split
  · exact casTime_changes _ _ _ _ .stk (by decide)
  · rfl

theorem sendSync_eq (s : State) :
    sendSync s = syncOn s (syncOn s { s with stk := { s.stk with syncSeq := (s.stk.syncSeq + 1) % 65536 } } 0) 1 := rfl

/-- SYNC takes the next sequence number. -/
theorem sendSync_stk (s : State) : (sendSync s).stk = { s.stk with syncSeq := (s.stk.syncSeq + 1) % 65536 } := by
  rw [sendSync_eq, syncOn_stk, syncOn_stk]

/-- SYNC goes out on CDN where the node sends it there and the link is UP. -/
theorem mem_sendSync {s : State} (hs : sendsTime s 1 = true) (hu : casUp s 1 = true) :
    .cascade 1 0 (timeSlot 1 (stampBytes (masterTime s) ++ leBytes 2 s.stk.syncSeq)) ∈ (sendSync s).out := by
  have hup (a : State) (ha : a.stk.port = s.stk.port) : casUp a 1 = true := by
    rw [casUp, casGet, ha]
    exact hu
  rw [sendSync_eq, syncOn, if_pos hs]
  refine mem_casTime _ _ (hup _ ?_)
  rw [syncOn_stk]

theorem exec_syncSend {s : State} (u : Time) (hpow : s.dev.state.powered = true) (hr : s.dev.resetN = true) :
    exec (.syncSend u) s = .next (sendSync (advance s u)) := congrArg Host.Outcome.next (if_pos ⟨hpow, hr⟩)

theorem takeSample_changes (s : State) (o f : Int) (n : Nat) : ChangesOnly [.tim, .log] s (takeSample s o f n) :=
  changesOnly_iff_masked.mpr (by simp)

/-- A member that hears a SYNC takes the offset that it measures, and passes master time on. -/
theorem exec_syncReceived_member {s : State} (u v : Time) (hm : isMember s = true) (hpow : s.dev.state.powered = true)
    (hu : casUp s 0 = true) :
    ∃ x, x.stk = { s.stk with o := (u : Int) - ((v : Int) + delayFine s 0) } ∧ exec (.syncReceived u v true) s = .next (sendSync x) := by
  have hm' : isMember (advance s u) = true := hm
  have hp : timePort (advance s u) = 0 := by
    obtain ⟨hen, -⟩ := Bool.and_eq_true_iff.mp hm
    exact if_pos hen
  have hup : (advance s u).dev.state.powered = true ∧ casUp (advance s u) (timePort (advance s u)) = true
      ∧ (isMember (advance s u) = true ∨ casMode (advance s u) (timePort (advance s u)) = 2 ∧ (advance s u).red.role ≠ 1) := by
    rw [hp]
    exact ⟨hpow, hu, .inl hm'⟩
  have hsample (a : State) (c : Prop) [Decidable c] (o f : Int) : (if c then takeSample a o f 128 else a).stk = a.stk := by
    split
    · exact takeSample_changes _ _ _ _ .stk (by decide)
    · rfl
  refine ⟨_, ?_, congrArg Host.Outcome.next ((if_neg (by simp)).trans (if_pos hup))⟩
  rw [hsample, hp]
  rfl

/-! ### PROBE and ECHO (R350) -/

/-- The block with a PROBE kept on a port and sent. -/
def probed (s : State) (p q : Nat) (u : Time) : State :=
  casProbe (casPut s p { casGet s p with probes := SMap.put none (casGet s p).probes q (some u) }) p 2 (leBytes 2 q)

theorem casProbe_stk (s : State) (p n : Nat) (b : List Byte) : (casProbe s p n b).stk = s.stk := by
  unfold casProbe
  split <;> rfl

@[simp] theorem probed_stackOf (s : State) (p q : Nat) (u : Time) : stackOf (probed s p q u) = stackOf s := by
  rw [probed, stackOf_of_stk (casProbe_stk _ _ _ _), casPut_stackOf]

theorem probe_probed (s : State) (p q : Nat) (u : Time) : SMap.get none (casGet (probed s p q u) p).probes q = some u := by
  rw [probed, casGet, casProbe_stk, ← casGet, casGet_casPut]
  exact SMap.get_put_same none _ q (some u)

theorem exec_probeSend {s : State} (u : Time) (hpow : s.dev.state.powered = true) (hr : s.dev.resetN = true) (hen : s.dev.stackEn = true) :
    ∃ x : State, stackOf x = { stackOf s with probeSeq := (s.stk.probeSeq + 1) % 65536 }
      ∧ exec (.probeSend u) s = .next (probed x 1 s.stk.probeSeq u) := by
  have hone (a : State) (c : Prop) [Decidable c] : stackOf (if c then probed a 0 s.stk.probeSeq u else a) = stackOf a := by simp
  exact ⟨_, hone { advance s u with stk := { s.stk with probeSeq := (s.stk.probeSeq + 1) % 65536 } } _,
    congrArg Host.Outcome.next ((if_pos ⟨hpow, hr⟩).trans (if_pos (.inl ⟨rfl, hen⟩)))⟩

theorem exec_probeReceived {s : State} (u : Time) (q r : Nat) (hs : 1 ≤ (casGet s (timePort s)).state)
    (hp : casSpeaks s (timePort s) = true) : exec (.probeReceived u q r true) s
      = .next (emit (advance s u) (.cascade (timePort s) 0 (timeSlot 3 (leBytes 2 q ++ leBytes 4 (r / ns) ++ leBytes 2 (r % ns))))) :=
  congrArg Host.Outcome.next ((if_neg (by simp)).trans (if_pos ⟨hs, hp⟩))

theorem exec_echoReceived {s : State} {p : Nat} (a b : Time) (q r : Nat) (hp : p < 2) (hs : (casGet s p).state ≠ 0)
    (hown : p = 1 → ∃ v, SMap.get none (casGet s p).probes q = some v) :
    exec (.echoReceived p a b q r true) s = .next (casPut (advance s b) p { casGet s p with
      delays := ((b : Int) - ((SMap.get none (casGet s p).probes q).getD a : Nat) - r) :: (casGet s p).delays.take 15
      probes := SMap.put none (casGet s p).probes q none }) := by
  refine congrArg Host.Outcome.next ((if_neg ?port).trans ((if_neg (by simp)).trans (if_neg ?own)))
  case port => exact not_or.mpr ⟨Nat.not_le.mpr hp, hs⟩
  case own =>
    rintro ⟨h1, hnone⟩
    obtain ⟨v, hv⟩ := hown h1
    exact absurd (hnone.symm.trans hv) (by simp)

/-- Settles O48: each message is read off its command. -/
theorem timeMessagesMeasureTheStack : Obligations.TimeMessagesMeasureTheStack := by
  unfold Obligations.TimeMessagesMeasureTheStack
  refine ⟨fun s u hpow hr hs hu => ?send, fun s u hpow hr hen => ?probe, fun s u q r p hp hs hsp => ?answer, fun s u v hm hpow hu => ?sync,
    fun s u v q r => ⟨rfl, rfl⟩, fun s p a b q r hp hs hown => ?echo⟩
  case send =>
    have hexec := exec_syncSend u hpow hr
    exact ⟨_, hexec, by rw [sendSync_stk]; rfl, mem_sendSync hs hu, execSyncSend_frames u s _ hexec⟩
  case probe =>
    obtain ⟨x, hx, hexec⟩ := exec_probeSend u hpow hr hen
    have hseq := congrArg Stack.probeSeq ((probed_stackOf x 1 s.stk.probeSeq u).trans hx)
    exact ⟨_, hexec, hseq, probe_probed _ _ _ _, execProbeSend_frames u s _ hexec⟩
  case answer =>
    subst hp
    exact ⟨_, exec_probeReceived u q r hs hsp,
      ((advance_changes s u).mono (by decide)).trans ((emit_changes _ _).mono (by decide)), rfl⟩
  case sync =>
    obtain ⟨x, hx, hexec⟩ := exec_syncReceived_member u v hm hpow hu
    refine ⟨_, hexec, ?_, execSyncReceived_frames u v true s _ hexec⟩
    rw [sendSync_stk, hx]
  case echo =>
    have hexec := exec_echoReceived a b q r hp hs hown
    refine ⟨_, hexec, execEchoReceived_frames p a b q r true s _ hexec, ?_⟩
    rw [casGet_casPut]

end Sys2Proof.Machine
end

section
/-! Cascade links and enumeration (R338 to R343, R348, R447, R448). -/

namespace Sys2Proof.Machine

/-! ### Links (R338 to R340) -/

theorem casGet_of_port {s t : State} (h : t.stk.port = s.stk.port) (p : Nat) : casGet t p = casGet s p := by
  rw [casGet, h, casGet]

@[simp] theorem casGet_logEv (s : State) (code p0 p1 p2 p : Nat) : casGet (logEv s code p0 p1 p2) p = casGet s p :=
  casGet_of_port (congrArg Stack.port (logEv_changes _ _ _ _ _ .stk (by decide))) p

@[simp] theorem casGet_casCount (s : State) (p k n : Nat) :
    casGet (casCount s p k n) p = { casGet s p with cnt := bump (casGet s p).cnt k n } := by rw [casCount, casGet_casPut]

/-- What a link lost takes out of reach is no matter of the ports. -/
theorem casGet_detach (s : State) (p q : Nat) : casGet (detach s p) q = casGet s q := by
  unfold detach
  dsimp only
  split
  · rfl
  · split
    · rw [casGet_logEv]
      exact casGet_of_port (congrArg Stack.port (losesSource_changes _ .stk (by decide))) q
    · rfl

theorem casGet_leaveUp (s : State) (p n : Nat) : casGet (leaveUp s p n) p = { casGet s p with state := n } := by
  unfold leaveUp
  dsimp only
  split
  · split
    · rw [casGet_detach, casGet_logEv, casGet_casPut]
    · rw [casGet_logEv, casGet_casPut]
  · rw [casGet_casPut]

theorem exec_cascadeLockLoss {s : State} {p l : Nat} (hp : p < 2) (hl : bitAt (casGet s p).lanes l = true) :
    exec (.cascadeLockLoss p l) s = .next (leaveUp (casCount (casPut s p { casGet s p with
      lanes := putBit (casGet s p).lanes l false, matched := 0, mismatched := 0 }) p 0 1) p 0) :=
  congrArg Host.Outcome.next (if_pos ⟨hp, hl⟩)

theorem sendLink_changes (s : State) (p : Nat) : ChangesOnly [.out] s (sendLink s p) := changesOnly_iff_masked.mpr (by simp)

theorem casGet_sendLink (s : State) (p q : Nat) : casGet (sendLink s p) q = casGet s q :=
  casGet_of_port (congrArg Stack.port (sendLink_changes s p .stk (by decide))) q

/-- A second matching ALIGN slot brings a link that is DOWN to ALIGNED. -/
theorem exec_cascadeAlignSlot_second {s : State} {p : Nat} (n : Nat) (hp : p < 2) (hs : (casGet s p).state = 0)
    (hl : (casGet s p).lanes = 255) (hm : 1 ≤ (casGet s p).matched) :
    ∃ x : CasPort, x.state = 1 ∧ exec (.cascadeAlignSlot p (List.replicate 8 n)) s = .next (sendLink (casPut (casPut s p
      { casGet s p with matched := min 2 ((casGet s p).matched + 1), mismatched := 0 }) p x) p) := by
  have hall : ((List.replicate 8 n).all (· == (List.replicate 8 n).getD 0 0)) = true := by simp
  refine ⟨_, ?_, congrArg Host.Outcome.next ((if_neg ?_).trans ((if_pos hall).trans (if_pos ⟨hs, hm⟩)))⟩
  · rfl
  · simp [hl, hp]

/-- The block when the partner's LINK slot is noted and its conditions are judged, before the node's own slot goes out. -/
def slotHeard (s : State) (p m role : Nat) : State :=
  let s1 := casPut s p { casGet s p with partner := some (m, role) }
  let s2 := logEntry s1 (m != casMode s p) 0x0902 p p 0 0
  let s3 := logEntry s2 (!((casGet s p).delays == []) && decide (300000 < delayPs s p)) 0x0903 p p (delayPs s p).toNat 0
  logEntry s3 (p == 0 && m == 1 && s.dev.stackEn && s.stk.role == 1 && casMode s 0 == 1) 0x0904 p 0 0 0

theorem slotHeard_changes (s : State) (p m role : Nat) :
    ChangesOnly [.log] (casPut s p { casGet s p with partner := some (m, role) }) (slotHeard s p m role) :=
  ((logEntry_changes _ _ _ _ _ _ _).trans (logEntry_changes _ _ _ _ _ _ _)).trans (logEntry_changes _ _ _ _ _ _ _) |>.mono (by decide)

theorem exec_cascadeLinkSlot_up {s : State} {p m : Nat} (e : Bool) (role ds : Nat) (hp : p < 2) (hs : (casGet s p).state = 1)
    (hl : (casGet s p).lanes = 255) (hsp : casSpeaks s p = true) (hm : m = casMode s p) (hd : (casGet s p).delays ≠ [])
    (hps : delayPs s p ≤ 300000) (htwo : ¬ (p = 0 ∧ m = 1 ∧ s.dev.stackEn = true ∧ s.stk.role = 1)) :
    exec (.cascadeLinkSlot p m e role ds) s = .next (linkUp (sendLink (slotHeard s p m role) p) p) := by
  have hspeaks : ¬ (2 ≤ p ∨ (casGet s p).state ≠ 1 ∨ (casGet s p).lanes ≠ 255 ∨ (!casSpeaks s p) = true) := by simp [hs, hl, hsp, hp]
  have hgood : ¬ (m ≠ casMode s p ∨ (casGet s p).delays = [] ∨ 300000 < delayPs s p
      ∨ (p == 0 && m == 1 && s.dev.stackEn && s.stk.role == 1 && casMode s 0 == 1) = true) := by
    rintro (h | h | h | h)
    · exact h hm
    · exact hd h
    · exact absurd hps (not_le.mpr h)
    · simp only [Bool.and_eq_true, beq_iff_eq] at h
      obtain ⟨⟨⟨⟨h0, h1⟩, h2⟩, h3⟩, -⟩ := h
      exact htwo ⟨h0, h1, h2, h3⟩
  simp only [exec, execCascadeLinkSlot]
  rw [if_neg hspeaks, if_neg hgood]
  rfl

theorem keepsOut_linkUp (s : State) (p : Nat) : KeepsOut s (linkUp s p) := by
  unfold linkUp
  extract_lets x s1 s2
  have hout : s2.out = s.out := by rw [setCond_out, setCond_out, setCond_out, casPut_out]
  have h2 : KeepsOut s s2 := .of_eq hout
  refine .ite (h2.trans ?_) (.ite (h2.trans (keepsOut_casTime _ _ _ _)) h2)
  exact .ite (keepsOut_mirSend _ _ _) (.of_eq rfl)

/-- A link that comes UP keeps what the port knows of its partner. -/
theorem casGet_linkUp (s : State) (p : Nat) : (casGet (linkUp s p) p).state = 2 ∧ (casGet (linkUp s p) p).partner = (casGet s p).partner := by
  unfold linkUp
  extract_lets x s1 s2
  have h2 : casGet s2 p = { casGet s p with state := 2 } := casGet_casPut s p _
  have hhello : ∃ cls, casGet (sendHello s2) p = { casGet s2 p with cls := cls } := by
    unfold sendHello
    split
    · exact casGet_mirSend _ _ _ _
    · exact ⟨_, rfl⟩
  have henum : casGet (startEnum s2) p = casGet s2 p :=
    casGet_of_port (congrArg Stack.port (casTime_changes s2 1 7 _ .stk (by decide))) p
  split
  · obtain ⟨cls, h⟩ := hhello
    rw [h, h2]
    exact ⟨rfl, rfl⟩
  · split
    · rw [henum, h2]
      exact ⟨rfl, rfl⟩
    · rw [h2]
      exact ⟨rfl, rfl⟩

/-- The node's LINK slot goes out on a port over which it speaks. -/
theorem mem_sendLink {s : State} {p : Nat} (h : casSpeaks s p = true) :
    .cascade p 0 (linkSlot (casMode s p) s.dev.stackEn s.stk.role s.dev.state.code) ∈ (sendLink s p).out := by
  rw [sendLink, if_pos h]
  exact List.mem_cons_self

/-- What a node is on a port is no matter of what is known of the partner. -/
theorem speaks_congr {s t : State} (hd : t.dev = s.dev) (hr : t.red = s.red) (hk : t.stk.role = s.stk.role) (p : Nat) :
    casMode t p = casMode s p ∧ casSpeaks t p = casSpeaks s p := by
  have hmode : casMode t p = casMode s p := by
    rw [casMode, isMaster, mirrorPort, hd, hr, hk, casMode, isMaster, mirrorPort]
  exact ⟨hmode, by rw [casSpeaks, casSpeaks, hmode, hd]⟩

/-! ### Roles and enumeration (R341 to R343) -/

theorem edgesUp_changes (s : State) : ChangesOnly [.frm] s (edgesUp s) := .ite (.refl _ s) (changes_frm s _)

theorem timedBegin_changes (s : State) : ChangesOnly [.tim] s (timedBegin s) := changesOnly_iff_masked.mpr (by simp)

theorem startEnum_changes (s : State) : ChangesOnly [.out] s (startEnum s) := casTime_changes s 1 7 _

/-- A node that decides its role is a member under a partner in CASCADE mode, and otherwise the master, node 0. -/
theorem exec_stkRoleDecide {s : State} (hpow : s.dev.state.powered = true) (hr : s.dev.resetN = true) (hen : s.dev.stackEn = true)
    (h0 : s.stk.role = 0) : exec .stkRoleDecide s = .next
      (if casUp s 0 = true ∧ ((casGet s 0).partner.getD (1, 0)).1 = 1 then { s with stk := { s.stk with role := 2 } }
        else edgesUp (timedBegin (startEnum { s with stk := { s.stk with role := 1, index := 0, enumerated := true } }))) :=
  congrArg Host.Outcome.next (if_pos ⟨hpow, hr, hen, h0⟩)

theorem exec_enumReceived_candidate {s : State} (i n v : Nat) (hm : isMember s = true) :
    ∃ x : State, ChangesOnly [.out] { s with stk := { s.stk with candidate := some (i + 1), masterProto := v } } x
      ∧ exec (.enumReceived i false n v) s = .next x :=
  ⟨_, .ite (casTime_changes _ _ _ _) (casTime_changes _ _ _ _), congrArg Host.Outcome.next ((if_neg (by simp [hm])).trans (if_pos rfl))⟩

/-- What FINAL makes of a member that holds a candidate index and none else: it adopts it, or logs why not. -/
def finalTaken (s : State) (c n v : Nat) : State :=
  match enumFault s c v with
  | some (code, p0, p1) => logEv { s with stk := { s.stk with enumerated := false } } code p0 p1 0
  | none => { s with stk := { s.stk with
      nodes := n, reach := reachAll n, masterProto := v, detached := false, index := c, enumerated := true } }

theorem exec_enumReceived_final {s : State} (i n v : Nat) {c : Nat} (hm : isMember s = true) (hc : s.stk.candidate = some c)
    (he : s.stk.enumerated = false) :
    exec (.enumReceived i true n v) s = .next (casTime (finalTaken s c n v) 1 7 (enumBody i true n v)) := by
  refine congrArg Host.Outcome.next ((if_neg (by simp [hm])).trans ((if_neg (by simp)).trans ?_))
  cases hf : enumFault s c v with
  | none => simp only [hc, he, finalTaken, hf, Bool.false_eq_true, ↓reduceIte]
  | some x =>
    obtain ⟨code, p0, p1⟩ := x
    simp only [hc, he, finalTaken, hf, Bool.false_eq_true, ↓reduceIte]

theorem finalTaken_stk {s : State} (c n v : Nat) (he : s.stk.enumerated = false) :
    if enumFault s c v = none then
      (finalTaken s c n v).stk.index = c ∧ (finalTaken s c n v).stk.enumerated = true ∧ (finalTaken s c n v).stk.nodes = n
        ∧ (finalTaken s c n v).stk.reach = reachAll n
    else (finalTaken s c n v).stk = s.stk := by
  cases hf : enumFault s c v with
  | none =>
    rw [if_pos rfl]
    simp [finalTaken, hf]
  | some x =>
    rw [if_neg (by simp)]
    simp only [finalTaken, hf]
    rw [logEv_changes _ _ _ _ _ .stk (by decide)]
    dsimp only
    rw [← he]

/-! ### What a report finds (R342, R447, R448) -/

/-- The block when the master has closed an enumeration of `c + 1` nodes. -/
def enumClosed (s : State) (c : Nat) : State :=
  casTime { s with stk := { s.stk with nodes := min 32 (c + 1), reach := reachAll (min 32 (c + 1)) } } 1 7
    (enumBody 0 true (min 32 (c + 1)) (protoOf s))

theorem exec_reportReceived_master {s : State} (c : Nat) (l : List MemberIn) (hen : s.dev.stackEn = true) (hr : s.stk.role = 1) :
    exec (.reportReceived ⟨c, l⟩) s = .next (l.foldl memberFound (enumClosed s c)) := by
  have hm : isMember s = false := by simp [isMember, hr]
  exact congrArg Host.Outcome.next ((if_neg (by simp [hen])).trans ((if_neg (by simp [hm])).trans (if_pos hr)))

theorem confirmSet_changes (s : State) : ChangesOnly [.upd, .log] s (confirmSet s) := changesOnly_iff_masked.mpr (by simp)
theorem orderBack_changes (s : State) : ChangesOnly [.upd, .log] s (orderBack s) := changesOnly_iff_masked.mpr (by simp)

theorem askAgain_stackOf (s : State) (n : Nat) : stackOf (askAgain s n) = stackOf s := by
  unfold askAgain
  split
  · rfl
  · exact casSend_stackOf _ _ _ _ _

/-- What a member is found to be moves neither the number of nodes nor those in reach. -/
theorem memberFound_nodes (s : State) (m : MemberIn) :
    (memberFound s m).stk.nodes = s.stk.nodes ∧ (memberFound s m).stk.reach = s.stk.reach := by
  have hdrop : (if m.wasReset then dropAsked s m.node else s).stk.nodes = s.stk.nodes
      ∧ (if m.wasReset then dropAsked s m.node else s).stk.reach = s.stk.reach := by
    split <;> exact ⟨rfl, rfl⟩
  have hask (u : State) : (askAgain u m.node).stk.nodes = u.stk.nodes ∧ (askAgain u m.node).stk.reach = u.stk.reach :=
    ⟨(congrArg Stack.nodes (askAgain_stackOf u m.node) :), (congrArg Stack.reach (askAgain_stackOf u m.node) :)⟩
  unfold memberFound
  extract_lets u
  split
  · exact hdrop
  · split
    · rw [confirmSet_changes u .stk (by decide)]
      exact hdrop
    · split
      · rw [orderBack_changes u .stk (by decide)]
        exact hdrop
      · split
        · exact ⟨(hask u).1.trans hdrop.1, (hask u).2.trans hdrop.2⟩
        · exact hdrop

theorem foldl_memberFound_nodes (l : List MemberIn) (s : State) :
    (l.foldl memberFound s).stk.nodes = s.stk.nodes ∧ (l.foldl memberFound s).stk.reach = s.stk.reach := by
  induction l generalizing s with
  | nil => exact ⟨rfl, rfl⟩
  | cons m l ih =>
    obtain ⟨hn, hr⟩ := memberFound_nodes s m
    exact ⟨(ih _).1.trans hn, (ih _).2.trans hr⟩

theorem confirmSet_confirms (s : State) : (confirmSet s).upd.state = 7 ∧ (confirmSet s).upd.sel.trial = false :=
  ⟨toUpd_state _ _ _, rfl⟩

theorem orderBack_orders {s : State} (h : s.upd.state = 6) : (orderBack s).upd.state = 8 ∧ (orderBack s).upd.resetWanted = true := by
  rw [orderBack, if_pos h]
  exact ⟨toUpd_state _ _ _, rfl⟩

/-- A master in TRIAL and a member under its own hash. -/
theorem memberFound_trial {s : State} {m : MemberIn} (hu : s.upd.state = 6) (hh : m.hash = manifestHash (runningManifest s)) :
    (m.updState = 7 → (memberFound s m).upd.state = 7 ∧ (memberFound s m).upd.sel.trial = false)
      ∧ (m.updState = 8 → (memberFound s m).upd.state = 8 ∧ (memberFound s m).upd.resetWanted = true) := by
  have hupd : (if m.wasReset then dropAsked s m.node else s).upd = s.upd := by split <;> rfl
  have hrun : runningManifest (if m.wasReset then dropAsked s m.node else s) = runningManifest s := by split <;> rfl
  unfold memberFound
  extract_lets u
  have hstate : u.upd.state = 6 := (congrArg Update.state hupd).trans hu
  rw [if_neg (by rw [hstate, hrun]; simp [hh])]
  refine ⟨fun h7 => ?_, fun h8 => ?_⟩
  · rw [if_pos h7]
    exact confirmSet_confirms u
  · rw [if_neg (by omega), if_pos h8]
    exact orderBack_orders hstate

/-! ### Credit and retransmission (R348) -/

theorem exec_creditReceived_idle {s : State} {p c : Nat} (q n : Nat) {i : Nat} (hp : p < 2) (h1 : 1 ≤ c) (h3 : c ≤ 3)
    (hi : (casClass s p c).unacked.findIdx? (·.1 = q) = some i) (hw : (casClass s p c).waiting = []) :
    exec (.creditReceived p c q n) s = .next (casClassPut s p c
      { casClass s p c with unacked := (casClass s p c).unacked.drop (i + 1), credit := (casClass s p c).credit + n }) := by
  refine congrArg Host.Outcome.next ((if_neg (by omega)).trans ?_)
  have hlen : (casClass s p c).waiting.length = 0 := List.length_eq_zero_iff.mpr hw
  rw [hlen, hi]
  rfl

theorem casClass_casClassPut (s : State) (p c : Nat) (x : CasClass) : casClass (casClassPut s p c x) p c = x := by
  rw [casClass, casClassPut, casGet_casPut]
  exact SMap.get_put_same _ _ c x

/-- Packets put out one after another are all put out, and nothing else changes. -/
theorem foldl_emit (p c : Nat) (l : List (Nat × CasPacket)) (s : State) :
    l.foldl (fun a m => emit a (.cascade p c (packetBlocks m.1 m.2))) s
      = { s with out := (l.map fun m => .cascade p c (packetBlocks m.1 m.2)).reverse ++ s.out } := by
  induction l generalizing s with
  | nil => rfl
  | cons m l ih =>
    rw [List.foldl_cons, ih]
    simp [emit]

theorem exec_cmdRetransmit {s : State} {p c : Nat} (hp : p < 2) (hc : c ≠ 2) (hu : casUp s p = true) (hx : (casClass s p c).unacked ≠ []) :
    exec (.cmdRetransmit p c) s = .next { casCount s p 2 1 with
      out := ((casClass s p c).unacked.map fun m => .cascade p c (packetBlocks m.1 m.2)).reverse ++ s.out } :=
  congrArg Host.Outcome.next ((if_neg (by simp [hx, hu, hc, hp])).trans (foldl_emit p c _ _))

theorem casGet_withOut (s : State) (l : List Sent) (p : Nat) : casGet { s with out := l } p = casGet s p := rfl

/-- Settles O47: links, roles, enumeration, credit and retransmission are each read off the command that the statement names. -/
theorem cascadeLinksAndEnumeration : Obligations.CascadeLinksAndEnumeration := by
  unfold Obligations.CascadeLinksAndEnumeration
  refine ⟨fun s p l n hpow hr hp hl hn => congrArg Host.Outcome.next (if_pos ⟨hpow, hr, hp, hl, hn⟩), fun s p l hp hl => ?loss,
    fun s p n hp hs hl hm => ?align, fun s p m e role ds hp hs hl hsp hm hd hps htwo => ?link, fun s hpow hr hen h0 => ?role,
    fun s i n v hm => ?candidate, fun s i n v c hm hc he => ?final, fun s c l hen hr => ?report, fun s c m hen hr hu hh => ?trial,
    fun s p c q n i x hp h1 h3 hx hi hw => ?credit, fun s p c x hp hc hu hx hne => ?again⟩
  case loss =>
    have hexec := exec_cascadeLockLoss hp hl
    have hport := casGet_leaveUp (casCount (casPut s p { casGet s p with
      lanes := putBit (casGet s p).lanes l false, matched := 0, mismatched := 0 }) p 0 1) p 0
    rw [casGet_casCount, casGet_casPut] at hport
    refine ⟨_, hexec, ?_, ?_, ?_, execCascadeLockLoss_frames p l s _ hexec⟩
    · rw [hport]
    · rw [hport]
      exact bitAt_putBit_same _ _ _
    · rw [hport]
      exact get_bump _ 0
  case align =>
    obtain ⟨x, hx, hexec⟩ := exec_cascadeAlignSlot_second n hp hs hl hm
    refine ⟨_, hexec, ?_, ?_⟩
    · rw [casGet_sendLink, casGet_casPut, hx]
    · exact ((changes_stk s _).mono (by decide)).trans (((changes_stk _ _).mono (by decide)).trans ((sendLink_changes _ p).mono (by decide)))
  case link =>
    have hexec := exec_cascadeLinkSlot_up e role ds hp hs hl hsp hm hd hps htwo
    have hheard := slotHeard_changes s p m role
    have hdev : (slotHeard s p m role).dev = s.dev := hheard .dev (by decide)
    have hstk : (slotHeard s p m role).stk = (casPut s p { casGet s p with partner := some (m, role) }).stk := hheard .stk (by decide)
    have hrole : (slotHeard s p m role).stk.role = s.stk.role := (congrArg Stack.role hstk :)
    obtain ⟨hmode, hspeak⟩ := speaks_congr hdev (hheard .red (by decide)) hrole p
    have hport : casGet (sendLink (slotHeard s p m role) p) p = { casGet s p with partner := some (m, role) } := by
      rw [casGet_sendLink, casGet_of_port (congrArg Stack.port hstk), casGet_casPut]
    obtain ⟨hstate, hpartner⟩ := casGet_linkUp (sendLink (slotHeard s p m role) p) p
    refine ⟨_, hexec, hstate, ?_, execCascadeLinkSlot_frames p m e role ds s _ hexec, (keepsOut_linkUp _ p).mem ?_⟩
    · rw [hpartner, hport]
    · have hsent := mem_sendLink (hspeak.trans hsp)
      rw [hmode, hdev, hrole, ← hm] at hsent
      exact hsent
  case role =>
    have hexec := exec_stkRoleDecide hpow hr hen h0
    refine ⟨_, hexec, execStkRoleDecide_frames s _ hexec, ?_⟩
    split
    · rfl
    · rw [edgesUp_changes _ .stk (by decide), timedBegin_changes _ .stk (by decide), startEnum_changes _ .stk (by decide)]
      exact ⟨rfl, rfl, rfl⟩
  case candidate =>
    obtain ⟨x, hx, hexec⟩ := exec_enumReceived_candidate i n v hm
    have hstk := hx .stk (by decide)
    refine ⟨x, hexec, ?_, ?_, ?_, ((changes_stk s _).mono (by decide)).trans (hx.mono (by decide))⟩
    · rw [hstk]
    · rw [hstk]
    · rw [hstk]
  case final =>
    have hexec := exec_enumReceived_final i n v hm hc he
    refine ⟨_, hexec, execEnumReceived_frames i true n v s _ hexec, ?_⟩
    rw [casTime_changes _ 1 7 _ .stk (by decide)]
    exact finalTaken_stk c n v he
  case report =>
    have hexec := exec_reportReceived_master c l hen hr
    obtain ⟨hn, hreach⟩ := foldl_memberFound_nodes l (enumClosed s c)
    have hstk : (enumClosed s c).stk = _ := casTime_changes _ 1 7 _ .stk (by decide)
    exact ⟨_, hexec, hn.trans (congrArg Stack.nodes hstk), hreach.trans (congrArg Stack.reach hstk),
      execReportReceived_frames _ s _ hexec⟩
  case trial =>
    have hupd : (enumClosed s c).upd = s.upd := casTime_changes _ 1 7 _ .upd (by decide)
    have hdev : (enumClosed s c).dev = s.dev := casTime_changes _ 1 7 _ .dev (by decide)
    refine ⟨_, exec_reportReceived_master c [m] hen hr, memberFound_trial ((congrArg Update.state hupd).trans hu) ?_⟩
    rw [hh, runningManifest, runningManifest, runningSet, runningSet, hupd, hdev]
  case credit =>
    subst hx
    have hexec := exec_creditReceived_idle q n hp h1 h3 hi hw
    exact ⟨_, hexec, casClass_casClassPut s p c _, changes_stk s _⟩
  case again =>
    subst hx
    have hexec := exec_cmdRetransmit hp hc hu hne
    refine ⟨_, hexec, fun m hm => ?_, ?_, execCmdRetransmit_frames p c s _ hexec⟩
    · exact List.mem_append_left _ (List.mem_reverse.mpr (List.mem_map.mpr ⟨m, hm, rfl⟩))
    · rw [casGet_withOut, casGet_casCount]
      exact get_bump _ 2

end Sys2Proof.Machine
end

section
/-! Relay messages (R312, R343, R353 to R357, R366): what a member and the master make of each. -/

namespace Sys2Proof.Machine

/-! ### Acknowledged arrivals (R348, R357) -/

theorem acked_refl (s : State) : Acked s s := ⟨s.stk.port, s.out, rfl⟩

theorem acked_tookUp (s : State) (n : Nat) : Acked s (tookUp s n) := by
  unfold tookUp
  split
  · exact acked_casTook s 1 1 _
  · exact acked_refl s

theorem acked_tookDown (s : State) (n : Nat) : Acked s (tookDown s n) := by
  unfold tookDown
  split
  · exact acked_casTook s 0 1 _
  · exact acked_refl s

section
variable {s u : State} (h : Acked s u)
include h

theorem Acked.frm : u.frm = s.frm := h.changes .frm (by decide)

theorem Acked.stackOf : stackOf u = stackOf s := by
  obtain ⟨ports, out, rfl⟩ := h
  rfl

theorem Acked.relays : u.stk.relays = s.stk.relays := (congrArg Stack.relays h.stackOf :)
theorem Acked.staged : u.stk.staged = s.stk.staged := (congrArg Stack.staged h.stackOf :)
theorem Acked.index : u.stk.index = s.stk.index := (congrArg Stack.index h.stackOf :)
theorem Acked.detached : u.stk.detached = s.stk.detached := (congrArg Stack.detached h.stackOf :)

theorem Acked.isMember : isMember u = isMember s := by
  obtain ⟨ports, out, rfl⟩ := h
  rfl

theorem Acked.takesRelay : takesRelay u = takesRelay s := by
  obtain ⟨ports, out, rfl⟩ := h
  rfl

end

/-! ### Requests (R343, R354 to R357) -/

theorem exec_relayRequest_other {s : State} (h : RelayHdr) (op : Nat) {r : Req} (hm : isMember s = true) (hall : r.node ≠ 0x3F)
    (hn : r.node ≠ s.stk.index) : exec (.relayRequest h op r) s
      = .next (passOn (tookDown (advance s r.t) (reqBytes op r).length) 1 1 0 r.node h (reqBytes op r)) := by
  have hu := acked_tookDown (advance s r.t) (reqBytes op r).length
  have hidx : r.node ≠ (tookDown (advance s r.t) (reqBytes op r).length).stk.index := fun h => hn (h.trans hu.index)
  refine congrArg Host.Outcome.next ((if_neg (by simp [hm])).trans ((if_neg fun h => ?_).trans (if_neg fun h => hidx h.1)))
  exact h.2.elim hidx hall

theorem exec_relayRequest_own {s : State} (h : RelayHdr) {op : Nat} {r : Req} (hm : isMember s = true) (hn : r.node = s.stk.index)
    (he : s.stk.enumerated = true) (hop : op ≠ 0x30)
    (ha : answers (tookDown (advance s r.t) (reqBytes op r).length) (relayPath h) = true) :
    exec (.relayRequest h op r) s
      = .next (serve op (handlerOf op) { r with path := relayPath h } (tookDown (advance s r.t) (reqBytes op r).length)) := by
  have hu := acked_tookDown (advance s r.t) (reqBytes op r).length
  have hidx : r.node = (tookDown (advance s r.t) (reqBytes op r).length).stk.index := hn.trans hu.index.symm
  have henum : (tookDown (advance s r.t) (reqBytes op r).length).stk.enumerated = true :=
    (congrArg Stack.enumerated hu.stackOf).trans he
  have htakes : takesRelay (tookDown (advance s r.t) (reqBytes op r).length) = true := by
    rw [hu.takesRelay, takesRelay]
    exact Bool.and_eq_true_iff.mpr ⟨hm, he⟩
  refine congrArg Host.Outcome.next ((if_neg (by simp [hm])).trans ((if_pos ⟨htakes, .inl hidx⟩).trans ?_))
  rw [if_pos ⟨hidx, henum⟩]
  exact (if_pos ha).trans (if_neg fun h => hop h.1)

/-! ### Staged transactions (R312, R353) -/

/-- The transaction that a STAGE holds, under the relayed sender. -/
def stagedTxn (h : RelayHdr) (k m : Nat) (ys : List Item) : AccTxn :=
  { id := h.txnId, frame := if m = 2 then 0 else k, tenant := h.tenant, role := h.role, items := ys, ordered := false }

theorem exec_relayStage {s : State} (h : RelayHdr) (k m : Nat) (xs : List (Nat × Req)) (ht : takesRelay s = true)
    (hd : s.stk.detached = false) {u : State} (hu : u = tookDown s (16 + (xs.map fun x => up8 (reqBytes x.1 x.2).length).sum))
    {ys : List Item} (hys : ys = xs.map fun x => { op := x.1, req := { x.2 with path := relayPath h } }) :
    ∃ b, exec (.relayStage h k m xs) s = .next (casSend { u with stk := { u.stk with
      staged := if (stageErr u h k m ys).2.isSome then u.stk.staged.filter fun x => !decide (x.id = h.txnId)
        else (u.stk.staged.filter fun x => !decide (x.id = h.txnId)) ++ [stagedTxn h k m ys] } } 0 1 0 b) := by
  have hack := acked_tookDown s (16 + (xs.map fun x => up8 (reqBytes x.1 x.2).length).sum)
  rw [← hu] at hack
  subst hys
  have hgo : ¬ (takesRelay u = false ∨ u.stk.detached = true) := by
    rw [hack.takesRelay, hack.detached, ht, hd]
    simp
  subst hu
  exact ⟨_, congrArg Host.Outcome.next (if_neg hgo)⟩

/-! ### Verdicts and responses (R312, R354, R355) -/

/-- A node of which an answer is awaited, and not of it alone: answers are still awaited without it. -/
theorem waiting_without {w n : Nat} (hb : bitAt w n = true) (hne : w ≠ 2 ^ n) : w - 2 ^ n ≠ 0 := by
  have hge : 2 ^ n ≤ w := Nat.ge_two_pow_of_testBit (by rw [← bitAt_eq_testBit]; exact hb)
  omega

/-- What is left of a relay when one node's verdict is in. -/
def verdictTaken (s : State) (h : RelayHdr) (b : List Byte) (x : Relay) : Relay :=
  { x with
    waiting := x.waiting - 2 ^ h.node
    failed := if h.status < 0x10 then x.failed
      else x.failed ++ [(h.node, asTxn h.node (if x.op = 0x62 then [] else (itemsFor s h.node (relayItems s x)).map (·.1))
        { errOf h.status h.node b with cause := some (Status.ofCode h.status) })] }

theorem exec_relayVerdict_waiting {s : State} {h : RelayHdr} (k : Nat) (b : List Byte) {x : Relay} (hm : isMember s = false)
    (hx : s.stk.relays.find? (fun x => (x.stage.map (·.1)) == some h.txnId && bitAt x.waiting h.node
      && x.answers.elem (h.node, leBytes 2 h.relayId)) = some x) (hw : x.waiting - 2 ^ h.node ≠ 0) :
    ∃ u y, Acked s u ∧ y = verdictTaken u h b x
      ∧ exec (.relayVerdict h k b) s = .next { u with stk := { u.stk with relays := u.stk.relays.map fun z => if z = x then y else z } } := by
  have hu := acked_tookUp s (8 + b.length)
  have hm' : ¬ isMember (tookUp s (8 + b.length)) = true := by simp [hu.isMember, hm]
  refine ⟨_, _, hu, rfl, congrArg Host.Outcome.next ((if_neg hm').trans ?_)⟩
  rw [hu.relays, hx]
  exact if_pos hw

theorem exec_relayResponse_one {s : State} {h : RelayHdr} (b : List Byte) {x : Relay} (hm : isMember s = false)
    (hx : s.stk.relays.find? (fun x => x.id == h.relayId && x.stage.isNone && bitAt x.waiting h.node) = some x) (ht : x.target ≠ 0x3F) :
    exec (.relayResponse h b) s = .next (finish (endRelay (tookUp s b.length) x) x.op x.req b) := by
  have hu := acked_tookUp s b.length
  have hm' : ¬ isMember (tookUp s b.length) = true := by simp [hu.isMember, hm]
  refine congrArg Host.Outcome.next ((if_neg hm').trans ?_)
  rw [hu.relays, hx]
  exact if_pos ht

/-! ### Discards and roles (R312, R366, R377) -/

/-- The block with the message acknowledged and passed on, and the staged items of its transaction discarded. -/
def discarded (s : State) (h : RelayHdr) : State :=
  let s1 := passOn (tookDown s 0) 1 5 0 0x3F h []
  { s1 with stk := { s1.stk with staged := s1.stk.staged.filter fun x => !decide (x.id = h.txnId) } }

theorem exec_relayDiscard {s : State} (h : RelayHdr) (hm : isMember s = true) : exec (.relayDiscard h) s = .next (discarded s h) :=
  congrArg Host.Outcome.next (if_pos ((acked_tookDown s 0).isMember.trans hm))

theorem discarded_staged (s : State) (h : RelayHdr) : (discarded s h).stk.staged = s.stk.staged.filter fun x => !decide (x.id = h.txnId) := by
  have hpass : (passOn (tookDown s 0) 1 5 0 0x3F h []).stk.staged = (tookDown s 0).stk.staged :=
    (congrArg Stack.staged (passOn_stackOf _ _ _ _ _ _ _) :)
  rw [discarded]
  dsimp only
  rw [hpass, (acked_tookDown s 0).staged]

/-- A message of up to 2,048 bytes is acknowledged under the next SEQ. -/
theorem casTook_one {s : State} {p c n : Nat} (hu : casUp s p = true) (h1 : 0 < n) (hn : n ≤ 2048) :
    casTook s p c n = emit (casClassPut s p c { casClass s p c with received := ((casClass s p c).received + 1) % 65536 })
      (.cascade p 0 [creditBlock c ((casClass s p c).received % 65536) (Config.creditGrant p c ((casClass s p c).received % 65536))]) := by
  have hq : (casClass s p c).received + (n + 2047) / 2048 - 1 = (casClass s p c).received := by omega
  unfold casTook
  dsimp only
  rw [hq, if_pos hu]

theorem discarded_acked {s : State} (h : RelayHdr) (hm : isMember s = true) (hu : casUp s 0 = true) :
    (casClass (discarded s h) 0 1).received = ((casClass s 0 1).received + 1) % 65536
      ∧ ∃ n, .cascade 0 0 [creditBlock 1 ((casClass s 0 1).received % 65536) n] ∈ (discarded s h).out := by
  have htook : tookDown s 0 = casTook s 0 1 16 := if_pos hm
  have hone := casTook_one (c := 1) hu (n := 16) (by decide) (by decide)
  have hport : casGet (passOn (tookDown s 0) 1 5 0 0x3F h []) 0 = casGet (tookDown s 0) 0 := by
    unfold passOn
    split
    · exact casGet_casQueue_other _ _ _ (by decide)
    · rfl
  have hclass : casClass (discarded s h) 0 1 = casClass (passOn (tookDown s 0) 1 5 0 0x3F h []) 0 1 := rfl
  refine ⟨?_, Config.creditGrant 0 1 ((casClass s 0 1).received % 65536), (keepsOut_passOn _ _ _ _ _ _ _).mem ?_⟩
  · rw [hclass, casClass, hport, htook, hone]
    exact congrArg CasClass.received (casClass_casClassPut s 0 1 _)
  · rw [htook, hone]
    exact List.mem_cons_self

/-- What a change of role does of the outputs and of the radio is no matter of the pair. -/
theorem resetPoints_red (s : State) : (resetPoints s).red = s.red :=
  ChangesOnly.foldl (ps := [.drv]) (fun a (x : Nat × Point) => pointPut a x.1 (toUnknown (pointGet a x.1)))
    (fun a x => pointPut_changes a x.1 _) s.drv.points s .red (by decide)

theorem openWindows_red (s : State) (t : Time) : (openWindows s t).red = s.red :=
  (ChangesOnly.foldl (ps := [.rad]) _ (fun a _ => .ite (changes_rad a _) (.refl _ a)) _ s) .red (by decide)

theorem gratuitous_red (s : State) (p : Nat) : (gratuitous s p).red = s.red :=
  (ChangesOnly.ite (qPush_changes s _ _ _) (.refl _ s)) .red (by decide)

theorem toState_red (s : State) (x : DevState) : (toState s x).red = s.red := toState_changes s x .red (by decide)

theorem enterShadow_role (s : State) (u : Time) (b : Bool) :
    (enterShadow s u b).red.roleAt = s.red.roleAt ∧ (enterShadow s u b).red.role = 2 ∧ (enterShadow s u b).red.actOut = false := by
  refine ⟨?_, rfl, rfl⟩
  have hsrc : (if isMember s then s else losesSource s).red = s.red := by
    split
    · rfl
    · exact losesSource_changes s .red (by decide)
  exact (congrArg Red.roleAt hsrc :)

/-- A role whose edge has come is taken. -/
theorem roleEdge_due {s : State} {role e k : Nat} (h : s.red.roleAt = some (role, e)) (hk : e ≤ k) :
    (roleEdge s k).red.roleAt = none ∧ (roleEdge s k).red.role = role ∧ (roleEdge s k).red.actOut = (role == 1) := by
  have hactive (a : State) (u : Time) : (gratuitous (gratuitous (openWindows (resetPoints (resendCommands (raiseCounters a))) u) 0) 1).red
      = a.red := by
    rw [gratuitous_red, gratuitous_red, openWindows_red, resetPoints_red, resendCommands_changes _ .red (by decide),
      raiseCounters_changes _ .red (by decide)]
  unfold roleEdge
  rw [h]
  dsimp only
  rw [if_pos hk]
  split
  · rw [hactive, toState_red]
    exact ⟨rfl, rfl, rfl⟩
  · split
    next hpassive =>
      obtain ⟨hrole, -⟩ := hpassive
      subst hrole
      rw [resetPoints_red]
      obtain ⟨hat, hrole, hact⟩ := enterShadow_role
        (toState { s with red := { s.red with roleAt := none, role := 2, actOut := 2 == 1 } } .shadow)
        (toState { s with red := { s.red with roleAt := none, role := 2, actOut := 2 == 1 } } .shadow).tim.now false
      rw [toState_red] at hat
      exact ⟨hat, hrole, hact⟩
    · exact ⟨rfl, rfl, rfl⟩

theorem roleEdge_early {s : State} {role e k : Nat} (h : s.red.roleAt = some (role, e)) (hk : k < e) : roleEdge s k = s := by
  unfold roleEdge
  rw [h]
  exact if_neg (Nat.not_le.mpr hk)

/-- The block with the message acknowledged and passed on, and the role kept for its edge. -/
def roleHeard (s : State) (h : RelayHdr) (role k : Nat) : State :=
  let s1 := passOn (tookDown s 16) 1 6 0 0x3F h (leBytes 1 role ++ leBytes 7 0 ++ leBytes 8 k)
  { s1 with red := { s1.red with roleAt := some (role, k) } }

theorem passedDown_changes (s : State) (n k : Nat) (h : RelayHdr) (b : List Byte) :
    ChangesOnly [.stk, .out] s (passOn (tookDown s n) 1 k 0 0x3F h b) :=
  (acked_tookDown s n).changes.trans (passOn_changes _ _ _ _ _ _ _)

theorem roleHeard_changes (s : State) (h : RelayHdr) (role k : Nat) : ChangesOnly [.stk, .red, .out] s (roleHeard s h role k) :=
  ((passedDown_changes s 16 6 h _).mono (by decide)).trans ((changes_red _ _).mono (by decide))

theorem roleHeard_red (s : State) (h : RelayHdr) (role k : Nat) : (roleHeard s h role k).red = { s.red with roleAt := some (role, k) } := by
  rw [roleHeard]
  dsimp only
  rw [passedDown_changes s 16 6 h _ .red (by decide)]

theorem exec_relayRole {s : State} (h : RelayHdr) (role k : Nat) (hm : isMember s = true) : exec (.relayRole h role k) s = .next
    (if (roleHeard s h role k).frm.running then roleEdge (roleHeard s h role k) (roleHeard s h role k).frm.num else roleHeard s h role k) :=
  congrArg Host.Outcome.next (if_pos ((acked_tookDown s 16).isMember.trans hm))

/-! ### Notifications (R316, R357) -/

theorem notifyBytes_seq (s : State) (b : List Byte) : (notifyBytes s b).que.seq = s.que.seq := by
  have hout (u : State) (m : List Byte) : (noteOut u m).que.seq = u.que.seq := congrArg Prod.snd (posted_noteOut u m)
  unfold notifyBytes
  split
  · exact hout (qDiscard s 28) b
  · exact (hout _ _).trans (congrArg Prod.snd (posted_qCommit s false b))

theorem exec_relayNotify_master {s : State} (h : RelayHdr) {b : List Byte} (hen : s.dev.stackEn = true) (hm : isMember s = false)
    (hb : 24 ≤ b.length) : ∃ m, exec (.relayNotify h b) s = .next (notifyBytes
      { tookUp s b.length with que := { (tookUp s b.length).que with seq := ((tookUp s b.length).que.seq + 1) % 4294967296 } } m) := by
  have hu := acked_tookUp s b.length
  have hm' : ¬ isMember (tookUp s b.length) = true := by simp [hu.isMember, hm]
  have hgo : ¬ ((tookUp s b.length).dev.stackEn = false ∨ b.length < 24) := by
    rw [hu.dev, hen]
    simp [hb]
  exact ⟨_, congrArg Host.Outcome.next ((if_neg hm').trans (if_neg hgo))⟩

theorem tookUp_isMember {s : State} (n : Nat) (hm : isMember s = true) : isMember (tookUp s n) = true :=
  (acked_tookUp s n).isMember.trans hm

/-- Settles O50: each message is read off its command, past its acknowledgement, which moves the ports alone. -/
theorem relayMessagesReachTheirNode : Obligations.RelayMessagesReachTheirNode := by
  unfold Obligations.RelayMessagesReachTheirNode
  refine ⟨fun s u h op r hm hall hu => ?request, fun s u h k m xs ys e ht hd hu hys he => ?stage, fun s h k b x hm hx hw => ?verdict,
    fun s h b x hm hx ht => ?response, fun s h hm => ?discard, fun s h role k hm => ⟨fun hk => ?later, fun hr hk => ?now⟩,
    fun s h b hen hm hb => ?notify, fun s h k b hm => ⟨congrArg Host.Outcome.next (if_pos (tookUp_isMember _ hm)),
      congrArg Host.Outcome.next (if_pos (tookUp_isMember _ hm)), congrArg Host.Outcome.next (if_pos (tookUp_isMember _ hm))⟩⟩
  case request =>
    subst hu
    exact ⟨fun hn => exec_relayRequest_other h op hm hall hn, fun hn he hop ha => exec_relayRequest_own h hm hn he hop ha⟩
  case stage =>
    obtain ⟨b, hexec⟩ := exec_relayStage h k m xs ht hd hu hys
    have hstaged : u.stk.staged = s.stk.staged := hu ▸ (acked_tookDown s _).staged
    refine ⟨_, hexec, execRelayStage_frames h k m xs s _ hexec, ?_⟩
    refine (congrArg Stack.staged (casSend_stackOf _ _ _ _ _) :).trans ?_
    dsimp only [stackOf]
    rw [hstaged, ← he]
    cases e with
    | none => rfl
    | some e => exact (List.append_nil _).symm
  case verdict =>
    have hbit : bitAt x.waiting h.node = true := by
      have := List.find?_some hx
      simp only [Bool.and_eq_true] at this
      exact this.1.2
    obtain ⟨u, y, hu, rfl, hexec⟩ := exec_relayVerdict_waiting k b hm hx (waiting_without hbit hw)
    refine ⟨_, verdictTaken u h b x, hexec, ?_, rfl, rfl, fun hst => if_pos hst, hu.changes.trans ((changes_stk u _).mono (by decide))⟩
    rw [hu.relays]
    exact List.mem_map.mpr ⟨x, List.mem_of_find?_eq_some hx, if_pos rfl⟩
  case response =>
    refine ⟨_, exec_relayResponse_one b hm hx ht, rfl, ?_⟩
    have hrel : (finish (endRelay (tookUp s b.length) x) x.op x.req b).stk.relays = (endRelay (tookUp s b.length) x).stk.relays :=
      (congrArg Stack.relays (finish_stackOf _ _ _ _) :)
    rw [hrel]
    intro hin
    have := List.of_mem_filter hin
    simp at this
  case discard =>
    have hexec := exec_relayDiscard h hm
    refine ⟨_, hexec, fun x hx => ?_, execRelayDiscard_frames h s _ hexec, fun hu => discarded_acked h hm hu⟩
    rw [discarded_staged] at hx
    obtain ⟨hin, hid⟩ := List.mem_filter.mp hx
    exact ⟨hin, by simpa using hid⟩
  case later =>
    have hfrm : (roleHeard s h role k).frm = s.frm := roleHeard_changes s h role k .frm (by decide)
    have hat : (roleHeard s h role k).red.roleAt = some (role, k) := congrArg Red.roleAt (roleHeard_red s h role k)
    have hsame : (if (roleHeard s h role k).frm.running then roleEdge (roleHeard s h role k) (roleHeard s h role k).frm.num
        else roleHeard s h role k) = roleHeard s h role k := by
      rcases hk with hr | hk
      · exact if_neg (by simp [hfrm, hr])
      · rw [roleEdge_early hat (hfrm ▸ hk)]
        exact ite_self _
    exact ⟨_, (exec_relayRole h role k hm).trans (congrArg _ hsame), roleHeard_red s h role k, roleHeard_changes s h role k⟩
  case now =>
    have hfrm : (roleHeard s h role k).frm = s.frm := roleHeard_changes s h role k .frm (by decide)
    have hat : (roleHeard s h role k).red.roleAt = some (role, k) := congrArg Red.roleAt (roleHeard_red s h role k)
    refine ⟨_, (exec_relayRole h role k hm).trans (congrArg _ (if_pos ?_)), roleEdge_due hat (hfrm ▸ hk)⟩
    rw [hfrm, hr]
  case notify =>
    obtain ⟨m, hexec⟩ := exec_relayNotify_master h hen hm hb
    refine ⟨_, hexec, ?_⟩
    rw [notifyBytes_seq, (acked_tookUp s b.length).changes .que (by decide)]

end Sys2Proof.Machine
end

section
/-! The security island (R407 to R424): what answers and notifications leave of it, what an accepted envelope and ATTEST make of it, and
what tamper events, failed tests and activation resets bring. -/

namespace Sys2Proof.Machine

/-! ### The island beside the counters of its sessions -/

/-- The island but for the counters under which it sends. -/
def vaultOf (s : State) : Island := { s.sec with tx := [] }

/-- The island but for its sessions. -/
def keysOf (s : State) : Island := { s.sec with rx := [], tx := [], live := [] }

theorem vaultOf_of_sec {s t : State} (h : t.sec = s.sec) : vaultOf t = vaultOf s := by rw [vaultOf, h, vaultOf]

theorem keysOf_of_vaultOf {s t : State} (h : vaultOf t = vaultOf s) : keysOf t = keysOf s :=
  (congrArg (fun x : Island => { x with rx := [], tx := [], live := [] }) h :)

theorem ChangesOnly.vaultOf {ps : List Part} {s t : State} (h : ChangesOnly ps s t) (hp : .sec ∉ ps) : vaultOf t = vaultOf s :=
  vaultOf_of_sec (h .sec hp)

@[simp] theorem logEv_vaultOf (s : State) (code p0 p1 p2 : Nat) : vaultOf (logEv s code p0 p1 p2) = vaultOf s :=
  (logEv_changes _ _ _ _ _).vaultOf (by decide)

@[simp] theorem qPush_vaultOf (s : State) (q : Nat) (h : Bool) (b : List Byte) : vaultOf (qPush s q h b) = vaultOf s :=
  (qPush_changes s q h b).vaultOf (by decide)

@[simp] theorem casSend_vaultOf (s : State) (p c d : Nat) (m : List Byte) : vaultOf (casSend s p c d m) = vaultOf s :=
  (casSend_changes _ _ _ _ _).vaultOf (by decide)

@[simp] theorem sendMb2_vaultOf (s : State) (p n : Nat) (m : List Byte) : vaultOf (sendMb2 s p n m) = vaultOf s := by
  unfold sendMb2
  dsimp only
  rw [qPush_vaultOf]
  split <;> rfl

@[simp] theorem noteCopies_vaultOf (l : List (Nat × Nat)) (s : State) (b : List Byte) : vaultOf (noteCopies l s b) = vaultOf s := by
  induction l generalizing s with
  | nil => rfl
  | cons n l ih => rw [noteCopies, ih, sendMb2_vaultOf]

@[simp] theorem noteOut_vaultOf (s : State) (b : List Byte) : vaultOf (noteOut s b) = vaultOf s := by
  unfold noteOut
  dsimp only
  split
  · rw [casSend_vaultOf, noteCopies_vaultOf]
  · rw [noteCopies_vaultOf]

@[simp] theorem notifyBytes_vaultOf (s : State) (b : List Byte) : vaultOf (notifyBytes s b) = vaultOf s := by
  unfold notifyBytes
  split
  · exact noteOut_vaultOf (qDiscard s 28) b
  · rw [noteOut_vaultOf]
    exact (qCommit_changes s 28 false b).vaultOf (by decide)

@[simp] theorem notify_vaultOf (s : State) (c : Nat) (b : List Byte) : vaultOf (notify s c b) = vaultOf s := notifyBytes_vaultOf _ _

@[simp] theorem toState_vaultOf (s : State) (x : DevState) : vaultOf (toState s x) = vaultOf s := by
  unfold toState
  split
  · rfl
  · rw [(raise_changes _ _).vaultOf (by decide), notify_vaultOf]
    rfl

theorem foldl_vaultOf {α : Type} {f : State → α → State} (h : ∀ a x, vaultOf (f a x) = vaultOf a) (l : List α) (s : State) :
    vaultOf (l.foldl f s) = vaultOf s := by
  induction l generalizing s with
  | nil => rfl
  | cons x l ih => rw [List.foldl_cons, ih, h]

@[simp] theorem noteDiscards_vaultOf (s : State) : vaultOf (noteDiscards s) = vaultOf s := by
  unfold noteDiscards
  dsimp only
  rw [foldl_vaultOf fun a x => notify_vaultOf a _ _, foldl_vaultOf fun a x => notify_vaultOf a _ _]

/-- Entry into SAFE leaves the island but for the copies of its notifications. -/
@[simp] theorem enterSafe_vaultOf (s : State) (c : Nat) : vaultOf (enterSafe s c) = vaultOf s := by
  rw [enterSafe, logEv_vaultOf, toState_vaultOf]
  exact noteDiscards_vaultOf s

@[simp] theorem sendResp_vaultOf (s : State) (p : Path) (m : List Byte) : vaultOf (sendResp s p m) = vaultOf s := by
  cases p with
  | mb0 => exact qPush_vaultOf ..
  | mb1 => exact qPush_vaultOf ..
  | mb2 n p => exact sendMb2_vaultOf ..
  | mb3 => exact casSend_vaultOf ..
  | console => rfl

@[simp] theorem finish_vaultOf (s : State) (op : Nat) (r : Req) (m : List Byte) : vaultOf (finish s op r m) = vaultOf s := by
  have hentry (u : State) : vaultOf (setEntry u op r m) = vaultOf u := by
    unfold setEntry
    split <;> rfl
  rw [finish, hentry, sendResp_vaultOf]

/-- Judging the sessions again moves the sessions and the log alone. -/
theorem refreshLive_keysOf (s : State) : keysOf (refreshLive s) = keysOf s := by
  unfold refreshLive
  dsimp only
  refine (keysOf_of_vaultOf (foldl_vaultOf (fun a i => ?_) _ _)).trans rfl
  split
  · exact logEv_vaultOf ..
  · rfl

theorem refreshLive_changes (s : State) : ChangesOnly [.sec, .log] s (refreshLive s) := by
  have hfold (l : List Nat) (a : State) : ChangesOnly [.log] a (l.foldl (fun a i =>
      if evaluated a then logEv a 0x0D06 (u32At (a.imm.row secSession i) 0) (byteAt (a.imm.row secSession i) 5) 0 else a) a) :=
    .foldl _ (fun a _ => .ite (logEv_changes _ _ _ _ _) (.refl _ a)) l a
  exact ((changes_sec s _).mono (by decide)).trans ((hfold _ _).mono (by decide))

/-! ### Answers that fit (R305) -/

theorem respBytes_length (s : State) (op : Nat) (r : Req) (st : Status) (txn : Nat) (p : List Byte) :
    (respBytes s op r st txn p).length = 24 + p.length := by
  simp [respBytes, leBytes_length]
  omega

theorem respFits_mono {s : State} {p : Path} {m n : List Byte} (h : respFits s p m = true) (hl : n.length ≤ m.length) :
    respFits s p n = true := by
  obtain ⟨hm, hp⟩ := Bool.and_eq_true_iff.mp h
  refine Bool.and_eq_true_iff.mpr ⟨decide_eq_true (hl.trans (of_decide_eq_true hm)), ?_⟩
  cases p with
  | mb2 n q => exact decide_eq_true (hl.trans (of_decide_eq_true hp))
  | mb0 => rfl
  | mb1 => rfl
  | mb3 => rfl
  | console => rfl

/-- Whether an answer fits is a matter of the length of its payload alone, and a shorter one fits where a longer does. -/
theorem Fits.of_length {op : Nat} {r : Req} {s u v : State} {st st' : Status} {txn txn' : Nat} {p q : List Byte}
    (h : Fits op r s u st txn p) (hl : q.length ≤ p.length) : Fits op r s v st' txn' q := by
  refine respFits_mono h ?_
  rw [respBytes_length, respBytes_length]
  omega

/-! ### What an accepted envelope makes of the island (R409, R413 to R415, R418, R419) -/

/-- Sessions restarted are still sessions: the keys stay. -/
theorem restartSessions_keysOf (s : State) (i : Nat) : keysOf (restartSessions s i) = keysOf s := by
  unfold restartSessions
  generalize secSession.all.filter _ = l
  induction l generalizing s with
  | nil => rfl
  | cons n l ih =>
    rw [List.foldl_cons, ih]
    rfl

theorem restartSessions_rad (s : State) (i : Nat) : (restartSessions s i).rad = s.rad :=
  ChangesOnly.foldl (ps := [.sec]) _ (fun a _ => changes_sec a _) _ s .rad (by decide)

/-- The block with a key in its slot, before the sessions that it keys restart. -/
def keyWritten (s : State) (i : Nat) (k : KeySlot) : State :=
  setCond { slotPut s i k with rad := { s.rad with fc := SMap.put 0 s.rad.fc i 0 } } 0x0703 i false

theorem installSlot_eq {s : State} {i : Nat} (k : KeySlot) (hg : (slotOf s i).gen ≠ 65535) :
    installSlot s i k = restartSessions (keyWritten s i { k with gen := (slotOf s i).gen + 1, state := 1 }) i := if_neg hg

theorem keyWritten_keysOf (s : State) (i : Nat) (k : KeySlot) :
    keysOf (keyWritten s i k) = { keysOf s with slots := SMap.put KeySlot.empty s.sec.slots i k } := rfl

theorem installSlot_counter (s : State) (i : Nat) (k : KeySlot) : (installSlot s i k).sec.counter = s.sec.counter := by
  by_cases hg : (slotOf s i).gen = 65535
  · rw [installSlot, if_pos hg]
    rfl
  · rw [installSlot_eq k hg]
    exact (congrArg Island.counter ((restartSessions_keysOf _ _).trans (keyWritten_keysOf s i _)) :)

/-- The slot that a key is installed in, and its frame counter. -/
theorem installSlot_slot {s : State} {i : Nat} (k : KeySlot) (hg : (slotOf s i).gen ≠ 65535) :
    slotOf (installSlot s i k) i = { k with gen := (slotOf s i).gen + 1, state := 1 } ∧ SMap.get 0 (installSlot s i k).rad.fc i = 0 := by
  rw [installSlot_eq k hg, restartSessions_rad]
  refine ⟨?_, SMap.get_put_same 0 s.rad.fc i 0⟩
  have hslots := (congrArg Island.slots ((restartSessions_keysOf
    (keyWritten s i { k with gen := (slotOf s i).gen + 1, state := 1 }) i).trans (keyWritten_keysOf s i _)) :)
  have hput : SMap.get KeySlot.empty (SMap.put KeySlot.empty s.sec.slots i { k with gen := (slotOf s i).gen + 1, state := 1 }) i =
      { k with gen := (slotOf s i).gen + 1, state := 1 } := SMap.get_put_same _ _ _ _
  exact ((congrArg (fun m => SMap.get KeySlot.empty m i) hslots).trans hput :)

theorem installItems_counter (s : State) (xs : List LifeItem) : (installItems s xs).sec.counter = s.sec.counter := by
  unfold installItems
  induction xs generalizing s with
  | nil => rfl
  | cons x xs ih => rw [List.foldl_cons, ih, installSlot_counter]

/-- A change of the life cycle. -/
theorem toLife_vaultOf (s : State) (n : Nat) : vaultOf (toLife s n) = { vaultOf s with lifecycle := n } := by
  rw [toLife, notify_vaultOf, logEv_vaultOf]
  rfl

theorem toLife_lifecycle (s : State) (n : Nat) : (toLife s n).sec.lifecycle = n := (congrArg Island.lifecycle (toLife_vaultOf s n) :)
theorem toLife_counter (s : State) (n : Nat) : (toLife s n).sec.counter = s.sec.counter := (congrArg Island.counter (toLife_vaultOf s n) :)
theorem toLife_slots (s : State) (n : Nat) : (toLife s n).sec.slots = s.sec.slots := (congrArg Island.slots (toLife_vaultOf s n) :)

theorem foldl_eraseLog_sec (l : List Nat) (s : State) : (l.foldl eraseLog s).sec = s.sec := by
  induction l generalizing s with
  | nil => rfl
  | cons n l ih =>
    rw [List.foldl_cons, ih]
    rfl

/-- The block whose counter moves with the effect of an envelope. -/
def counted (s : State) : State := { s with sec := { s.sec with counter := s.sec.counter + 1 } }

/-- The life-cycle OPs move the counter and the life cycle, and RETIRE leaves no slot. -/
theorem envEffect_provision {s : State} {b : List Byte} (body : List Byte) (h : envOp b = 0x10) :
    (envEffect s b body).sec.counter = s.sec.counter + 1 ∧ (envEffect s b body).sec.lifecycle = 1 := by
  have heff : envEffect s b body = envProvision (counted s) body := by simp [envEffect, h, counted]
  rw [heff, envProvision, toLife_counter, toLife_lifecycle, installItems_counter, makeIdentity, installSlot_counter]
  exact ⟨rfl, rfl⟩

theorem envEffect_takeOwnership {s : State} {b : List Byte} (body : List Byte) (h : envOp b = 0x11) :
    (envEffect s b body).sec.counter = s.sec.counter + 1 ∧ (envEffect s b body).sec.lifecycle = 2 := by
  have heff : envEffect s b body = envTakeOwnership (counted s) body := by simp [envEffect, h, counted]
  rw [heff, envTakeOwnership, toLife_counter, toLife_lifecycle, installItems_counter]
  exact ⟨rfl, rfl⟩

theorem envEffect_return {s : State} {b : List Byte} (body : List Byte) (h : envOp b = 0x12) :
    (envEffect s b body).sec.counter = s.sec.counter + 1 ∧ (envEffect s b body).sec.lifecycle = 3 := by
  have heff : envEffect s b body = envReturn (counted s) := by simp [envEffect, h, counted]
  rw [heff, envReturn]
  rw [toLife_counter, toLife_lifecycle, foldl_eraseLog_sec]
  exact ⟨rfl, rfl⟩

theorem envEffect_reprovision {s : State} {b : List Byte} (body : List Byte) (h : envOp b = 0x13) :
    (envEffect s b body).sec.counter = s.sec.counter + 1 ∧ (envEffect s b body).sec.lifecycle = 1 := by
  have heff : envEffect s b body = envReprovision (counted s) := by simp [envEffect, h, counted]
  rw [heff]
  exact ⟨toLife_counter (clearEval (counted s)) 1, toLife_lifecycle (clearEval (counted s)) 1⟩

theorem envEffect_retire {s : State} {b : List Byte} (body : List Byte) (h : envOp b = 0x14) :
    (envEffect s b body).sec.counter = s.sec.counter + 1 ∧ (envEffect s b body).sec.lifecycle = 4 ∧ (envEffect s b body).sec.slots = [] := by
  have heff : envEffect s b body = envRetire (counted s) := by simp [envEffect, h, counted]
  rw [heff, envRetire]
  dsimp only
  rw [toLife_counter, toLife_lifecycle, toLife_slots]
  exact ⟨rfl, rfl, rfl⟩

/-- The key that INSTALL writes: the envelope's type, usage and value, placed under its parent. -/
def installed (s : State) (b body : List Byte) : KeySlot :=
  if envParent b = 0xFFFF then { KeySlot.empty with ty := envType b, usage := envUsage b, owner := byteOf b 38, key := body }
  else { KeySlot.empty with
    ty := envType b, usage := envUsage b, owner := (slotOf s (envParent b)).owner, depth := (slotOf s (envParent b)).depth + 1
    parent := envParent b, parentGen := (slotOf s (envParent b)).gen, key := body }

theorem envInstall_eq (s : State) (b body : List Byte) : envInstall s b body = installSlot s (envTarget b) (installed s b body) := rfl

theorem installed_fields (s : State) (b body : List Byte) :
    (installed s b body).ty = envType b ∧ (installed s b body).usage = envUsage b ∧ (installed s b body).key = body := by
  unfold installed
  split <;> exact ⟨rfl, rfl, rfl⟩

/-- INSTALL writes its key into its target, the generation one higher. -/
theorem envEffect_install {s : State} {b : List Byte} (body : List Byte) (h : envOp b = 1) :
    (envEffect s b body).sec.counter = s.sec.counter + 1 ∧ ((slotOf s (envTarget b)).gen ≠ 65535 →
      slotOf (envEffect s b body) (envTarget b)
        = { installed (counted s) b body with gen := (slotOf s (envTarget b)).gen + 1, state := 1 }
      ∧ SMap.get 0 (envEffect s b body).rad.fc (envTarget b) = 0) := by
  have heff : envEffect s b body = envInstall (counted s) b body := by simp [envEffect, h, counted]
  rw [heff, envInstall_eq]
  exact ⟨installSlot_counter _ _ _, fun hg => installSlot_slot (s := counted s) _ hg⟩

/-- INVALIDATE empties a target that is not SPENT. -/
theorem envEffect_invalidate {s : State} {b : List Byte} (body : List Byte) (h : envOp b = 2) :
    (envEffect s b body).sec.counter = s.sec.counter + 1 ∧ ((slotOf s (envTarget b)).state ≠ 3 → (slotOf s (envTarget b)).gen ≠ 65535 →
      slotOf (envEffect s b body) (envTarget b) = { KeySlot.empty with gen := (slotOf s (envTarget b)).gen + 1 }) := by
  have heff : envEffect s b body = envInvalidate (counted s) b := by simp [envEffect, h, counted]
  rw [heff, envInvalidate, slotOf_slotPut]
  exact ⟨rfl, fun hs hg => (if_neg hs).trans (if_neg hg)⟩

/-! ### KEY_UPDATE (R417, R418) -/

/-- The block whose accepted envelope has acted, and is logged where acceptance is recorded. -/
def envActed (u : State) (b body : List Byte) : State :=
  let s1 := envEffect (secCount u 0) b body
  if evaluated u then logEv s1 0x0D04 (envOp b) (envTarget b) (u.sec.counter + 1) else s1

theorem keyUpdate_accepted {c : Caller} {r : Req} {u : State} {body : List Byte} (he : envErr u c r.path r.payload = none)
    (hb : envBody u r.payload = some body) : keyUpdate c r u = (.done .ok 0 [], refreshLive (envActed u r.payload body)) := by
  simp only [keyUpdate, he, hb]
  rfl

theorem keyUpdate_rejected {c : Caller} {r : Req} {u : State} {e : Status} (he : envErr u c r.path r.payload = some e) :
    keyUpdate c r u = (.fail { status := e }, logEv (secCount u 1) 0x0D03 (envOp r.payload) (envTarget r.payload) e.code) := by
  simp only [keyUpdate, he]
  rfl

/-- An envelope that passes: what the answer leaves of the keys and of the radio is what the effect made of them. -/
theorem serve_of_keyReady {op : Nat} {r : Req} {s u : State} {b body : List Byte} (h : KeyReady op r s u b body) :
    keysOf (serve 0x50 keyUpdate r s) = keysOf (envEffect (secCount u 0) b body)
      ∧ (serve 0x50 keyUpdate r s).rad = (envEffect (secCount u 0) b body).rad := by
  obtain ⟨hu, heard, hb, -, herr, hbody, hfit⟩ := h
  subst hu
  subst hb
  have hserve := serve_done 0x50 keyUpdate r s _ _ _ _ heard (keyUpdate_accepted herr hbody) (hfit.of_length le_rfl)
  have hkeys : keysOf (envActed (inService 0x50 r s) r.payload body) = keysOf (envEffect (secCount (inService 0x50 r s) 0) r.payload body) := by
    unfold envActed
    dsimp only
    split
    · exact keysOf_of_vaultOf (logEv_vaultOf _ _ _ _ _)
    · rfl
  have hrad : (envActed (inService 0x50 r s) r.payload body).rad = (envEffect (secCount (inService 0x50 r s) 0) r.payload body).rad := by
    unfold envActed
    dsimp only
    split
    · exact logEv_changes _ _ _ _ _ .rad (by decide)
    · rfl
  rw [hserve, answered]
  refine ⟨?_, ?_⟩
  · rw [keysOf_of_vaultOf (finish_vaultOf _ _ _ _), refreshLive_keysOf, hkeys]
  · rw [finish_changes _ _ _ _ .rad (by decide), refreshLive_changes _ .rad (by decide), hrad]

/-- The last checks of an envelope that passes them all are passed. -/
theorem envTargetErr_of_envErr {u : State} {c : Caller} {p : Path} {b body : List Byte} (he : envErr u c p b = none)
    (hb : envBody u b = some body) : envTargetErr u b body = none := by
  unfold envErr at he
  simp only [hb] at he
  cases ht : envTargetErr u b body with
  | none => rfl
  | some st =>
    rw [ht] at he
    dsimp only at he
    repeat' split at he
    all_goals cases he

/-- An INVALIDATE that passes the checks names a target that is not SPENT. -/
theorem target_not_spent {u : State} {b body : List Byte} (hop : envOp b = 2) (ht : envTargetErr u b body = none) :
    (slotOf u (envTarget b)).state ≠ 3 := by
  intro hs
  have hso : envSlotOp b = true := by simp [envSlotOp, hop]
  unfold envTargetErr at ht
  simp only [hso, hs, Bool.not_true, Bool.false_eq_true, ↓reduceIte] at ht
  split at ht
  · cases ht
  · cases ht

/-- A failing envelope is counted and logged, and answered with its error. -/
theorem serve_of_envErr {r : Req} {s : State} {e : Status} (heard : Heard 0x50 r s)
    (he : envErr (inService 0x50 r s) (by_ 0x50 r s) r.path r.payload = some e) :
    vaultOf (serve 0x50 keyUpdate r s) = vaultOf (secCount (inService 0x50 r s) 1) := by
  rw [serve_fail 0x50 keyUpdate r s _ _ heard (keyUpdate_rejected he), finish_vaultOf, logEv_vaultOf]

theorem attestOp_done {c : Caller} {r : Req} {u : State} (hk : keyState u 6 = 1) (ho : islandOut u = false) :
    attestOp c r u = (.done .ok 0 (attestBytes u ++ hmac (slotOf u 6).key (r.payload ++ attestBytes u)), secCount u 2) := by
  simp [attestOp, hk, ho, okWith]

/-- Settles O53: what the effect of each OP makes of the keys is what the answer leaves of them. -/
theorem keyUpdatesAndAttestation : Obligations.KeyUpdatesAndAttestation := by
  unfold Obligations.KeyUpdatesAndAttestation
  have counter {r : Req} {s u : State} {b body : List Byte} {op : Nat} (h : KeyReady op r s u b body)
      (hc : (envEffect (secCount u 0) b body).sec.counter = (secCount u 0).sec.counter + 1) :
      (serve 0x50 keyUpdate r s).sec.counter = u.sec.counter + 1 :=
    (congrArg Island.counter (serve_of_keyReady h).1 :).trans hc
  have lifecycle {r : Req} {s u : State} {b body : List Byte} {op n : Nat} (h : KeyReady op r s u b body)
      (hl : (envEffect (secCount u 0) b body).sec.lifecycle = n) : (serve 0x50 keyUpdate r s).sec.lifecycle = n :=
    (congrArg Island.lifecycle (serve_of_keyReady h).1 :).trans hl
  have slots {r : Req} {s u : State} {b body : List Byte} {op : Nat} (h : KeyReady op r s u b body) :
      (serve 0x50 keyUpdate r s).sec.slots = (envEffect (secCount u 0) b body).sec.slots :=
    (congrArg Island.slots (serve_of_keyReady h).1 :)
  have slot {r : Req} {s u : State} {b body : List Byte} {op : Nat} (h : KeyReady op r s u b body) (i : Nat) :
      slotOf (serve 0x50 keyUpdate r s) i = slotOf (envEffect (secCount u 0) b body) i :=
    congrArg (fun m => SMap.get KeySlot.empty m i) (slots h)
  have op {r : Req} {s u : State} {b body : List Byte} {op : Nat} (h : KeyReady op r s u b body) : envOp b = op := h.2.2.2.1
  refine ⟨fun r s u b body h => ?install, fun r s u b body h => ?invalidate, fun r s u b body h => ?provision,
    fun r s u b body h => ?own, fun r s u b body h => ?back, fun r s u b body h => ?again, fun r s u b body h => ?retire,
    fun r s u e hu hh he => ?rejected, fun r s u hu hh hk ho hfit => ?attest⟩
  case install =>
    obtain ⟨hc, hslot⟩ := envEffect_install (s := secCount u 0) body (op h)
    obtain ⟨hty, husage, hkey⟩ := installed_fields (counted (secCount u 0)) b body
    refine ⟨_, rfl, counter h hc, fun hg => ?_⟩
    obtain ⟨hk, hfc⟩ := hslot hg
    rw [slot h, hk, (serve_of_keyReady h).2]
    exact ⟨rfl, rfl, hty, husage, hkey, hfc⟩
  case invalidate =>
    obtain ⟨hc, hslot⟩ := envEffect_invalidate (s := secCount u 0) body (op h)
    have hop := op h
    obtain ⟨-, -, hb, -, herr, hbody, -⟩ := id h
    refine ⟨_, rfl, counter h hc, fun hg => ?_⟩
    rw [slot h]
    exact hslot (target_not_spent hop (envTargetErr_of_envErr herr hbody)) hg
  case provision =>
    obtain ⟨hc, hl⟩ := envEffect_provision (s := secCount u 0) body (op h)
    exact ⟨_, rfl, counter h hc, lifecycle h hl⟩
  case own =>
    obtain ⟨hc, hl⟩ := envEffect_takeOwnership (s := secCount u 0) body (op h)
    exact ⟨_, rfl, counter h hc, lifecycle h hl⟩
  case back =>
    obtain ⟨hc, hl⟩ := envEffect_return (s := secCount u 0) body (op h)
    exact ⟨_, rfl, counter h hc, lifecycle h hl⟩
  case again =>
    obtain ⟨hc, hl⟩ := envEffect_reprovision (s := secCount u 0) body (op h)
    exact ⟨_, rfl, counter h hc, lifecycle h hl⟩
  case retire =>
    obtain ⟨hc, hl, hs⟩ := envEffect_retire (s := secCount u 0) body (op h)
    exact ⟨_, rfl, counter h hc, lifecycle h hl, (slots h).trans hs⟩
  case rejected =>
    subst hu
    have hv := serve_of_envErr hh he
    exact ⟨_, rfl, (congrArg Island.slots hv :), (congrArg Island.counter hv :), (congrArg Island.lifecycle hv :),
      (congrArg Island.kek hv :), (congrArg (fun x : Island => SMap.get 0 x.cnt 1) hv).trans (get_bump _ 1)⟩
  case attest =>
    subst hu
    exact congrArg Host.Outcome.next (serve_done 0x51 attestOp r s _ _ _ _ hh (attestOp_done hk ho) hfit)

end Sys2Proof.Machine
end

section
/-! Tamper events, failed tests and activation resets (R407, R421, R440, R444), and the images of the boot flash (R433 to R438, R445). -/

namespace Sys2Proof.Machine

/-! ### Tamper events and failed tests -/

/-- The block as a tamper event leaves its island (R421). -/
def tamperedAt (s : State) (i : Nat) (u : Time) : State :=
  { s with sec := { s.sec with
    kek := false, tampered := true, live := [], tamperAt := if s.sec.tampered then s.sec.tamperAt else some (i, u) } }

/-- A node in SAFE by a cause. -/
theorem enterSafe_safe (s : State) (c : Nat) : (enterSafe s c).dev.state = .safe ∧ (enterSafe s c).dev.safeCause = c :=
  ⟨state_of_vitals (enterSafe_vitals s c), congrArg Vitals.safeCause (enterSafe_vitals s c)⟩

/-- What a tamper event makes of the node: the island stays as the event leaves it, and a node in DAWN, READY, RUN, SHADOW or SAFE is in
SAFE with cause TAMPER. -/
theorem exec_tamperEvent {s : State} {i : Nat} (u : Time) (hoff : s.dev.state ≠ .off) (hw : tamperWatched s i = true) :
    ∃ t, exec (.tamperEvent i u) s = .next t ∧ vaultOf t = vaultOf (tamperedAt s i u)
      ∧ (s.dev.state = .dawn ∨ s.dev.state.live = true ∨ s.dev.state = .safe → t.dev.state = .safe ∧ t.dev.safeCause = 2) := by
  have hgo : ¬(s.dev.state = .off ∨ !tamperWatched (advance s u) i) := by
    have hw' : tamperWatched (advance s u) i = true := hw
    simp [hoff, hw']
  have hout {t : State} (h : vaultOf t = vaultOf (tamperedAt (advance s u) i u)) : vaultOf t = vaultOf (tamperedAt s i u) := h
  have hin := enterSafe_safe (tamperedAt (advance s u) i u) 2
  have hvault := hout (enterSafe_vaultOf (tamperedAt (advance s u) i u) 2)
  refine ⟨_, congrArg Host.Outcome.next (if_neg hgo), ?_⟩
  dsimp only
  rw [show (advance s u).dev.state = s.dev.state from rfl]
  cases hx : s.dev.state with
  | off => exact absurd hx hoff
  | standby => exact ⟨rfl, by simp [DevState.live]⟩
  | dusk => exact ⟨rfl, by simp [DevState.live]⟩
  | safe => exact ⟨rfl, fun _ => ⟨rfl, rfl⟩⟩
  | dawn =>
    have hr := raise_changes (enterSafe (tamperedAt (advance s u) i u) 2) intDawn
    have hdev : (raise (enterSafe (tamperedAt (advance s u) i u) 2) intDawn).dev = (enterSafe (tamperedAt (advance s u) i u) 2).dev :=
      hr .dev (by decide)
    have hsafe := hin
    rw [← hdev] at hsafe
    exact ⟨(hr.vaultOf (by decide)).trans hvault, fun _ => hsafe⟩
  | ready => exact ⟨hvault, fun _ => hin⟩
  | run => exact ⟨hvault, fun _ => hin⟩
  | shadow => exact ⟨hvault, fun _ => hin⟩

/-- The island after a test that fails (R407). -/
def testFailed (s : State) (test : Nat) (noise : Bool) : State :=
  logEv { (if noise then secCount s 3 else s) with
    sec := { (if noise then secCount s 3 else s).sec with error := true, live := [] } } 0x0D02 test 0 0

theorem testFailed_dev (s : State) (n : Nat) (b : Bool) : (testFailed s n b).dev = s.dev := by
  refine (logEv_changes _ _ _ _ _ .dev (by decide)).trans ?_
  cases b <;> rfl

theorem testFailed_vaultOf (s : State) (n : Nat) (b : Bool) :
    vaultOf (testFailed s n b) = { vaultOf (if b then secCount s 3 else s) with error := true, live := [] } :=
  logEv_vaultOf _ _ _ _ _

/-- A failed test after the dawn. -/
theorem exec_selftestFailure {s : State} (n : Nat) (b : Bool) (hp : s.dev.state.powered = true) (hd : s.dev.state ≠ .dawn) :
    exec (.selftestFailure n b) s = .next (if s.dev.state.live then enterSafe (testFailed s n b) 3 else testFailed s n b) := by
  rw [← testFailed_dev s n b]
  exact congrArg Host.Outcome.next (if_neg (by simp [hp, hd]))

/-! ### Activation and its window -/

/-- What D0 and the restart before it leave of the selector. -/
theorem toDawn_sel (s : State) : (toDawn s).upd.sel = s.upd.sel :=
  (congrArg Update.sel (islandDawn_changes (restart s) .upd (by decide)) :)

theorem toDawn_pending (s : State) : (toDawn s).pending = s.pending :=
  (congrArg Vitals.pending ((islandDawn_vitals _).trans (restart_vitals s)) :)

theorem toUpd_upd (s : State) (n : Nat) (m : List Byte) : (toUpd s n m).upd = { s.upd with state := n } := by
  unfold toUpd
  split
  next h => rw [← h]
  next => exact logEv_changes _ _ _ _ _ .upd (by decide)

/-- A fallback record names the set to fall back to, and is counted (R442, R446). -/
theorem fallback_upd (s : State) (c : Nat) : (fallback s c).upd.state = 8 ∧ (fallback s c).upd.sel.set = s.upd.sel.fbSet
    ∧ (fallback s c).upd.sel.trial = false ∧ SMap.get 0 (fallback s c).upd.cnt 2 = sat32 (SMap.get 0 s.upd.cnt 2) 1 := by
  refine ⟨toUpd_state _ _ _, rfl, rfl, (get_bump _ 2).trans ?_⟩
  have hcnt : (toUpd (logEv s 0x0C03 c s.upd.trialTxns (leAt (imageOf s s.upd.sel.set).manifest 8 4)) 8
      (imageOf s s.upd.sel.set).manifest).upd.cnt = s.upd.cnt :=
    (congrArg Update.cnt ((toUpd_upd _ 8 _).trans (congrArg (fun x : Update => { x with state := 8 })
      (logEv_changes _ _ _ _ _ .upd (by decide)))) :)
  exact congrArg (fun m => sat32 (SMap.get 0 m 2) 1) hcnt

/-- Settles O54: the island is read off what entry into SAFE keeps of it, the selector off what a dawn keeps. -/
theorem tamperTestsAndActivationResets : Obligations.TamperTestsAndActivationResets := by
  refine ⟨fun s i u hoff hw => ?tamper, fun s n b hp hd => ?test, fun s h5 ht hp => ?reset, fun s u a hw h6 hlate => ?window⟩
  case tamper =>
    obtain ⟨t, hexec, hvault, hsafe⟩ := exec_tamperEvent u hoff hw
    refine ⟨t, hexec, (congrArg Island.kek hvault :), (congrArg Island.tampered hvault :), (congrArg Island.live hvault :), fun hnot => ?_, hsafe⟩
    exact ((congrArg Island.tamperAt hvault).trans (if_neg (by simp [hnot])) :)
  case test =>
    refine ⟨_, exec_selftestFailure n b hp hd, ?_⟩
    have hvault : vaultOf (if s.dev.state.live then enterSafe (testFailed s n b) 3 else testFailed s n b)
        = { vaultOf (if b then secCount s 3 else s) with error := true, live := [] } := by
      split
      · exact (enterSafe_vaultOf _ 3).trans (testFailed_vaultOf s n b)
      · exact testFailed_vaultOf s n b
    refine ⟨(congrArg Island.error hvault :), (congrArg Island.live hvault :), fun hb => ?_, fun hl => ?_⟩
    · rw [hb] at hvault ⊢
      exact ((congrArg (fun x : Island => SMap.get 0 x.cnt 3) hvault).trans (get_bump s.sec.cnt 3) :)
    · rw [if_pos hl]
      exact enterSafe_safe _ 3
  case reset =>
    refine ⟨_, congrArg Host.Outcome.next (if_neg (by simp [h5, ht, hp])), (toDawn_stops _).1, ?_⟩
    rw [toDawn_sel, toDawn_pending]
    exact ⟨rfl, rfl, rfl, rfl, rfl, rfl⟩
  case window =>
    have hexec : exec (.confirmWindowExpiry u) s = .next { fallback (advance s u) 4 with
        upd := { (fallback (advance s u) 4).upd with resetWanted := true } } := by
      have hw' : (advance s u).upd.windowAt = some a := hw
      simp only [exec, execConfirmWindowExpiry, hw']
      exact congrArg Host.Outcome.next (if_pos ⟨h6, hlate⟩)
    obtain ⟨hstate, hset, htrial, hcnt⟩ := fallback_upd (advance s u) 4
    exact ⟨_, hexec, hstate, rfl, hset, htrial, hcnt, execConfirmWindowExpiry_frames u s _ hexec⟩

end Sys2Proof.Machine
end

section
/-! Image blocks, verification, arming and confirmation (R433 to R436, R438, R445). -/

namespace Sys2Proof.Machine

/-! ### What a request for an image says -/

/-- The first word of an IMAGE_BLOCK is its kind, with three reserved bytes above it. -/
theorem leAt_zero_four (b : List Byte) : leAt b 0 4 = byteOf b 0 + 256 * leAt b 1 3 := by
  cases b with
  | nil => rfl
  | cons x l => rfl

/-- A chunk that is heard has its 32,768 bytes at most (Table 13-6). -/
theorem chunk_length_of_heard {r : Req} {s : State} (h : Heard 0x60 r s) : (r.payload.drop 8).length ≤ 32768 := by
  obtain ⟨_, _, _, herr, _⟩ := h
  have hlen : lengthOk 0x60 r = true := by
    by_contra hno
    rw [Bool.not_eq_true] at hno
    unfold requestErr at herr
    simp only [hno, Bool.not_false, if_true] at herr
    repeat' split at herr
    all_goals cases herr
  have hn : 9 ≤ r.payload.length ∧ r.payload.length ≤ 8 + 32768 := by simpa [lengthOk] using hlen
  rw [List.length_drop]
  omega

theorem hostLoads_of_dev {s t : State} (h : t.dev = s.dev) : hostLoads t = hostLoads s := by rw [hostLoads, h, hostLoads]

/-- IMAGE_BLOCK goes by the kind of its chunk. -/
theorem imageBlock_kind {c : Caller} {r : Req} {u : State} (he : imageErr u c = none) (hl : hostLoads u = false) :
    (leAt r.payload 0 4 = 0 → imageBlock c r u = manifestChunk u (leAt r.payload 4 4) (r.payload.drop 8))
      ∧ (leAt r.payload 0 4 = 1 → imageBlock c r u = dataChunk u (leAt r.payload 4 4) (r.payload.drop 8)) := by
  have hsum := leAt_zero_four r.payload
  refine ⟨fun h => ?_, fun h => ?_⟩
  · have hz : leAt r.payload 1 3 = 0 ∧ byteOf r.payload 0 = 0 := by omega
    simp [imageBlock, he, hl, hz]
  · have hz : leAt r.payload 1 3 = 0 ∧ byteOf r.payload 0 = 1 := by omega
    simp [imageBlock, he, hl, hz]

/-! ### Chunks -/

/-- The block as the first manifest chunk of a download finds it: DOWNLOADING, the set emptied, nothing loaded. -/
def loadBegun (u : State) (d : List Byte) : State :=
  { toUpd u 1 d with upd := { (toUpd u 1 d).upd with
    sets := SMap.put ImageSet.empty (toUpd u 1 d).upd.sets (otherSet u) ImageSet.empty, before := u.upd.state, dl := Download.empty } }

/-- The block that holds a first manifest chunk. -/
def manifestHeld (u : State) (d : List Byte) : State :=
  { loadBegun u d with upd := { (loadBegun u d).upd with dl := { Download.empty with manifest := d } } }

/-- The first manifest chunk, where it does not complete the manifest, is held. -/
theorem manifestChunk_first {u : State} {d : List Byte} (hl : hostLoads u = false) (hfree : u.upd.state < 4 ∨ 6 < u.upd.state)
    (h8 : 8 ≤ d.length) (hmax : d.length ≤ 32768) (hmod : d.length % 8 = 0) (hpart : 24 ≤ d.length → d.length < manifestLen d) :
    manifestChunk u 0 d = (blockReply { Download.empty with manifest := d } 0, manifestHeld u d) := by
  have hfull : (decide (24 ≤ d.length) && decide (manifestLen d ≤ d.length)) = false := by
    rw [Bool.and_eq_false_iff]
    by_cases h : 24 ≤ d.length
    · exact .inr (decide_eq_false (by have := hpart h; omega))
    · exact .inl (decide_eq_false h)
  have hbegun : hostLoads (loadBegun u d) = false := (hostLoads_of_dev (toUpd_changes u 1 d .dev (by decide)) :).trans hl
  have hopen : ¬(!hostLoads u ∧ 4 ≤ u.upd.state ∧ u.upd.state ≤ 6) := by omega
  have hsize : ¬(d.length < 8 ∨ 32768 < d.length ∨ (d.length % 8 ≠ 0 ∧ !false)) := by omega
  have hstart : dlPut { imagePut (dlState u 1 d) (dlSet u) ImageSet.empty with
      upd := { (imagePut (dlState u 1 d) (dlSet u) ImageSet.empty).upd with before := u.upd.state } } Download.empty = loadBegun u d := by
    have ht : hostLoads (toUpd u 1 d) = false := hbegun
    simp only [dlState, dlSet, hl, Bool.false_eq_true, ↓reduceIte]
    exact if_neg (by rw [Bool.not_eq_true]; exact hbegun)
  refine (if_neg hopen).trans ?_
  simp only [ne_eq, not_true_eq_false, false_and, List.nil_append, hfull, if_neg hsize, hl, Bool.false_eq_true, ↓reduceIte, hstart]
  simp only [dlOf, dlPut, hbegun, Bool.false_eq_true, ↓reduceIte]
  rfl

/-- The download after its segment `i` is verified (R435). -/
def segTaken (x : Download) (i : Nat) : Download := { x with seg := none, blocks := [], progress := putBit x.progress i true }

/-- The block after a segment is written into the set that is not active. -/
def segWritten (u : State) (x : Download) (i : Nat) (b : List Byte) : State :=
  imagePut { u with upd := { u.upd with dl := segTaken x i } } (otherSet u)
    { segs := SMap.put [] (imageOf u (otherSet u)).segs i b
      manifest := if dlDone (segTaken x i) = leAt u.upd.dl.manifest 22 2 then u.upd.dl.manifest else (imageOf u (otherSet u)).manifest }

/-- The block after a segment fails its hash. -/
def segDropped (u : State) (x : Download) : State := updCount { u with upd := { u.upd with dl := { x with seg := none, blocks := [] } } } 0

/-- A data chunk that completes its segment: the segment goes into the set that is not active where its hash is right, and is dropped
and counted where it is not. -/
theorem dataChunk_segment {u : State} {d b : List Byte} {off i : Nat} {x : Download} (hl : hostLoads u = false) (h1 : u.upd.state = 1)
    (hc : u.upd.dl.complete = true) (hi : i = off / 65536) (hmax : d.length ≤ 32768) (hd : d ≠ [])
    (hlen : off + d.length = setLen u.upd.dl.manifest ∨ d.length % 1024 = 0) (hoff : off % 1024 = 0)
    (hin : off + d.length ≤ setLen u.upd.dl.manifest) (hone : (off + d.length - 1) / 65536 = i) (hnew : bitAt u.upd.dl.progress i = false)
    (hhead : u.upd.dl.manifest.length ≤ off) (hseg : u.upd.dl.seg = some i) (hx : x = putBlocks u.upd.dl (off % 65536 / 1024) d)
    (hb : segBytes x i = some b) :
    dataChunk u off d = if sha256 b = segHash u.upd.dl.manifest i then (blockReply (segTaken x i) 1,
        if dlDone (segTaken x i) = leAt u.upd.dl.manifest 22 2 then toUpd (segWritten u x i b) 2 u.upd.dl.manifest else segWritten u x i b)
      else (blockReply { x with seg := none, blocks := [] } 2, segDropped u x) := by
  subst hi
  have hpos : 0 < d.length := List.length_pos_iff.mpr hd
  have hdl : dlOf u = u.upd.dl := if_neg (by simp [hl])
  have hput (e : Download) : dlPut u e = { u with upd := { u.upd with dl := e } } := if_neg (by simp [hl])
  have hgo : ¬((!hostLoads u ∧ u.upd.state ≠ 1) ∨ !u.upd.dl.complete) := by simp [h1, hc]
  have hsize : ¬(32768 < d.length ∨ (¬(off + d.length = setLen u.upd.dl.manifest) ∧ (d.length < 1024 ∨ d.length % 1024 ≠ 0))) := by omega
  have hrange : ¬(off % 1024 ≠ 0 ∨ setLen u.upd.dl.manifest < off + d.length ∨ (off + d.length - 1) / 65536 ≠ off / 65536) := by omega
  unfold dataChunk
  simp only [hdl, if_neg hgo, if_neg hsize, if_neg hrange, hnew, Bool.false_eq_true, ↓reduceIte, if_pos hseg, ← hx, hb, hput]
  rw [if_neg (fun h => absurd h.1 (by omega))]
  have hset : dlSet u = otherSet u := if_neg (by simp [hl])
  have htaken : ({ x with seg := none, blocks := [], progress := putBit u.upd.dl.progress (off / 65536) true } : Download)
      = segTaken x (off / 65536) := by rw [segTaken, hx, putBlocks]
  have hkept : hostLoads (segWritten u x (off / 65536) b) = false := (hostLoads_of_dev (s := u) rfl).trans hl
  have hwhole : dlState (segWritten u x (off / 65536) b) 2 u.upd.dl.manifest = toUpd (segWritten u x (off / 65536) b) 2 u.upd.dl.manifest :=
    if_neg (by simp [hkept])
  rw [← hwhole]
  simp only [hset, htaken]
  rfl

/-- A segment written is verified, and reads back from the set that is not active. -/
theorem segWritten_reads (u : State) (x : Download) (i : Nat) (b : List Byte) :
    bitAt (segWritten u x i b).upd.dl.progress i = true ∧ SMap.get [] (imageOf (segWritten u x i b) (otherSet u)).segs i = b := by
  refine ⟨bitAt_putBit_same _ _ _, ?_⟩
  rw [segWritten, imageOf_imagePut]
  exact SMap.get_put_same _ _ _ _

/-- Blocks put into the segment in assembly leave the bitmap of verified segments. -/
theorem putBlocks_progress (x : Download) (n : Nat) (d : List Byte) : (putBlocks x n d).progress = x.progress := by rw [putBlocks]

/-- The response of IMAGE_BLOCK has 8 bytes. -/
theorem blockReply_done (x : Download) (n : Nat) : ∃ p, blockReply x n = .done .ok 0 p ∧ p.length = (List.replicate 8 (0 : Byte)).length :=
  ⟨_, rfl, by simp [leBytes_length]⟩

/-! ### Verification, arming and confirmation -/

/-- IMAGE_VERIFY of a complete set on a running node: VERIFIED where nothing is wrong with it, counted where something is. -/
theorem imageVerify_result {c : Caller} (r : Req) {u : State} (he : imageErr u c = none) (hl : hostLoads u = false)
    (hs : u.upd.state = 2 ∨ u.upd.state = 8) :
    (setBad u (otherSet u) = none → imageVerify c r u
      = (.done .ok 0 (manifestHash (imageOf u (otherSet u)).manifest), toUpd u 3 (imageOf u (otherSet u)).manifest))
      ∧ ∀ k, setBad u (otherSet u) = some k → imageVerify c r u = (.fail { status := .eVerify, record := k }, updCount u 1) := by
  have hgo : ¬(!hostLoads u ∧ u.upd.state ≠ 2 ∧ u.upd.state ≠ 8) := by omega
  have hset : dlSet u = otherSet u := if_neg (by simp [hl])
  have hstate (m : List Byte) : dlState u 3 m = toUpd u 3 m := if_neg (by simp [hl])
  unfold imageVerify
  simp only [he, if_neg hgo, hset, hstate]
  refine ⟨fun h => ?_, fun k h => ?_⟩
  · rw [h]
    rfl
  · simp [h, hl]

/-- IMAGE_ARM to this node alone, where no rule refuses it. -/
theorem armOp_here {c : Caller} {r : Req} {u : State} (hs : toStack u r = false) (he : imageErr u c = none)
    (hp : armPayload r.payload = none) (ha : armErr u r.payload = none) :
    armOp c r u = if byteOf r.payload 0 = 1 then
      (.done .ok 0 (leBytes 8 (edgeFrom u (armTime r.payload))), armAt u (edgeFrom u (armTime r.payload)))
      else (.done .ok 0 [], disarm u) := by
  unfold armOp imageArm
  simp only [hs, he, hp, ha, Bool.false_eq_true, ↓reduceIte, okWith]

/-- IMAGE_CONFIRM to this node alone, with the hash of its running set in TRIAL. -/
theorem confirmOp_here {c : Caller} {r : Req} {u : State} (hs : toStack u r = false) (he : imageErr u c = none) (h6 : u.upd.state = 6)
    (hp : r.payload = manifestHash (runningManifest u)) : confirmOp c r u = (.done .ok 0 [], confirmSet u) := by
  unfold confirmOp imageConfirm
  simp only [hs, he, h6, hp, Bool.false_eq_true, ↓reduceIte, ne_eq, not_true_eq_false, okWith]

/-- Confirmation raises the SVN floor to that of the running set, closes its window and is counted. -/
theorem confirmSet_upd (u : State) : (confirmSet u).upd.svnFloor = max u.upd.svnFloor (leAt (runningManifest u) 20 2)
    ∧ (confirmSet u).upd.windowAt = none ∧ SMap.get 0 (confirmSet u).upd.cnt 3 = sat32 (SMap.get 0 u.upd.cnt 3) 1 := by
  have hupd := toUpd_upd u 7 (runningManifest u)
  exact ⟨(congrArg (fun x : Update => max x.svnFloor (leAt (runningManifest u) 20 2)) hupd :), rfl,
    (get_bump _ 3).trans (congrArg (fun x : Update => sat32 (SMap.get 0 x.cnt 3) 1) hupd :)⟩

/-! ### Answers -/

/-- An answer leaves the update machinery as the rules of the request leave it. -/
theorem serve_of_done {op : Nat} {handle : Caller → Req → State → Answer × State} {r : Req} {s v : State} {st : Status} {p q : List Byte}
    (hh : Heard op r s) (ha : handle (by_ op r s) r (inService op r s) = (.done st 0 p, v)) (hfit : Fits op r s (inService op r s) st 0 q)
    (hlen : p.length ≤ q.length) : ∃ t, serve op handle r s = t ∧ t.upd = v.upd :=
  ⟨_, serve_done op handle r s v st 0 p hh ha (hfit.of_length hlen), finish_changes _ _ _ _ .upd (by decide)⟩

/-- Settles O55: each request by the branch that takes it, once it is heard; its answer leaves the update machinery alone. -/
theorem imagesAreLoadedVerifiedArmedAndConfirmed : Obligations.ImagesAreLoadedVerifiedArmedAndConfirmed := by
  refine ⟨fun r s u d hu hh he hl hk h0 hd h8 hmod hpart hfree hfit => ?manifest, fun r s u d b m off i x hu hh he hl hk ho hd hm hi h1 hc
    hne hlen hoff hin hone hnew hhead hseg hx hb hfit => ?data, fun r s u hu hh he hl hst hfit => ?verify,
    fun r s u hu hh hstack he hpay harm hfit => ?arm, fun r s u hu hh hstack he h6 hp hfit => ?confirm⟩
  case manifest =>
    subst hu hd
    obtain ⟨p, hp, hlen⟩ := blockReply_done { Download.empty with manifest := r.payload.drop 8 } 0
    have hblock : imageBlock (by_ 0x60 r s) r (inService 0x60 r s)
        = (.done .ok 0 p, manifestHeld (inService 0x60 r s) (r.payload.drop 8)) := by
      rw [(imageBlock_kind he hl).1 hk, h0, manifestChunk_first hl hfree h8 (chunk_length_of_heard hh) hmod hpart, hp]
    obtain ⟨t, hexec, ht⟩ := serve_of_done hh hblock hfit hlen.le
    refine ⟨t, congrArg Host.Outcome.next hexec, ?_⟩
    rw [ht]
    exact ⟨toUpd_state _ 1 (r.payload.drop 8), rfl, rfl, rfl⟩
  case data =>
    subst hu hd ho hm
    have hblock := ((imageBlock_kind (c := by_ 0x60 r s) he hl).2 hk).trans
      (dataChunk_segment hl h1 hc hi (chunk_length_of_heard hh) hne hlen hoff hin hone hnew hhead hseg hx hb)
    by_cases hhash : sha256 b = segHash (inService 0x60 r s).upd.dl.manifest i
    · rw [if_pos hhash] at hblock
      obtain ⟨p, hp, hplen⟩ := blockReply_done (segTaken x i) 1
      rw [hp] at hblock
      obtain ⟨t, hexec, ht⟩ := serve_of_done hh hblock hfit hplen.le
      refine ⟨t, congrArg Host.Outcome.next hexec, fun _ => ?_, fun h => absurd hhash h⟩
      have hreads := segWritten_reads (inService 0x60 r s) x i b
      rw [imageOf, ht]
      split
      · rw [toUpd_upd]
        exact hreads
      · exact hreads
    · rw [if_neg hhash] at hblock
      obtain ⟨p, hp, hplen⟩ := blockReply_done { x with seg := none, blocks := [] } 2
      rw [hp] at hblock
      obtain ⟨t, hexec, ht⟩ := serve_of_done hh hblock hfit hplen.le
      refine ⟨t, congrArg Host.Outcome.next hexec, fun h => absurd h hhash, fun _ => ?_⟩
      rw [ht]
      exact ⟨(congrArg Download.progress hx).trans (putBlocks_progress _ _ _), rfl, rfl, get_bump _ 0⟩
  case verify =>
    subst hu
    obtain ⟨hgood, hbad⟩ := imageVerify_result r he hl hst
    cases hset : setBad (inService 0x61 r s) (otherSet (inService 0x61 r s)) with
    | none =>
      obtain ⟨t, hexec, ht⟩ := serve_of_done hh (hgood hset) hfit le_rfl
      refine ⟨t, congrArg Host.Outcome.next hexec, ?_⟩
      rw [if_pos rfl, ht, toUpd_upd]
      exact ⟨rfl, rfl⟩
    | some k =>
      refine ⟨_, congrArg Host.Outcome.next (serve_fail 0x61 imageVerify r s _ _ hh (hbad k hset)), ?_⟩
      rw [if_neg (by simp), finish_changes _ _ _ _ .upd (by decide)]
      exact ⟨rfl, get_bump _ 1⟩
  case arm =>
    subst hu
    have harmed := armOp_here hstack he hpay harm
    refine ⟨fun h1 => ?_, fun h2 => ?_⟩
    · rw [if_pos h1] at harmed
      obtain ⟨t, hexec, ht⟩ := serve_of_done hh harmed hfit (by simp [leBytes_length])
      refine ⟨t, congrArg Host.Outcome.next hexec, ?_⟩
      rw [ht]
      exact ⟨toUpd_state _ 4 _, rfl⟩
    · rw [if_neg (by omega)] at harmed
      obtain ⟨t, hexec, ht⟩ := serve_of_done hh harmed hfit (by simp)
      refine ⟨t, congrArg Host.Outcome.next hexec, ?_⟩
      rw [ht]
      exact ⟨toUpd_state _ 3 _, rfl⟩
  case confirm =>
    subst hu
    obtain ⟨t, hexec, ht⟩ := serve_of_done hh (confirmOp_here hstack he h6 hp) hfit le_rfl
    refine ⟨t, congrArg Host.Outcome.next hexec, ?_⟩
    obtain ⟨hstate, htrial⟩ := confirmSet_confirms (inService 0x63 r s)
    obtain ⟨hfloor, hwindow, hcnt⟩ := confirmSet_upd (inService 0x63 r s)
    rw [ht]
    exact ⟨hstate, hfloor, htrial, hwindow, hcnt⟩

end Sys2Proof.Machine
end
